-- ==== Sys2Proof/Syntax.lean ====
section
/-! DEFINITION. The commands of the module: `Instr` has one constructor per row of spec/opcode_table.json, with the
row's operands: who writes which word, which lane, channel or link an event falls on, and what arrives with it. -/

namespace Sys2Proof

/-- The three lanes (chapter 01). -/
inductive Lane | A | B | C
  deriving DecidableEq, Repr

/-- The two rings. -/
inductive Ring | X | Y
  deriving DecidableEq, Repr

/-- The two harts of a lane: HART_0 control, HART_1 service (chapter 03). -/
inductive Hart | h0 | h1
  deriving DecidableEq, Repr

/-- A memory controller: a lane's MEM unit, or the junction's JC.JM_ (R176). -/
inductive MemSel | lane (l : Lane) | junction
  deriving DecidableEq, Repr

/-- The stores that the SRAM scrubbers and the checks on every read visit (R152, R165): of a lane the scratch, the L2 (`dirty` for a dirty line
or a tag), the image SRAM and the bitmap; of the junction the bitmap, the control-path SRAM, the trouble log, the Gusset tables, the switch
buffers and the posted-error FIFO. -/
inductive SramStore | scratch | l2 (dirty : Bool) | image | bitmap | control | troubleLog | gusset | switch | pef
  deriving DecidableEq, Repr

/-- One visit of a controller's scrubbers (R164, R165): the next DDR4 burst, with the error that struck it since it was last read, or a word
of an SRAM store by its address or entry number. The class is 0 clean, 1 corrected, 2 uncorrectable. -/
inductive ScrubVisit
  | burst (cls : Fin 3)
  | word (store : SramStore) (addr : Nat) (cls : Fin 3)
  deriving DecidableEq, Repr

/-- What may issue an access (R13): a hart, the host port, a Shuttle channel or the Gusset bridge. -/
inductive Initiator
  | hart (l : Lane) (h : Hart)
  | host
  | shuttle (c : Fin 16)
  | gusset
  deriving DecidableEq, Repr

/-- One value per lane. -/
structure Tri (α : Type) where
  a : α
  b : α
  c : α
  deriving DecidableEq, Repr

/-- The value of a lane. -/
def Tri.get {α : Type} (t : Tri α) : Lane → α
  | .A => t.a
  | .B => t.b
  | .C => t.c

/-- The triple with one lane's value replaced. -/
def Tri.put {α : Type} (t : Tri α) (l : Lane) (v : α) : Tri α :=
  match l with
  | .A => { t with a := v }
  | .B => { t with b := v }
  | .C => { t with c := v }

/-- The same value for the three lanes. -/
def Tri.all {α : Type} (v : α) : Tri α := ⟨v, v, v⟩

/-- One value per ring. -/
structure Duo (α : Type) where
  x : α
  y : α
  deriving DecidableEq, Repr

/-- The value of a ring. -/
def Duo.get {α : Type} (t : Duo α) : Ring → α
  | .X => t.x
  | .Y => t.y

/-- The pair with one ring's value replaced. -/
def Duo.put {α : Type} (t : Duo α) (r : Ring) (v : α) : Duo α :=
  match r with
  | .X => { t with x := v }
  | .Y => { t with y := v }

/-- The lanes in the order LANE_A, LANE_B, LANE_C. -/
def lanes : List Lane := [.A, .B, .C]

/-- The rings in the order X, Y. -/
def rings : List Ring := [.X, .Y]

/-- The letter of a lane as a number (R31). -/
def Lane.num : Lane → Nat
  | .A => 0
  | .B => 1
  | .C => 2

/-- The lane of a two-bit code, none for 0b11. -/
def Lane.ofNat? : Nat → Option Lane
  | 0 => some .A
  | 1 => some .B
  | 2 => some .C
  | _ => none

def Hart.num : Hart → Nat
  | .h0 => 0
  | .h1 => 1

def Ring.num : Ring → Nat
  | .X => 0
  | .Y => 1

def Ring.other : Ring → Ring
  | .X => .Y
  | .Y => .X

/-- A number for each initiator, the key of its holding registers and of its last response. -/
def Initiator.num : Initiator → Nat
  | .hart l h => 2 * l.num + h.num
  | .host => 6
  | .gusset => 7
  | .shuttle _ => 8

/-- Integer operations of RV64I and M. The `w` forms work on 32 bits and sign-extend. -/
inductive AluOp
  | add | sub | sll | slt | sltu | xor | srl | sra | or | and
  | addw | subw | sllw | srlw | sraw
  | mul | mulh | mulhsu | mulhu | div | divu | rem | remu
  | mulw | divw | divuw | remw | remuw
  deriving DecidableEq, Repr

/-- Branch conditions of RV64I. -/
inductive BrCond | eq | ne | lt | ge | ltu | geu
  deriving DecidableEq, Repr

/-- The read-modify-write operations of the A extension. -/
inductive AmoOp | swap | add | xor | and | or | min | max | minu | maxu
  deriving DecidableEq, Repr

/-- The CSR operations of Zicsr. -/
inductive CsrOp | rw | rs | rc
  deriving DecidableEq, Repr

/-- The sign-injection and move operations of F and D, whose results are exact. -/
inductive FSgn | j | jn | jx
  deriving DecidableEq, Repr

/-- The operations of F and D with a floating-point result. `cvt` converts between the formats, `fromW` to `fromLu` from an integer. -/
inductive FpOp | add | sub | mul | div | sqrt | min | max | madd | msub | nmsub | nmadd | cvt | fromW | fromWu | fromL | fromLu
  deriving DecidableEq, Repr

/-- The operations of F and D with an integer result. -/
inductive FxOp | eq | lt | le | class | toW | toWu | toL | toLu
  deriving DecidableEq, Repr

/-- One instruction of RV64GC, decoded; the C extension contributes only shorter encodings (R61). `farith` stands for the instructions of F
and D with a floating-point result, `farithX` for those with an integer result; `dword` is the format, of a conversion between the formats
that of the result. -/
inductive RvOp
  | lui (rd : Fin 32) (imm : BitVec 64)
  | auipc (rd : Fin 32) (imm : BitVec 64)
  | jal (rd : Fin 32) (off : BitVec 64)
  | jalr (rd rs1 : Fin 32) (off : BitVec 64)
  | branch (c : BrCond) (rs1 rs2 : Fin 32) (off : BitVec 64)
  | load (bytes : Fin 4) (signed : Bool) (rd rs1 : Fin 32) (off : BitVec 64)
  | store (bytes : Fin 4) (rs1 rs2 : Fin 32) (off : BitVec 64)
  | aluImm (op : AluOp) (rd rs1 : Fin 32) (imm : BitVec 64)
  | alu (op : AluOp) (rd rs1 rs2 : Fin 32)
  | lr (dword : Bool) (rd rs1 : Fin 32)
  | sc (dword : Bool) (rd rs1 rs2 : Fin 32)
  | amo (op : AmoOp) (dword : Bool) (rd rs1 rs2 : Fin 32)
  | csr (op : CsrOp) (rd : Fin 32) (rs1 : Fin 32) (num : Fin 4096)
  | csri (op : CsrOp) (rd : Fin 32) (imm : Fin 32) (num : Fin 4096)
  | fence
  | fenceI
  | ecall
  | ebreak
  | mret
  | wfi
  | fload (dword : Bool) (rd rs1 : Fin 32) (off : BitVec 64)
  | fstore (dword : Bool) (rs1 rs2 : Fin 32) (off : BitVec 64)
  | fsgn (k : FSgn) (dword : Bool) (rd rs1 rs2 : Fin 32)
  | fmvToX (dword : Bool) (rd rs1 : Fin 32)
  | fmvFromX (dword : Bool) (rd rs1 : Fin 32)
  | farith (op : FpOp) (dword : Bool) (rm : Fin 8) (rd rs1 rs2 rs3 : Fin 32)
  | farithX (op : FxOp) (dword : Bool) (rm : Fin 8) (rd rs1 rs2 : Fin 32)
  | illegal (word : Word)
  deriving DecidableEq, Repr

/-- A debug trigger of type 2 (R85): the modes in which it matches (machine, user), its action (0 exception, 1 debug mode), what it matches
and the address or data compared. -/
structure Trigger where
  m : Bool
  u : Bool
  action : Nat
  onExec : Bool
  onLoad : Bool
  onStore : Bool
  value : BitVec 64
  deriving DecidableEq, Repr


/-- A received data frame header (R207), with the outcome of its check, the pair it arrives on (E_RI, else W_FI), the ns since the first bit
of its /S/ crossed the receive contact (R184), and bytes 20 to 27: T_UNITS, SLOTS, CONTAINERS and LEN4. -/
structure FrameHdr where
  checkOk : Bool
  onEast : Bool
  age : Nat
  type : Nat
  flags : Nat
  leader : Nat
  nodes : Nat
  cycle : Nat
  schedId : Word
  schedNext : Word
  switchAt : Nat
  counts : List Byte
  deriving DecidableEq, Repr

/-- The end of a data frame (R211): the outcome of FRAME_CHECK, the pair it arrives on, and the bad characters of the frame (R203). -/
structure TrailerIn where
  checkOk : Bool
  onEast : Bool
  bad : Nat
  deriving DecidableEq, Repr

/-- How a control frame arrives (R235): the outcome of its check, the pair it arrives on (E_RI, else W_FI) and its FLAGS. -/
structure CtrlIn where
  checkOk : Bool
  onEast : Bool
  flags : Nat
  deriving DecidableEq, Repr

/-- LEADER and the IDLE count of an IDLE frame (R235). -/
structure IdleHdr where
  leader : Nat
  count : Nat
  deriving DecidableEq, Repr

/-- A loss of line code (R250): the port, and the bad characters received outside frames since the last report (R203). -/
structure LineLoss where
  east : Bool
  bad : Nat
  deriving DecidableEq, Repr

/-- An open container as it enters the node (R216), with the outcome of its check. -/
structure Container where
  index : Nat
  checkOk : Bool
  mark : Nat
  source : Nat
  dest : Nat
  len : Nat
  tag : Nat
  kind : Nat
  payload : List Byte
  deriving DecidableEq, Repr

/-- A slot of the returning frame at the leader (R212): index, data and whether its check passes with the frame's CYCLE. -/
structure RetSlot where
  index : Nat
  data : List Byte
  ok : Bool
  deriving DecidableEq, Repr

/-- A CLAIM frame (R235), with the outcome of its check, the pair it arrives on (E_RI, else W_FI) and its FLAGS. -/
structure ClaimFrm where
  checkOk : Bool
  onEast : Bool
  flags : Nat
  source : Nat
  rank : Nat
  nonce : Nat
  deriving DecidableEq, Repr

/-- A CENSUS frame (R235), with the outcome of its check, the pair it arrives on (E_RI, else W_FI) and its FLAGS. -/
structure CensusFrm where
  checkOk : Bool
  onEast : Bool
  flags : Nat
  leader : Nat
  count : Nat
  acc : Nat
  list : List Byte
  deriving DecidableEq, Repr

/-- The setting of a station (R137, R138). -/
structure StationCfg where
  id : Nat
  hold : Nat
  revive : Nat
  subst : List Byte
  deriving DecidableEq, Repr

/-- One direct-mapped bit (R44): the output channel, the slot entry and the bit of the slot data that drives it. -/
structure DirectMap where
  ch : Nat
  entry : Nat
  bit : Nat
  deriving DecidableEq, Repr

/-- One variable of the changeable-variable table (R140, R472): identity, width in bytes, lane address, limits. -/
structure VarDecl where
  id : Nat
  width : Nat
  addr : Nat
  signed : Bool
  min : BitVec 64
  max : BitVec 64
  deriving DecidableEq, Repr

/-- A ring schedule of the plug (R244, R505): its identity and composition digest, T in units of 125 µs, L ÷ 4, S, C and the
launch offset, the leader and the other nodes in ring order, the stated hop delays in ns, this module's slot entries as
their three words, t_in and t_com in jc. -/
structure Sched where
  id : Word
  comp : Word
  tUnits : Nat
  len4 : Nat
  slots : Nat
  conts : Nat
  launch : Nat
  leader : Nat
  order : List Nat
  hops : List Nat
  entries : List (Nat × (Word × Word × Word))
  tIn : Nat
  tCom : Nat
  deriving DecidableEq, Repr

/-- The sealed configuration that no register shows: image sizes (R32), the tag, owner and safe value of each output
word (R17, R133, R103), stations, the direct map, the changeable variables and the retained region of the lane image
header (R140, R147, R472), RET_PERIOD (R148), the ring schedules (R244), the safe values of connections (R272), the
keys (R266), the hot tasks and the pair digest (chapter 13), the image place ÷ 4 of the payload of Ethernet entries that carry a
safe connection, the lane image key (R472) and the plane table (R316). -/
structure Cfg where
  sIn : Nat
  sOut : Nat
  safety : List Nat
  owner : List (Nat × Nat)
  safeImg : List (Nat × Byte)
  stations : List StationCfg
  direct : List DirectMap
  vars : List VarDecl
  retBase : Nat
  retSize : Nat
  retPeriod : Nat
  scheds : List Sched
  safeVals : List (Nat × List Byte)
  keys : List (Nat × List Byte)
  hot : List Nat
  pairDigest : List Byte
  ethSafe : List (Nat × Nat)
  imageKey : List Byte
  planeTable : List Byte
  deriving DecidableEq, Repr

/-- A heartbeat (R330, R331): the whole 64 bytes on the partner link; on the ring only HB_SEQ, CLAIM, STATE and FLAGS. -/
structure Heartbeat where
  checkOk : Bool
  seq : Nat
  claim : Nat
  state : Nat
  flags : Nat
  sfCause : Nat
  image : Nat
  digest : List Byte
  deriving DecidableEq, Repr

/-- What the reading of the identity plug gives (R468 to R470): its bytes, none where it answers no read; whether the certificate and the
configuration signature hold (log entry 6); and what the sections of TYPE 0x01 and 0x03 to 0x07, whose formats the spec does not give, say:
the words of the configuration by register address, the configuration that no register shows, and the module's network address (log
entry 5). -/
structure PlugRead where
  bytes : List Byte
  signed : Bool
  regs : List (Nat × Word)
  cfg : Cfg
  recAddr : Nat
  deriving DecidableEq, Repr

/-- The commands and events of the opcode table: those with operands in the table's order, then those without, so that compiled Lean can
represent every constructor. -/
inductive Instr
  /-- REGISTER_WRITE: R10 to R12, R29: initiator i writes w, `width` bytes wide, at its own address addr. -/
  | registerWrite (i : Initiator) (addr width : Nat) (w : Word)
  /-- PAIR_LO_READ: R13: a read of a _LO word of a register pair. -/
  | pairLoRead (i : Initiator) (addr : Nat)
  /-- PAIR_HI_WRITE: R13: a write of a _HI word of a writable pair. -/
  | pairHiWrite (i : Initiator) (addr : Nat) (w : Word)
  /-- PAIR_LO_WRITE: R13: a write of the _LO word, which applies both words. -/
  | pairLoWrite (i : Initiator) (addr : Nat) (w : Word)
  /-- HANDOVER_START: R45, R94: t_com − H; the lanes whose hand-over has a word that fails its side-band check, or is not received. -/
  | handoverStart (failed lost : Tri Bool)
  /-- CYCLIC_COMMAND_FRAME_SEND: R45, R107: t_com − 32 jc; the lanes whose frames fail their check at the FQ8s. -/
  | cyclicCommandFrameSend (failed : Tri Bool)
  /-- MEMBERSHIP_MESSAGE: R107: FQ_q takes the next message on its field control link. -/
  | membershipMessage (q : Fin 4)
  /-- FQ8_REPORT: R107, R109: the vote unit takes the next report of FQ_q. -/
  | fq8Report (q : Fin 4)
  /-- SAFE_RELEASE: R105: a write of VT.SAFE_RELEASE. -/
  | safeRelease (i : Initiator) (w : Word)
  /-- OWNED_SLOT_PASSAGE: R213: the slot of write entry n passes; `written` when it arrives with a valid check for this CYCLE. -/
  | ownedSlotPassage (r : Ring) (n : Fin 256) (written : Bool)
  /-- HART_INSTRUCTION: R61: the hart executes op, two bytes long when `short`; `ahead` are the addresses of the prefetch or speculative requests that its core makes meanwhile (R175). -/
  | hartInstruction (l : Lane) (h : Hart) (op : RvOp) (short : Bool) (ahead : List (BitVec 64))
  /-- WFI: R68: the hart and its checker reach a WFI. -/
  | wfi (l : Lane) (h : Hart)
  /-- HART_INTERRUPT: R69: a pending interrupt passes the delay registers. -/
  | hartInterrupt (l : Lane) (h : Hart)
  /-- CORE_MISMATCH: R72, R73: the groups that mismatch in HART_0 and in HART_1 in this lc. -/
  | coreMismatch (l : Lane) (g0 g1 : BitVec 8)
  /-- DELAY_REGISTER_FAULT: R70. -/
  | delayRegisterFault (l : Lane)
  /-- COMPARATOR_FAULT: R74. -/
  | comparatorFault (l : Lane)
  /-- L1_PARITY_ERROR: R71: an L1 error in the instruction or data caches, of one bit or two. -/
  | l1ParityError (l : Lane) (instr double : Bool)
  /-- DUAL_RAIL_FAULT: R78 cause 0x09. -/
  | dualRailFault (l : Lane)
  /-- LANE_PLL_LOSS: R25. -/
  | lanePllLoss (l : Lane)
  /-- UNCORRECTABLE_ERROR: R154: an uncorrectable error in a store of the lane. -/
  | uncorrectableError (l : Lane) (type source : Fin 16) (addr : Nat) (syndrome : Byte)
  /-- WITHDRAWAL_NOTICE: R95: the lane's withdrawal notice reaches the vote unit. -/
  | withdrawalNotice (l : Lane)
  /-- FORCED_MISMATCH_TEST: R75: the test of a whole millisecond, with the flags and parity reports seen. -/
  | forcedMismatchTest (l : Lane) (flagsA flagsB : BitVec 16) (dly0 dly1 : Bool)
  /-- TEST_REQ_RUN: R75: a write of CMP.TEST_REQ, with what the additional test sees. -/
  | testReqRun (i : Initiator) (w : Word) (flagsA flagsB : BitVec 16) (dly0 dly1 : Bool)
  /-- CLR_MISSED: R91: a write of LC.CNT_CLEAR with CLR_MISSED. -/
  | clrMissed (i : Initiator) (w : Word)
  /-- CLR_L1: R91: a write of LC.CNT_CLEAR with CLR_L1. -/
  | clrL1 (i : Initiator) (w : Word)
  /-- HALTREQ: R85, R86. -/
  | haltreq (l : Lane) (h : Hart)
  /-- DEBUG_GRANT_ANSWER: R86: the junction's answer to the lane's request arrives. -/
  | debugGrantAnswer (l : Lane)
  /-- HALT_NOTICE: R87. -/
  | haltNotice (l : Lane)
  /-- RESUMEREQ: R88, R90. -/
  | resumereq (l : Lane) (h : Hart)
  /-- RESETHALTREQ: R85. -/
  | resethaltreq (l : Lane) (h : Hart) (set : Bool)
  /-- NDMRESET: R85, R86. -/
  | ndmreset (l : Lane)
  /-- ABSTRACT_COMMAND: R85: an Access Register command with data0 and data1. -/
  | abstractCommand (l : Lane) (h : Hart) (dword transfer write postexec : Bool) (regno : Fin 65536) (arg : BitVec 64) (prog : List RvOp)
  /-- TRIGGER_ARM: R86: a trigger is written, or dcsr with ebreak bits. -/
  | triggerArm (l : Lane) (h : Hart) (t : Fin 4) (v : Trigger) (ebreak : Option (BitVec 64))
  /-- TRIGGER_HIT: R85, R86. -/
  | triggerHit (l : Lane) (h : Hart) (t : Fin 4)
  /-- SINGLE_STEP: R85. -/
  | singleStep (l : Lane) (h : Hart) (op : RvOp) (short : Bool)
  /-- REPLAY_TIMEOUT: R90. -/
  | replayTimeout (l : Lane)
  /-- CLR_EXCL: R119: a write of VT.CNT_CLEAR with CLR_EXCL. -/
  | clrExcl (i : Initiator) (w : Word)
  /-- VT_CLR_CNT: R119: a write of VT.CNT_CLEAR with CLR_CNT. -/
  | vtClrCnt (i : Initiator) (w : Word)
  /-- READMIT_START: R112: a write of VT.READMIT with START. -/
  | readmitStart (i : Initiator) (w : Word)
  /-- AUTO_READMIT: R112: the first cycle boundary after the lane's exclusion. -/
  | autoReadmit (l : Lane)
  /-- READMIT_ABORT: R117: a write of VT.READMIT with ABORT. -/
  | readmitAbort (i : Initiator) (w : Word)
  /-- EVENT_NOTICE: R126: the next event notice reaches the lane. -/
  | eventNotice (l : Lane)
  /-- EVENT_TASK_RELEASE: R126: the release instant r of event task 8 + n. -/
  | eventTaskRelease (n : Fin 16)
  /-- DISPATCH: R131: a write of TRD.DISPATCH. -/
  | dispatch (i : Initiator) (w : Word)
  /-- DONE: R131: a write of TRD.DONE. -/
  | done (i : Initiator) (w : Word)
  /-- CLR_RESP: R151: a write of TRD.CNT_CLEAR with CLR_RESP. -/
  | clrResp (i : Initiator) (w : Word)
  /-- TRD_CLR_CNT: R151: a write of TRD.CNT_CLEAR with CLR_CNT. -/
  | trdClrCnt (i : Initiator) (w : Word)
  /-- CHG_SUBMIT: R141: a write of UPD.CHG_CTRL.SUBMIT. -/
  | chgSubmit (i : Initiator) (w : Word)
  /-- CHANGE_BLOCK_STAGED: R142: the lane stages the accepted block and its acknowledgement arrives. -/
  | changeBlockStaged (l : Lane)
  /-- PF_CAPTURE_TIMEOUT: R149: 5 ms after the power-fail warning. -/
  | pfCaptureTimeout (l : Lane)
  /-- TRIPLE_WORD_REPAIR: R156: device d finds one copy of a triple word different. -/
  | tripleWordRepair (d : Fin 9)
  /-- TRIPLE_WORD_FAILED: R157: device d finds all copies of a triple word different. -/
  | tripleWordFailed (d : Fin 9)
  /-- INVAL: R161: a write of MEM.CMD with INVAL. -/
  | inval (i : Initiator) (m : MemSel) (w : Word)
  /-- INVALIDATION_DONE: R161. -/
  | invalidationDone (m : MemSel)
  /-- MEM_CLR_CNT: R176: a write of MEM.CMD with CLR_CNT. -/
  | memClrCnt (i : Initiator) (m : MemSel) (w : Word)
  /-- FILL_COMPLETE: R163: a fill ends, complete or with an error. -/
  | fillComplete (m : MemSel) (ok : Bool)
  /-- SCRUB_BURST: R164: the scrubber reads its next valid burst and finds it clean, correctable or uncorrectable. -/
  | scrubBurst (m : MemSel) (v : ScrubVisit) (syndrome : Byte)
  /-- LAP_LATE: R166. -/
  | lapLate (m : MemSel)
  /-- ELOG_POP: R167: a write of MEM.ELOG_CTRL.POP. -/
  | elogPop (i : Initiator) (m : MemSel) (w : Word)
  /-- RETIRE_ACTIVATE: R169: a write of MEM.RT_n with ACTIVE. -/
  | retireActivate (i : Initiator) (m : MemSel) (n : Fin 128) (w : Word)
  /-- RETIRE_COPY_DONE: R170: the running retirement copy completes. -/
  | retireCopyDone (m : MemSel) (uncorr : Bool)
  /-- DIAG_WRITE: R171: a write of MEM.DIAG_CMD with WRITE. -/
  | diagWrite (i : Initiator) (m : MemSel) (w : Word)
  /-- DIAG_READ: R171: a write of MEM.DIAG_CMD with READ. -/
  | diagRead (i : Initiator) (m : MemSel) (w : Word)
  /-- DIAG_RELEASE: R172: a write of MEM.DIAG_CMD with RELEASE. -/
  | diagRelease (i : Initiator) (m : MemSel) (w : Word)
  /-- DIAG_DONE: R171. -/
  | diagDone (m : MemSel)
  /-- STEP_GO: R187: a write of TB.STEP_CTRL with GO. -/
  | stepGo (i : Initiator) (w : Word)
  /-- SLEW_GO: R186: a write of TB.SLEW_CTRL with GO. -/
  | slewGo (i : Initiator) (w : Word)
  /-- ARM: R191: a write of TB.CMP_n_CFG with ARM. -/
  | arm (i : Initiator) (n : Fin 16) (w : Word)
  /-- DISARM: R194: a write of TB.CMP_n_CFG with DISARM. -/
  | disarm (i : Initiator) (n : Fin 16) (w : Word)
  /-- CMP_FIRE: R192: unit n reaches its target. -/
  | cmpFire (n : Fin 16)
  /-- TB_NS_READ: R197: a read of TB.NS. -/
  | tbNsRead (i : Initiator)
  /-- WALL_NS_READ: R197: a read of TB.WALL_NS. -/
  | wallNsRead (i : Initiator)
  /-- FRAME_LAUNCH: R212: the leader launches the next frame; the slots and containers of the returning frame. -/
  | frameLaunch (r : Ring) (slots : List RetSlot) (conts : List Container)
  /-- FRAME_HEADER: R210: a header arrives, its /S/ in this jc. -/
  | frameHeader (r : Ring) (h : FrameHdr)
  /-- SLOT_ARRIVAL: R215: the slot of read entry n arrives. -/
  | slotArrival (r : Ring) (n : Fin 256) (data : List Byte) (check : Word)
  /-- DIRECT_FRAME_DEFERRED: R46: the waiting direct frame to FQ_q starts. -/
  | directFrameDeferred (q : Fin 4)
  /-- DIRECT_COMMAND_FRAME: R47: the direct frames to FQ_q arrive; lanes whose frame is absent or fails its check, and bits that differ in a lane's frame. -/
  | directCommandFrame (q : Fin 4) (absent : Tri Bool) (flip : Tri Byte)
  /-- CONTAINER_PASSAGE: R217: an open container passes. -/
  | containerPassage (r : Ring) (c : Container)
  /-- FRAME_TRAILER: R222: the trailer passes, with its time record. -/
  | frameTrailer (r : Ring) (e : TrailerIn) (launch : Nat) (ofs : Int) (tflags : Fin 4)
  /-- TXC_SUBMIT: R220: a write of SX.TXC_CTRL with SUBMIT. -/
  | txcSubmit (i : Initiator) (r : Ring) (w : Word)
  /-- TXC_FLUSH: R220: a write of SX.TXC_CTRL with FLUSH. -/
  | txcFlush (i : Initiator) (r : Ring) (w : Word)
  /-- RXC_POP: R221: a write of SX.RXC_CTRL with POP. -/
  | rxcPop (i : Initiator) (r : Ring) (w : Word)
  /-- SCHED_COMMIT: R227: a write of SX.SCHED_CTRL with COMMIT. -/
  | schedCommit (i : Initiator) (w : Word)
  /-- SCHED_CANCEL: R229: a write of SX.SCHED_CTRL with CANCEL. -/
  | schedCancel (i : Initiator) (w : Word)
  /-- FRAME_MISSED: R246: no /S/ by t_exp + 500 jc. -/
  | frameMissed (r : Ring)
  /-- LISTEN_TIME_END: R237: the listen time t_L of the unit ends. -/
  | listenTimeEnd (r : Ring)
  /-- CLAIM_RECEIVED: R238 to R241: a CLAIM arrives. -/
  | claimReceived (r : Ring) (c : ClaimFrm)
  /-- HOP_DELAY_REQUEST: R242: a /D/ arrives at E_RI. -/
  | hopDelayRequest (r : Ring)
  /-- HOP_DELAY_ANSWER_SEND: R242: 40 jc after /D/ arrived. -/
  | hopDelayAnswerSend (r : Ring)
  /-- HOP_DELAY_ANSWER: R242: a /A/ arrives at W_FI. -/
  | hopDelayAnswer (r : Ring)
  /-- HOP_PROBE_RETRY: R242: 100 µs after an unanswered request. -/
  | hopProbeRetry (r : Ring)
  /-- CENSUS_RECEIVED: R243: a CENSUS arrives at a member. -/
  | censusReceived (r : Ring) (c : CensusFrm)
  /-- CENSUS_RETURN: R243, R244: the CENSUS returns to the leader. -/
  | censusReturn (r : Ring) (c : CensusFrm)
  /-- LINE_CODE_LOSS: R250, R251: the incoming pair of the port loses line code. -/
  | lineCodeLoss (r : Ring) (e : LineLoss)
  /-- LINE_CODE_RETURN: R250, R257: 1 ms of valid characters on the incoming pair. -/
  | lineCodeReturn (r : Ring) (east : Bool)
  /-- F_SET_RECEIVED: R251: an /F/ arrives on the incoming pair of the port. -/
  | fSetReceived (r : Ring) (east : Bool)
  /-- FOLD_ENGAGE: R251: 8 jc after a port opened. -/
  | foldEngage (r : Ring)
  /-- HEAL_EXCHANGE: R257, R258: an /H/ with the other end's leader address arrives on the port. -/
  | healExchange (r : Ring) (east : Bool) (addr : Byte)
  /-- REINAUG: R258: a write of SX.INAUG_CTRL with REINAUG. -/
  | reinaug (i : Initiator) (r : Ring) (w : Word)
  /-- INAUG_SLEEP: R260: a write of SX.INAUG_CTRL with SLEEP. -/
  | inaugSleep (i : Initiator) (r : Ring) (w : Word)
  /-- SLEEP_FRAME: R260: a SLEEP frame arrives. -/
  | sleepFrame (r : Ring) (c : CtrlIn) (leader sleepAt : Nat)
  /-- SLEEP_LINE_TIMEOUT: R260: 1 ms without line code at 1.25 Gbaud. -/
  | sleepLineTimeout (r : Ring)
  /-- IDLE_FRAME: R261: an IDLE frame arrives, with its time record. -/
  | idleFrame (r : Ring) (c : CtrlIn) (h : IdleHdr) (launch : Nat) (ofs : Int) (tflags : Fin 4)
  /-- IDLE_MISSED: R261: four IDLE frames have been missed. -/
  | idleMissed (r : Ring)
  /-- INAUG_WAKE: R262: a write of SX.INAUG_CTRL with WAKE. -/
  | inaugWake (i : Initiator) (r : Ring) (w : Word)
  /-- WAKE_COMMAND: R483: the host port writes UPD.SLEEP_CTRL, or a wake request of an Eyelet post is served. -/
  | wakeCommand (host : Option Word)
  /-- WAKE_FRAME: R262: a WAKE frame arrives. -/
  | wakeFrame (r : Ring) (c : CtrlIn) (source nonce : Nat)
  /-- RESUME_FRAME: R262: a RESUME frame arrives, with the network time of the resume. -/
  | resumeFrame (r : Ring) (c : CtrlIn) (leader resumeAt : Nat)
  /-- WAKE_TIMEOUT: R262: 100 ms after a WAKE without a RESUME. -/
  | wakeTimeout (r : Ring)
  /-- RATE_CORR_EXCEEDED: R24: the measured frequency offset of the ring reference, in 0.01 ppm. -/
  | rateCorrExceeded (ppm : BitVec 16)
  /-- CONN_ACK: R273: a write of SX.CONN_n_STAT with ACK. -/
  | connAck (i : Initiator) (n : Fin 1024) (w : Word)
  /-- FILTER_TICK: R286: a filter tick, with what the comparators of the 32 terminals read. -/
  | filterTick (raw : Word)
  /-- CAP_ARM: R289: a write of FIO.CAP_m_CTRL with ARM. -/
  | capArm (i : Initiator) (m : Fin 4) (w : Word)
  /-- CURRENT_LIMIT: R293: the stage's current reaches its limit. -/
  | currentLimit (n : Fin 32)
  /-- CURRENT_BELOW_LIMIT: R293: the current of a stage in LIMIT falls below the limit. -/
  | currentBelowLimit (n : Fin 32)
  /-- LIMIT_TRIP: R293: 10 ms continuous in LIMIT. -/
  | limitTrip (n : Fin 32)
  /-- THERMAL_SHUTDOWN: R293: the die reaches its shutdown temperature. -/
  | thermalShutdown (n : Fin 32)
  /-- DIE_COOLED: R294: the die falls below its restart temperature. -/
  | dieCooled (n : Fin 32)
  /-- CLEAR: R294: a write of FIO.CH_n_CTRL with CLEAR. -/
  | clear (i : Initiator) (n : Fin 32) (w : Word)
  /-- AUTO_RETRY: R294: 100 ms after the stage entered TRIPPED. -/
  | autoRetry (n : Fin 32)
  /-- GATE_BOOST_END: R42: 171 jc after the gate opened. -/
  | gateBoostEnd (n : Fin 32)
  /-- GATE_DISCHARGE_END: R21: 50 jc after drive was removed. -/
  | gateDischargeEnd (n : Fin 32)
  /-- SUPPLY_SAMPLE: R296, R297: every 100 µs; the raw conversions of FQ_0 to FQ_3 in 10 mV. -/
  | supplySample (v0 v1 v2 v3 : BitVec 16)
  /-- GRP_ACK: R299: a write of FIO.GRP_ACK. -/
  | grpAck (i : Initiator) (w : Word)
  /-- CHANNEL_MEASUREMENT: R300: every millisecond; the raw conversions of channels 0 to 31, the terminal voltage signed, in 10 mV and 1 mA. -/
  | channelMeasurement (volt curr : List (BitVec 16))
  /-- FIO_COMMIT: R303: a write of FIO.CTRL with COMMIT. -/
  | fioCommit (i : Initiator) (w : Word)
  /-- FQ8_CLOCK_LOSS: R21: no junction clock edge at FQ_q for more than 1 µs. -/
  | fq8ClockLoss (q : Fin 4)
  /-- FQ8_LINK_SILENT: R21: no valid character on FQ_q's field control link for more than 1 µs. -/
  | fq8LinkSilent (q : Fin 4)
  /-- SELFTEST_DONE: R307: the AX1 self-test ends. -/
  | selftestDone (pass : Bool)
  /-- PLANE_TABLE_RECEIVED: R316: the table has arrived over the plane configuration link; whether its header's length reads 4672. -/
  | planeTableReceived (table : List Byte) (lengthOk : Bool)
  /-- PLANE_EVALUATION: R309: one evaluation of 50 pc; what the sense lines read and the permit lines that read back wrong. -/
  | planeEvaluation (sense readBad : Word)
  /-- DIGEST_PASS_END: R317: a digest pass ends, its result equal to the digest held or not. -/
  | digestPassEnd (same : Bool)
  /-- EVAL_COUNT_READ: R326: a read of AX.EVAL_COUNT. -/
  | evalCountRead (i : Initiator)
  /-- PERMIT_LINE_CHANGE: R108: the permit line of channel n changes at its FQ8. -/
  | permitLineChange (n : Fin 32)
  /-- HEARTBEAT_RECEIVED: R332, R341: a heartbeat arrives on the partner link, or the partner's heartbeat slot on a ring. -/
  | heartbeatReceived (onRing : Bool) (h : Heartbeat)
  /-- CLAIM_WORD: R336: FQ_q receives a valid claim word. -/
  | claimWord (q : Fin 4) (claim : BitVec 16) (primary : Bool)
  /-- CLAIM_LINE_RELEASED: R336: the claim wire at FQ_q has been low for 4 µs. -/
  | claimLineReleased (q : Fin 4)
  /-- CLAIM_LINE_ABSENT: R336: 4 µs without valid words at FQ_q, the wire not low. -/
  | claimLineAbsent (q : Fin 4)
  /-- PARTNER_IMAGE: R329, R342: the active's input or voted image of cycle k has arrived, whole and checked or not. -/
  | partnerImage (voted : Bool) (k : Nat) (ok : Bool) (img : List (Nat × Byte)) (seqs : List (Nat × Nat))
  /-- HOT_TRANSFER_PASS_END: R345: a pass ends with what it copied; whether it was the final pass, and whether a bulk pass was the last one. -/
  | hotTransferPassEnd (final last : Bool) (mem : List (Nat × Byte)) (trd : List (Nat × Word))
  /-- CHECKPOINT_RECEIVED: R346: the standby has received a checkpoint. -/
  | checkpointReceived (ok : Bool) (cycle : Nat) (mem : List (Nat × Byte)) (tables : List (Nat × Word))
  /-- DRILL: R351: a write of DX.CTRL with DRILL. -/
  | drill (i : Initiator) (w : Word)
  /-- RESYNC: R340: a write of DX.CTRL with RESYNC. -/
  | resync (i : Initiator) (w : Word)
  /-- PARTNER_ACTIVATION: R478: the active's accepted activation arrives. -/
  | partnerActivation (ka kr : Nat)
  /-- ETH_FRAME_RECEIVED: R356: a frame arrives at a switch port; its bytes without FCS and the outcome of its FCS. -/
  | ethFrameReceived (p : Fin 8) (f : List Byte) (fcsOk : Bool)
  /-- ETH_FRAME_TRANSMIT: R358: an egress port sends its next frame. -/
  | ethFrameTransmit (p : Fin 8)
  /-- LINK_UP: R355: auto-negotiation completes; whether the partner offers half duplex only, and the rate agreed. -/
  | linkUp (p : Fin 8) (half : Bool) (rate : Fin 4)
  /-- LINK_DOWN: R355: a port loses its link. -/
  | linkDown (p : Fin 8)
  /-- PD_TRANSMIT: R361: a transmit entry queues its frame of the cycle. -/
  | pdTransmit (n : Fin 256)
  /-- TXR_IDX: R364: a write of ETH.TXR_IDX. -/
  | txrIdx (i : Initiator) (w : Word)
  /-- RXR_IDX: R364: a write of ETH.RXR_IDX. -/
  | rxrIdx (i : Initiator) (w : Word)
  /-- SLAVE_FRAME: R369: a slave frame of a polled port, valid or not on lines A and B. -/
  | slaveFrame (fcode : Fin 5) (addr : BitVec 12) (okA okB : Bool) (data : List Byte)
  /-- BA_RESUME: R367: a write of MVB.STATUS with BA_RESUME. -/
  | baResume (i : Initiator) (w : Word)
  /-- CAN_FRAME_RECEIVED: R371: a valid frame of another node. -/
  | canFrameReceived (c : Fin 4) (xtd : Bool) (ident : BitVec 29) (fdf rtr : Bool) (dlc : Fin 16) (data : List Byte)
  /-- CAN_SEND: R371: a write of MB_m_CTRL with SEND. -/
  | canSend (i : Initiator) (c : Fin 4) (m : Fin 64) (w : Word)
  /-- CAN_FRAME_SENT: R372: the frame offered first is complete. -/
  | canFrameSent (c : Fin 4)
  /-- CAN_BUS_ERROR: R373: a bus error in a frame sent or received. -/
  | canBusError (c : Fin 4) (sending : Bool) (kind : Fin 7)
  /-- CAN_AUTO_RECOVERY: R373: 128 occurrences of 11 recessive bits. -/
  | canAutoRecovery (c : Fin 4)
  /-- CAN_RECOVER: R373: a write of CTL_c_ERR with RECOVER. -/
  | canRecover (i : Initiator) (c : Fin 4) (w : Word)
  /-- HOST_READ: R376: a READ command of `count` words from `addr` on; whether its CHECK holds. -/
  | hostRead (tag : Byte) (count addr : Nat) (checkOk : Bool)
  /-- HOST_WRITE: R376: a WRITE command with its data words; whether its CHECK holds. -/
  | hostWrite (tag : Byte) (count addr : Nat) (data : List Word) (checkOk : Bool)
  /-- RECOVERY_BLOCK: R376, R471: a RECOVERY_BLOCK command with its data words; whether its CHECK holds. -/
  | recoveryBlock (tag : Byte) (count block : Nat) (data : List Word) (checkOk : Bool)
  /-- APERTURE_WRITE: R392: a write of GB.APT_w. -/
  | apertureWrite (i : Initiator) (w : Fin 8192) (d : Word)
  /-- WIN_SIG: R400: a write of GB.WIN_n_SIG. -/
  | winSig (i : Initiator) (n : Fin 16) (w : Word)
  /-- WIN_RESUME: R399: a write of GB.WIN_n_CTRL with RESUME. -/
  | winResume (i : Initiator) (n : Fin 16) (w : Word)
  /-- PEF_POP: R398: a write of GB.PEF_CTRL with POP. -/
  | pefPop (i : Initiator) (w : Word)
  /-- NP_TIMEOUT: R395: NP_TMO × 100 µs have passed for initiator code n. -/
  | npTimeout (n : Fin 3)
  /-- SHUTTLE_START: R416: a write of SH.CH_c_CTRL with START. -/
  | shuttleStart (i : Initiator) (c : Fin 16) (w : Word)
  /-- SHUTTLE_STOP_REQUEST: R417: a write of SH.CH_c_CTRL with STOP. -/
  | shuttleStopRequest (i : Initiator) (c : Fin 16) (w : Word)
  /-- SHUTTLE_COMMIT: R421: a write of SH.CH_c_CTRL with COMMIT. -/
  | shuttleCommit (i : Initiator) (c : Fin 16) (w : Word)
  /-- SHUTTLE_SHADOW_COPY: R421: the channel's boundary. -/
  | shuttleShadowCopy (c : Fin 16)
  /-- SHUTTLE_CLEAR: R416: a write of SH.CH_c_CTRL with CLEAR. -/
  | shuttleClear (i : Initiator) (c : Fin 16) (w : Word)
  /-- NOP: R410: channel c executes a NOP. -/
  | nop (c : Fin 16)
  /-- MOVE: R411: channel c begins a MOVE. -/
  | move (c : Fin 16)
  /-- MOVE2D: R411: channel c begins a MOVE2D. -/
  | move2d (c : Fin 16)
  /-- LOOP: R412: channel c executes a LOOP. -/
  | loop (c : Fin 16)
  /-- WAIT: R413: channel c executes a WAIT. -/
  | wait (c : Fin 16)
  /-- WAIT_COMPLETE: R413: the condition of channel c's WAIT holds. -/
  | waitComplete (c : Fin 16)
  /-- WAIT_TIMEOUT: R413: TIMEOUT µs have passed. -/
  | waitTimeout (c : Fin 16)
  /-- SIGNAL: R414: channel c executes a SIGNAL. -/
  | signal (c : Fin 16)
  /-- STOP: R414: channel c executes a STOP. -/
  | stop (c : Fin 16)
  /-- SHUTTLE_BURST: R409: a burst of channel c is granted; whether its peripheral withdrew the request after the grant. -/
  | shuttleBurst (c : Fin 16) (withdrawn : Bool)
  /-- EYELET_POST: R425: a write of EY.CH_n_POST. -/
  | eyeletPost (i : Initiator) (n : Fin 32) (w : Word)
  /-- EYELET_TAKE: R423: a read of EY.CH_n_MSG. -/
  | eyeletTake (i : Initiator) (n : Fin 32)
  /-- THIMBLE_ACQUIRE: R427: a read of EY.TH_n. -/
  | thimbleAcquire (i : Initiator) (n : Fin 64)
  /-- THIMBLE_RELEASE: R429: a write of EY.TH_n. -/
  | thimbleRelease (i : Initiator) (n : Fin 64) (w : Word)
  /-- TH_FORCE: R429: a write of EY.TH_FORCE_LO or, when `high`, TH_FORCE_HI. -/
  | thForce (i : Initiator) (high : Bool) (w : Word)
  /-- MC_RESULT: R442: channel n completes a result from the R × D modulator bits since the last one, oldest first. -/
  | mcResult (n : Fin 8) (bits : List Bool)
  /-- MC_STUCK: R436: 4096 equal bits. -/
  | mcStuck (n : Fin 8)
  /-- MC_STUCK_CLEAR: R436: the first differing bit. -/
  | mcStuckClear (n : Fin 8)
  /-- MC_REFILL_DONE: R436: the refill time has passed. -/
  | mcRefillDone (n : Fin 8)
  /-- MC_COMMIT: R444: a write of MC.CH_n_CTRL with COMMIT. -/
  | mcCommit (i : Initiator) (n : Fin 8) (w : Word)
  /-- MC_SHADOW_COPY: R443: the FIR output sample after COMMIT. -/
  | mcShadowCopy (n : Fin 8)
  /-- PEAK_CLR: R445: a write of MC.CH_n_CTRL with PEAK_CLR. -/
  | peakClr (i : Initiator) (n : Fin 8) (w : Word)
  /-- MC_FIFO_READ: R447: a read of MC.CH_n_FIFO_w. -/
  | mcFifoRead (i : Initiator) (n : Fin 8) (w : Fin 16)
  /-- MC_VALUE_READ: R450: a read of MC.CH_n_VALUE. -/
  | mcValueRead (i : Initiator) (n : Fin 8)
  /-- FREEZE: R456: a write of WL.CTRL with FREEZE. -/
  | freeze (i : Initiator) (w : Word)
  /-- THAW: R457: a write of WL.CTRL with THAW. -/
  | thaw (i : Initiator) (w : Word)
  /-- FLUSH_READ: R458: a read of WL.FLUSH_n. -/
  | flushRead (i : Initiator) (n : Fin 16)
  /-- RESTART_COLD: R481: a write of UPD.RESTART with KIND 0b01. -/
  | restartCold (i : Initiator) (w : Word)
  /-- RESTART_WARM: R481: a write of UPD.RESTART with KIND 0b10. -/
  | restartWarm (i : Initiator) (w : Word)
  /-- RESTART_RECOVERY: R481: a write of UPD.RESTART with KIND 0b11. -/
  | restartRecovery (i : Initiator) (w : Word)
  /-- PLUG_READ_DONE: R468: the plug has been read. -/
  | plugReadDone (p : PlugRead)
  /-- LANE_DIGEST_REPORT: R466: the lane's Awl has loaded its image and returns the configuration digest and its plane comparison. -/
  | laneDigestReport (l : Lane) (digest : List Byte) (planeOk : Bool)
  /-- REC_PROGRAM: R471: a write of UPD.REC_CTRL with PROGRAM. -/
  | recProgram (i : Initiator) (w : Word)
  /-- REC_PROGRAM_DONE: R471: programming ends; for a junction image whether its signature holds and its version. -/
  | recProgramDone (valid : Bool) (version : Nat) (flashOk : Bool)
  /-- MEMTEST: R470: a write of UPD.REC_CTRL with MEMTEST. -/
  | memtest (i : Initiator) (w : Word)
  /-- TFTP_WRITE_REQUEST: R471: a write request for the file "lane" or "junction". -/
  | tftpWriteRequest (file mode : String)
  /-- TFTP_DATA_BLOCK: R471: a data block, at most 512 bytes. -/
  | tftpDataBlock (block : BitVec 16) (data : List Byte)
  /-- FLASH_VERIFY: R474: a write of UPD.FLASH_CTRL with OP VERIFY. -/
  | flashVerify (i : Initiator) (w : Word)
  /-- FLASH_WRITE: R474: a write of UPD.FLASH_CTRL with OP WRITE. -/
  | flashWrite (i : Initiator) (w : Word)
  /-- FLASH_OP_DONE: R474: the running lane flash operation ends. -/
  | flashOpDone (flashOk : Bool)
  /-- ACT_GO: R475: a write of UPD.ACT_CTRL with GO; `partner` is the IMAGE_ID that the duplex partner holds staged. -/
  | actGo (i : Initiator) (w : Word) (partner : Nat)
  /-- LANE_READY: R476: the lane's Awl reports completion. -/
  | laneReady (l : Lane)
  /-- JFLASH_GO: R480: a write of UPD.JFLASH with GO. -/
  | jflashGo (i : Initiator) (w : Word)
  /-- JFLASH_DONE: R480: programming ends; whether the image's signature holds and its version. -/
  | jflashDone (valid : Bool) (version : Nat) (flashOk : Bool)
  /-- MAINT_STRAP_CHANGE: R496: a change of the maintenance strap, stable for 10 ms. -/
  | maintStrapChange (inserted : Bool)
  /-- IDCODE: R498: the TAP loads IDCODE. -/
  | idcode (tap : Fin 8)
  /-- SAMPLE_PRELOAD: R498: the TAP loads SAMPLE/PRELOAD. -/
  | samplePreload (tap : Fin 8)
  /-- EXTEST: R499: the TAP is given EXTEST. -/
  | extest (tap : Fin 8)
  /-- CLAMP: R499: the TAP is given CLAMP. -/
  | clamp (tap : Fin 8)
  /-- HIGHZ: R499: the TAP is given HIGHZ. -/
  | highz (tap : Fin 8)
  /-- BYPASS: R498: the TAP is given BYPASS or an unlisted code. -/
  | bypass (tap : Fin 8) (code : Byte)
  /-- DTMCS: R498: the lane's TAP scans dtmcs. -/
  | dtmcs (l : Lane) (w : Word)
  /-- DMI: R498: the lane's TAP scans dmi; `prog` is the program buffer as instructions, where a command runs it. -/
  | dmi (l : Lane) (addr : BitVec 7) (data : Word) (op : Fin 4) (prog : List RvOp)
  /-- MASTER_FRAME: R365: a master frame of the bus administrator. -/
  | masterFrame (fcode : Fin 16) (addr : BitVec 12)
  /-- UNKNOWN_OP: R377: a command with an OP that R376 does not list and a valid CHECK. -/
  | unknownOp (op tag : Byte)
  /-- PLL_LOCK_CHANGE: R25, R31: the peripheral PLL gains or loses lock, or a lane PLL regains it. -/
  | pllLockChange (lane : Option Lane) (lock : Bool)
  /-- CYCLE_START: R33: network time has reached k × T. -/
  | cycleStart
  /-- SERVICE_MASTER_CHANGE: R29: the cycle boundary after the service master left the vote. -/
  | serviceMasterChange
  /-- INPUT_INSTANT: R35: t_in. -/
  | inputInstant
  /-- RELEASE_INSTANT: R33, R122: t_rel. -/
  | releaseInstant
  /-- COMMIT_INSTANT: R93: t_com. -/
  | commitInstant
  /-- VOTED_IMAGE_READY: R96: t_vr. -/
  | votedImageReady
  /-- OUTPUT_INSTANT: R107: t_out. -/
  | outputInstant
  /-- SAFE_LATCH_CLEAR: R105: the cycle boundary that follows a release. -/
  | safeLatchClear
  /-- READMIT_FILL_DONE: R114: the receiver's fill is complete. -/
  | readmitFillDone
  /-- BULK_PASS_END: R114: the running bulk pass has sent its pages. -/
  | bulkPassEnd
  /-- READMIT_REJOIN: R116: the boundary of cycle j + 1. -/
  | readmitRejoin
  /-- READMIT_TIMEOUT: R117: 2 s have passed since START. -/
  | readmitTimeout
  /-- CHANGE_STAGE_TIMEOUT: R141: 8 cycles have passed without every acknowledgement. -/
  | changeStageTimeout
  /-- RETAINED_SAVE_DUE: R148: RET_PERIOD cycles have passed. -/
  | retainedSaveDue
  /-- RETAINED_CAPTURE_DONE: R148: the captured copies have arrived. -/
  | retainedCaptureDone
  /-- STEP_APPLY: R188: the jc after GO. -/
  | stepApply
  /-- SCHEDULE_SWITCH: R228: the start of cycle SWITCH_AT. -/
  | scheduleSwitch
  /-- CLAIM_TIMEOUT: R239: 1 ms since the claim was sent. -/
  | claimTimeout
  /-- BACKOFF_END: R240: the back-off time ends. -/
  | backoffEnd
  /-- CENSUS_SEND: R243: 100 µs after election. -/
  | censusSend
  /-- CENSUS_REPEAT: R244: 100 ms after a census without a schedule. -/
  | censusRepeat
  /-- SLEEP_SWITCH: R260, R482: the start of cycle SLEEP_AT. -/
  | sleepSwitch
  /-- SLEEP_POWER_DOWN: R482: the sleep capture is complete. -/
  | sleepPowerDown
  /-- IDLE_LAUNCH: R261: the leader's next IDLE frame is due. -/
  | idleLaunch
  /-- RESUME_INSTANT: R262, R484: network time RESUME_AT. -/
  | resumeInstant
  /-- REF_SWITCH_DONE: R23: the change of the junction PLL reference completes. -/
  | refSwitchDone
  /-- MAC_CHECK_DONE: R274: the HMAC engine completes its running copy. -/
  | macCheckDone
  /-- G0_CUT_FORWARD: R298: the cut of one FQ8 of G0 reaches the other. -/
  | g0CutForward
  /-- FIO_SHADOW_COPY: R302: the filter tick after an accepted commit. -/
  | fioShadowCopy
  /-- EJ2_SELF_FAULT: R22: the EJ2 detects a fault of its own. -/
  | ej2SelfFault
  /-- JUNCTION_CLOCK_LOSS: R22: the junction loses its clock. -/
  | junctionClockLoss
  /-- PLANE_RELEASE: R308, R467: the release message reaches the AX1. -/
  | planeRelease
  /-- PLANE_OSC_FAULT: R311: the pc clock stops or leaves its range. -/
  | planeOscFault
  /-- PLANE_STATUS_RECEIVED: R325: an evaluation's results arrive on the plane status link. -/
  | planeStatusReceived
  /-- PLANE_LINK_SILENT: R319: EVAL_COUNT has not advanced for 10 µs, or the plane reports SAFE. -/
  | planeLinkSilent
  /-- HEARTBEAT_SEND: R330: a multiple of 50 µs of network time. -/
  | heartbeatSend
  /-- HEARTBEAT_MISSED: R332: 2 µs after the due time of a link heartbeat. -/
  | heartbeatMissed
  /-- RING_LIFE_TIMEOUT: R332: 2 × T + 2 µs since the ring last showed life. -/
  | ringLifeTimeout
  /-- LISTEN_TIMEOUT: R341: 20 ms after permit release. -/
  | listenTimeout
  /-- SECONDARY_WAIT_END: R341: 10 ms later. -/
  | secondaryWaitEnd
  /-- HOT_TRANSFER_TIMEOUT: R345: 10 s since the transfer began. -/
  | hotTransferTimeout
  /-- CHECKPOINT_DUE: R346: 100 ms since the last checkpoint fell due. -/
  | checkpointDue
  /-- CHECKPOINT_DEFER_END: R346: a deferred checkpoint is taken. -/
  | checkpointDeferEnd
  /-- COLD_RESTORE_DONE: R348: the cold-class restore completes. -/
  | coldRestoreDone
  /-- MAC_AGE_OUT: R356: learned addresses age out after 300 s. -/
  | macAgeOut
  /-- MVB_BASIC_PERIOD: R366: the boundary of a basic period. -/
  | mvbBasicPeriod
  /-- MASTER_CLASH: R367: the administrator receives a foreign master frame. -/
  | masterClash
  /-- FETCH: R377: a FETCH transaction. -/
  | fetch
  /-- ABORT: R378: an ABORT command. -/
  | abort
  /-- HOST_RESPONSE_READY: R378, R379: the response of the command in execution becomes pending. -/
  | hostResponseReady
  /-- GUSSET_SOURCE_COMPLETE: R387: the next completed source enters the pipeline or is held pending. -/
  | gussetSourceComplete
  /-- GUSSET_PENDING_SERVE: R387: the pipeline becomes free. -/
  | gussetPendingServe
  /-- CARRIED_WRITE_RECEIVED: R396: the oldest received container is a carried write. -/
  | carriedWriteReceived
  /-- CARRIED_WRITE_LANDED: R396: the oldest accepted write lands in junction DDR4. -/
  | carriedWriteLanded
  /-- COMPLETION_RECEIVED: R395: the oldest received container is a completion. -/
  | completionReceived
  /-- POSTED_ERROR_REPORT: R398: the oldest received container is a report. -/
  | postedErrorReport
  /-- CARRIED_SIGNAL_RECEIVED: R400: the oldest received container is a signal. -/
  | carriedSignalReceived
  /-- SIGNAL_POST: R400: the earlier writes of a waiting signal have landed. -/
  | signalPost
  /-- WELT_RECORD_WRITE: R507: the recorder takes the next queued event. -/
  | weltRecordWrite
  /-- FREEZE_TIMEOUT: R457: 60 s of freeze have passed. -/
  | freezeTimeout
  /-- TROUBLE_ENTRY_WRITE: R461: the next waiting trouble-log entry is written. -/
  | troubleEntryWrite
  /-- POWER_ON: R464, R488: the module is powered. -/
  | powerOn
  /-- RESET_CONTACT_CLOSE: R496: RESET_N has been closed for 10 µs. -/
  | resetContactClose
  /-- RESET_RELEASE: R464, R496: the reset contact opens. -/
  | resetRelease
  /-- RESET_EXIT: R465, R488: supplies in range, hold-up charged, junction PLL locked. -/
  | resetExit
  /-- JUNCTION_IMAGE_LOADED: R480: Last has looked for the valid junction image of higher version. -/
  | junctionImageLoaded
  /-- LOAD_TIMEOUT: R465: 5 s after LOAD began. -/
  | loadTimeout
  /-- TFTP_STATUS_READ: R471: a read request of the file "status". -/
  | tftpStatusRead
  /-- SUPPLY_INTERRUPT: R486: the supply input falls below 12.0 V. -/
  | supplyInterrupt
  /-- POWER_FAIL_WARNING: R487: 10 ms below 12.0 V. -/
  | powerFailWarning
  /-- MRAM_COPY_DONE: R487: the retained copy has reached MRAM. -/
  | mramCopyDone
  /-- SUPPLY_RETURN: R487: the input has been at or above 14.4 V for 1 ms. -/
  | supplyReturn
  /-- HOLDUP_EXHAUSTED: R487: the hold-up store is exhausted. -/
  | holdupExhausted
  /-- OVERVOLTAGE: R486: the input exceeds 36 V. -/
  | overvoltage
  /-- OVERVOLTAGE_END: R486: the input has been below 33.6 V for 10 ms. -/
  | overvoltageEnd
  /-- TAP_RESET: R499: TAP reset or TRST_N. -/
  | tapReset
  /-- INTERRUPTION_BRIDGED: R486: the input is back at 12.0 V or above within 10 ms. -/
  | interruptionBridged
  /-- TRANSACTION_CUT_SHORT: R378: HCS_N rises before CHECK is complete. -/
  | transactionCutShort
  /-- PLANE_CLOCK_RESUME: R311: the pc clock resumes. -/
  | planeClockResume
  deriving DecidableEq, Repr

end Sys2Proof
end

