-- ==== Sys2Proof/Decode.lean ====
section
/-! DEFINITION. The command that a word of the opcode table spells. spec/opcode_table.json gives its rows no bits (every row is an access, a
link event or an instant, not an encoded word), so no word spells a command. -/

namespace Sys2Proof

/-- The command of a table word: none, since no row of the table has bits. -/
def decodeTableWord (_nbits _w : Nat) : Option Instr := none

end Sys2Proof
end

