-- ==== Sys2Proof/Machine/Fields.lean ====
section
/-! DEFINITION. The keys of the register store and the fields of the registers under the spec's own names:
`Reg.U_NAME` is the key of register U.NAME, `Fld.U_NAME_F` its field F. A junction register's key is its junction
offset (R31 and the junction window of chapter 01); the key of a lane unit's register adds the lane's base. -/

namespace Sys2Proof.Machine

/-- A field of a register: the register's key and the bits. -/
structure Field where
  addr : Nat
  hi : Nat
  lo : Nat
  deriving DecidableEq, Repr

/-- The base of a lane's own unit area in the register store. -/
def laneKey : Lane → Nat
  | .A => 0x10000000
  | .B => 0x20000000
  | .C => 0x30000000

/-- The base of a ring's unit, SX or SY, in the junction window. -/
def ringKey : Ring → Nat
  | .X => 0x20000
  | .Y => 0x30000

/-- The base of the memory registers of a lane's MEM unit, or of JC.JM_ at the junction (R176). -/
def memKey : MemSel → Nat
  | .lane l => laneKey l + 0x30000
  | .junction => 0x1000

def Reg.JC_DEV_ID : Nat := 0
def Fld.JC_DEV_ID_DEVICE : Field := ⟨Reg.JC_DEV_ID, 31, 24⟩
def Fld.JC_DEV_ID_STEP : Field := ⟨Reg.JC_DEV_ID, 23, 16⟩
def Fld.JC_DEV_ID_INSTANCE : Field := ⟨Reg.JC_DEV_ID, 7, 0⟩
def Reg.JC_FQ_n_ID (n : Nat) : Nat := 4 + 4 * n
def Fld.JC_FQ_n_ID_DEVICE (n : Nat) : Field := ⟨Reg.JC_FQ_n_ID n, 31, 24⟩
def Fld.JC_FQ_n_ID_STEP (n : Nat) : Field := ⟨Reg.JC_FQ_n_ID n, 23, 16⟩
def Fld.JC_FQ_n_ID_INSTANCE (n : Nat) : Field := ⟨Reg.JC_FQ_n_ID n, 7, 0⟩
def Reg.JC_MOD_ID : Nat := 0x20
def Fld.JC_MOD_ID_PRODUCT : Field := ⟨Reg.JC_MOD_ID, 31, 16⟩
def Fld.JC_MOD_ID_HW_REV : Field := ⟨Reg.JC_MOD_ID, 15, 8⟩
def Fld.JC_MOD_ID_BUILD : Field := ⟨Reg.JC_MOD_ID, 3, 0⟩
def Reg.JC_MOD_STATUS : Nat := 0x24
def Fld.JC_MOD_STATUS_CLAIM : Field := ⟨Reg.JC_MOD_STATUS, 31, 16⟩
def Fld.JC_MOD_STATUS_SEALED : Field := ⟨Reg.JC_MOD_STATUS, 15, 15⟩
def Fld.JC_MOD_STATUS_PERMITS : Field := ⟨Reg.JC_MOD_STATUS, 14, 14⟩
def Fld.JC_MOD_STATUS_SLEEP : Field := ⟨Reg.JC_MOD_STATUS, 13, 13⟩
def Fld.JC_MOD_STATUS_SYNC : Field := ⟨Reg.JC_MOD_STATUS, 12, 12⟩
def Fld.JC_MOD_STATUS_VOTING : Field := ⟨Reg.JC_MOD_STATUS, 10, 8⟩
def Fld.JC_MOD_STATUS_ROLE : Field := ⟨Reg.JC_MOD_STATUS, 7, 6⟩
def Fld.JC_MOD_STATUS_SVC_MASTER : Field := ⟨Reg.JC_MOD_STATUS, 5, 4⟩
def Fld.JC_MOD_STATUS_FAULT_DEV : Field := ⟨Reg.JC_MOD_STATUS, 3, 0⟩
def Reg.JC_CLK_STATUS : Nat := 0x28
def Fld.JC_CLK_STATUS_RATE_CORR : Field := ⟨Reg.JC_CLK_STATUS, 31, 16⟩
def Fld.JC_CLK_STATUS_SYNT : Field := ⟨Reg.JC_CLK_STATUS, 7, 7⟩
def Fld.JC_CLK_STATUS_SYNT_RING : Field := ⟨Reg.JC_CLK_STATUS, 6, 6⟩
def Fld.JC_CLK_STATUS_PERI_LOCK : Field := ⟨Reg.JC_CLK_STATUS, 5, 5⟩
def Fld.JC_CLK_STATUS_LANE_C_LOCK : Field := ⟨Reg.JC_CLK_STATUS, 3, 3⟩
def Fld.JC_CLK_STATUS_LANE_B_LOCK : Field := ⟨Reg.JC_CLK_STATUS, 2, 2⟩
def Fld.JC_CLK_STATUS_LANE_A_LOCK : Field := ⟨Reg.JC_CLK_STATUS, 1, 1⟩
def Fld.JC_CLK_STATUS_JPLL_LOCK : Field := ⟨Reg.JC_CLK_STATUS, 0, 0⟩
def Reg.JC_DIGEST_n (n : Nat) : Nat := 0x40 + 4 * n
def Fld.JC_DIGEST_n_DIGEST (n : Nat) : Field := ⟨Reg.JC_DIGEST_n n, 31, 0⟩
def Reg.LC_DEV_ID (l : Lane) : Nat := laneKey l + 0
def Fld.LC_DEV_ID_DEVICE (l : Lane) : Field := ⟨Reg.LC_DEV_ID l, 31, 24⟩
def Fld.LC_DEV_ID_STEP (l : Lane) : Field := ⟨Reg.LC_DEV_ID l, 23, 16⟩
def Fld.LC_DEV_ID_INSTANCE (l : Lane) : Field := ⟨Reg.LC_DEV_ID l, 7, 0⟩
def Reg.LC_LANE_STATUS (l : Lane) : Nat := laneKey l + 4
def Fld.LC_LANE_STATUS_EXEC (l : Lane) : Field := ⟨Reg.LC_LANE_STATUS l, 11, 8⟩
def Fld.LC_LANE_STATUS_REPLAY_HALT (l : Lane) : Field := ⟨Reg.LC_LANE_STATUS l, 6, 6⟩
def Fld.LC_LANE_STATUS_DEBUG_SPLIT (l : Lane) : Field := ⟨Reg.LC_LANE_STATUS l, 5, 5⟩
def Fld.LC_LANE_STATUS_H1_HALTED (l : Lane) : Field := ⟨Reg.LC_LANE_STATUS l, 4, 4⟩
def Fld.LC_LANE_STATUS_H0_HALTED (l : Lane) : Field := ⟨Reg.LC_LANE_STATUS l, 3, 3⟩
def Fld.LC_LANE_STATUS_VOTING (l : Lane) : Field := ⟨Reg.LC_LANE_STATUS l, 2, 2⟩
def Fld.LC_LANE_STATUS_SVC_MASTER (l : Lane) : Field := ⟨Reg.LC_LANE_STATUS l, 1, 1⟩
def Fld.LC_LANE_STATUS_IN_STEP (l : Lane) : Field := ⟨Reg.LC_LANE_STATUS l, 0, 0⟩
def Reg.LC_LS_CFG (l : Lane) : Nat := laneKey l + 8
def Fld.LC_LS_CFG_DBG_MODE (l : Lane) : Field := ⟨Reg.LC_LS_CFG l, 1, 1⟩
def Fld.LC_LS_CFG_REPL (l : Lane) : Field := ⟨Reg.LC_LS_CFG l, 0, 0⟩
def Reg.LC_FAULT_CAUSE (l : Lane) : Nat := laneKey l + 0xC
def Fld.LC_FAULT_CAUSE_VALID (l : Lane) : Field := ⟨Reg.LC_FAULT_CAUSE l, 31, 31⟩
def Fld.LC_FAULT_CAUSE_CAUSE (l : Lane) : Field := ⟨Reg.LC_FAULT_CAUSE l, 15, 8⟩
def Fld.LC_FAULT_CAUSE_GROUP (l : Lane) : Field := ⟨Reg.LC_FAULT_CAUSE l, 2, 0⟩
def Reg.LC_FAULT_TIME_HI (l : Lane) : Nat := laneKey l + 0x10
def Fld.LC_FAULT_TIME_HI_TIME (l : Lane) : Field := ⟨Reg.LC_FAULT_TIME_HI l, 31, 0⟩
def Reg.LC_FAULT_TIME_LO (l : Lane) : Nat := laneKey l + 0x14
def Fld.LC_FAULT_TIME_LO_TIME (l : Lane) : Field := ⟨Reg.LC_FAULT_TIME_LO l, 31, 0⟩
def Reg.LC_L1_CORR (l : Lane) : Nat := laneKey l + 0x18
def Fld.LC_L1_CORR_IC_CORR (l : Lane) : Field := ⟨Reg.LC_L1_CORR l, 31, 16⟩
def Fld.LC_L1_CORR_DC_CORR (l : Lane) : Field := ⟨Reg.LC_L1_CORR l, 15, 0⟩
def Reg.LC_L1_REFETCH (l : Lane) : Nat := laneKey l + 0x1C
def Fld.LC_L1_REFETCH_REFETCH (l : Lane) : Field := ⟨Reg.LC_L1_REFETCH l, 15, 0⟩
def Reg.LC_CNT_CLEAR (l : Lane) : Nat := laneKey l + 0x20
def Fld.LC_CNT_CLEAR_CLR_MISSED (l : Lane) : Field := ⟨Reg.LC_CNT_CLEAR l, 1, 1⟩
def Fld.LC_CNT_CLEAR_CLR_L1 (l : Lane) : Field := ⟨Reg.LC_CNT_CLEAR l, 0, 0⟩
def Reg.LC_DBG_STATUS (l : Lane) : Nat := laneKey l + 0x24
def Fld.LC_DBG_STATUS_MISSED (l : Lane) : Field := ⟨Reg.LC_DBG_STATUS l, 31, 16⟩
def Fld.LC_DBG_STATUS_GRANT (l : Lane) : Field := ⟨Reg.LC_DBG_STATUS l, 3, 3⟩
def Fld.LC_DBG_STATUS_TRIG_CLEARED (l : Lane) : Field := ⟨Reg.LC_DBG_STATUS l, 2, 2⟩
def Fld.LC_DBG_STATUS_HALT_REFUSED (l : Lane) : Field := ⟨Reg.LC_DBG_STATUS l, 1, 1⟩
def Fld.LC_DBG_STATUS_STRAP (l : Lane) : Field := ⟨Reg.LC_DBG_STATUS l, 0, 0⟩
def Reg.CMP_STATUS (l : Lane) : Nat := laneKey l + 0x10000
def Fld.CMP_STATUS_DLY_H1_OK (l : Lane) : Field := ⟨Reg.CMP_STATUS l, 5, 5⟩
def Fld.CMP_STATUS_DLY_H0_OK (l : Lane) : Field := ⟨Reg.CMP_STATUS l, 4, 4⟩
def Fld.CMP_STATUS_COPY_B_OK (l : Lane) : Field := ⟨Reg.CMP_STATUS l, 3, 3⟩
def Fld.CMP_STATUS_COPY_A_OK (l : Lane) : Field := ⟨Reg.CMP_STATUS l, 2, 2⟩
def Fld.CMP_STATUS_H1_COMPARED (l : Lane) : Field := ⟨Reg.CMP_STATUS l, 1, 1⟩
def Fld.CMP_STATUS_H0_COMPARED (l : Lane) : Field := ⟨Reg.CMP_STATUS l, 0, 0⟩
def Reg.CMP_TEST_COUNT (l : Lane) : Nat := laneKey l + 0x10004
def Fld.CMP_TEST_COUNT_COUNT (l : Lane) : Field := ⟨Reg.CMP_TEST_COUNT l, 31, 0⟩
def Reg.CMP_TEST_LAST (l : Lane) : Nat := laneKey l + 0x10008
def Fld.CMP_TEST_LAST_FLAGS_B (l : Lane) : Field := ⟨Reg.CMP_TEST_LAST l, 31, 16⟩
def Fld.CMP_TEST_LAST_FLAGS_A (l : Lane) : Field := ⟨Reg.CMP_TEST_LAST l, 15, 0⟩
def Reg.CMP_TEST_AGE (l : Lane) : Nat := laneKey l + 0x1000C
def Fld.CMP_TEST_AGE_AGE (l : Lane) : Field := ⟨Reg.CMP_TEST_AGE l, 15, 0⟩
def Reg.CMP_TEST_REQ (l : Lane) : Nat := laneKey l + 0x10010
def Fld.CMP_TEST_REQ_RUN (l : Lane) : Field := ⟨Reg.CMP_TEST_REQ l, 0, 0⟩
def Reg.VT_CFG : Nat := 0x40000
def Fld.VT_CFG_RELAPSE_MAX : Field := ⟨Reg.VT_CFG, 15, 12⟩
def Fld.VT_CFG_PROBATION : Field := ⟨Reg.VT_CFG, 11, 8⟩
def Fld.VT_CFG_SVC_LIMIT : Field := ⟨Reg.VT_CFG, 7, 4⟩
def Fld.VT_CFG_AUTO_READMIT : Field := ⟨Reg.VT_CFG, 3, 3⟩
def Fld.VT_CFG_SAFE_HOLD : Field := ⟨Reg.VT_CFG, 2, 0⟩
def Reg.VT_STATUS : Nat := 0x40004
def Fld.VT_STATUS_SAFE_ALL : Field := ⟨Reg.VT_STATUS, 15, 15⟩
def Fld.VT_STATUS_WORD_LATCHED : Field := ⟨Reg.VT_STATUS, 14, 14⟩
def Fld.VT_STATUS_MODE : Field := ⟨Reg.VT_STATUS, 13, 12⟩
def Fld.VT_STATUS_HOLD_LEFT : Field := ⟨Reg.VT_STATUS, 10, 8⟩
def Fld.VT_STATUS_PRESENT : Field := ⟨Reg.VT_STATUS, 6, 4⟩
def Fld.VT_STATUS_DONOR : Field := ⟨Reg.VT_STATUS, 3, 2⟩
def Fld.VT_STATUS_READMIT_BUSY : Field := ⟨Reg.VT_STATUS, 0, 0⟩
def Reg.VT_LANE_STATE : Nat := 0x40008
def Fld.VT_LANE_STATE_C_CAUSE : Field := ⟨Reg.VT_LANE_STATE, 23, 20⟩
def Fld.VT_LANE_STATE_C_STATE : Field := ⟨Reg.VT_LANE_STATE, 19, 16⟩
def Fld.VT_LANE_STATE_B_CAUSE : Field := ⟨Reg.VT_LANE_STATE, 15, 12⟩
def Fld.VT_LANE_STATE_B_STATE : Field := ⟨Reg.VT_LANE_STATE, 11, 8⟩
def Fld.VT_LANE_STATE_A_CAUSE : Field := ⟨Reg.VT_LANE_STATE, 7, 4⟩
def Fld.VT_LANE_STATE_A_STATE : Field := ⟨Reg.VT_LANE_STATE, 3, 0⟩
def Reg.VT_READMIT : Nat := 0x4000C
def Fld.VT_READMIT_ABORT : Field := ⟨Reg.VT_READMIT, 3, 3⟩
def Fld.VT_READMIT_LANE : Field := ⟨Reg.VT_READMIT, 2, 1⟩
def Fld.VT_READMIT_START : Field := ⟨Reg.VT_READMIT, 0, 0⟩
def Reg.VT_READMIT_STATUS : Nat := 0x40010
def Fld.VT_READMIT_STATUS_RESULT : Field := ⟨Reg.VT_READMIT_STATUS, 31, 28⟩
def Fld.VT_READMIT_STATUS_PHASE : Field := ⟨Reg.VT_READMIT_STATUS, 27, 24⟩
def Fld.VT_READMIT_STATUS_PASS : Field := ⟨Reg.VT_READMIT_STATUS, 23, 20⟩
def Fld.VT_READMIT_STATUS_RECEIVER : Field := ⟨Reg.VT_READMIT_STATUS, 19, 18⟩
def Fld.VT_READMIT_STATUS_DIRTY : Field := ⟨Reg.VT_READMIT_STATUS, 15, 0⟩
def Reg.VT_SAFE_RELEASE : Nat := 0x40014
def Fld.VT_SAFE_RELEASE_RELEASE : Field := ⟨Reg.VT_SAFE_RELEASE, 0, 0⟩
def Reg.VT_CNT_CLEAR : Nat := 0x40018
def Fld.VT_CNT_CLEAR_CLR_EXCL : Field := ⟨Reg.VT_CNT_CLEAR, 1, 1⟩
def Fld.VT_CNT_CLEAR_CLR_CNT : Field := ⟨Reg.VT_CNT_CLEAR, 0, 0⟩
def Reg.VT_LANE_A_INFO : Nat := 0x40020
def Fld.VT_LANE_A_INFO_EXCLUSIONS : Field := ⟨Reg.VT_LANE_A_INFO, 31, 24⟩
def Fld.VT_LANE_A_INFO_RELAPSES : Field := ⟨Reg.VT_LANE_A_INFO, 23, 20⟩
def Fld.VT_LANE_A_INFO_SVC_RUN : Field := ⟨Reg.VT_LANE_A_INFO, 19, 16⟩
def Fld.VT_LANE_A_INFO_DIS_WORD : Field := ⟨Reg.VT_LANE_A_INFO, 13, 0⟩
def Reg.VT_LANE_B_INFO : Nat := 0x40024
def Fld.VT_LANE_B_INFO_EXCLUSIONS : Field := ⟨Reg.VT_LANE_B_INFO, 31, 24⟩
def Fld.VT_LANE_B_INFO_RELAPSES : Field := ⟨Reg.VT_LANE_B_INFO, 23, 20⟩
def Fld.VT_LANE_B_INFO_SVC_RUN : Field := ⟨Reg.VT_LANE_B_INFO, 19, 16⟩
def Fld.VT_LANE_B_INFO_DIS_WORD : Field := ⟨Reg.VT_LANE_B_INFO, 13, 0⟩
def Reg.VT_LANE_C_INFO : Nat := 0x40028
def Fld.VT_LANE_C_INFO_EXCLUSIONS : Field := ⟨Reg.VT_LANE_C_INFO, 31, 24⟩
def Fld.VT_LANE_C_INFO_RELAPSES : Field := ⟨Reg.VT_LANE_C_INFO, 23, 20⟩
def Fld.VT_LANE_C_INFO_SVC_RUN : Field := ⟨Reg.VT_LANE_C_INFO, 19, 16⟩
def Fld.VT_LANE_C_INFO_DIS_WORD : Field := ⟨Reg.VT_LANE_C_INFO, 13, 0⟩
def Reg.VT_CYC_2OO2 : Nat := 0x40030
def Fld.VT_CYC_2OO2_COUNT : Field := ⟨Reg.VT_CYC_2OO2, 31, 0⟩
def Reg.VT_CYC_HOLD : Nat := 0x40034
def Fld.VT_CYC_HOLD_COUNT : Field := ⟨Reg.VT_CYC_HOLD, 31, 0⟩
def Reg.VT_DIS2_COUNT : Nat := 0x40038
def Fld.VT_DIS2_COUNT_COUNT : Field := ⟨Reg.VT_DIS2_COUNT, 31, 0⟩
def Reg.VT_FQ_MISMATCH : Nat := 0x4003C
def Fld.VT_FQ_MISMATCH_COUNT : Field := ⟨Reg.VT_FQ_MISMATCH, 31, 0⟩
def Reg.VT_VS_n_BASE (n : Nat) : Nat := 0x40100 + 8 * n
def Fld.VT_VS_n_BASE_BASE (n : Nat) : Field := ⟨Reg.VT_VS_n_BASE n, 16, 0⟩
def Reg.VT_VS_n_SIZE (n : Nat) : Nat := 0x40104 + 8 * n
def Fld.VT_VS_n_SIZE_SIZE (n : Nat) : Field := ⟨Reg.VT_VS_n_SIZE n, 10, 0⟩
def Reg.TRD_STATUS (l : Lane) : Nat := laneKey l + 0x20000
def Fld.TRD_STATUS_QUIET (l : Lane) : Field := ⟨Reg.TRD_STATUS l, 31, 31⟩
def Fld.TRD_STATUS_HALT_REL (l : Lane) : Field := ⟨Reg.TRD_STATUS l, 30, 30⟩
def Fld.TRD_STATUS_BANK (l : Lane) : Field := ⟨Reg.TRD_STATUS l, 29, 29⟩
def Fld.TRD_STATUS_CUR_TASK (l : Lane) : Field := ⟨Reg.TRD_STATUS l, 28, 24⟩
def Fld.TRD_STATUS_FORCES (l : Lane) : Field := ⟨Reg.TRD_STATUS l, 23, 16⟩
def Fld.TRD_STATUS_CHG_SEQ (l : Lane) : Field := ⟨Reg.TRD_STATUS l, 15, 0⟩
def Reg.TRD_NEXT (l : Lane) : Nat := laneKey l + 0x20004
def Fld.TRD_NEXT_VALID (l : Lane) : Field := ⟨Reg.TRD_NEXT l, 31, 31⟩
def Fld.TRD_NEXT_RESUME (l : Lane) : Field := ⟨Reg.TRD_NEXT l, 30, 30⟩
def Fld.TRD_NEXT_PRIO (l : Lane) : Field := ⟨Reg.TRD_NEXT l, 12, 8⟩
def Fld.TRD_NEXT_TASK (l : Lane) : Field := ⟨Reg.TRD_NEXT l, 4, 0⟩
def Reg.TRD_DISPATCH (l : Lane) : Nat := laneKey l + 0x20008
def Fld.TRD_DISPATCH_TASK (l : Lane) : Field := ⟨Reg.TRD_DISPATCH l, 4, 0⟩
def Reg.TRD_DONE (l : Lane) : Nat := laneKey l + 0x2000C
def Fld.TRD_DONE_TASK (l : Lane) : Field := ⟨Reg.TRD_DONE l, 4, 0⟩
def Reg.TRD_CYCLE (l : Lane) : Nat := laneKey l + 0x20010
def Fld.TRD_CYCLE_CYCLE (l : Lane) : Field := ⟨Reg.TRD_CYCLE l, 31, 0⟩
def Reg.TRD_CNT_CLEAR (l : Lane) : Nat := laneKey l + 0x20014
def Fld.TRD_CNT_CLEAR_CLR_RESP (l : Lane) : Field := ⟨Reg.TRD_CNT_CLEAR l, 1, 1⟩
def Fld.TRD_CNT_CLEAR_CLR_CNT (l : Lane) : Field := ⟨Reg.TRD_CNT_CLEAR l, 0, 0⟩
def Reg.TRD_CT_n_CFG (l : Lane) (n : Nat) : Nat := laneKey l + 0x20100 + 16 * n
def Fld.TRD_CT_n_CFG_EN (l : Lane) (n : Nat) : Field := ⟨Reg.TRD_CT_n_CFG l n, 31, 31⟩
def Fld.TRD_CT_n_CFG_PRIO (l : Lane) (n : Nat) : Field := ⟨Reg.TRD_CT_n_CFG l n, 28, 24⟩
def Fld.TRD_CT_n_CFG_PERIOD (l : Lane) (n : Nat) : Field := ⟨Reg.TRD_CT_n_CFG l n, 19, 10⟩
def Fld.TRD_CT_n_CFG_PHASE (l : Lane) (n : Nat) : Field := ⟨Reg.TRD_CT_n_CFG l n, 9, 0⟩
def Reg.TRD_CT_n_STAT (l : Lane) (n : Nat) : Nat := laneKey l + 0x20104 + 16 * n
def Fld.TRD_CT_n_STAT_STATE (l : Lane) (n : Nat) : Field := ⟨Reg.TRD_CT_n_STAT l n, 31, 29⟩
def Fld.TRD_CT_n_STAT_STALE (l : Lane) (n : Nat) : Field := ⟨Reg.TRD_CT_n_STAT l n, 28, 28⟩
def Fld.TRD_CT_n_STAT_PENDING (l : Lane) (n : Nat) : Field := ⟨Reg.TRD_CT_n_STAT l n, 27, 27⟩
def Fld.TRD_CT_n_STAT_REL_CYCLE (l : Lane) (n : Nat) : Field := ⟨Reg.TRD_CT_n_STAT l n, 15, 0⟩
def Reg.TRD_CT_n_CNT (l : Lane) (n : Nat) : Nat := laneKey l + 0x20108 + 16 * n
def Fld.TRD_CT_n_CNT_LATE (l : Lane) (n : Nat) : Field := ⟨Reg.TRD_CT_n_CNT l n, 31, 16⟩
def Fld.TRD_CT_n_CNT_OVERRUN (l : Lane) (n : Nat) : Field := ⟨Reg.TRD_CT_n_CNT l n, 15, 0⟩
def Reg.TRD_CT_n_RESP (l : Lane) (n : Nat) : Nat := laneKey l + 0x2010C + 16 * n
def Fld.TRD_CT_n_RESP_MAX_RESP (l : Lane) (n : Nat) : Field := ⟨Reg.TRD_CT_n_RESP l n, 31, 16⟩
def Fld.TRD_CT_n_RESP_MIN_SLACK (l : Lane) (n : Nat) : Field := ⟨Reg.TRD_CT_n_RESP l n, 15, 0⟩
def Reg.TRD_ET_n_CFG (l : Lane) (n : Nat) : Nat := laneKey l + 0x20200 + 16 * n
def Fld.TRD_ET_n_CFG_EN (l : Lane) (n : Nat) : Field := ⟨Reg.TRD_ET_n_CFG l n, 31, 31⟩
def Fld.TRD_ET_n_CFG_PRIO (l : Lane) (n : Nat) : Field := ⟨Reg.TRD_ET_n_CFG l n, 28, 24⟩
def Fld.TRD_ET_n_CFG_SRC (l : Lane) (n : Nat) : Field := ⟨Reg.TRD_ET_n_CFG l n, 23, 20⟩
def Fld.TRD_ET_n_CFG_EDGE (l : Lane) (n : Nat) : Field := ⟨Reg.TRD_ET_n_CFG l n, 19, 18⟩
def Fld.TRD_ET_n_CFG_SEL (l : Lane) (n : Nat) : Field := ⟨Reg.TRD_ET_n_CFG l n, 17, 12⟩
def Fld.TRD_ET_n_CFG_WINDOW (l : Lane) (n : Nat) : Field := ⟨Reg.TRD_ET_n_CFG l n, 11, 0⟩
def Reg.TRD_ET_n_STAT (l : Lane) (n : Nat) : Nat := laneKey l + 0x20204 + 16 * n
def Fld.TRD_ET_n_STAT_STATE (l : Lane) (n : Nat) : Field := ⟨Reg.TRD_ET_n_STAT l n, 31, 29⟩
def Fld.TRD_ET_n_STAT_STALE (l : Lane) (n : Nat) : Field := ⟨Reg.TRD_ET_n_STAT l n, 28, 28⟩
def Fld.TRD_ET_n_STAT_PENDING (l : Lane) (n : Nat) : Field := ⟨Reg.TRD_ET_n_STAT l n, 27, 27⟩
def Fld.TRD_ET_n_STAT_REL_CYCLE (l : Lane) (n : Nat) : Field := ⟨Reg.TRD_ET_n_STAT l n, 15, 0⟩
def Reg.TRD_ET_n_CNT (l : Lane) (n : Nat) : Nat := laneKey l + 0x20208 + 16 * n
def Fld.TRD_ET_n_CNT_LATE (l : Lane) (n : Nat) : Field := ⟨Reg.TRD_ET_n_CNT l n, 31, 16⟩
def Fld.TRD_ET_n_CNT_OVERRUN (l : Lane) (n : Nat) : Field := ⟨Reg.TRD_ET_n_CNT l n, 15, 0⟩
def Reg.TRD_ET_n_RESP (l : Lane) (n : Nat) : Nat := laneKey l + 0x2020C + 16 * n
def Fld.TRD_ET_n_RESP_MAX_RESP (l : Lane) (n : Nat) : Field := ⟨Reg.TRD_ET_n_RESP l n, 31, 16⟩
def Fld.TRD_ET_n_RESP_MIN_SLACK (l : Lane) (n : Nat) : Field := ⟨Reg.TRD_ET_n_RESP l n, 15, 0⟩
def Reg.TRD_ET_n_EVT_SPAN (l : Lane) (n : Nat) : Nat := laneKey l + 0x20400 + 8 * n
def Fld.TRD_ET_n_EVT_SPAN_VALUE (l : Lane) (n : Nat) : Field := ⟨Reg.TRD_ET_n_EVT_SPAN l n, 31, 0⟩
def Reg.TRD_ET_n_EVT_DATA (l : Lane) (n : Nat) : Nat := laneKey l + 0x20404 + 8 * n
def Fld.TRD_ET_n_EVT_DATA_VALUE (l : Lane) (n : Nat) : Field := ⟨Reg.TRD_ET_n_EVT_DATA l n, 31, 0⟩
def Reg.TRD_FORCE_n_LOC (l : Lane) (n : Nat) : Nat := laneKey l + 0x21000 + 16 * n
def Fld.TRD_FORCE_n_LOC_ACTIVE (l : Lane) (n : Nat) : Field := ⟨Reg.TRD_FORCE_n_LOC l n, 31, 31⟩
def Fld.TRD_FORCE_n_LOC_IMG (l : Lane) (n : Nat) : Field := ⟨Reg.TRD_FORCE_n_LOC l n, 30, 30⟩
def Fld.TRD_FORCE_n_LOC_SAFETY (l : Lane) (n : Nat) : Field := ⟨Reg.TRD_FORCE_n_LOC l n, 29, 29⟩
def Fld.TRD_FORCE_n_LOC_WORD (l : Lane) (n : Nat) : Field := ⟨Reg.TRD_FORCE_n_LOC l n, 13, 0⟩
def Reg.TRD_FORCE_n_MASK (l : Lane) (n : Nat) : Nat := laneKey l + 0x21004 + 16 * n
def Fld.TRD_FORCE_n_MASK_VALUE (l : Lane) (n : Nat) : Field := ⟨Reg.TRD_FORCE_n_MASK l n, 31, 0⟩
def Reg.TRD_FORCE_n_VAL (l : Lane) (n : Nat) : Nat := laneKey l + 0x21008 + 16 * n
def Fld.TRD_FORCE_n_VAL_VALUE (l : Lane) (n : Nat) : Field := ⟨Reg.TRD_FORCE_n_VAL l n, 31, 0⟩
def Reg.MEM_STATUS (m : MemSel) : Nat := memKey m + 0
def Fld.MEM_STATUS_FILLING (m : MemSel) : Field := ⟨Reg.MEM_STATUS m, 31, 31⟩
def Fld.MEM_STATUS_INVAL_BUSY (m : MemSel) : Field := ⟨Reg.MEM_STATUS m, 30, 30⟩
def Fld.MEM_STATUS_LAP_LATE (m : MemSel) : Field := ⟨Reg.MEM_STATUS m, 29, 29⟩
def Fld.MEM_STATUS_INVAL_ERR (m : MemSel) : Field := ⟨Reg.MEM_STATUS m, 28, 28⟩
def Fld.MEM_STATUS_DIAG_HOLD (m : MemSel) : Field := ⟨Reg.MEM_STATUS m, 27, 27⟩
def Fld.MEM_STATUS_RETIRE_BUSY (m : MemSel) : Field := ⟨Reg.MEM_STATUS m, 26, 26⟩
def Fld.MEM_STATUS_ELOG_COUNT (m : MemSel) : Field := ⟨Reg.MEM_STATUS m, 15, 8⟩
def Fld.MEM_STATUS_RT_USED (m : MemSel) : Field := ⟨Reg.MEM_STATUS m, 7, 0⟩
def Reg.MEM_CFG (m : MemSel) : Nat := memKey m + 4
def Fld.MEM_CFG_LAP_MAX (m : MemSel) : Field := ⟨Reg.MEM_CFG m, 31, 16⟩
def Reg.MEM_SPARE_BASE (m : MemSel) : Nat := memKey m + 8
def Fld.MEM_SPARE_BASE_PAGE (m : MemSel) : Field := ⟨Reg.MEM_SPARE_BASE m, 20, 0⟩
def Reg.MEM_INVAL_BASE (m : MemSel) : Nat := memKey m + 0xC
def Fld.MEM_INVAL_BASE_PAGES (m : MemSel) : Field := ⟨Reg.MEM_INVAL_BASE m, 20, 0⟩
def Reg.MEM_INVAL_SIZE (m : MemSel) : Nat := memKey m + 0x10
def Fld.MEM_INVAL_SIZE_PAGES (m : MemSel) : Field := ⟨Reg.MEM_INVAL_SIZE m, 20, 0⟩
def Reg.MEM_CMD (m : MemSel) : Nat := memKey m + 0x14
def Fld.MEM_CMD_CLR_CNT (m : MemSel) : Field := ⟨Reg.MEM_CMD m, 1, 1⟩
def Fld.MEM_CMD_INVAL (m : MemSel) : Field := ⟨Reg.MEM_CMD m, 0, 0⟩
def Reg.MEM_FILL_TIME (m : MemSel) : Nat := memKey m + 0x18
def Fld.MEM_FILL_TIME_US (m : MemSel) : Field := ⟨Reg.MEM_FILL_TIME m, 31, 0⟩
def Reg.MEM_CORR_COUNT (m : MemSel) : Nat := memKey m + 0x20
def Fld.MEM_CORR_COUNT_COUNT (m : MemSel) : Field := ⟨Reg.MEM_CORR_COUNT m, 31, 0⟩
def Reg.MEM_UNCORR_COUNT (m : MemSel) : Nat := memKey m + 0x24
def Fld.MEM_UNCORR_COUNT_COUNT (m : MemSel) : Field := ⟨Reg.MEM_UNCORR_COUNT m, 31, 0⟩
def Reg.MEM_SRAM_CORR (m : MemSel) : Nat := memKey m + 0x28
def Fld.MEM_SRAM_CORR_L2 (m : MemSel) : Field := ⟨Reg.MEM_SRAM_CORR m, 31, 24⟩
def Fld.MEM_SRAM_CORR_SCRATCH (m : MemSel) : Field := ⟨Reg.MEM_SRAM_CORR m, 23, 16⟩
def Fld.MEM_SRAM_CORR_IMAGE (m : MemSel) : Field := ⟨Reg.MEM_SRAM_CORR m, 15, 8⟩
def Fld.MEM_SRAM_CORR_BITMAP (m : MemSel) : Field := ⟨Reg.MEM_SRAM_CORR m, 7, 0⟩
def Reg.MEM_PF_REJECT (m : MemSel) : Nat := memKey m + 0x2C
def Fld.MEM_PF_REJECT_COUNT (m : MemSel) : Field := ⟨Reg.MEM_PF_REJECT m, 31, 0⟩
def Reg.MEM_SCRUB_LAP (m : MemSel) : Nat := memKey m + 0x30
def Fld.MEM_SCRUB_LAP_LAPS (m : MemSel) : Field := ⟨Reg.MEM_SCRUB_LAP m, 31, 16⟩
def Fld.MEM_SCRUB_LAP_LAST_MS (m : MemSel) : Field := ⟨Reg.MEM_SCRUB_LAP m, 15, 0⟩
def Reg.MEM_SCRUB_AGE (m : MemSel) : Nat := memKey m + 0x34
def Fld.MEM_SCRUB_AGE_MS (m : MemSel) : Field := ⟨Reg.MEM_SCRUB_AGE m, 15, 0⟩
def Reg.MEM_SCRUB_VALID (m : MemSel) : Nat := memKey m + 0x38
def Fld.MEM_SCRUB_VALID_BLOCKS (m : MemSel) : Field := ⟨Reg.MEM_SCRUB_VALID m, 24, 0⟩
def Reg.MEM_IDLE (m : MemSel) : Nat := memKey m + 0x3C
def Fld.MEM_IDLE_PERMILLE (m : MemSel) : Field := ⟨Reg.MEM_IDLE m, 9, 0⟩
def Reg.MEM_ELOG_INFO (m : MemSel) : Nat := memKey m + 0x40
def Fld.MEM_ELOG_INFO_VALID (m : MemSel) : Field := ⟨Reg.MEM_ELOG_INFO m, 31, 31⟩
def Fld.MEM_ELOG_INFO_TYPE (m : MemSel) : Field := ⟨Reg.MEM_ELOG_INFO m, 27, 24⟩
def Fld.MEM_ELOG_INFO_SOURCE (m : MemSel) : Field := ⟨Reg.MEM_ELOG_INFO m, 23, 20⟩
def Fld.MEM_ELOG_INFO_REPEAT (m : MemSel) : Field := ⟨Reg.MEM_ELOG_INFO m, 15, 8⟩
def Fld.MEM_ELOG_INFO_SYNDROME (m : MemSel) : Field := ⟨Reg.MEM_ELOG_INFO m, 7, 0⟩
def Reg.MEM_ELOG_ADDR (m : MemSel) : Nat := memKey m + 0x44
def Fld.MEM_ELOG_ADDR_ADDR (m : MemSel) : Field := ⟨Reg.MEM_ELOG_ADDR m, 26, 0⟩
def Reg.MEM_ELOG_TIME_HI (m : MemSel) : Nat := memKey m + 0x48
def Fld.MEM_ELOG_TIME_HI_TIME (m : MemSel) : Field := ⟨Reg.MEM_ELOG_TIME_HI m, 31, 0⟩
def Reg.MEM_ELOG_TIME_LO (m : MemSel) : Nat := memKey m + 0x4C
def Fld.MEM_ELOG_TIME_LO_TIME (m : MemSel) : Field := ⟨Reg.MEM_ELOG_TIME_LO m, 31, 0⟩
def Reg.MEM_ELOG_CTRL (m : MemSel) : Nat := memKey m + 0x50
def Fld.MEM_ELOG_CTRL_LOST (m : MemSel) : Field := ⟨Reg.MEM_ELOG_CTRL m, 31, 16⟩
def Fld.MEM_ELOG_CTRL_POP (m : MemSel) : Field := ⟨Reg.MEM_ELOG_CTRL m, 0, 0⟩
def Reg.MEM_DIAG_ADDR (m : MemSel) : Nat := memKey m + 0x60
def Fld.MEM_DIAG_ADDR_WORD (m : MemSel) : Field := ⟨Reg.MEM_DIAG_ADDR m, 29, 0⟩
def Reg.MEM_DIAG_DATA_HI (m : MemSel) : Nat := memKey m + 0x64
def Fld.MEM_DIAG_DATA_HI_DATA (m : MemSel) : Field := ⟨Reg.MEM_DIAG_DATA_HI m, 31, 0⟩
def Reg.MEM_DIAG_DATA_LO (m : MemSel) : Nat := memKey m + 0x68
def Fld.MEM_DIAG_DATA_LO_DATA (m : MemSel) : Field := ⟨Reg.MEM_DIAG_DATA_LO m, 31, 0⟩
def Reg.MEM_DIAG_CHECK (m : MemSel) : Nat := memKey m + 0x6C
def Fld.MEM_DIAG_CHECK_CHECK (m : MemSel) : Field := ⟨Reg.MEM_DIAG_CHECK m, 7, 0⟩
def Reg.MEM_DIAG_CMD (m : MemSel) : Nat := memKey m + 0x70
def Fld.MEM_DIAG_CMD_RELEASE (m : MemSel) : Field := ⟨Reg.MEM_DIAG_CMD m, 2, 2⟩
def Fld.MEM_DIAG_CMD_READ (m : MemSel) : Field := ⟨Reg.MEM_DIAG_CMD m, 1, 1⟩
def Fld.MEM_DIAG_CMD_WRITE (m : MemSel) : Field := ⟨Reg.MEM_DIAG_CMD m, 0, 0⟩
def Reg.MEM_DIAG_RESULT (m : MemSel) : Nat := memKey m + 0x74
def Fld.MEM_DIAG_RESULT_DONE (m : MemSel) : Field := ⟨Reg.MEM_DIAG_RESULT m, 31, 31⟩
def Fld.MEM_DIAG_RESULT_REFUSED (m : MemSel) : Field := ⟨Reg.MEM_DIAG_RESULT m, 30, 30⟩
def Fld.MEM_DIAG_RESULT_CLASS (m : MemSel) : Field := ⟨Reg.MEM_DIAG_RESULT m, 29, 28⟩
def Fld.MEM_DIAG_RESULT_SYNDROME (m : MemSel) : Field := ⟨Reg.MEM_DIAG_RESULT m, 15, 8⟩
def Fld.MEM_DIAG_RESULT_BIT (m : MemSel) : Field := ⟨Reg.MEM_DIAG_RESULT m, 6, 0⟩
def Reg.MEM_RT_n (m : MemSel) (n : Nat) : Nat := memKey m + 0x400 + 4 * n
def Fld.MEM_RT_n_ACTIVE (m : MemSel) (n : Nat) : Field := ⟨Reg.MEM_RT_n m n, 31, 31⟩
def Fld.MEM_RT_n_BUSY (m : MemSel) (n : Nat) : Field := ⟨Reg.MEM_RT_n m n, 30, 30⟩
def Fld.MEM_RT_n_COPY_ERR (m : MemSel) (n : Nat) : Field := ⟨Reg.MEM_RT_n m n, 29, 29⟩
def Fld.MEM_RT_n_REFUSED (m : MemSel) (n : Nat) : Field := ⟨Reg.MEM_RT_n m n, 28, 28⟩
def Fld.MEM_RT_n_PAGE (m : MemSel) (n : Nat) : Field := ⟨Reg.MEM_RT_n m n, 20, 0⟩
def Reg.JC_TW_n_STATUS (n : Nat) : Nat := 0x80 + 4 * n
def Fld.JC_TW_n_STATUS_FAILED (n : Nat) : Field := ⟨Reg.JC_TW_n_STATUS n, 31, 31⟩
def Fld.JC_TW_n_STATUS_USED (n : Nat) : Field := ⟨Reg.JC_TW_n_STATUS n, 23, 16⟩
def Fld.JC_TW_n_STATUS_REPAIRS (n : Nat) : Field := ⟨Reg.JC_TW_n_STATUS n, 15, 0⟩
def Reg.TB_STATUS : Nat := 0x10000
def Fld.TB_STATUS_FIRED : Field := ⟨Reg.TB_STATUS, 31, 16⟩
def Fld.TB_STATUS_STEP_REFUSED : Field := ⟨Reg.TB_STATUS, 7, 7⟩
def Fld.TB_STATUS_STEP_PEND : Field := ⟨Reg.TB_STATUS, 6, 6⟩
def Fld.TB_STATUS_SLEW_BUSY : Field := ⟨Reg.TB_STATUS, 5, 5⟩
def Fld.TB_STATUS_NET_SLEW : Field := ⟨Reg.TB_STATUS, 4, 4⟩
def Fld.TB_STATUS_WALL_VALID : Field := ⟨Reg.TB_STATUS, 3, 3⟩
def Fld.TB_STATUS_NET_VALID : Field := ⟨Reg.TB_STATUS, 2, 2⟩
def Fld.TB_STATUS_NET_SRC : Field := ⟨Reg.TB_STATUS, 1, 0⟩
def Reg.TB_CFG : Nat := 0x10004
def Fld.TB_CFG_WALL_SRC : Field := ⟨Reg.TB_CFG, 1, 0⟩
def Reg.TB_SEC_HI : Nat := 0x10008
def Fld.TB_SEC_HI_SEC : Field := ⟨Reg.TB_SEC_HI, 15, 0⟩
def Reg.TB_SEC_LO : Nat := 0x1000C
def Fld.TB_SEC_LO_SEC : Field := ⟨Reg.TB_SEC_LO, 31, 0⟩
def Reg.TB_NS : Nat := 0x10010
def Fld.TB_NS_NS : Field := ⟨Reg.TB_NS, 29, 0⟩
def Reg.TB_SPAN : Nat := 0x10014
def Fld.TB_SPAN_SPAN : Field := ⟨Reg.TB_SPAN, 31, 0⟩
def Reg.TB_WALL_SEC_HI : Nat := 0x10018
def Fld.TB_WALL_SEC_HI_SEC : Field := ⟨Reg.TB_WALL_SEC_HI, 15, 0⟩
def Reg.TB_WALL_SEC_LO : Nat := 0x1001C
def Fld.TB_WALL_SEC_LO_SEC : Field := ⟨Reg.TB_WALL_SEC_LO, 31, 0⟩
def Reg.TB_WALL_NS : Nat := 0x10020
def Fld.TB_WALL_NS_NS : Field := ⟨Reg.TB_WALL_NS, 29, 0⟩
def Reg.TB_WALL_SPAN : Nat := 0x10024
def Fld.TB_WALL_SPAN_SPAN : Field := ⟨Reg.TB_WALL_SPAN, 31, 0⟩
def Reg.TB_UPTIME_HI : Nat := 0x10028
def Fld.TB_UPTIME_HI_NS : Field := ⟨Reg.TB_UPTIME_HI, 31, 0⟩
def Reg.TB_UPTIME_LO : Nat := 0x1002C
def Fld.TB_UPTIME_LO_NS : Field := ⟨Reg.TB_UPTIME_LO, 31, 0⟩
def Reg.TB_WALL_OFS_HI : Nat := 0x10030
def Fld.TB_WALL_OFS_HI_OFS : Field := ⟨Reg.TB_WALL_OFS_HI, 31, 0⟩
def Reg.TB_WALL_OFS_LO : Nat := 0x10034
def Fld.TB_WALL_OFS_LO_OFS : Field := ⟨Reg.TB_WALL_OFS_LO, 31, 0⟩
def Reg.TB_WALL_RATE : Nat := 0x10038
def Fld.TB_WALL_RATE_PPB : Field := ⟨Reg.TB_WALL_RATE, 31, 0⟩
def Reg.TB_SLEW_NS : Nat := 0x1003C
def Fld.TB_SLEW_NS_NS : Field := ⟨Reg.TB_SLEW_NS, 31, 0⟩
def Reg.TB_SLEW_CTRL : Nat := 0x10040
def Fld.TB_SLEW_CTRL_GO : Field := ⟨Reg.TB_SLEW_CTRL, 31, 31⟩
def Fld.TB_SLEW_CTRL_RATE : Field := ⟨Reg.TB_SLEW_CTRL, 8, 0⟩
def Reg.TB_STEP_SEC_HI : Nat := 0x10050
def Fld.TB_STEP_SEC_HI_VALUE : Field := ⟨Reg.TB_STEP_SEC_HI, 15, 0⟩
def Reg.TB_STEP_SEC_LO : Nat := 0x10054
def Fld.TB_STEP_SEC_LO_VALUE : Field := ⟨Reg.TB_STEP_SEC_LO, 31, 0⟩
def Reg.TB_STEP_NS : Nat := 0x10058
def Fld.TB_STEP_NS_VALUE : Field := ⟨Reg.TB_STEP_NS, 31, 0⟩
def Reg.TB_STEP_CTRL : Nat := 0x1005C
def Fld.TB_STEP_CTRL_GO : Field := ⟨Reg.TB_STEP_CTRL, 31, 31⟩
def Fld.TB_STEP_CTRL_SOURCE : Field := ⟨Reg.TB_STEP_CTRL, 5, 3⟩
def Fld.TB_STEP_CTRL_SIGN : Field := ⟨Reg.TB_STEP_CTRL, 2, 2⟩
def Fld.TB_STEP_CTRL_MODE : Field := ⟨Reg.TB_STEP_CTRL, 1, 1⟩
def Reg.TB_LAST_STEP_HI : Nat := 0x10060
def Fld.TB_LAST_STEP_HI_NS : Field := ⟨Reg.TB_LAST_STEP_HI, 31, 0⟩
def Reg.TB_LAST_STEP_LO : Nat := 0x10064
def Fld.TB_LAST_STEP_LO_NS : Field := ⟨Reg.TB_LAST_STEP_LO, 31, 0⟩
def Reg.TB_STEP_COUNT : Nat := 0x10068
def Fld.TB_STEP_COUNT_COUNT : Field := ⟨Reg.TB_STEP_COUNT, 31, 0⟩
def Reg.TB_CMP_n_CFG (n : Nat) : Nat := 0x10100 + 16 * n
def Fld.TB_CMP_n_CFG_ARM (n : Nat) : Field := ⟨Reg.TB_CMP_n_CFG n, 31, 31⟩
def Fld.TB_CMP_n_CFG_DISARM (n : Nat) : Field := ⟨Reg.TB_CMP_n_CFG n, 30, 30⟩
def Fld.TB_CMP_n_CFG_IRQ (n : Nat) : Field := ⟨Reg.TB_CMP_n_CFG n, 2, 2⟩
def Fld.TB_CMP_n_CFG_SCALE (n : Nat) : Field := ⟨Reg.TB_CMP_n_CFG n, 1, 1⟩
def Fld.TB_CMP_n_CFG_ARMED (n : Nat) : Field := ⟨Reg.TB_CMP_n_CFG n, 0, 0⟩
def Reg.TB_CMP_n_TARGET (n : Nat) : Nat := 0x10104 + 16 * n
def Fld.TB_CMP_n_TARGET_SPAN (n : Nat) : Field := ⟨Reg.TB_CMP_n_TARGET n, 31, 0⟩
def Reg.TB_CMP_n_PERIOD (n : Nat) : Nat := 0x10108 + 16 * n
def Fld.TB_CMP_n_PERIOD_NS (n : Nat) : Field := ⟨Reg.TB_CMP_n_PERIOD n, 31, 0⟩
def Reg.TB_CMP_n_STAT (n : Nat) : Nat := 0x1010C + 16 * n
def Fld.TB_CMP_n_STAT_FIRED (n : Nat) : Field := ⟨Reg.TB_CMP_n_STAT n, 31, 31⟩
def Fld.TB_CMP_n_STAT_LATE (n : Nat) : Field := ⟨Reg.TB_CMP_n_STAT n, 30, 30⟩
def Fld.TB_CMP_n_STAT_STEPPED (n : Nat) : Field := ⟨Reg.TB_CMP_n_STAT n, 29, 29⟩
def Fld.TB_CMP_n_STAT_ERR (n : Nat) : Field := ⟨Reg.TB_CMP_n_STAT n, 28, 28⟩
def Fld.TB_CMP_n_STAT_MISSED (n : Nat) : Field := ⟨Reg.TB_CMP_n_STAT n, 15, 0⟩
def Reg.SX_STATUS (r : Ring) : Nat := ringKey r + 0
def Fld.SX_STATUS_SYNC (r : Ring) : Field := ⟨Reg.SX_STATUS r, 31, 31⟩
def Fld.SX_STATUS_LEADER (r : Ring) : Field := ⟨Reg.SX_STATUS r, 30, 30⟩
def Fld.SX_STATUS_FOLDED (r : Ring) : Field := ⟨Reg.SX_STATUS r, 29, 29⟩
def Fld.SX_STATUS_SCHED_MISMATCH (r : Ring) : Field := ⟨Reg.SX_STATUS r, 28, 28⟩
def Fld.SX_STATUS_CLASH (r : Ring) : Field := ⟨Reg.SX_STATUS r, 27, 27⟩
def Fld.SX_STATUS_NO_ROOM (r : Ring) : Field := ⟨Reg.SX_STATUS r, 26, 26⟩
def Fld.SX_STATUS_RXC_OVF (r : Ring) : Field := ⟨Reg.SX_STATUS r, 25, 25⟩
def Fld.SX_STATUS_FRAME_OK (r : Ring) : Field := ⟨Reg.SX_STATUS r, 24, 24⟩
def Fld.SX_STATUS_NODES (r : Ring) : Field := ⟨Reg.SX_STATUS r, 15, 8⟩
def Fld.SX_STATUS_LEADER_ADDR (r : Ring) : Field := ⟨Reg.SX_STATUS r, 7, 0⟩
def Reg.SX_CFG (r : Ring) : Nat := ringKey r + 4
def Fld.SX_CFG_T_UNITS (r : Ring) : Field := ⟨Reg.SX_CFG r, 31, 22⟩
def Fld.SX_CFG_CONT_TTL (r : Ring) : Field := ⟨Reg.SX_CFG r, 21, 14⟩
def Fld.SX_CFG_CLAIM_MAX (r : Ring) : Field := ⟨Reg.SX_CFG r, 13, 10⟩
def Fld.SX_CFG_LOOP (r : Ring) : Field := ⟨Reg.SX_CFG r, 8, 8⟩
def Fld.SX_CFG_ADDR (r : Ring) : Field := ⟨Reg.SX_CFG r, 7, 0⟩
def Reg.SX_PORT_STATUS (r : Ring) : Nat := ringKey r + 8
def Fld.SX_PORT_STATUS_E_RI_CODE (r : Ring) : Field := ⟨Reg.SX_PORT_STATUS r, 3, 3⟩
def Fld.SX_PORT_STATUS_W_FI_CODE (r : Ring) : Field := ⟨Reg.SX_PORT_STATUS r, 2, 2⟩
def Fld.SX_PORT_STATUS_W_RO_FRAME (r : Ring) : Field := ⟨Reg.SX_PORT_STATUS r, 1, 1⟩
def Fld.SX_PORT_STATUS_E_FO_FRAME (r : Ring) : Field := ⟨Reg.SX_PORT_STATUS r, 0, 0⟩
def Reg.SX_FRAME_COUNT (r : Ring) : Nat := ringKey r + 0xC
def Fld.SX_FRAME_COUNT_COUNT (r : Ring) : Field := ⟨Reg.SX_FRAME_COUNT r, 31, 0⟩
def Reg.SX_FRAME_ERR (r : Ring) : Nat := ringKey r + 0x10
def Fld.SX_FRAME_ERR_HDR (r : Ring) : Field := ⟨Reg.SX_FRAME_ERR r, 31, 16⟩
def Fld.SX_FRAME_ERR_FCS (r : Ring) : Field := ⟨Reg.SX_FRAME_ERR r, 15, 0⟩
def Reg.SX_CODE_ERR (r : Ring) : Nat := ringKey r + 0x14
def Fld.SX_CODE_ERR_W_FI (r : Ring) : Field := ⟨Reg.SX_CODE_ERR r, 31, 16⟩
def Fld.SX_CODE_ERR_E_RI (r : Ring) : Field := ⟨Reg.SX_CODE_ERR r, 15, 0⟩
def Reg.SX_SLOT_ERR (r : Ring) : Nat := ringKey r + 0x18
def Fld.SX_SLOT_ERR_BAD (r : Ring) : Field := ⟨Reg.SX_SLOT_ERR r, 31, 16⟩
def Fld.SX_SLOT_ERR_EMPTY (r : Ring) : Field := ⟨Reg.SX_SLOT_ERR r, 15, 0⟩
def Reg.SX_CLASH (r : Ring) : Nat := ringKey r + 0x1C
def Fld.SX_CLASH_WRITE (r : Ring) : Field := ⟨Reg.SX_CLASH r, 31, 16⟩
def Fld.SX_CLASH_COPY_DIFF (r : Ring) : Field := ⟨Reg.SX_CLASH r, 15, 0⟩
def Reg.SX_PHASE_ERR (r : Ring) : Nat := ringKey r + 0x20
def Fld.SX_PHASE_ERR_VALUE (r : Ring) : Field := ⟨Reg.SX_PHASE_ERR r, 31, 0⟩
def Reg.SX_PATH_DELAY (r : Ring) : Nat := ringKey r + 0x24
def Fld.SX_PATH_DELAY_VALUE (r : Ring) : Field := ⟨Reg.SX_PATH_DELAY r, 31, 0⟩
def Reg.SX_RX_SPAN (r : Ring) : Nat := ringKey r + 0x28
def Fld.SX_RX_SPAN_VALUE (r : Ring) : Field := ⟨Reg.SX_RX_SPAN r, 31, 0⟩
def Reg.SX_SCHED_ID : Nat := 0x20030
def Fld.SX_SCHED_ID_VALUE : Field := ⟨Reg.SX_SCHED_ID, 31, 0⟩
def Reg.SX_SCHED_NEXT (r : Ring) : Nat := ringKey r + 0x34
def Fld.SX_SCHED_NEXT_VALUE (r : Ring) : Field := ⟨Reg.SX_SCHED_NEXT r, 31, 0⟩
def Reg.SX_SWITCH_AT (r : Ring) : Nat := ringKey r + 0x38
def Fld.SX_SWITCH_AT_VALUE (r : Ring) : Field := ⟨Reg.SX_SWITCH_AT r, 31, 0⟩
def Reg.SX_SCHED_CTRL : Nat := 0x2003C
def Fld.SX_SCHED_CTRL_COMMIT : Field := ⟨Reg.SX_SCHED_CTRL, 31, 31⟩
def Fld.SX_SCHED_CTRL_BASTE_PENDING : Field := ⟨Reg.SX_SCHED_CTRL, 30, 30⟩
def Fld.SX_SCHED_CTRL_SCHED_ERR : Field := ⟨Reg.SX_SCHED_CTRL, 29, 29⟩
def Fld.SX_SCHED_CTRL_CANCEL : Field := ⟨Reg.SX_SCHED_CTRL, 28, 28⟩
def Fld.SX_SCHED_CTRL_ANN_DIFF : Field := ⟨Reg.SX_SCHED_CTRL, 27, 27⟩
def Fld.SX_SCHED_CTRL_LEAD : Field := ⟨Reg.SX_SCHED_CTRL, 23, 16⟩
def Fld.SX_SCHED_CTRL_ERR_CODE : Field := ⟨Reg.SX_SCHED_CTRL, 3, 0⟩
def Reg.SX_SH_SCHED_ID : Nat := 0x20040
def Fld.SX_SH_SCHED_ID_ID : Field := ⟨Reg.SX_SH_SCHED_ID, 31, 0⟩
def Reg.SX_SH_COUNTS : Nat := 0x20044
def Fld.SX_SH_COUNTS_SLOTS : Field := ⟨Reg.SX_SH_COUNTS, 31, 16⟩
def Fld.SX_SH_COUNTS_CONTAINERS : Field := ⟨Reg.SX_SH_COUNTS, 15, 0⟩
def Reg.SX_SH_T_IN : Nat := 0x20048
def Fld.SX_SH_T_IN_JC : Field := ⟨Reg.SX_SH_T_IN, 24, 0⟩
def Reg.SX_SH_T_COM : Nat := 0x2004C
def Fld.SX_SH_T_COM_JC : Field := ⟨Reg.SX_SH_T_COM, 24, 0⟩
def Reg.SX_SH_LAUNCH : Nat := 0x20050
def Fld.SX_SH_LAUNCH_JC : Field := ⟨Reg.SX_SH_LAUNCH, 24, 0⟩
def Reg.SX_SH_LEN4 : Nat := 0x20054
def Fld.SX_SH_LEN4_LEN4 : Field := ⟨Reg.SX_SH_LEN4, 13, 0⟩
def Reg.SX_COUNTS : Nat := 0x20064
def Fld.SX_COUNTS_SLOTS : Field := ⟨Reg.SX_COUNTS, 31, 16⟩
def Fld.SX_COUNTS_CONTAINERS : Field := ⟨Reg.SX_COUNTS, 15, 0⟩
def Reg.SX_T_IN : Nat := 0x20068
def Fld.SX_T_IN_JC : Field := ⟨Reg.SX_T_IN, 24, 0⟩
def Reg.SX_T_COM : Nat := 0x2006C
def Fld.SX_T_COM_JC : Field := ⟨Reg.SX_T_COM, 24, 0⟩
def Reg.SX_LAUNCH : Nat := 0x20070
def Fld.SX_LAUNCH_JC : Field := ⟨Reg.SX_LAUNCH, 24, 0⟩
def Reg.SX_LEN4 : Nat := 0x20074
def Fld.SX_LEN4_LEN4 : Field := ⟨Reg.SX_LEN4, 13, 0⟩
def Reg.SX_TXC_HDR (r : Ring) : Nat := ringKey r + 0x80
def Fld.SX_TXC_HDR_DEST (r : Ring) : Field := ⟨Reg.SX_TXC_HDR r, 31, 24⟩
def Fld.SX_TXC_HDR_LEN (r : Ring) : Field := ⟨Reg.SX_TXC_HDR r, 23, 16⟩
def Fld.SX_TXC_HDR_TAG (r : Ring) : Field := ⟨Reg.SX_TXC_HDR r, 15, 0⟩
def Reg.SX_TXC_CTRL (r : Ring) : Nat := ringKey r + 0x84
def Fld.SX_TXC_CTRL_SUBMIT (r : Ring) : Field := ⟨Reg.SX_TXC_CTRL r, 31, 31⟩
def Fld.SX_TXC_CTRL_FLUSH (r : Ring) : Field := ⟨Reg.SX_TXC_CTRL r, 30, 30⟩
def Fld.SX_TXC_CTRL_KIND (r : Ring) : Field := ⟨Reg.SX_TXC_CTRL r, 15, 0⟩
def Reg.SX_TXC_STATUS (r : Ring) : Nat := ringKey r + 0x88
def Fld.SX_TXC_STATUS_REFUSED (r : Ring) : Field := ⟨Reg.SX_TXC_STATUS r, 31, 31⟩
def Fld.SX_TXC_STATUS_EXPIRED (r : Ring) : Field := ⟨Reg.SX_TXC_STATUS r, 23, 16⟩
def Fld.SX_TXC_STATUS_QUEUED (r : Ring) : Field := ⟨Reg.SX_TXC_STATUS r, 4, 0⟩
def Reg.SX_TXC_COUNT (r : Ring) : Nat := ringKey r + 0x8C
def Fld.SX_TXC_COUNT_SENT (r : Ring) : Field := ⟨Reg.SX_TXC_COUNT r, 31, 16⟩
def Fld.SX_TXC_COUNT_NO_ROOM (r : Ring) : Field := ⟨Reg.SX_TXC_COUNT r, 15, 0⟩
def Reg.SX_TXC_DATA_n (r : Ring) (n : Nat) : Nat := ringKey r + 0x90 + 4 * n
def Fld.SX_TXC_DATA_n_BYTES (r : Ring) (n : Nat) : Field := ⟨Reg.SX_TXC_DATA_n r n, 31, 0⟩
def Reg.SX_RXC_HDR (r : Ring) : Nat := ringKey r + 0xD0
def Fld.SX_RXC_HDR_SOURCE (r : Ring) : Field := ⟨Reg.SX_RXC_HDR r, 31, 24⟩
def Fld.SX_RXC_HDR_LEN (r : Ring) : Field := ⟨Reg.SX_RXC_HDR r, 23, 16⟩
def Fld.SX_RXC_HDR_TAG (r : Ring) : Field := ⟨Reg.SX_RXC_HDR r, 15, 0⟩
def Reg.SX_RXC_STATUS (r : Ring) : Nat := ringKey r + 0xD4
def Fld.SX_RXC_STATUS_VALID (r : Ring) : Field := ⟨Reg.SX_RXC_STATUS r, 31, 31⟩
def Fld.SX_RXC_STATUS_BCAST (r : Ring) : Field := ⟨Reg.SX_RXC_STATUS r, 30, 30⟩
def Fld.SX_RXC_STATUS_COUNT (r : Ring) : Field := ⟨Reg.SX_RXC_STATUS r, 21, 16⟩
def Fld.SX_RXC_STATUS_KIND (r : Ring) : Field := ⟨Reg.SX_RXC_STATUS r, 15, 0⟩
def Reg.SX_RXC_CTRL (r : Ring) : Nat := ringKey r + 0xD8
def Fld.SX_RXC_CTRL_POP (r : Ring) : Field := ⟨Reg.SX_RXC_CTRL r, 0, 0⟩
def Reg.SX_RXC_DATA_n (r : Ring) (n : Nat) : Nat := ringKey r + 0xE0 + 4 * n
def Fld.SX_RXC_DATA_n_BYTES (r : Ring) (n : Nat) : Field := ⟨Reg.SX_RXC_DATA_n r n, 31, 0⟩
def Reg.SX_SLOT_OK_n (r : Ring) (n : Nat) : Nat := ringKey r + 0x120 + 4 * n
def Fld.SX_SLOT_OK_n_OK (r : Ring) (n : Nat) : Field := ⟨Reg.SX_SLOT_OK_n r n, 31, 0⟩
def Reg.SX_SLOT_n_A (n : Nat) : Nat := 0x21000 + 16 * n
def Fld.SX_SLOT_n_A_EN (n : Nat) : Field := ⟨Reg.SX_SLOT_n_A n, 31, 31⟩
def Fld.SX_SLOT_n_A_DIR (n : Nat) : Field := ⟨Reg.SX_SLOT_n_A n, 30, 30⟩
def Fld.SX_SLOT_n_A_DIRECT (n : Nat) : Field := ⟨Reg.SX_SLOT_n_A n, 29, 29⟩
def Fld.SX_SLOT_n_A_SAFE (n : Nat) : Field := ⟨Reg.SX_SLOT_n_A n, 28, 28⟩
def Fld.SX_SLOT_n_A_SOURCE (n : Nat) : Field := ⟨Reg.SX_SLOT_n_A n, 27, 26⟩
def Fld.SX_SLOT_n_A_STATION (n : Nat) : Field := ⟨Reg.SX_SLOT_n_A n, 24, 18⟩
def Fld.SX_SLOT_n_A_INDEX (n : Nat) : Field := ⟨Reg.SX_SLOT_n_A n, 11, 0⟩
def Reg.SX_SLOT_n_B (n : Nat) : Nat := 0x21004 + 16 * n
def Fld.SX_SLOT_n_B_LEN4 (n : Nat) : Field := ⟨Reg.SX_SLOT_n_B n, 24, 16⟩
def Fld.SX_SLOT_n_B_OFFSET4 (n : Nat) : Field := ⟨Reg.SX_SLOT_n_B n, 13, 0⟩
def Reg.SX_SLOT_n_C (n : Nat) : Nat := 0x21008 + 16 * n
def Fld.SX_SLOT_n_C_CONN (n : Nat) : Field := ⟨Reg.SX_SLOT_n_C n, 25, 16⟩
def Fld.SX_SLOT_n_C_IMG4 (n : Nat) : Field := ⟨Reg.SX_SLOT_n_C n, 13, 0⟩
def Reg.SX_SLOT_n_D (n : Nat) : Nat := 0x2100C + 16 * n
def Fld.SX_SLOT_n_D_RESULT (n : Nat) : Field := ⟨Reg.SX_SLOT_n_D n, 31, 30⟩
def Fld.SX_SLOT_n_D_CYCLE (n : Nat) : Field := ⟨Reg.SX_SLOT_n_D n, 15, 0⟩
def Reg.SX_SH_SLOT_n_A (n : Nat) : Nat := 0x23000 + 16 * n
def Fld.SX_SH_SLOT_n_A_EN (n : Nat) : Field := ⟨Reg.SX_SH_SLOT_n_A n, 31, 31⟩
def Fld.SX_SH_SLOT_n_A_DIR (n : Nat) : Field := ⟨Reg.SX_SH_SLOT_n_A n, 30, 30⟩
def Fld.SX_SH_SLOT_n_A_DIRECT (n : Nat) : Field := ⟨Reg.SX_SH_SLOT_n_A n, 29, 29⟩
def Fld.SX_SH_SLOT_n_A_SAFE (n : Nat) : Field := ⟨Reg.SX_SH_SLOT_n_A n, 28, 28⟩
def Fld.SX_SH_SLOT_n_A_SOURCE (n : Nat) : Field := ⟨Reg.SX_SH_SLOT_n_A n, 27, 26⟩
def Fld.SX_SH_SLOT_n_A_STATION (n : Nat) : Field := ⟨Reg.SX_SH_SLOT_n_A n, 24, 18⟩
def Fld.SX_SH_SLOT_n_A_INDEX (n : Nat) : Field := ⟨Reg.SX_SH_SLOT_n_A n, 11, 0⟩
def Reg.SX_SH_SLOT_n_B (n : Nat) : Nat := 0x23004 + 16 * n
def Fld.SX_SH_SLOT_n_B_LEN4 (n : Nat) : Field := ⟨Reg.SX_SH_SLOT_n_B n, 24, 16⟩
def Fld.SX_SH_SLOT_n_B_OFFSET4 (n : Nat) : Field := ⟨Reg.SX_SH_SLOT_n_B n, 13, 0⟩
def Reg.SX_SH_SLOT_n_C (n : Nat) : Nat := 0x23008 + 16 * n
def Fld.SX_SH_SLOT_n_C_CONN (n : Nat) : Field := ⟨Reg.SX_SH_SLOT_n_C n, 25, 16⟩
def Fld.SX_SH_SLOT_n_C_IMG4 (n : Nat) : Field := ⟨Reg.SX_SH_SLOT_n_C n, 13, 0⟩
def Reg.SX_CS_CFG (r : Ring) : Nat := ringKey r + 0x200
def Fld.SX_CS_CFG_EN (r : Ring) : Field := ⟨Reg.SX_CS_CFG r, 31, 31⟩
def Fld.SX_CS_CFG_WAKE_EN (r : Ring) : Field := ⟨Reg.SX_CS_CFG r, 30, 30⟩
def Fld.SX_CS_CFG_LOSS_CYCLES (r : Ring) : Field := ⟨Reg.SX_CS_CFG r, 11, 8⟩
def Fld.SX_CS_CFG_RANK (r : Ring) : Field := ⟨Reg.SX_CS_CFG r, 2, 0⟩
def Reg.SX_CS_STATUS (r : Ring) : Nat := ringKey r + 0x204
def Fld.SX_CS_STATUS_STATE (r : Ring) : Field := ⟨Reg.SX_CS_STATUS r, 31, 28⟩
def Fld.SX_CS_STATUS_RANK_CLASH (r : Ring) : Field := ⟨Reg.SX_CS_STATUS r, 27, 27⟩
def Fld.SX_CS_STATUS_ADDR_CLASH (r : Ring) : Field := ⟨Reg.SX_CS_STATUS r, 26, 26⟩
def Fld.SX_CS_STATUS_NO_SCHED (r : Ring) : Field := ⟨Reg.SX_CS_STATUS r, 25, 25⟩
def Fld.SX_CS_STATUS_DELAY_ERR (r : Ring) : Field := ⟨Reg.SX_CS_STATUS r, 24, 24⟩
def Fld.SX_CS_STATUS_FOREIGN (r : Ring) : Field := ⟨Reg.SX_CS_STATUS r, 23, 23⟩
def Fld.SX_CS_STATUS_E_OPEN (r : Ring) : Field := ⟨Reg.SX_CS_STATUS r, 22, 22⟩
def Fld.SX_CS_STATUS_W_OPEN (r : Ring) : Field := ⟨Reg.SX_CS_STATUS r, 21, 21⟩
def Fld.SX_CS_STATUS_DELAY_VALID (r : Ring) : Field := ⟨Reg.SX_CS_STATUS r, 20, 20⟩
def Fld.SX_CS_STATUS_FOREIGN_LEADER (r : Ring) : Field := ⟨Reg.SX_CS_STATUS r, 7, 0⟩
def Reg.SX_CS_COUNT (r : Ring) : Nat := ringKey r + 0x208
def Fld.SX_CS_COUNT_CLAIMS_SEEN (r : Ring) : Field := ⟨Reg.SX_CS_COUNT r, 31, 24⟩
def Fld.SX_CS_COUNT_CLASHES (r : Ring) : Field := ⟨Reg.SX_CS_COUNT r, 23, 16⟩
def Fld.SX_CS_COUNT_LEADER_LOST (r : Ring) : Field := ⟨Reg.SX_CS_COUNT r, 15, 8⟩
def Fld.SX_CS_COUNT_ELECTED (r : Ring) : Field := ⟨Reg.SX_CS_COUNT r, 7, 0⟩
def Reg.SX_WIN_COUNT (r : Ring) : Nat := ringKey r + 0x20C
def Fld.SX_WIN_COUNT_MISSED (r : Ring) : Field := ⟨Reg.SX_WIN_COUNT r, 31, 16⟩
def Fld.SX_WIN_COUNT_OUTSIDE (r : Ring) : Field := ⟨Reg.SX_WIN_COUNT r, 15, 0⟩
def Reg.SX_HEM_COUNT (r : Ring) : Nat := ringKey r + 0x210
def Fld.SX_HEM_COUNT_FOLDS (r : Ring) : Field := ⟨Reg.SX_HEM_COUNT r, 31, 16⟩
def Fld.SX_HEM_COUNT_REANCHOR (r : Ring) : Field := ⟨Reg.SX_HEM_COUNT r, 15, 0⟩
def Reg.SX_HOP_DELAY (r : Ring) : Nat := ringKey r + 0x214
def Fld.SX_HOP_DELAY_NS (r : Ring) : Field := ⟨Reg.SX_HOP_DELAY r, 15, 0⟩
def Reg.SX_INAUG_STATUS (r : Ring) : Nat := ringKey r + 0x218
def Fld.SX_INAUG_STATUS_POS (r : Ring) : Field := ⟨Reg.SX_INAUG_STATUS r, 31, 24⟩
def Fld.SX_INAUG_STATUS_COUNT (r : Ring) : Field := ⟨Reg.SX_INAUG_STATUS r, 23, 16⟩
def Fld.SX_INAUG_STATUS_SEL (r : Ring) : Field := ⟨Reg.SX_INAUG_STATUS r, 1, 0⟩
def Reg.SX_COMP_DIGEST (r : Ring) : Nat := ringKey r + 0x21C
def Fld.SX_COMP_DIGEST_VALUE (r : Ring) : Field := ⟨Reg.SX_COMP_DIGEST r, 31, 0⟩
def Reg.SX_RING_DELAY (r : Ring) : Nat := ringKey r + 0x220
def Fld.SX_RING_DELAY_VALUE (r : Ring) : Field := ⟨Reg.SX_RING_DELAY r, 31, 0⟩
def Reg.SX_INAUG_CTRL (r : Ring) : Nat := ringKey r + 0x224
def Fld.SX_INAUG_CTRL_REINAUG (r : Ring) : Field := ⟨Reg.SX_INAUG_CTRL r, 31, 31⟩
def Fld.SX_INAUG_CTRL_SLEEP (r : Ring) : Field := ⟨Reg.SX_INAUG_CTRL r, 30, 30⟩
def Fld.SX_INAUG_CTRL_WAKE (r : Ring) : Field := ⟨Reg.SX_INAUG_CTRL r, 29, 29⟩
def Reg.SX_SCHED_COMP_n (r : Ring) (n : Nat) : Nat := ringKey r + 0x240 + 4 * n
def Fld.SX_SCHED_COMP_n_VALUE (r : Ring) (n : Nat) : Field := ⟨Reg.SX_SCHED_COMP_n r n, 31, 0⟩
def Reg.SX_SCHED_ID_n (r : Ring) (n : Nat) : Nat := ringKey r + 0x250 + 4 * n
def Fld.SX_SCHED_ID_n_VALUE (r : Ring) (n : Nat) : Field := ⟨Reg.SX_SCHED_ID_n r n, 31, 0⟩
def Reg.SX_SAFE_COUNT : Nat := 0x20300
def Fld.SX_SAFE_COUNT_IN_SAFE : Field := ⟨Reg.SX_SAFE_COUNT, 31, 21⟩
def Fld.SX_SAFE_COUNT_MAC_WAIT_MAX : Field := ⟨Reg.SX_SAFE_COUNT, 15, 8⟩
def Fld.SX_SAFE_COUNT_TX_HELD : Field := ⟨Reg.SX_SAFE_COUNT, 7, 0⟩
def Reg.SX_SAFE_SUMMARY_n (n : Nat) : Nat := 0x20380 + 4 * n
def Fld.SX_SAFE_SUMMARY_n_SAFE (n : Nat) : Field := ⟨Reg.SX_SAFE_SUMMARY_n n, 31, 0⟩
def Reg.SX_CONN_n_CFG (n : Nat) : Nat := 0x24000 + 16 * n
def Fld.SX_CONN_n_CFG_EN (n : Nat) : Field := ⟨Reg.SX_CONN_n_CFG n, 31, 31⟩
def Fld.SX_CONN_n_CFG_DIR (n : Nat) : Field := ⟨Reg.SX_CONN_n_CFG n, 30, 30⟩
def Fld.SX_CONN_n_CFG_MEDIUM (n : Nat) : Field := ⟨Reg.SX_CONN_n_CFG n, 29, 29⟩
def Fld.SX_CONN_n_CFG_MAC (n : Nat) : Field := ⟨Reg.SX_CONN_n_CFG n, 28, 28⟩
def Fld.SX_CONN_n_CFG_KEY (n : Nat) : Field := ⟨Reg.SX_CONN_n_CFG n, 27, 24⟩
def Fld.SX_CONN_n_CFG_ACK_REQ (n : Nat) : Field := ⟨Reg.SX_CONN_n_CFG n, 23, 23⟩
def Fld.SX_CONN_n_CFG_REVIVE (n : Nat) : Field := ⟨Reg.SX_CONN_n_CFG n, 22, 19⟩
def Fld.SX_CONN_n_CFG_SEQ_WIN (n : Nat) : Field := ⟨Reg.SX_CONN_n_CFG n, 18, 11⟩
def Fld.SX_CONN_n_CFG_LEN4 (n : Nat) : Field := ⟨Reg.SX_CONN_n_CFG n, 8, 0⟩
def Reg.SX_CONN_n_ID (n : Nat) : Nat := 0x24004 + 16 * n
def Fld.SX_CONN_n_ID_ID (n : Nat) : Field := ⟨Reg.SX_CONN_n_ID n, 31, 0⟩
def Reg.SX_CONN_n_AGE (n : Nat) : Nat := 0x24008 + 16 * n
def Fld.SX_CONN_n_AGE_FUT_TOL (n : Nat) : Field := ⟨Reg.SX_CONN_n_AGE n, 31, 24⟩
def Fld.SX_CONN_n_AGE_MAX_AGE (n : Nat) : Field := ⟨Reg.SX_CONN_n_AGE n, 19, 0⟩
def Reg.SX_CONN_n_STAT (n : Nat) : Nat := 0x2400C + 16 * n
def Fld.SX_CONN_n_STAT_STATE (n : Nat) : Field := ⟨Reg.SX_CONN_n_STAT n, 31, 29⟩
def Fld.SX_CONN_n_STAT_CAUSE (n : Nat) : Field := ⟨Reg.SX_CONN_n_STAT n, 28, 26⟩
def Fld.SX_CONN_n_STAT_ACK (n : Nat) : Field := ⟨Reg.SX_CONN_n_STAT n, 25, 25⟩
def Fld.SX_CONN_n_STAT_READY (n : Nat) : Field := ⟨Reg.SX_CONN_n_STAT n, 24, 24⟩
def Fld.SX_CONN_n_STAT_COUNT (n : Nat) : Field := ⟨Reg.SX_CONN_n_STAT n, 23, 20⟩
def Fld.SX_CONN_n_STAT_SEQ (n : Nat) : Field := ⟨Reg.SX_CONN_n_STAT n, 15, 0⟩
def Reg.SX_CONN_n_ERR_A (n : Nat) : Nat := 0x28000 + 8 * n
def Fld.SX_CONN_n_ERR_A_CRC_ERR (n : Nat) : Field := ⟨Reg.SX_CONN_n_ERR_A n, 31, 16⟩
def Fld.SX_CONN_n_ERR_A_MAC_ERR (n : Nat) : Field := ⟨Reg.SX_CONN_n_ERR_A n, 15, 0⟩
def Reg.SX_CONN_n_ERR_B (n : Nat) : Nat := 0x28004 + 8 * n
def Fld.SX_CONN_n_ERR_B_SEQ_ERR (n : Nat) : Field := ⟨Reg.SX_CONN_n_ERR_B n, 31, 16⟩
def Fld.SX_CONN_n_ERR_B_AGE_ERR (n : Nat) : Field := ⟨Reg.SX_CONN_n_ERR_B n, 15, 0⟩
def Reg.SX_CONN_n_LAST (n : Nat) : Nat := 0x2A000 + 4 * n
def Fld.SX_CONN_n_LAST_SPAN (n : Nat) : Field := ⟨Reg.SX_CONN_n_LAST n, 31, 0⟩
def Reg.FIO_STATUS : Nat := 0x50000
def Fld.FIO_STATUS_OWN_CONFLICT : Field := ⟨Reg.FIO_STATUS, 31, 31⟩
def Fld.FIO_STATUS_EXT_SEEN : Field := ⟨Reg.FIO_STATUS, 30, 30⟩
def Fld.FIO_STATUS_TRIP_SEEN : Field := ⟨Reg.FIO_STATUS, 29, 29⟩
def Fld.FIO_STATUS_G2 : Field := ⟨Reg.FIO_STATUS, 5, 4⟩
def Fld.FIO_STATUS_G1 : Field := ⟨Reg.FIO_STATUS, 3, 2⟩
def Fld.FIO_STATUS_G0 : Field := ⟨Reg.FIO_STATUS, 1, 0⟩
def Reg.FIO_CTRL : Nat := 0x50004
def Fld.FIO_CTRL_COMMIT : Field := ⟨Reg.FIO_CTRL, 31, 31⟩
def Fld.FIO_CTRL_BASTE_PENDING : Field := ⟨Reg.FIO_CTRL, 30, 30⟩
def Fld.FIO_CTRL_CFG_ERR : Field := ⟨Reg.FIO_CTRL, 29, 29⟩
def Fld.FIO_CTRL_ERR_CODE : Field := ⟨Reg.FIO_CTRL, 3, 0⟩
def Reg.FIO_TICK : Nat := 0x50008
def Fld.FIO_TICK_US : Field := ⟨Reg.FIO_TICK, 9, 0⟩
def Reg.FIO_SH_TICK : Nat := 0x5000C
def Fld.FIO_SH_TICK_US : Field := ⟨Reg.FIO_SH_TICK, 9, 0⟩
def Reg.FIO_IN_BASE : Nat := 0x50010
def Fld.FIO_IN_BASE_OFS4 : Field := ⟨Reg.FIO_IN_BASE, 13, 0⟩
def Reg.FIO_OWN_SEAL : Nat := 0x50014
def Fld.FIO_OWN_SEAL_VALID : Field := ⟨Reg.FIO_OWN_SEAL, 31, 31⟩
def Fld.FIO_OWN_SEAL_KIND : Field := ⟨Reg.FIO_OWN_SEAL, 30, 28⟩
def Fld.FIO_OWN_SEAL_CLAIMANT : Field := ⟨Reg.FIO_OWN_SEAL, 23, 20⟩
def Fld.FIO_OWN_SEAL_HOLDER : Field := ⟨Reg.FIO_OWN_SEAL, 19, 16⟩
def Fld.FIO_OWN_SEAL_INDEX : Field := ⟨Reg.FIO_OWN_SEAL, 5, 0⟩
def Reg.FIO_OWN_RUN : Nat := 0x50018
def Fld.FIO_OWN_RUN_VALID : Field := ⟨Reg.FIO_OWN_RUN, 31, 31⟩
def Fld.FIO_OWN_RUN_KIND : Field := ⟨Reg.FIO_OWN_RUN, 30, 28⟩
def Fld.FIO_OWN_RUN_CLAIMANT : Field := ⟨Reg.FIO_OWN_RUN, 23, 20⟩
def Fld.FIO_OWN_RUN_HOLDER : Field := ⟨Reg.FIO_OWN_RUN, 19, 16⟩
def Fld.FIO_OWN_RUN_INDEX : Field := ⟨Reg.FIO_OWN_RUN, 5, 0⟩
def Reg.FIO_GRP_ACK : Nat := 0x5001C
def Fld.FIO_GRP_ACK_ACK : Field := ⟨Reg.FIO_GRP_ACK, 2, 0⟩
def Reg.FIO_GRP_m_CFG (m : Nat) : Nat := 0x50020 + 4 * m
def Fld.FIO_GRP_m_CFG_NOMINAL (m : Nat) : Field := ⟨Reg.FIO_GRP_m_CFG m, 1, 0⟩
def Reg.FIO_GRP_m_STAT (m : Nat) : Nat := 0x50030 + 4 * m
def Fld.FIO_GRP_m_STAT_STATE (m : Nat) : Field := ⟨Reg.FIO_GRP_m_STAT m, 31, 30⟩
def Fld.FIO_GRP_m_STAT_READY (m : Nat) : Field := ⟨Reg.FIO_GRP_m_STAT m, 29, 29⟩
def Fld.FIO_GRP_m_STAT_CAUSE (m : Nat) : Field := ⟨Reg.FIO_GRP_m_STAT m, 28, 27⟩
def Fld.FIO_GRP_m_STAT_CUTS (m : Nat) : Field := ⟨Reg.FIO_GRP_m_STAT m, 26, 19⟩
def Fld.FIO_GRP_m_STAT_VOLT (m : Nat) : Field := ⟨Reg.FIO_GRP_m_STAT m, 15, 0⟩
def Reg.FIO_SUP_q_MEAS (q : Nat) : Nat := 0x50040 + 4 * q
def Fld.FIO_SUP_q_MEAS_VOLT (q : Nat) : Field := ⟨Reg.FIO_SUP_q_MEAS q, 15, 0⟩
def Reg.FIO_SUP_q_CAL (q : Nat) : Nat := 0x50050 + 4 * q
def Fld.FIO_SUP_q_CAL_GAIN (q : Nat) : Field := ⟨Reg.FIO_SUP_q_CAL q, 31, 16⟩
def Fld.FIO_SUP_q_CAL_OFFSET (q : Nat) : Field := ⟨Reg.FIO_SUP_q_CAL q, 15, 0⟩
def Reg.FIO_SH_SUP_q_CAL (q : Nat) : Nat := 0x50060 + 4 * q
def Fld.FIO_SH_SUP_q_CAL_GAIN (q : Nat) : Field := ⟨Reg.FIO_SH_SUP_q_CAL q, 31, 16⟩
def Fld.FIO_SH_SUP_q_CAL_OFFSET (q : Nat) : Field := ⟨Reg.FIO_SH_SUP_q_CAL q, 15, 0⟩
def Reg.FIO_TMR_m_CFG (m : Nat) : Nat := 0x50080 + 4 * m
def Fld.FIO_TMR_m_CFG_EN (m : Nat) : Field := ⟨Reg.FIO_TMR_m_CFG m, 31, 31⟩
def Fld.FIO_TMR_m_CFG_OWNER (m : Nat) : Field := ⟨Reg.FIO_TMR_m_CFG m, 30, 28⟩
def Fld.FIO_TMR_m_CFG_CH (m : Nat) : Field := ⟨Reg.FIO_TMR_m_CFG m, 4, 0⟩
def Reg.FIO_CAP_m_CTRL (m : Nat) : Nat := 0x500A0 + 4 * m
def Fld.FIO_CAP_m_CTRL_ARM (m : Nat) : Field := ⟨Reg.FIO_CAP_m_CTRL m, 31, 31⟩
def Fld.FIO_CAP_m_CTRL_OWNER (m : Nat) : Field := ⟨Reg.FIO_CAP_m_CTRL m, 28, 26⟩
def Fld.FIO_CAP_m_CTRL_CH (m : Nat) : Field := ⟨Reg.FIO_CAP_m_CTRL m, 2, 0⟩
def Reg.FIO_CAP_m_STAT (m : Nat) : Nat := 0x500B0 + 4 * m
def Fld.FIO_CAP_m_STAT_DONE (m : Nat) : Field := ⟨Reg.FIO_CAP_m_STAT m, 31, 31⟩
def Fld.FIO_CAP_m_STAT_BUSY (m : Nat) : Field := ⟨Reg.FIO_CAP_m_STAT m, 30, 30⟩
def Reg.FIO_TMR_m_COUNT (m : Nat) : Nat := 0x500C0 + 8 * m
def Fld.FIO_TMR_m_COUNT_VALUE (m : Nat) : Field := ⟨Reg.FIO_TMR_m_COUNT m, 31, 0⟩
def Reg.FIO_TMR_m_PERIOD (m : Nat) : Nat := 0x500C4 + 8 * m
def Fld.FIO_TMR_m_PERIOD_VALUE (m : Nat) : Field := ⟨Reg.FIO_TMR_m_PERIOD m, 31, 0⟩
def Reg.FIO_CH_n_CFG (n : Nat) : Nat := 0x50100 + 32 * n
def Fld.FIO_CH_n_CFG_DIR (n : Nat) : Field := ⟨Reg.FIO_CH_n_CFG n, 31, 30⟩
def Fld.FIO_CH_n_CFG_PERMIT_REQ (n : Nat) : Field := ⟨Reg.FIO_CH_n_CFG n, 29, 29⟩
def Fld.FIO_CH_n_CFG_WIDE (n : Nat) : Field := ⟨Reg.FIO_CH_n_CFG n, 28, 28⟩
def Fld.FIO_CH_n_CFG_OWNER (n : Nat) : Field := ⟨Reg.FIO_CH_n_CFG n, 27, 25⟩
def Fld.FIO_CH_n_CFG_DIRECT (n : Nat) : Field := ⟨Reg.FIO_CH_n_CFG n, 24, 24⟩
def Reg.FIO_CH_n_MAP (n : Nat) : Nat := 0x50104 + 32 * n
def Fld.FIO_CH_n_MAP_WORD (n : Nat) : Field := ⟨Reg.FIO_CH_n_MAP n, 29, 16⟩
def Fld.FIO_CH_n_MAP_BIT (n : Nat) : Field := ⟨Reg.FIO_CH_n_MAP n, 4, 0⟩
def Reg.FIO_CH_n_FLT (n : Nat) : Nat := 0x50108 + 32 * n
def Fld.FIO_CH_n_FLT_TYPE (n : Nat) : Field := ⟨Reg.FIO_CH_n_FLT n, 11, 9⟩
def Fld.FIO_CH_n_FLT_RETRY (n : Nat) : Field := ⟨Reg.FIO_CH_n_FLT n, 8, 8⟩
def Fld.FIO_CH_n_FLT_N (n : Nat) : Field := ⟨Reg.FIO_CH_n_FLT n, 7, 0⟩
def Reg.FIO_CH_n_STAT (n : Nat) : Nat := 0x5010C + 32 * n
def Fld.FIO_CH_n_STAT_OSTATE (n : Nat) : Field := ⟨Reg.FIO_CH_n_STAT n, 31, 29⟩
def Fld.FIO_CH_n_STAT_EXT_DRIVE (n : Nat) : Field := ⟨Reg.FIO_CH_n_STAT n, 28, 28⟩
def Fld.FIO_CH_n_STAT_EXT_SEEN (n : Nat) : Field := ⟨Reg.FIO_CH_n_STAT n, 27, 27⟩
def Fld.FIO_CH_n_STAT_TRIPPED (n : Nat) : Field := ⟨Reg.FIO_CH_n_STAT n, 26, 26⟩
def Fld.FIO_CH_n_STAT_TRIP_CAUSE (n : Nat) : Field := ⟨Reg.FIO_CH_n_STAT n, 25, 25⟩
def Fld.FIO_CH_n_STAT_LIMIT (n : Nat) : Field := ⟨Reg.FIO_CH_n_STAT n, 24, 24⟩
def Fld.FIO_CH_n_STAT_VALID (n : Nat) : Field := ⟨Reg.FIO_CH_n_STAT n, 23, 23⟩
def Fld.FIO_CH_n_STAT_FILT (n : Nat) : Field := ⟨Reg.FIO_CH_n_STAT n, 22, 22⟩
def Fld.FIO_CH_n_STAT_RAW (n : Nat) : Field := ⟨Reg.FIO_CH_n_STAT n, 21, 21⟩
def Fld.FIO_CH_n_STAT_CONDUCT (n : Nat) : Field := ⟨Reg.FIO_CH_n_STAT n, 20, 20⟩
def Fld.FIO_CH_n_STAT_COUNT (n : Nat) : Field := ⟨Reg.FIO_CH_n_STAT n, 7, 0⟩
def Reg.FIO_CH_n_MEAS (n : Nat) : Nat := 0x50110 + 32 * n
def Fld.FIO_CH_n_MEAS_CURR (n : Nat) : Field := ⟨Reg.FIO_CH_n_MEAS n, 31, 16⟩
def Fld.FIO_CH_n_MEAS_VOLT (n : Nat) : Field := ⟨Reg.FIO_CH_n_MEAS n, 15, 0⟩
def Reg.FIO_CH_n_CNT (n : Nat) : Nat := 0x50114 + 32 * n
def Fld.FIO_CH_n_CNT_RETRIES (n : Nat) : Field := ⟨Reg.FIO_CH_n_CNT n, 31, 16⟩
def Fld.FIO_CH_n_CNT_EXT_EVENTS (n : Nat) : Field := ⟨Reg.FIO_CH_n_CNT n, 15, 0⟩
def Reg.FIO_CH_n_CTRL (n : Nat) : Nat := 0x50118 + 32 * n
def Fld.FIO_CH_n_CTRL_CLEAR (n : Nat) : Field := ⟨Reg.FIO_CH_n_CTRL n, 0, 0⟩
def Reg.FIO_CH_n_CALV (n : Nat) : Nat := 0x50600 + 16 * n
def Fld.FIO_CH_n_CALV_GAIN (n : Nat) : Field := ⟨Reg.FIO_CH_n_CALV n, 31, 16⟩
def Fld.FIO_CH_n_CALV_OFFSET (n : Nat) : Field := ⟨Reg.FIO_CH_n_CALV n, 15, 0⟩
def Reg.FIO_CH_n_CALI (n : Nat) : Nat := 0x50604 + 16 * n
def Fld.FIO_CH_n_CALI_GAIN (n : Nat) : Field := ⟨Reg.FIO_CH_n_CALI n, 31, 16⟩
def Fld.FIO_CH_n_CALI_OFFSET (n : Nat) : Field := ⟨Reg.FIO_CH_n_CALI n, 15, 0⟩
def Reg.FIO_SH_CH_n_CALV (n : Nat) : Nat := 0x50608 + 16 * n
def Fld.FIO_SH_CH_n_CALV_GAIN (n : Nat) : Field := ⟨Reg.FIO_SH_CH_n_CALV n, 31, 16⟩
def Fld.FIO_SH_CH_n_CALV_OFFSET (n : Nat) : Field := ⟨Reg.FIO_SH_CH_n_CALV n, 15, 0⟩
def Reg.FIO_SH_CH_n_CALI (n : Nat) : Nat := 0x5060C + 16 * n
def Fld.FIO_SH_CH_n_CALI_GAIN (n : Nat) : Field := ⟨Reg.FIO_SH_CH_n_CALI n, 31, 16⟩
def Fld.FIO_SH_CH_n_CALI_OFFSET (n : Nat) : Field := ⟨Reg.FIO_SH_CH_n_CALI n, 15, 0⟩
def Reg.FIO_SH_CH_n_FLT (n : Nat) : Nat := 0x50800 + 4 * n
def Fld.FIO_SH_CH_n_FLT_TYPE (n : Nat) : Field := ⟨Reg.FIO_SH_CH_n_FLT n, 11, 9⟩
def Fld.FIO_SH_CH_n_FLT_RETRY (n : Nat) : Field := ⟨Reg.FIO_SH_CH_n_FLT n, 8, 8⟩
def Fld.FIO_SH_CH_n_FLT_N (n : Nat) : Field := ⟨Reg.FIO_SH_CH_n_FLT n, 7, 0⟩
def Reg.FIO_CAP_m_DATA_w (m w : Nat) : Nat := 0x50C00 + 64 * m + 4 * w
def Fld.FIO_CAP_m_DATA_w_SAMPLES (m w : Nat) : Field := ⟨Reg.FIO_CAP_m_DATA_w m w, 31, 0⟩
def Reg.AX_DEV_ID : Nat := 0x120000
def Fld.AX_DEV_ID_DEVICE : Field := ⟨Reg.AX_DEV_ID, 31, 24⟩
def Fld.AX_DEV_ID_STEP : Field := ⟨Reg.AX_DEV_ID, 23, 16⟩
def Fld.AX_DEV_ID_INSTANCE : Field := ⟨Reg.AX_DEV_ID, 7, 0⟩
def Reg.AX_STATUS : Nat := 0x120004
def Fld.AX_STATUS_CAUSE : Field := ⟨Reg.AX_STATUS, 23, 16⟩
def Fld.AX_STATUS_LINK_OK : Field := ⟨Reg.AX_STATUS, 6, 6⟩
def Fld.AX_STATUS_OSC_OK : Field := ⟨Reg.AX_STATUS, 5, 5⟩
def Fld.AX_STATUS_DIGEST_OK : Field := ⟨Reg.AX_STATUS, 4, 4⟩
def Fld.AX_STATUS_STATE : Field := ⟨Reg.AX_STATUS, 2, 0⟩
def Reg.AX_EVAL_COUNT : Nat := 0x120008
def Fld.AX_EVAL_COUNT_VALUE : Field := ⟨Reg.AX_EVAL_COUNT, 31, 0⟩
def Reg.AX_PERMITS : Nat := 0x12000C
def Fld.AX_PERMITS_VALUE : Field := ⟨Reg.AX_PERMITS, 31, 0⟩
def Reg.AX_SENSE : Nat := 0x120010
def Fld.AX_SENSE_VALUE : Field := ⟨Reg.AX_SENSE, 31, 0⟩
def Reg.AX_SUP_Q : Nat := 0x120014
def Fld.AX_SUP_Q_VALUE : Field := ⟨Reg.AX_SUP_Q, 31, 0⟩
def Reg.AX_SUP_F : Nat := 0x120018
def Fld.AX_SUP_F_VALUE : Field := ⟨Reg.AX_SUP_F, 31, 0⟩
def Reg.AX_DIGEST_AGE : Nat := 0x12001C
def Fld.AX_DIGEST_AGE_US : Field := ⟨Reg.AX_DIGEST_AGE, 15, 0⟩
def Reg.AX_IN_BASE : Nat := 0x120020
def Fld.AX_IN_BASE_OFS4 : Field := ⟨Reg.AX_IN_BASE, 13, 0⟩
def Reg.AX_DIGEST_n (n : Nat) : Nat := 0x120040 + 4 * n
def Fld.AX_DIGEST_n_DIGEST (n : Nat) : Field := ⟨Reg.AX_DIGEST_n n, 31, 0⟩
def Reg.AX_SUP_n_CFG (n : Nat) : Nat := 0x120100 + 8 * n
def Fld.AX_SUP_n_CFG_EN (n : Nat) : Field := ⟨Reg.AX_SUP_n_CFG n, 31, 31⟩
def Fld.AX_SUP_n_CFG_MODE (n : Nat) : Field := ⟨Reg.AX_SUP_n_CFG n, 30, 30⟩
def Fld.AX_SUP_n_CFG_START_SAFE (n : Nat) : Field := ⟨Reg.AX_SUP_n_CFG n, 29, 29⟩
def Fld.AX_SUP_n_CFG_CH_A (n : Nat) : Field := ⟨Reg.AX_SUP_n_CFG n, 25, 21⟩
def Fld.AX_SUP_n_CFG_CH_B (n : Nat) : Field := ⟨Reg.AX_SUP_n_CFG n, 20, 16⟩
def Fld.AX_SUP_n_CFG_D (n : Nat) : Field := ⟨Reg.AX_SUP_n_CFG n, 15, 0⟩
def Reg.AX_SUP_n_STAT (n : Nat) : Nat := 0x120104 + 8 * n
def Fld.AX_SUP_n_STAT_STATE (n : Nat) : Field := ⟨Reg.AX_SUP_n_STAT n, 31, 29⟩
def Fld.AX_SUP_n_STAT_F (n : Nat) : Field := ⟨Reg.AX_SUP_n_STAT n, 28, 28⟩
def Fld.AX_SUP_n_STAT_Q (n : Nat) : Field := ⟨Reg.AX_SUP_n_STAT n, 27, 27⟩
def Fld.AX_SUP_n_STAT_FAULTS (n : Nat) : Field := ⟨Reg.AX_SUP_n_STAT n, 23, 16⟩
def Fld.AX_SUP_n_STAT_COUNT (n : Nat) : Field := ⟨Reg.AX_SUP_n_STAT n, 15, 0⟩
def Reg.AX_SENSE_n_CFG (n : Nat) : Nat := 0x120200 + 4 * n
def Fld.AX_SENSE_n_CFG_OWNED (n : Nat) : Field := ⟨Reg.AX_SENSE_n_CFG n, 31, 31⟩
def Fld.AX_SENSE_n_CFG_TYPE (n : Nat) : Field := ⟨Reg.AX_SENSE_n_CFG n, 26, 24⟩
def Fld.AX_SENSE_n_CFG_N (n : Nat) : Field := ⟨Reg.AX_SENSE_n_CFG n, 23, 16⟩
def Fld.AX_SENSE_n_CFG_NP (n : Nat) : Field := ⟨Reg.AX_SENSE_n_CFG n, 7, 0⟩
def Reg.AX_PERMIT_n_SRC (n : Nat) : Nat := 0x120280 + 4 * n
def Fld.AX_PERMIT_n_SRC_SRC (n : Nat) : Field := ⟨Reg.AX_PERMIT_n_SRC n, 9, 0⟩
def Reg.AX_CELL_m_HI (m : Nat) : Nat := 0x121000 + 8 * m
def Fld.AX_CELL_m_HI_TYPE (m : Nat) : Field := ⟨Reg.AX_CELL_m_HI m, 31, 29⟩
def Fld.AX_CELL_m_HI_UNIT (m : Nat) : Field := ⟨Reg.AX_CELL_m_HI m, 28, 28⟩
def Fld.AX_CELL_m_HI_INV (m : Nat) : Field := ⟨Reg.AX_CELL_m_HI m, 27, 25⟩
def Fld.AX_CELL_m_HI_A (m : Nat) : Field := ⟨Reg.AX_CELL_m_HI m, 19, 10⟩
def Fld.AX_CELL_m_HI_B (m : Nat) : Field := ⟨Reg.AX_CELL_m_HI m, 9, 0⟩
def Reg.AX_CELL_m_LO (m : Nat) : Nat := 0x121004 + 8 * m
def Fld.AX_CELL_m_LO_C (m : Nat) : Field := ⟨Reg.AX_CELL_m_LO m, 25, 16⟩
def Fld.AX_CELL_m_LO_TIME (m : Nat) : Field := ⟨Reg.AX_CELL_m_LO m, 15, 0⟩
def Reg.AX_CELL_OUT_w (w : Nat) : Nat := 0x122000 + 4 * w
def Fld.AX_CELL_OUT_w_VALUE (w : Nat) : Field := ⟨Reg.AX_CELL_OUT_w w, 31, 0⟩
def Reg.DX_STATUS : Nat := 0xE0000
def Fld.DX_STATUS_STATE : Field := ⟨Reg.DX_STATUS, 31, 28⟩
def Fld.DX_STATUS_ROLE : Field := ⟨Reg.DX_STATUS, 27, 26⟩
def Fld.DX_STATUS_PRIMARY : Field := ⟨Reg.DX_STATUS, 25, 25⟩
def Fld.DX_STATUS_LINK_OK : Field := ⟨Reg.DX_STATUS, 24, 24⟩
def Fld.DX_STATUS_RING_LIFE : Field := ⟨Reg.DX_STATUS, 23, 23⟩
def Fld.DX_STATUS_CLAIM_LINE : Field := ⟨Reg.DX_STATUS, 22, 21⟩
def Fld.DX_STATUS_CLAIM_VALID : Field := ⟨Reg.DX_STATUS, 20, 20⟩
def Fld.DX_STATUS_RING_COVERS : Field := ⟨Reg.DX_STATUS, 19, 19⟩
def Fld.DX_STATUS_DRILL_REFUSED : Field := ⟨Reg.DX_STATUS, 18, 18⟩
def Fld.DX_STATUS_SF : Field := ⟨Reg.DX_STATUS, 17, 17⟩
def Fld.DX_STATUS_SF_CAUSE : Field := ⟨Reg.DX_STATUS, 15, 8⟩
def Reg.DX_CFG : Nat := 0xE0004
def Fld.DX_CFG_DUPLEX : Field := ⟨Reg.DX_CFG, 31, 31⟩
def Fld.DX_CFG_SF_FQ8 : Field := ⟨Reg.DX_CFG, 30, 30⟩
def Fld.DX_CFG_MISMATCH_MAX : Field := ⟨Reg.DX_CFG, 29, 26⟩
def Reg.DX_CTRL : Nat := 0xE0008
def Fld.DX_CTRL_DRILL : Field := ⟨Reg.DX_CTRL, 31, 31⟩
def Fld.DX_CTRL_RESYNC : Field := ⟨Reg.DX_CTRL, 30, 30⟩
def Fld.DX_CTRL_CKPT_DEFER : Field := ⟨Reg.DX_CTRL, 0, 0⟩
def Reg.DX_CLAIM : Nat := 0xE000C
def Fld.DX_CLAIM_PARTNER : Field := ⟨Reg.DX_CLAIM, 31, 16⟩
def Fld.DX_CLAIM_OWN : Field := ⟨Reg.DX_CLAIM, 15, 0⟩
def Reg.DX_PARTNER : Nat := 0xE0010
def Fld.DX_PARTNER_STATE : Field := ⟨Reg.DX_PARTNER, 31, 28⟩
def Fld.DX_PARTNER_PRIMARY : Field := ⟨Reg.DX_PARTNER, 27, 27⟩
def Fld.DX_PARTNER_SF : Field := ⟨Reg.DX_PARTNER, 26, 26⟩
def Fld.DX_PARTNER_COMPAT : Field := ⟨Reg.DX_PARTNER, 25, 25⟩
def Fld.DX_PARTNER_SF_CAUSE : Field := ⟨Reg.DX_PARTNER, 23, 16⟩
def Fld.DX_PARTNER_MISSES : Field := ⟨Reg.DX_PARTNER, 15, 0⟩
def Reg.DX_HB_SEQ : Nat := 0xE0014
def Fld.DX_HB_SEQ_SEQ : Field := ⟨Reg.DX_HB_SEQ, 31, 0⟩
def Reg.DX_COUNT : Nat := 0xE0018
def Fld.DX_COUNT_TAKEOVERS : Field := ⟨Reg.DX_COUNT, 31, 24⟩
def Fld.DX_COUNT_DEMOTIONS : Field := ⟨Reg.DX_COUNT, 23, 16⟩
def Fld.DX_COUNT_LINK_LOSSES : Field := ⟨Reg.DX_COUNT, 15, 8⟩
def Fld.DX_COUNT_SYNCS : Field := ⟨Reg.DX_COUNT, 7, 0⟩
def Reg.DX_TAKEOVER : Nat := 0xE001C
def Fld.DX_TAKEOVER_REASON : Field := ⟨Reg.DX_TAKEOVER, 31, 28⟩
def Fld.DX_TAKEOVER_COLD : Field := ⟨Reg.DX_TAKEOVER, 27, 27⟩
def Fld.DX_TAKEOVER_COLD_INIT : Field := ⟨Reg.DX_TAKEOVER, 26, 26⟩
def Fld.DX_TAKEOVER_GAP : Field := ⟨Reg.DX_TAKEOVER, 15, 0⟩
def Reg.DX_SYNC_STATUS : Nat := 0xE0020
def Fld.DX_SYNC_STATUS_PHASE : Field := ⟨Reg.DX_SYNC_STATUS, 31, 28⟩
def Fld.DX_SYNC_STATUS_AGREE : Field := ⟨Reg.DX_SYNC_STATUS, 27, 24⟩
def Fld.DX_SYNC_STATUS_RUN : Field := ⟨Reg.DX_SYNC_STATUS, 23, 20⟩
def Fld.DX_SYNC_STATUS_GAPS : Field := ⟨Reg.DX_SYNC_STATUS, 19, 16⟩
def Fld.DX_SYNC_STATUS_MISMATCH : Field := ⟨Reg.DX_SYNC_STATUS, 15, 0⟩
def Reg.DX_CKPT_STATUS : Nat := 0xE0024
def Fld.DX_CKPT_STATUS_AGE_MS : Field := ⟨Reg.DX_CKPT_STATUS, 31, 16⟩
def Fld.DX_CKPT_STATUS_VALID : Field := ⟨Reg.DX_CKPT_STATUS, 15, 15⟩
def Fld.DX_CKPT_STATUS_COPY : Field := ⟨Reg.DX_CKPT_STATUS, 14, 14⟩
def Fld.DX_CKPT_STATUS_RESTORED : Field := ⟨Reg.DX_CKPT_STATUS, 13, 13⟩
def Reg.DX_CKPT_n_BASE (n : Nat) : Nat := 0xE0040 + 8 * n
def Fld.DX_CKPT_n_BASE_BASE (n : Nat) : Field := ⟨Reg.DX_CKPT_n_BASE n, 16, 0⟩
def Reg.DX_CKPT_n_SIZE (n : Nat) : Nat := 0xE0044 + 8 * n
def Fld.DX_CKPT_n_SIZE_SIZE (n : Nat) : Field := ⟨Reg.DX_CKPT_n_SIZE n, 4, 0⟩
def Reg.JC_HOST_CFG : Nat := 0x100
def Fld.JC_HOST_CFG_ROLE : Field := ⟨Reg.JC_HOST_CFG, 3, 3⟩
def Fld.JC_HOST_CFG_EXCL : Field := ⟨Reg.JC_HOST_CFG, 2, 2⟩
def Fld.JC_HOST_CFG_TROUBLE : Field := ⟨Reg.JC_HOST_CFG, 1, 1⟩
def Fld.JC_HOST_CFG_EY : Field := ⟨Reg.JC_HOST_CFG, 0, 0⟩
def Reg.JC_HOST_ALERT : Nat := 0x104
def Fld.JC_HOST_ALERT_ROLE : Field := ⟨Reg.JC_HOST_ALERT, 3, 3⟩
def Fld.JC_HOST_ALERT_EXCL : Field := ⟨Reg.JC_HOST_ALERT, 2, 2⟩
def Fld.JC_HOST_ALERT_TROUBLE : Field := ⟨Reg.JC_HOST_ALERT, 1, 1⟩
def Fld.JC_HOST_ALERT_EY : Field := ⟨Reg.JC_HOST_ALERT, 0, 0⟩
def Reg.ETH_CFG : Nat := 0xA0000
def Fld.ETH_CFG_PD_ETYPE : Field := ⟨Reg.ETH_CFG, 31, 16⟩
def Fld.ETH_CFG_DOMAIN : Field := ⟨Reg.ETH_CFG, 15, 8⟩
def Fld.ETH_CFG_OC_EN : Field := ⟨Reg.ETH_CFG, 1, 1⟩
def Fld.ETH_CFG_TC_EN : Field := ⟨Reg.ETH_CFG, 0, 0⟩
def Reg.ETH_IN_BASE : Nat := 0xA0004
def Fld.ETH_IN_BASE_OFS4 : Field := ⟨Reg.ETH_IN_BASE, 13, 0⟩
def Reg.ETH_TXR_IDX : Nat := 0xA0010
def Fld.ETH_TXR_IDX_PROD : Field := ⟨Reg.ETH_TXR_IDX, 25, 16⟩
def Fld.ETH_TXR_IDX_CONS : Field := ⟨Reg.ETH_TXR_IDX, 9, 0⟩
def Reg.ETH_RXR_IDX : Nat := 0xA0014
def Fld.ETH_RXR_IDX_PROD : Field := ⟨Reg.ETH_RXR_IDX, 25, 16⟩
def Fld.ETH_RXR_IDX_CONS : Field := ⟨Reg.ETH_RXR_IDX, 9, 0⟩
def Reg.ETH_QLIM_q (q : Nat) : Nat := 0xA0040 + 4 * q
def Fld.ETH_QLIM_q_KB (q : Nat) : Field := ⟨Reg.ETH_QLIM_q q, 9, 0⟩
def Reg.ETH_PORT_p_CFG (p : Nat) : Nat := 0xA0100 + 32 * p
def Fld.ETH_PORT_p_CFG_EN (p : Nat) : Field := ⟨Reg.ETH_PORT_p_CFG p, 31, 31⟩
def Fld.ETH_PORT_p_CFG_BLOCK (p : Nat) : Field := ⟨Reg.ETH_PORT_p_CFG p, 30, 30⟩
def Fld.ETH_PORT_p_CFG_LEARN (p : Nat) : Field := ⟨Reg.ETH_PORT_p_CFG p, 29, 29⟩
def Fld.ETH_PORT_p_CFG_SPEED (p : Nat) : Field := ⟨Reg.ETH_PORT_p_CFG p, 28, 27⟩
def Fld.ETH_PORT_p_CFG_DEF_PCP (p : Nat) : Field := ⟨Reg.ETH_PORT_p_CFG p, 26, 24⟩
def Fld.ETH_PORT_p_CFG_PVID (p : Nat) : Field := ⟨Reg.ETH_PORT_p_CFG p, 11, 0⟩
def Reg.ETH_PORT_p_STAT (p : Nat) : Nat := 0xA0104 + 32 * p
def Fld.ETH_PORT_p_STAT_LINK (p : Nat) : Field := ⟨Reg.ETH_PORT_p_STAT p, 31, 31⟩
def Fld.ETH_PORT_p_STAT_RATE (p : Nat) : Field := ⟨Reg.ETH_PORT_p_STAT p, 30, 29⟩
def Fld.ETH_PORT_p_STAT_DUPLEX_ERR (p : Nat) : Field := ⟨Reg.ETH_PORT_p_STAT p, 28, 28⟩
def Fld.ETH_PORT_p_STAT_LINK_DOWNS (p : Nat) : Field := ⟨Reg.ETH_PORT_p_STAT p, 15, 0⟩
def Reg.ETH_PORT_p_RX_ERR (p : Nat) : Nat := 0xA0108 + 32 * p
def Fld.ETH_PORT_p_RX_ERR_FCS_LEN (p : Nat) : Field := ⟨Reg.ETH_PORT_p_RX_ERR p, 31, 16⟩
def Fld.ETH_PORT_p_RX_ERR_PAUSE (p : Nat) : Field := ⟨Reg.ETH_PORT_p_RX_ERR p, 15, 0⟩
def Reg.ETH_PORT_p_RX_DROP (p : Nat) : Nat := 0xA010C + 32 * p
def Fld.ETH_PORT_p_RX_DROP_NO_BUF (p : Nat) : Field := ⟨Reg.ETH_PORT_p_RX_DROP p, 31, 16⟩
def Fld.ETH_PORT_p_RX_DROP_VLAN (p : Nat) : Field := ⟨Reg.ETH_PORT_p_RX_DROP p, 15, 0⟩
def Reg.ETH_PORT_p_QDROP_j (p j : Nat) : Nat := 0xA0110 + 32 * p + 4 * j
def Fld.ETH_PORT_p_QDROP_j_Q_ODD (p j : Nat) : Field := ⟨Reg.ETH_PORT_p_QDROP_j p j, 31, 16⟩
def Fld.ETH_PORT_p_QDROP_j_Q_EVEN (p j : Nat) : Field := ⟨Reg.ETH_PORT_p_QDROP_j p j, 15, 0⟩
def Reg.ETH_VLAN_v (v : Nat) : Nat := 0xA0200 + 4 * v
def Fld.ETH_VLAN_v_EN (v : Nat) : Field := ⟨Reg.ETH_VLAN_v v, 31, 31⟩
def Fld.ETH_VLAN_v_VID (v : Nat) : Field := ⟨Reg.ETH_VLAN_v v, 27, 16⟩
def Fld.ETH_VLAN_v_MEMBER (v : Nat) : Field := ⟨Reg.ETH_VLAN_v v, 15, 8⟩
def Fld.ETH_VLAN_v_UNTAG (v : Nat) : Field := ⟨Reg.ETH_VLAN_v v, 7, 0⟩
def Reg.ETH_MAC_m_HI (m : Nat) : Nat := 0xA0300 + 8 * m
def Fld.ETH_MAC_m_HI_ADDR (m : Nat) : Field := ⟨Reg.ETH_MAC_m_HI m, 31, 0⟩
def Reg.ETH_MAC_m_LO (m : Nat) : Nat := 0xA0304 + 8 * m
def Fld.ETH_MAC_m_LO_ADDR (m : Nat) : Field := ⟨Reg.ETH_MAC_m_LO m, 31, 0⟩
def Reg.ETH_PD_n_A (n : Nat) : Nat := 0xA0400 + 16 * n
def Fld.ETH_PD_n_A_EN (n : Nat) : Field := ⟨Reg.ETH_PD_n_A n, 31, 31⟩
def Fld.ETH_PD_n_A_DIR (n : Nat) : Field := ⟨Reg.ETH_PD_n_A n, 30, 30⟩
def Fld.ETH_PD_n_A_SEL (n : Nat) : Field := ⟨Reg.ETH_PD_n_A n, 29, 28⟩
def Fld.ETH_PD_n_A_MAC (n : Nat) : Field := ⟨Reg.ETH_PD_n_A n, 27, 24⟩
def Fld.ETH_PD_n_A_PCP (n : Nat) : Field := ⟨Reg.ETH_PD_n_A n, 23, 21⟩
def Fld.ETH_PD_n_A_VID (n : Nat) : Field := ⟨Reg.ETH_PD_n_A n, 20, 9⟩
def Fld.ETH_PD_n_A_LEN4 (n : Nat) : Field := ⟨Reg.ETH_PD_n_A n, 8, 0⟩
def Reg.ETH_PD_n_B (n : Nat) : Nat := 0xA0404 + 16 * n
def Fld.ETH_PD_n_B_STREAM (n : Nat) : Field := ⟨Reg.ETH_PD_n_B n, 31, 16⟩
def Fld.ETH_PD_n_B_IMG4_CONN (n : Nat) : Field := ⟨Reg.ETH_PD_n_B n, 13, 0⟩
def Reg.ETH_PD_n_STAT (n : Nat) : Nat := 0xA040C + 16 * n
def Fld.ETH_PD_n_STAT_FRESH (n : Nat) : Field := ⟨Reg.ETH_PD_n_STAT n, 31, 31⟩
def Fld.ETH_PD_n_STAT_LATE (n : Nat) : Field := ⟨Reg.ETH_PD_n_STAT n, 23, 16⟩
def Fld.ETH_PD_n_STAT_FRAMES (n : Nat) : Field := ⟨Reg.ETH_PD_n_STAT n, 15, 0⟩
def Reg.MVB_STATUS : Nat := 0xB0000
def Fld.MVB_STATUS_BA_ACTIVE : Field := ⟨Reg.MVB_STATUS, 31, 31⟩
def Fld.MVB_STATUS_MASTER_CLASH : Field := ⟨Reg.MVB_STATUS, 30, 30⟩
def Fld.MVB_STATUS_BA_RESUME : Field := ⟨Reg.MVB_STATUS, 29, 29⟩
def Fld.MVB_STATUS_TRUSTED : Field := ⟨Reg.MVB_STATUS, 28, 28⟩
def Fld.MVB_STATUS_LOAD : Field := ⟨Reg.MVB_STATUS, 9, 0⟩
def Reg.MVB_CFG : Nat := 0xB0004
def Fld.MVB_CFG_EN : Field := ⟨Reg.MVB_CFG, 31, 31⟩
def Fld.MVB_CFG_BA : Field := ⟨Reg.MVB_CFG, 30, 30⟩
def Fld.MVB_CFG_BP : Field := ⟨Reg.MVB_CFG, 29, 29⟩
def Fld.MVB_CFG_DEV_ADDR : Field := ⟨Reg.MVB_CFG, 27, 16⟩
def Reg.MVB_LINE_ERR : Nat := 0xB0008
def Fld.MVB_LINE_ERR_LINE_A : Field := ⟨Reg.MVB_LINE_ERR, 31, 16⟩
def Fld.MVB_LINE_ERR_LINE_B : Field := ⟨Reg.MVB_LINE_ERR, 15, 0⟩
def Reg.MVB_IN_BASE : Nat := 0xB000C
def Fld.MVB_IN_BASE_OFS4 : Field := ⟨Reg.MVB_IN_BASE, 13, 0⟩
def Reg.MVB_PORT_n_CFG (n : Nat) : Nat := 0xB1000 + 8 * n
def Fld.MVB_PORT_n_CFG_EN (n : Nat) : Field := ⟨Reg.MVB_PORT_n_CFG n, 31, 31⟩
def Fld.MVB_PORT_n_CFG_DIR (n : Nat) : Field := ⟨Reg.MVB_PORT_n_CFG n, 30, 30⟩
def Fld.MVB_PORT_n_CFG_GUSSET (n : Nat) : Field := ⟨Reg.MVB_PORT_n_CFG n, 29, 29⟩
def Fld.MVB_PORT_n_CFG_FCODE (n : Nat) : Field := ⟨Reg.MVB_PORT_n_CFG n, 28, 26⟩
def Fld.MVB_PORT_n_CFG_ADDR (n : Nat) : Field := ⟨Reg.MVB_PORT_n_CFG n, 25, 14⟩
def Fld.MVB_PORT_n_CFG_IMG4 (n : Nat) : Field := ⟨Reg.MVB_PORT_n_CFG n, 13, 0⟩
def Reg.MVB_PORT_n_STAT (n : Nat) : Nat := 0xB1004 + 8 * n
def Fld.MVB_PORT_n_STAT_FRESH (n : Nat) : Field := ⟨Reg.MVB_PORT_n_STAT n, 31, 31⟩
def Fld.MVB_PORT_n_STAT_LIMIT (n : Nat) : Field := ⟨Reg.MVB_PORT_n_STAT n, 30, 20⟩
def Fld.MVB_PORT_n_STAT_AGE (n : Nat) : Field := ⟨Reg.MVB_PORT_n_STAT n, 15, 0⟩
def Reg.MVB_POLL_j (j : Nat) : Nat := 0xB4000 + 4 * j
def Fld.MVB_POLL_j_EN (j : Nat) : Field := ⟨Reg.MVB_POLL_j j, 31, 31⟩
def Fld.MVB_POLL_j_FCODE (j : Nat) : Field := ⟨Reg.MVB_POLL_j j, 30, 28⟩
def Fld.MVB_POLL_j_ADDR (j : Nat) : Field := ⟨Reg.MVB_POLL_j j, 27, 16⟩
def Fld.MVB_POLL_j_EXP (j : Nat) : Field := ⟨Reg.MVB_POLL_j j, 15, 12⟩
def Fld.MVB_POLL_j_PHASE (j : Nat) : Field := ⟨Reg.MVB_POLL_j j, 9, 0⟩
def Reg.CAN_CTL_c_STATUS (c : Nat) : Nat := 0xC0000 + 16384 * c
def Fld.CAN_CTL_c_STATUS_STATE (c : Nat) : Field := ⟨Reg.CAN_CTL_c_STATUS c, 31, 30⟩
def Fld.CAN_CTL_c_STATUS_LISTEN (c : Nat) : Field := ⟨Reg.CAN_CTL_c_STATUS c, 29, 29⟩
def Fld.CAN_CTL_c_STATUS_BUSOFF_SEEN (c : Nat) : Field := ⟨Reg.CAN_CTL_c_STATUS c, 28, 28⟩
def Fld.CAN_CTL_c_STATUS_TEC (c : Nat) : Field := ⟨Reg.CAN_CTL_c_STATUS c, 15, 8⟩
def Fld.CAN_CTL_c_STATUS_REC (c : Nat) : Field := ⟨Reg.CAN_CTL_c_STATUS c, 7, 0⟩
def Reg.CAN_CTL_c_CFG (c : Nat) : Nat := 0xC0004 + 16384 * c
def Fld.CAN_CTL_c_CFG_EN (c : Nat) : Field := ⟨Reg.CAN_CTL_c_CFG c, 31, 31⟩
def Fld.CAN_CTL_c_CFG_FD (c : Nat) : Field := ⟨Reg.CAN_CTL_c_CFG c, 30, 30⟩
def Fld.CAN_CTL_c_CFG_TERM (c : Nat) : Field := ⟨Reg.CAN_CTL_c_CFG c, 29, 29⟩
def Fld.CAN_CTL_c_CFG_AUTO_REC (c : Nat) : Field := ⟨Reg.CAN_CTL_c_CFG c, 28, 28⟩
def Fld.CAN_CTL_c_CFG_MON (c : Nat) : Field := ⟨Reg.CAN_CTL_c_CFG c, 27, 27⟩
def Fld.CAN_CTL_c_CFG_REST (c : Nat) : Field := ⟨Reg.CAN_CTL_c_CFG c, 26, 26⟩
def Reg.CAN_CTL_c_NBT (c : Nat) : Nat := 0xC0008 + 16384 * c
def Fld.CAN_CTL_c_NBT_BRP (c : Nat) : Field := ⟨Reg.CAN_CTL_c_NBT c, 26, 22⟩
def Fld.CAN_CTL_c_NBT_TSEG1 (c : Nat) : Field := ⟨Reg.CAN_CTL_c_NBT c, 21, 14⟩
def Fld.CAN_CTL_c_NBT_TSEG2 (c : Nat) : Field := ⟨Reg.CAN_CTL_c_NBT c, 13, 7⟩
def Fld.CAN_CTL_c_NBT_SJW (c : Nat) : Field := ⟨Reg.CAN_CTL_c_NBT c, 6, 0⟩
def Reg.CAN_CTL_c_DBT (c : Nat) : Nat := 0xC000C + 16384 * c
def Fld.CAN_CTL_c_DBT_TDC (c : Nat) : Field := ⟨Reg.CAN_CTL_c_DBT c, 31, 31⟩
def Fld.CAN_CTL_c_DBT_BRP (c : Nat) : Field := ⟨Reg.CAN_CTL_c_DBT c, 26, 22⟩
def Fld.CAN_CTL_c_DBT_TSEG1 (c : Nat) : Field := ⟨Reg.CAN_CTL_c_DBT c, 21, 14⟩
def Fld.CAN_CTL_c_DBT_TSEG2 (c : Nat) : Field := ⟨Reg.CAN_CTL_c_DBT c, 13, 7⟩
def Fld.CAN_CTL_c_DBT_SJW (c : Nat) : Field := ⟨Reg.CAN_CTL_c_DBT c, 6, 0⟩
def Reg.CAN_CTL_c_ERR (c : Nat) : Nat := 0xC0010 + 16384 * c
def Fld.CAN_CTL_c_ERR_RECOVER (c : Nat) : Field := ⟨Reg.CAN_CTL_c_ERR c, 31, 31⟩
def Fld.CAN_CTL_c_ERR_BUSOFFS (c : Nat) : Field := ⟨Reg.CAN_CTL_c_ERR c, 23, 16⟩
def Fld.CAN_CTL_c_ERR_RTR (c : Nat) : Field := ⟨Reg.CAN_CTL_c_ERR c, 15, 8⟩
def Fld.CAN_CTL_c_ERR_LAST_ERR (c : Nat) : Field := ⟨Reg.CAN_CTL_c_ERR c, 7, 0⟩
def Reg.CAN_CTL_c_MB_m_ID (c m : Nat) : Nat := 0xC0100 + 16384 * c + 128 * m
def Fld.CAN_CTL_c_MB_m_ID_XTD (c m : Nat) : Field := ⟨Reg.CAN_CTL_c_MB_m_ID c m, 31, 31⟩
def Fld.CAN_CTL_c_MB_m_ID_ID (c m : Nat) : Field := ⟨Reg.CAN_CTL_c_MB_m_ID c m, 28, 0⟩
def Reg.CAN_CTL_c_MB_m_MASK (c m : Nat) : Nat := 0xC0104 + 16384 * c + 128 * m
def Fld.CAN_CTL_c_MB_m_MASK_ID (c m : Nat) : Field := ⟨Reg.CAN_CTL_c_MB_m_MASK c m, 28, 0⟩
def Reg.CAN_CTL_c_MB_m_CTRL (c m : Nat) : Nat := 0xC0108 + 16384 * c + 128 * m
def Fld.CAN_CTL_c_MB_m_CTRL_SEND (c m : Nat) : Field := ⟨Reg.CAN_CTL_c_MB_m_CTRL c m, 31, 31⟩
def Fld.CAN_CTL_c_MB_m_CTRL_KIND (c m : Nat) : Field := ⟨Reg.CAN_CTL_c_MB_m_CTRL c m, 30, 29⟩
def Fld.CAN_CTL_c_MB_m_CTRL_GUSSET (c m : Nat) : Field := ⟨Reg.CAN_CTL_c_MB_m_CTRL c m, 28, 28⟩
def Fld.CAN_CTL_c_MB_m_CTRL_FDF (c m : Nat) : Field := ⟨Reg.CAN_CTL_c_MB_m_CTRL c m, 27, 27⟩
def Fld.CAN_CTL_c_MB_m_CTRL_BRS (c m : Nat) : Field := ⟨Reg.CAN_CTL_c_MB_m_CTRL c m, 26, 26⟩
def Fld.CAN_CTL_c_MB_m_CTRL_DLC (c m : Nat) : Field := ⟨Reg.CAN_CTL_c_MB_m_CTRL c m, 19, 16⟩
def Fld.CAN_CTL_c_MB_m_CTRL_SOFT (c m : Nat) : Field := ⟨Reg.CAN_CTL_c_MB_m_CTRL c m, 15, 15⟩
def Fld.CAN_CTL_c_MB_m_CTRL_IMG4 (c m : Nat) : Field := ⟨Reg.CAN_CTL_c_MB_m_CTRL c m, 13, 0⟩
def Reg.CAN_CTL_c_MB_m_STAT (c m : Nat) : Nat := 0xC010C + 16384 * c + 128 * m
def Fld.CAN_CTL_c_MB_m_STAT_PEND (c m : Nat) : Field := ⟨Reg.CAN_CTL_c_MB_m_STAT c m, 31, 31⟩
def Fld.CAN_CTL_c_MB_m_STAT_NEW (c m : Nat) : Field := ⟨Reg.CAN_CTL_c_MB_m_STAT c m, 30, 30⟩
def Fld.CAN_CTL_c_MB_m_STAT_OVR (c m : Nat) : Field := ⟨Reg.CAN_CTL_c_MB_m_STAT c m, 29, 29⟩
def Fld.CAN_CTL_c_MB_m_STAT_LATE (c m : Nat) : Field := ⟨Reg.CAN_CTL_c_MB_m_STAT c m, 15, 0⟩
def Reg.CAN_CTL_c_MB_m_DATA_w (c m w : Nat) : Nat := 0xC0110 + 16384 * c + 128 * m + 4 * w
def Fld.CAN_CTL_c_MB_m_DATA_w_BYTES (c m w : Nat) : Field := ⟨Reg.CAN_CTL_c_MB_m_DATA_w c m w, 31, 0⟩
def Reg.GB_STATUS : Nat := 0x70000
def Fld.GB_STATUS_PEF_VALID : Field := ⟨Reg.GB_STATUS, 31, 31⟩
def Fld.GB_STATUS_PEF_OVF : Field := ⟨Reg.GB_STATUS, 30, 30⟩
def Fld.GB_STATUS_SAT_SEEN : Field := ⟨Reg.GB_STATUS, 29, 29⟩
def Fld.GB_STATUS_PEF_COUNT : Field := ⟨Reg.GB_STATUS, 28, 24⟩
def Fld.GB_STATUS_HALTED : Field := ⟨Reg.GB_STATUS, 15, 0⟩
def Reg.GB_CFG : Nat := 0x70004
def Fld.GB_CFG_PE_EY : Field := ⟨Reg.GB_CFG, 31, 27⟩
def Fld.GB_CFG_NP_TMO : Field := ⟨Reg.GB_CFG, 15, 0⟩
def Reg.GB_IN_SECT : Nat := 0x70008
def Fld.GB_IN_SECT_SIZE4 : Field := ⟨Reg.GB_IN_SECT, 31, 16⟩
def Fld.GB_IN_SECT_OFS4 : Field := ⟨Reg.GB_IN_SECT, 13, 0⟩
def Reg.GB_COUNT : Nat := 0x7000C
def Fld.GB_COUNT_SATURATED : Field := ⟨Reg.GB_COUNT, 31, 16⟩
def Fld.GB_COUNT_REPLACED : Field := ⟨Reg.GB_COUNT, 15, 0⟩
def Reg.GB_MSG_COUNT : Nat := 0x70010
def Fld.GB_MSG_COUNT_BAD_KIND : Field := ⟨Reg.GB_MSG_COUNT, 31, 16⟩
def Fld.GB_MSG_COUNT_LATE_CPL : Field := ⟨Reg.GB_MSG_COUNT, 15, 8⟩
def Fld.GB_MSG_COUNT_SHORT : Field := ⟨Reg.GB_MSG_COUNT, 7, 0⟩
def Reg.GB_SAT_LAST : Nat := 0x70014
def Fld.GB_SAT_LAST_VALID : Field := ⟨Reg.GB_SAT_LAST, 31, 31⟩
def Fld.GB_SAT_LAST_ENTRY : Field := ⟨Reg.GB_SAT_LAST, 9, 0⟩
def Reg.GB_PEF_INFO : Nat := 0x70020
def Fld.GB_PEF_INFO_CAUSE : Field := ⟨Reg.GB_PEF_INFO, 31, 28⟩
def Fld.GB_PEF_INFO_INIT : Field := ⟨Reg.GB_PEF_INFO, 27, 25⟩
def Fld.GB_PEF_INFO_WIN : Field := ⟨Reg.GB_PEF_INFO, 24, 21⟩
def Fld.GB_PEF_INFO_NODE : Field := ⟨Reg.GB_PEF_INFO, 7, 0⟩
def Reg.GB_PEF_ADDR : Nat := 0x70024
def Fld.GB_PEF_ADDR_ADDR : Field := ⟨Reg.GB_PEF_ADDR, 31, 0⟩
def Reg.GB_PEF_TAG : Nat := 0x70028
def Fld.GB_PEF_TAG_SEQ : Field := ⟨Reg.GB_PEF_TAG, 31, 16⟩
def Fld.GB_PEF_TAG_TAG : Field := ⟨Reg.GB_PEF_TAG, 15, 0⟩
def Reg.GB_PEF_CTRL : Nat := 0x7002C
def Fld.GB_PEF_CTRL_LOST : Field := ⟨Reg.GB_PEF_CTRL, 31, 16⟩
def Fld.GB_PEF_CTRL_POP : Field := ⟨Reg.GB_PEF_CTRL, 0, 0⟩
def Reg.GB_CPL_i (i : Nat) : Nat := 0x70040 + 4 * i
def Fld.GB_CPL_i_PENDING (i : Nat) : Field := ⟨Reg.GB_CPL_i i, 31, 31⟩
def Fld.GB_CPL_i_RESULT (i : Nat) : Field := ⟨Reg.GB_CPL_i i, 27, 24⟩
def Fld.GB_CPL_i_WIN (i : Nat) : Field := ⟨Reg.GB_CPL_i i, 23, 20⟩
def Fld.GB_CPL_i_SEQ (i : Nat) : Field := ⟨Reg.GB_CPL_i i, 15, 0⟩
def Reg.GB_WIN_n_CFG (n : Nat) : Nat := 0x70100 + 32 * n
def Fld.GB_WIN_n_CFG_EN (n : Nat) : Field := ⟨Reg.GB_WIN_n_CFG n, 31, 31⟩
def Fld.GB_WIN_n_CFG_NP (n : Nat) : Field := ⟨Reg.GB_WIN_n_CFG n, 30, 30⟩
def Fld.GB_WIN_n_CFG_HALT (n : Nat) : Field := ⟨Reg.GB_WIN_n_CFG n, 29, 29⟩
def Fld.GB_WIN_n_CFG_RING (n : Nat) : Field := ⟨Reg.GB_WIN_n_CFG n, 28, 28⟩
def Fld.GB_WIN_n_CFG_DEST (n : Nat) : Field := ⟨Reg.GB_WIN_n_CFG n, 20, 13⟩
def Fld.GB_WIN_n_CFG_APT_BASE (n : Nat) : Field := ⟨Reg.GB_WIN_n_CFG n, 12, 0⟩
def Reg.GB_WIN_n_REMOTE (n : Nat) : Nat := 0x70104 + 32 * n
def Fld.GB_WIN_n_REMOTE_REMOTE (n : Nat) : Field := ⟨Reg.GB_WIN_n_REMOTE n, 31, 0⟩
def Reg.GB_WIN_n_SIZE (n : Nat) : Nat := 0x70108 + 32 * n
def Fld.GB_WIN_n_SIZE_WORDS (n : Nat) : Field := ⟨Reg.GB_WIN_n_SIZE n, 13, 0⟩
def Reg.GB_WIN_n_STAT (n : Nat) : Nat := 0x7010C + 32 * n
def Fld.GB_WIN_n_STAT_DROPPED (n : Nat) : Field := ⟨Reg.GB_WIN_n_STAT n, 31, 16⟩
def Fld.GB_WIN_n_STAT_SEQ (n : Nat) : Field := ⟨Reg.GB_WIN_n_STAT n, 15, 0⟩
def Reg.GB_WIN_n_CTRL (n : Nat) : Nat := 0x70110 + 32 * n
def Fld.GB_WIN_n_CTRL_RESUME (n : Nat) : Field := ⟨Reg.GB_WIN_n_CTRL n, 31, 31⟩
def Fld.GB_WIN_n_CTRL_TAG (n : Nat) : Field := ⟨Reg.GB_WIN_n_CTRL n, 15, 0⟩
def Reg.GB_WIN_n_SIG (n : Nat) : Nat := 0x70114 + 32 * n
def Fld.GB_WIN_n_SIG_CODE (n : Nat) : Field := ⟨Reg.GB_WIN_n_SIG n, 31, 0⟩
def Reg.GB_IN_n_CFG (n : Nat) : Nat := 0x70300 + 16 * n
def Fld.GB_IN_n_CFG_EN (n : Nat) : Field := ⟨Reg.GB_IN_n_CFG n, 31, 31⟩
def Fld.GB_IN_n_CFG_EY (n : Nat) : Field := ⟨Reg.GB_IN_n_CFG n, 30, 26⟩
def Fld.GB_IN_n_CFG_SRC (n : Nat) : Field := ⟨Reg.GB_IN_n_CFG n, 7, 0⟩
def Reg.GB_IN_n_BASE (n : Nat) : Nat := 0x70304 + 16 * n
def Fld.GB_IN_n_BASE_BASE (n : Nat) : Field := ⟨Reg.GB_IN_n_BASE n, 31, 0⟩
def Reg.GB_IN_n_PAGES (n : Nat) : Nat := 0x70308 + 16 * n
def Fld.GB_IN_n_PAGES_PAGES (n : Nat) : Field := ⟨Reg.GB_IN_n_PAGES n, 17, 0⟩
def Reg.GB_IN_n_STAT (n : Nat) : Nat := 0x7030C + 16 * n
def Fld.GB_IN_n_STAT_APPLIED (n : Nat) : Field := ⟨Reg.GB_IN_n_STAT n, 31, 16⟩
def Fld.GB_IN_n_STAT_REFUSED (n : Nat) : Field := ⟨Reg.GB_IN_n_STAT n, 15, 0⟩
def Reg.GB_MAP_e_SRC (e : Nat) : Nat := 0x71000 + 32 * e
def Fld.GB_MAP_e_SRC_EN (e : Nat) : Field := ⟨Reg.GB_MAP_e_SRC e, 31, 31⟩
def Fld.GB_MAP_e_SRC_KIND (e : Nat) : Field := ⟨Reg.GB_MAP_e_SRC e, 30, 28⟩
def Fld.GB_MAP_e_SRC_SIGNED (e : Nat) : Field := ⟨Reg.GB_MAP_e_SRC e, 27, 27⟩
def Fld.GB_MAP_e_SRC_ORDER (e : Nat) : Field := ⟨Reg.GB_MAP_e_SRC e, 26, 26⟩
def Fld.GB_MAP_e_SRC_WIDTH (e : Nat) : Field := ⟨Reg.GB_MAP_e_SRC e, 25, 21⟩
def Fld.GB_MAP_e_SRC_BIT (e : Nat) : Field := ⟨Reg.GB_MAP_e_SRC e, 18, 0⟩
def Reg.GB_MAP_e_SIDX (e : Nat) : Nat := 0x71004 + 32 * e
def Fld.GB_MAP_e_SIDX_INDEX (e : Nat) : Field := ⟨Reg.GB_MAP_e_SIDX e, 9, 0⟩
def Reg.GB_MAP_e_DST (e : Nat) : Nat := 0x71008 + 32 * e
def Fld.GB_MAP_e_DST_DKIND (e : Nat) : Field := ⟨Reg.GB_MAP_e_DST e, 31, 31⟩
def Fld.GB_MAP_e_DST_DSIGNED (e : Nat) : Field := ⟨Reg.GB_MAP_e_DST e, 30, 30⟩
def Fld.GB_MAP_e_DST_DWIDTH (e : Nat) : Field := ⟨Reg.GB_MAP_e_DST e, 29, 25⟩
def Fld.GB_MAP_e_DST_DBIT (e : Nat) : Field := ⟨Reg.GB_MAP_e_DST e, 18, 0⟩
def Reg.GB_MAP_e_A (e : Nat) : Nat := 0x7100C + 32 * e
def Fld.GB_MAP_e_A_VALUE (e : Nat) : Field := ⟨Reg.GB_MAP_e_A e, 31, 0⟩
def Reg.GB_MAP_e_B (e : Nat) : Nat := 0x71010 + 32 * e
def Fld.GB_MAP_e_B_VALUE (e : Nat) : Field := ⟨Reg.GB_MAP_e_B e, 31, 0⟩
def Reg.GB_APT_w (w : Nat) : Nat := 0x78000 + 4 * w
def Fld.GB_APT_w_DATA (w : Nat) : Field := ⟨Reg.GB_APT_w w, 31, 0⟩
def Reg.SH_STATUS : Nat := 0x80000
def Fld.SH_STATUS_ERROR : Field := ⟨Reg.SH_STATUS, 31, 16⟩
def Fld.SH_STATUS_ACTIVE : Field := ⟨Reg.SH_STATUS, 15, 0⟩
def Reg.SH_CFG : Nat := 0x80004
def Fld.SH_CFG_GB_WEIGHT : Field := ⟨Reg.SH_CFG, 19, 16⟩
def Reg.SH_LW_BASE : Nat := 0x80008
def Fld.SH_LW_BASE_PAGES : Field := ⟨Reg.SH_LW_BASE, 20, 0⟩
def Reg.SH_LW_SIZE : Nat := 0x8000C
def Fld.SH_LW_SIZE_PAGES : Field := ⟨Reg.SH_LW_SIZE, 20, 0⟩
def Reg.SH_GB_STALL : Nat := 0x80010
def Fld.SH_GB_STALL_JC : Field := ⟨Reg.SH_GB_STALL, 31, 0⟩
def Reg.SH_IRQ : Nat := 0x80014
def Fld.SH_IRQ_CH : Field := ⟨Reg.SH_IRQ, 15, 0⟩
def Reg.SH_CH_c_CFG (c : Nat) : Nat := 0x80100 + 64 * c
def Fld.SH_CH_c_CFG_SECURE (c : Nat) : Field := ⟨Reg.SH_CH_c_CFG c, 31, 31⟩
def Fld.SH_CH_c_CFG_WEIGHT (c : Nat) : Field := ⟨Reg.SH_CH_c_CFG c, 19, 16⟩
def Fld.SH_CH_c_CFG_IRQ (c : Nat) : Field := ⟨Reg.SH_CH_c_CFG c, 15, 15⟩
def Reg.SH_CH_c_PC (c : Nat) : Nat := 0x80104 + 64 * c
def Fld.SH_CH_c_PC_JUMP (c : Nat) : Field := ⟨Reg.SH_CH_c_PC c, 31, 31⟩
def Fld.SH_CH_c_PC_ENTRY (c : Nat) : Field := ⟨Reg.SH_CH_c_PC c, 24, 16⟩
def Fld.SH_CH_c_PC_PC (c : Nat) : Field := ⟨Reg.SH_CH_c_PC c, 8, 0⟩
def Reg.SH_CH_c_CTRL (c : Nat) : Nat := 0x80108 + 64 * c
def Fld.SH_CH_c_CTRL_START (c : Nat) : Field := ⟨Reg.SH_CH_c_CTRL c, 31, 31⟩
def Fld.SH_CH_c_CTRL_STOP (c : Nat) : Field := ⟨Reg.SH_CH_c_CTRL c, 30, 30⟩
def Fld.SH_CH_c_CTRL_COMMIT (c : Nat) : Field := ⟨Reg.SH_CH_c_CTRL c, 29, 29⟩
def Fld.SH_CH_c_CTRL_BASTE_PENDING (c : Nat) : Field := ⟨Reg.SH_CH_c_CTRL c, 28, 28⟩
def Fld.SH_CH_c_CTRL_CLEAR (c : Nat) : Field := ⟨Reg.SH_CH_c_CTRL c, 27, 27⟩
def Reg.SH_CH_c_STAT (c : Nat) : Nat := 0x8010C + 64 * c
def Fld.SH_CH_c_STAT_STATE (c : Nat) : Field := ⟨Reg.SH_CH_c_STAT c, 31, 29⟩
def Fld.SH_CH_c_STAT_DONE (c : Nat) : Field := ⟨Reg.SH_CH_c_STAT c, 28, 28⟩
def Fld.SH_CH_c_STAT_STOP_PEND (c : Nat) : Field := ⟨Reg.SH_CH_c_STAT c, 27, 27⟩
def Fld.SH_CH_c_STAT_ERR (c : Nat) : Field := ⟨Reg.SH_CH_c_STAT c, 23, 20⟩
def Fld.SH_CH_c_STAT_ERR_PC (c : Nat) : Field := ⟨Reg.SH_CH_c_STAT c, 8, 0⟩
def Reg.SH_CH_c_CNT (c : Nat) : Nat := 0x80110 + 64 * c
def Fld.SH_CH_c_CNT_OVERRUN (c : Nat) : Field := ⟨Reg.SH_CH_c_CNT c, 31, 16⟩
def Fld.SH_CH_c_CNT_BURSTS (c : Nat) : Field := ⟨Reg.SH_CH_c_CNT c, 15, 0⟩
def Reg.SH_CH_c_STALL (c : Nat) : Nat := 0x80114 + 64 * c
def Fld.SH_CH_c_STALL_JC (c : Nat) : Field := ⟨Reg.SH_CH_c_STALL c, 31, 0⟩
def Reg.SH_CH_c_MSG (c : Nat) : Nat := 0x80118 + 64 * c
def Fld.SH_CH_c_MSG_VALUE (c : Nat) : Field := ⟨Reg.SH_CH_c_MSG c, 31, 0⟩
def Reg.SH_CH_c_SOFS (c : Nat) : Nat := 0x8011C + 64 * c
def Fld.SH_CH_c_SOFS_VALUE (c : Nat) : Field := ⟨Reg.SH_CH_c_SOFS c, 31, 0⟩
def Reg.SH_CH_c_DOFS (c : Nat) : Nat := 0x80120 + 64 * c
def Fld.SH_CH_c_DOFS_VALUE (c : Nat) : Field := ⟨Reg.SH_CH_c_DOFS c, 31, 0⟩
def Reg.SH_SH_CH_c_CFG (c : Nat) : Nat := 0x80124 + 64 * c
def Fld.SH_SH_CH_c_CFG_SECURE (c : Nat) : Field := ⟨Reg.SH_SH_CH_c_CFG c, 31, 31⟩
def Fld.SH_SH_CH_c_CFG_WEIGHT (c : Nat) : Field := ⟨Reg.SH_SH_CH_c_CFG c, 19, 16⟩
def Fld.SH_SH_CH_c_CFG_IRQ (c : Nat) : Field := ⟨Reg.SH_SH_CH_c_CFG c, 15, 15⟩
def Reg.SH_SH_CH_c_PC (c : Nat) : Nat := 0x80128 + 64 * c
def Fld.SH_SH_CH_c_PC_JUMP (c : Nat) : Field := ⟨Reg.SH_SH_CH_c_PC c, 31, 31⟩
def Fld.SH_SH_CH_c_PC_ENTRY (c : Nat) : Field := ⟨Reg.SH_SH_CH_c_PC c, 24, 16⟩
def Fld.SH_SH_CH_c_PC_PC (c : Nat) : Field := ⟨Reg.SH_SH_CH_c_PC c, 8, 0⟩
def Reg.SH_CH_c_LOOP (c : Nat) : Nat := 0x8012C + 64 * c
def Fld.SH_CH_c_LOOP_VALUE (c : Nat) : Field := ⟨Reg.SH_CH_c_LOOP c, 31, 0⟩
def Reg.SH_PROG_w (w : Nat) : Nat := 0x88000 + 4 * w
def Fld.SH_PROG_w_WORD (w : Nat) : Field := ⟨Reg.SH_PROG_w w, 31, 0⟩
def Reg.EY_CH_n_CFG (n : Nat) : Nat := 0x90000 + (n / 16) * 0x1000 + (n % 16) * 32
def Fld.EY_CH_n_CFG_EN (n : Nat) : Field := ⟨Reg.EY_CH_n_CFG n, 31, 31⟩
def Fld.EY_CH_n_CFG_RCV (n : Nat) : Field := ⟨Reg.EY_CH_n_CFG n, 30, 28⟩
def Reg.EY_CH_n_POST (n : Nat) : Nat := 0x90004 + (n / 16) * 0x1000 + (n % 16) * 32
def Fld.EY_CH_n_POST_WORD (n : Nat) : Field := ⟨Reg.EY_CH_n_POST n, 31, 0⟩
def Reg.EY_CH_n_MSG (n : Nat) : Nat := 0x90008 + (n / 16) * 0x1000 + (n % 16) * 32
def Fld.EY_CH_n_MSG_WORD (n : Nat) : Field := ⟨Reg.EY_CH_n_MSG n, 31, 0⟩
def Reg.EY_CH_n_STAT (n : Nat) : Nat := 0x9000C + (n / 16) * 0x1000 + (n % 16) * 32
def Fld.EY_CH_n_STAT_FULL (n : Nat) : Field := ⟨Reg.EY_CH_n_STAT n, 31, 31⟩
def Fld.EY_CH_n_STAT_REFUSED (n : Nat) : Field := ⟨Reg.EY_CH_n_STAT n, 30, 30⟩
def Fld.EY_CH_n_STAT_REFUSALS (n : Nat) : Field := ⟨Reg.EY_CH_n_STAT n, 23, 16⟩
def Fld.EY_CH_n_STAT_POSTS (n : Nat) : Field := ⟨Reg.EY_CH_n_STAT n, 15, 0⟩
def Reg.EY_CH_n_PEEK (n : Nat) : Nat := 0x90010 + (n / 16) * 0x1000 + (n % 16) * 32
def Fld.EY_CH_n_PEEK_WORD (n : Nat) : Field := ⟨Reg.EY_CH_n_PEEK n, 31, 0⟩
def Reg.EY_TH_n (n : Nat) : Nat := 0x92000 + 4 * n
def Fld.EY_TH_n_OWNER (n : Nat) : Field := ⟨Reg.EY_TH_n n, 7, 0⟩
def Reg.EY_TH_OWNED_LO : Nat := 0x92100
def Fld.EY_TH_OWNED_LO_BITS : Field := ⟨Reg.EY_TH_OWNED_LO, 31, 0⟩
def Reg.EY_TH_OWNED_HI : Nat := 0x92104
def Fld.EY_TH_OWNED_HI_BITS : Field := ⟨Reg.EY_TH_OWNED_HI, 31, 0⟩
def Reg.EY_TH_FORCE_LO : Nat := 0x92108
def Fld.EY_TH_FORCE_LO_BITS : Field := ⟨Reg.EY_TH_FORCE_LO, 31, 0⟩
def Reg.EY_TH_FORCE_HI : Nat := 0x9210C
def Fld.EY_TH_FORCE_HI_BITS : Field := ⟨Reg.EY_TH_FORCE_HI, 31, 0⟩
def Reg.EY_TH_STAT : Nat := 0x92110
def Fld.EY_TH_STAT_BAD_RELEASES : Field := ⟨Reg.EY_TH_STAT, 31, 16⟩
def Fld.EY_TH_STAT_AUTO_RELEASES : Field := ⟨Reg.EY_TH_STAT, 15, 0⟩
def Reg.EY_STATUS : Nat := 0x93000
def Fld.EY_STATUS_SEC_VIOL : Field := ⟨Reg.EY_STATUS, 31, 31⟩
def Reg.EY_FULL : Nat := 0x93004
def Fld.EY_FULL_FULL : Field := ⟨Reg.EY_FULL, 31, 0⟩
def Reg.MC_STATUS : Nat := 0x60000
def Fld.MC_STATUS_FADING : Field := ⟨Reg.MC_STATUS, 23, 16⟩
def Fld.MC_STATUS_STUCK : Field := ⟨Reg.MC_STATUS, 15, 8⟩
def Fld.MC_STATUS_VALID : Field := ⟨Reg.MC_STATUS, 7, 0⟩
def Reg.MC_CFG : Nat := 0x60004
def Fld.MC_CFG_MCLK : Field := ⟨Reg.MC_CFG, 0, 0⟩
def Reg.MC_IN_BASE : Nat := 0x60008
def Fld.MC_IN_BASE_OFS4 : Field := ⟨Reg.MC_IN_BASE, 13, 0⟩
def Reg.MC_CH_n_CFG (n : Nat) : Nat := 0x60100 + 64 * n
def Fld.MC_CH_n_CFG_EN (n : Nat) : Field := ⟨Reg.MC_CH_n_CFG n, 31, 31⟩
def Fld.MC_CH_n_CFG_D (n : Nat) : Field := ⟨Reg.MC_CH_n_CFG n, 30, 27⟩
def Fld.MC_CH_n_CFG_NM1 (n : Nat) : Field := ⟨Reg.MC_CH_n_CFG n, 26, 21⟩
def Fld.MC_CH_n_CFG_R (n : Nat) : Field := ⟨Reg.MC_CH_n_CFG n, 20, 12⟩
def Reg.MC_CH_n_ALIGN (n : Nat) : Nat := 0x60104 + 64 * n
def Fld.MC_CH_n_ALIGN_PHASE (n : Nat) : Field := ⟨Reg.MC_CH_n_ALIGN n, 15, 8⟩
def Fld.MC_CH_n_ALIGN_SAMPLE (n : Nat) : Field := ⟨Reg.MC_CH_n_ALIGN n, 5, 0⟩
def Reg.MC_CH_n_DET (n : Nat) : Nat := 0x60108 + 64 * n
def Fld.MC_CH_n_DET_ATT (n : Nat) : Field := ⟨Reg.MC_CH_n_DET n, 31, 28⟩
def Fld.MC_CH_n_DET_DEC (n : Nat) : Field := ⟨Reg.MC_CH_n_DET n, 27, 24⟩
def Fld.MC_CH_n_DET_WINDOW (n : Nat) : Field := ⟨Reg.MC_CH_n_DET n, 15, 0⟩
def Reg.MC_CH_n_CTRL (n : Nat) : Nat := 0x6010C + 64 * n
def Fld.MC_CH_n_CTRL_COMMIT (n : Nat) : Field := ⟨Reg.MC_CH_n_CTRL n, 31, 31⟩
def Fld.MC_CH_n_CTRL_BASTE_PENDING (n : Nat) : Field := ⟨Reg.MC_CH_n_CTRL n, 30, 30⟩
def Fld.MC_CH_n_CTRL_PEAK_CLR (n : Nat) : Field := ⟨Reg.MC_CH_n_CTRL n, 29, 29⟩
def Fld.MC_CH_n_CTRL_FADING (n : Nat) : Field := ⟨Reg.MC_CH_n_CTRL n, 28, 28⟩
def Fld.MC_CH_n_CTRL_FADE (n : Nat) : Field := ⟨Reg.MC_CH_n_CTRL n, 7, 0⟩
def Reg.MC_CH_n_STAT (n : Nat) : Nat := 0x60110 + 64 * n
def Fld.MC_CH_n_STAT_VALID (n : Nat) : Field := ⟨Reg.MC_CH_n_STAT n, 31, 31⟩
def Fld.MC_CH_n_STAT_STUCK (n : Nat) : Field := ⟨Reg.MC_CH_n_STAT n, 30, 30⟩
def Fld.MC_CH_n_STAT_OVER (n : Nat) : Field := ⟨Reg.MC_CH_n_STAT n, 29, 29⟩
def Fld.MC_CH_n_STAT_STUCK_SEEN (n : Nat) : Field := ⟨Reg.MC_CH_n_STAT n, 28, 28⟩
def Fld.MC_CH_n_STAT_LEVEL (n : Nat) : Field := ⟨Reg.MC_CH_n_STAT n, 21, 16⟩
def Fld.MC_CH_n_STAT_RESULTS (n : Nat) : Field := ⟨Reg.MC_CH_n_STAT n, 15, 0⟩
def Reg.MC_CH_n_CNT (n : Nat) : Nat := 0x60114 + 64 * n
def Fld.MC_CH_n_CNT_OVF (n : Nat) : Field := ⟨Reg.MC_CH_n_CNT n, 31, 16⟩
def Fld.MC_CH_n_CNT_UNDERRUN (n : Nat) : Field := ⟨Reg.MC_CH_n_CNT n, 15, 0⟩
def Reg.MC_CH_n_FIFO_CFG (n : Nat) : Nat := 0x60118 + 64 * n
def Fld.MC_CH_n_FIFO_CFG_THRESH (n : Nat) : Field := ⟨Reg.MC_CH_n_FIFO_CFG n, 5, 0⟩
def Reg.MC_CH_n_VALUE (n : Nat) : Nat := 0x6011C + 64 * n
def Fld.MC_CH_n_VALUE_VALUE (n : Nat) : Field := ⟨Reg.MC_CH_n_VALUE n, 31, 0⟩
def Reg.MC_CH_n_SPAN (n : Nat) : Nat := 0x60120 + 64 * n
def Fld.MC_CH_n_SPAN_VALUE (n : Nat) : Field := ⟨Reg.MC_CH_n_SPAN n, 31, 0⟩
def Reg.MC_CH_n_MAX (n : Nat) : Nat := 0x60124 + 64 * n
def Fld.MC_CH_n_MAX_VALUE (n : Nat) : Field := ⟨Reg.MC_CH_n_MAX n, 31, 0⟩
def Reg.MC_CH_n_MIN (n : Nat) : Nat := 0x60128 + 64 * n
def Fld.MC_CH_n_MIN_VALUE (n : Nat) : Field := ⟨Reg.MC_CH_n_MIN n, 31, 0⟩
def Reg.MC_CH_n_RMS (n : Nat) : Nat := 0x6012C + 64 * n
def Fld.MC_CH_n_RMS_VALUE (n : Nat) : Field := ⟨Reg.MC_CH_n_RMS n, 31, 0⟩
def Reg.MC_CH_n_ENV (n : Nat) : Nat := 0x60130 + 64 * n
def Fld.MC_CH_n_ENV_VALUE (n : Nat) : Field := ⟨Reg.MC_CH_n_ENV n, 31, 0⟩
def Reg.MC_CH_n_COEF_i (n i : Nat) : Nat := 0x61000 + 256 * n + 4 * i
def Fld.MC_CH_n_COEF_i_H (n i : Nat) : Field := ⟨Reg.MC_CH_n_COEF_i n i, 17, 0⟩
def Reg.MC_SH_CH_n_COEF_i (n i : Nat) : Nat := 0x61080 + 256 * n + 4 * i
def Fld.MC_SH_CH_n_COEF_i_H (n i : Nat) : Field := ⟨Reg.MC_SH_CH_n_COEF_i n i, 17, 0⟩
def Reg.MC_CH_n_FIFO_w (n w : Nat) : Nat := 0x62000 + 64 * n + 4 * w
def Fld.MC_CH_n_FIFO_w_WORD (n w : Nat) : Field := ⟨Reg.MC_CH_n_FIFO_w n w, 31, 0⟩
def Reg.WL_STATUS : Nat := 0xD0000
def Fld.WL_STATUS_FROZEN : Field := ⟨Reg.WL_STATUS, 31, 31⟩
def Fld.WL_STATUS_KEEP_FULL : Field := ⟨Reg.WL_STATUS, 30, 30⟩
def Fld.WL_STATUS_WRAPPED : Field := ⟨Reg.WL_STATUS, 29, 29⟩
def Fld.WL_STATUS_QUEUED : Field := ⟨Reg.WL_STATUS, 6, 0⟩
def Reg.WL_CFG : Nat := 0xD0004
def Fld.WL_CFG_CIRC_LOG2 : Field := ⟨Reg.WL_CFG, 21, 17⟩
def Fld.WL_CFG_KEEP_N : Field := ⟨Reg.WL_CFG, 16, 0⟩
def Reg.WL_CTRL : Nat := 0xD0008
def Fld.WL_CTRL_FREEZE : Field := ⟨Reg.WL_CTRL, 31, 31⟩
def Fld.WL_CTRL_THAW : Field := ⟨Reg.WL_CTRL, 30, 30⟩
def Reg.WL_TOTAL_HI : Nat := 0xD000C
def Fld.WL_TOTAL_HI_COUNT : Field := ⟨Reg.WL_TOTAL_HI, 31, 0⟩
def Reg.WL_TOTAL_LO : Nat := 0xD0010
def Fld.WL_TOTAL_LO_COUNT : Field := ⟨Reg.WL_TOTAL_LO, 31, 0⟩
def Reg.WL_OLDEST : Nat := 0xD0014
def Fld.WL_OLDEST_SEQ : Field := ⟨Reg.WL_OLDEST, 31, 0⟩
def Reg.WL_LOST : Nat := 0xD0018
def Fld.WL_LOST_COUNT : Field := ⟨Reg.WL_LOST, 31, 0⟩
def Reg.WL_FROZEN_EVENTS : Nat := 0xD001C
def Fld.WL_FROZEN_EVENTS_COUNT : Field := ⟨Reg.WL_FROZEN_EVENTS, 31, 0⟩
def Reg.WL_FLUSH_CFG : Nat := 0xD0020
def Fld.WL_FLUSH_CFG_THRESH : Field := ⟨Reg.WL_FLUSH_CFG, 5, 0⟩
def Reg.WL_FLUSH_SEQ : Nat := 0xD0024
def Fld.WL_FLUSH_SEQ_SEQ : Field := ⟨Reg.WL_FLUSH_SEQ, 31, 0⟩
def Reg.WL_FLUSH_CNT : Nat := 0xD0028
def Fld.WL_FLUSH_CNT_LOST : Field := ⟨Reg.WL_FLUSH_CNT, 31, 16⟩
def Fld.WL_FLUSH_CNT_UNDER : Field := ⟨Reg.WL_FLUSH_CNT, 15, 0⟩
def Reg.WL_FLUSH_w (w : Nat) : Nat := 0xD0100 + 4 * w
def Fld.WL_FLUSH_w_WORD (w : Nat) : Field := ⟨Reg.WL_FLUSH_w w, 31, 0⟩
def Reg.TL_STATUS : Nat := 0x100000
def Fld.TL_STATUS_TSEQ : Field := ⟨Reg.TL_STATUS, 31, 0⟩
def Reg.TL_READ_IDX : Nat := 0x100004
def Fld.TL_READ_IDX_IDX : Field := ⟨Reg.TL_READ_IDX, 9, 0⟩
def Reg.TL_ENTRY_w (w : Nat) : Nat := 0x100040 + 4 * w
def Fld.TL_ENTRY_w_BYTES (w : Nat) : Field := ⟨Reg.TL_ENTRY_w w, 31, 0⟩
def Reg.UPD_START_STATUS : Nat := 0xF0000
def Fld.UPD_START_STATUS_PHASE : Field := ⟨Reg.UPD_START_STATUS, 31, 28⟩
def Fld.UPD_START_STATUS_WARM : Field := ⟨Reg.UPD_START_STATUS, 27, 27⟩
def Fld.UPD_START_STATUS_LAST_CODE : Field := ⟨Reg.UPD_START_STATUS, 15, 8⟩
def Fld.UPD_START_STATUS_STARTS : Field := ⟨Reg.UPD_START_STATUS, 7, 0⟩
def Reg.UPD_LAST_DETAIL : Nat := 0xF0004
def Fld.UPD_LAST_DETAIL_SOURCE : Field := ⟨Reg.UPD_LAST_DETAIL, 31, 16⟩
def Fld.UPD_LAST_DETAIL_OFFSET : Field := ⟨Reg.UPD_LAST_DETAIL, 15, 0⟩
def Reg.UPD_START_CFG : Nat := 0xF0008
def Fld.UPD_START_CFG_WARM : Field := ⟨Reg.UPD_START_CFG, 31, 31⟩
def Reg.UPD_IMG_POLICY : Nat := 0xF000C
def Fld.UPD_IMG_POLICY_FAMILY : Field := ⟨Reg.UPD_IMG_POLICY, 31, 16⟩
def Fld.UPD_IMG_POLICY_MIN_VERSION : Field := ⟨Reg.UPD_IMG_POLICY, 15, 0⟩
def Reg.UPD_SLOT_A : Nat := 0xF0010
def Fld.UPD_SLOT_A_PAGES : Field := ⟨Reg.UPD_SLOT_A, 20, 0⟩
def Reg.UPD_SLOT_B : Nat := 0xF0014
def Fld.UPD_SLOT_B_PAGES : Field := ⟨Reg.UPD_SLOT_B, 20, 0⟩
def Reg.UPD_SLOT_SIZE : Nat := 0xF0018
def Fld.UPD_SLOT_SIZE_PAGES : Field := ⟨Reg.UPD_SLOT_SIZE, 20, 0⟩
def Reg.UPD_RESTART : Nat := 0xF001C
def Fld.UPD_RESTART_KEY : Field := ⟨Reg.UPD_RESTART, 31, 16⟩
def Fld.UPD_RESTART_KIND : Field := ⟨Reg.UPD_RESTART, 1, 0⟩
def Reg.UPD_IMG_ID : Nat := 0xF0020
def Fld.UPD_IMG_ID_RUN_VERSION : Field := ⟨Reg.UPD_IMG_ID, 31, 16⟩
def Fld.UPD_IMG_ID_STAGED_VERSION : Field := ⟨Reg.UPD_IMG_ID, 15, 0⟩
def Reg.UPD_FLASH_CTRL : Nat := 0xF0024
def Fld.UPD_FLASH_CTRL_GO : Field := ⟨Reg.UPD_FLASH_CTRL, 31, 31⟩
def Fld.UPD_FLASH_CTRL_OP : Field := ⟨Reg.UPD_FLASH_CTRL, 3, 2⟩
def Fld.UPD_FLASH_CTRL_LANE : Field := ⟨Reg.UPD_FLASH_CTRL, 1, 0⟩
def Reg.UPD_FLASH_STATUS : Nat := 0xF0028
def Fld.UPD_FLASH_STATUS_BUSY : Field := ⟨Reg.UPD_FLASH_STATUS, 31, 31⟩
def Fld.UPD_FLASH_STATUS_STAGED : Field := ⟨Reg.UPD_FLASH_STATUS, 30, 28⟩
def Fld.UPD_FLASH_STATUS_RESULT : Field := ⟨Reg.UPD_FLASH_STATUS, 27, 24⟩
def Fld.UPD_FLASH_STATUS_PERCENT : Field := ⟨Reg.UPD_FLASH_STATUS, 7, 0⟩
def Reg.UPD_ACT_CTRL : Nat := 0xF002C
def Fld.UPD_ACT_CTRL_GO : Field := ⟨Reg.UPD_ACT_CTRL, 31, 31⟩
def Fld.UPD_ACT_CTRL_LEAD : Field := ⟨Reg.UPD_ACT_CTRL, 7, 0⟩
def Reg.UPD_ACT_STATUS : Nat := 0xF0030
def Fld.UPD_ACT_STATUS_PENDING : Field := ⟨Reg.UPD_ACT_STATUS, 31, 31⟩
def Fld.UPD_ACT_STATUS_RESULT : Field := ⟨Reg.UPD_ACT_STATUS, 27, 24⟩
def Fld.UPD_ACT_STATUS_GAP : Field := ⟨Reg.UPD_ACT_STATUS, 23, 16⟩
def Fld.UPD_ACT_STATUS_K_A : Field := ⟨Reg.UPD_ACT_STATUS, 15, 0⟩
def Reg.UPD_CHG_CTRL : Nat := 0xF0034
def Fld.UPD_CHG_CTRL_SUBMIT : Field := ⟨Reg.UPD_CHG_CTRL, 31, 31⟩
def Reg.UPD_CHG_STATUS : Nat := 0xF0038
def Fld.UPD_CHG_STATUS_BUSY : Field := ⟨Reg.UPD_CHG_STATUS, 31, 31⟩
def Fld.UPD_CHG_STATUS_RESULT : Field := ⟨Reg.UPD_CHG_STATUS, 19, 16⟩
def Fld.UPD_CHG_STATUS_SEQ : Field := ⟨Reg.UPD_CHG_STATUS, 15, 0⟩
def Reg.UPD_SLEEP_CTRL : Nat := 0xF003C
def Fld.UPD_SLEEP_CTRL_WAKE : Field := ⟨Reg.UPD_SLEEP_CTRL, 31, 31⟩
def Reg.UPD_SLEEP_STATUS : Nat := 0xF0040
def Fld.UPD_SLEEP_STATUS_WAKE_HELD : Field := ⟨Reg.UPD_SLEEP_STATUS, 31, 31⟩
def Fld.UPD_SLEEP_STATUS_SLEEPS : Field := ⟨Reg.UPD_SLEEP_STATUS, 15, 8⟩
def Fld.UPD_SLEEP_STATUS_RESUMES : Field := ⟨Reg.UPD_SLEEP_STATUS, 7, 0⟩
def Reg.UPD_JFLASH : Nat := 0xF0044
def Fld.UPD_JFLASH_GO : Field := ⟨Reg.UPD_JFLASH, 31, 31⟩
def Fld.UPD_JFLASH_BUSY : Field := ⟨Reg.UPD_JFLASH, 30, 30⟩
def Fld.UPD_JFLASH_RESULT : Field := ⟨Reg.UPD_JFLASH, 29, 28⟩
def Fld.UPD_JFLASH_LOADED : Field := ⟨Reg.UPD_JFLASH, 27, 27⟩
def Fld.UPD_JFLASH_LEN : Field := ⟨Reg.UPD_JFLASH, 26, 0⟩
def Reg.UPD_REC_CTRL : Nat := 0xF0048
def Fld.UPD_REC_CTRL_PROGRAM : Field := ⟨Reg.UPD_REC_CTRL, 31, 31⟩
def Fld.UPD_REC_CTRL_MEMTEST : Field := ⟨Reg.UPD_REC_CTRL, 30, 30⟩
def Fld.UPD_REC_CTRL_TARGET : Field := ⟨Reg.UPD_REC_CTRL, 29, 27⟩
def Fld.UPD_REC_CTRL_LEN : Field := ⟨Reg.UPD_REC_CTRL, 26, 0⟩
def Reg.UPD_REC_STATUS : Nat := 0xF004C
def Fld.UPD_REC_STATUS_BUSY : Field := ⟨Reg.UPD_REC_STATUS, 31, 31⟩
def Fld.UPD_REC_STATUS_RESULT : Field := ⟨Reg.UPD_REC_STATUS, 30, 28⟩
def Fld.UPD_REC_STATUS_BLOCKS : Field := ⟨Reg.UPD_REC_STATUS, 27, 0⟩
def Reg.UPD_CHG_DATA_w (w : Nat) : Nat := 0xF0100 + 4 * w
def Fld.UPD_CHG_DATA_w_BYTES (w : Nat) : Field := ⟨Reg.UPD_CHG_DATA_w w, 31, 0⟩
def Reg.JC_PWR_STATUS : Nat := 0x200
def Fld.JC_PWR_STATUS_PF_WARN : Field := ⟨Reg.JC_PWR_STATUS, 31, 31⟩
def Fld.JC_PWR_STATUS_HOLDUP_OK : Field := ⟨Reg.JC_PWR_STATUS, 30, 30⟩
def Fld.JC_PWR_STATUS_OVERVOLT : Field := ⟨Reg.JC_PWR_STATUS, 29, 29⟩
def Fld.JC_PWR_STATUS_INTERRUPT : Field := ⟨Reg.JC_PWR_STATUS, 28, 28⟩
def Fld.JC_PWR_STATUS_MAINT_STRAP : Field := ⟨Reg.JC_PWR_STATUS, 27, 27⟩
def Fld.JC_PWR_STATUS_PRI_STRAP : Field := ⟨Reg.JC_PWR_STATUS, 26, 26⟩
def Fld.JC_PWR_STATUS_INTERRUPTS : Field := ⟨Reg.JC_PWR_STATUS, 15, 8⟩
def Fld.JC_PWR_STATUS_TEMP : Field := ⟨Reg.JC_PWR_STATUS, 7, 0⟩
def Reg.JC_PWR_MEAS : Nat := 0x204
def Fld.JC_PWR_MEAS_VIN : Field := ⟨Reg.JC_PWR_MEAS, 31, 16⟩
def Fld.JC_PWR_MEAS_PIN : Field := ⟨Reg.JC_PWR_MEAS, 15, 0⟩
def Reg.TT_STATUS : Nat := 0x110000
def Fld.TT_STATUS_ENABLED : Field := ⟨Reg.TT_STATUS, 31, 31⟩
def Fld.TT_STATUS_SCAN_REFUSED : Field := ⟨Reg.TT_STATUS, 30, 30⟩
def Reg.TT_SEL_n (n : Nat) : Nat := 0x110010 + 4 * n
def Fld.TT_SEL_n_INV (n : Nat) : Field := ⟨Reg.TT_SEL_n n, 8, 8⟩
def Fld.TT_SEL_n_SIGNAL (n : Nat) : Field := ⟨Reg.TT_SEL_n n, 7, 0⟩
def Reg.CAN_IN_BASE : Nat := 0xCF000
def Fld.CAN_IN_BASE_OFS4 : Field := ⟨Reg.CAN_IN_BASE, 13, 0⟩

end Sys2Proof.Machine
end

