-- ==== Sys2Proof/Machine/RegMap.lean ====
section
/-! DEFINITION. The register map: every register table of the spec, one descriptor per register (or
register array), with the offset inside its unit, the dimensions of an array and each field's bits, access
class (R10) and value before configuration seal. A bit no field covers is reserved and reads 0 (R10).
The rule that lays a unit's registers out: JC R31, R376, R489; LC and CMP R92; VT R119; TRD R151; MEM and JC.JM_ R176;
TB R197; SX and SY R232, R263, R276; FIO R304; AX R326; DX R352; ETH, MVB and CAN R381 to R383; GB R404; SH and EY R431;
MC R450; WL and TL R463; UPD R485; TT R504. -/

namespace Sys2Proof.Machine

/-- The access classes of R10. -/
inductive Acc | rw | ro | wo | w1c | w1s | rws
  deriving DecidableEq, Repr

/-- One field of a register: its name, its bits, its access class and its reset value. -/
structure RField where
  name : String
  hi : Nat
  lo : Nat
  acc : Acc
  reset : Nat
  deriving DecidableEq, Repr

/-- One register or register array of a unit: offset of instance 0, and for each index its count and stride, outermost first. -/
structure RegDesc where
  name : String
  off : Nat
  dims : List (Nat × Nat)
  fields : List RField
  deriving DecidableEq, Repr

/-- Whether `rel` bytes after instance 0 is some instance of an array with these dimensions. -/
def dimsHit : List (Nat × Nat) → Nat → Bool
  | [], rel => rel == 0
  | (n, s) :: ds, rel => decide (rel / s < n) && dimsHit ds (rel % s)

/-- Whether the unit offset `o` is an instance of this register. -/
def RegDesc.hit (d : RegDesc) (o : Nat) : Bool := decide (d.off ≤ o) && dimsHit d.dims (o - d.off)

namespace RegMap

/-- The registers of unit JC. -/
def jc_0 : List RegDesc := [
  ⟨"JC.DEV_ID", 0, [],
    [⟨"DEVICE", 31, 24, .ro, 2⟩, ⟨"STEP", 23, 16, .ro, 0⟩, ⟨"INSTANCE", 7, 0, .ro, 0⟩]⟩,
  ⟨"JC.FQ_n_ID", 4, [(4, 4)],
    [⟨"DEVICE", 31, 24, .ro, 4⟩, ⟨"STEP", 23, 16, .ro, 0⟩, ⟨"INSTANCE", 7, 0, .ro, 0⟩]⟩,
  ⟨"JC.MOD_ID", 0x20, [],
    [⟨"PRODUCT", 31, 16, .ro, 0x380⟩, ⟨"HW_REV", 15, 8, .ro, 1⟩, ⟨"BUILD", 3, 0, .ro, 0⟩]⟩,
  ⟨"JC.MOD_STATUS", 0x24, [],
    [⟨"CLAIM", 31, 16, .ro, 0⟩, ⟨"SEALED", 15, 15, .ro, 0⟩, ⟨"PERMITS", 14, 14, .ro, 0⟩, ⟨"SLEEP", 13, 13, .ro, 0⟩, ⟨"SYNC", 12, 12, .ro, 0⟩, ⟨"VOTING", 10, 8, .ro, 0⟩, ⟨"ROLE", 7, 6, .ro, 3⟩, ⟨"SVC_MASTER", 5, 4, .ro, 3⟩, ⟨"FAULT_DEV", 3, 0, .ro, 0⟩]⟩,
  ⟨"JC.CLK_STATUS", 0x28, [],
    [⟨"RATE_CORR", 31, 16, .ro, 0⟩, ⟨"SYNT", 7, 7, .ro, 0⟩, ⟨"SYNT_RING", 6, 6, .ro, 0⟩, ⟨"PERI_LOCK", 5, 5, .ro, 0⟩, ⟨"LANE_C_LOCK", 3, 3, .ro, 0⟩, ⟨"LANE_B_LOCK", 2, 2, .ro, 0⟩, ⟨"LANE_A_LOCK", 1, 1, .ro, 0⟩, ⟨"JPLL_LOCK", 0, 0, .ro, 0⟩]⟩,
  ⟨"JC.DIGEST_n", 0x40, [(8, 4)],
    [⟨"DIGEST", 31, 0, .ro, 0⟩]⟩,
  ⟨"JC.TW_n_STATUS", 0x80, [(9, 4)],
    [⟨"FAILED", 31, 31, .ro, 0⟩, ⟨"USED", 23, 16, .ro, 0⟩, ⟨"REPAIRS", 15, 0, .ro, 0⟩]⟩,
  ⟨"JC.HOST_CFG", 0x100, [],
    [⟨"ROLE", 3, 3, .rw, 0⟩, ⟨"EXCL", 2, 2, .rw, 0⟩, ⟨"TROUBLE", 1, 1, .rw, 0⟩, ⟨"EY", 0, 0, .rw, 1⟩]⟩,
  ⟨"JC.HOST_ALERT", 0x104, [],
    [⟨"ROLE", 3, 3, .w1c, 0⟩, ⟨"EXCL", 2, 2, .w1c, 0⟩, ⟨"TROUBLE", 1, 1, .w1c, 0⟩, ⟨"EY", 0, 0, .w1c, 0⟩]⟩,
  ⟨"JC.PWR_STATUS", 0x200, [],
    [⟨"PF_WARN", 31, 31, .ro, 0⟩, ⟨"HOLDUP_OK", 30, 30, .ro, 0⟩, ⟨"OVERVOLT", 29, 29, .w1c, 0⟩, ⟨"INTERRUPT", 28, 28, .w1c, 0⟩, ⟨"MAINT_STRAP", 27, 27, .ro, 0⟩, ⟨"PRI_STRAP", 26, 26, .ro, 0⟩, ⟨"INTERRUPTS", 15, 8, .ro, 0⟩, ⟨"TEMP", 7, 0, .ro, 0⟩]⟩,
  ⟨"JC.PWR_MEAS", 0x204, [],
    [⟨"VIN", 31, 16, .ro, 0⟩, ⟨"PIN", 15, 0, .ro, 0⟩]⟩]
def jc : List RegDesc := jc_0

/-- The registers of unit TB. -/
def tb_0 : List RegDesc := [
  ⟨"TB.STATUS", 0, [],
    [⟨"FIRED", 31, 16, .w1c, 0⟩, ⟨"STEP_REFUSED", 7, 7, .w1c, 0⟩, ⟨"STEP_PEND", 6, 6, .ro, 0⟩, ⟨"SLEW_BUSY", 5, 5, .ro, 0⟩, ⟨"NET_SLEW", 4, 4, .ro, 0⟩, ⟨"WALL_VALID", 3, 3, .ro, 0⟩, ⟨"NET_VALID", 2, 2, .ro, 0⟩, ⟨"NET_SRC", 1, 0, .ro, 3⟩]⟩,
  ⟨"TB.CFG", 4, [],
    [⟨"WALL_SRC", 1, 0, .rws, 2⟩]⟩,
  ⟨"TB.SEC_HI", 8, [],
    [⟨"SEC", 15, 0, .ro, 0⟩]⟩,
  ⟨"TB.SEC_LO", 0xC, [],
    [⟨"SEC", 31, 0, .ro, 0⟩]⟩,
  ⟨"TB.NS", 0x10, [],
    [⟨"NS", 29, 0, .ro, 0⟩]⟩,
  ⟨"TB.SPAN", 0x14, [],
    [⟨"SPAN", 31, 0, .ro, 0⟩]⟩,
  ⟨"TB.WALL_SEC_HI", 0x18, [],
    [⟨"SEC", 15, 0, .ro, 0⟩]⟩,
  ⟨"TB.WALL_SEC_LO", 0x1C, [],
    [⟨"SEC", 31, 0, .ro, 0⟩]⟩,
  ⟨"TB.WALL_NS", 0x20, [],
    [⟨"NS", 29, 0, .ro, 0⟩]⟩,
  ⟨"TB.WALL_SPAN", 0x24, [],
    [⟨"SPAN", 31, 0, .ro, 0⟩]⟩,
  ⟨"TB.UPTIME_HI", 0x28, [],
    [⟨"NS", 31, 0, .ro, 0⟩]⟩,
  ⟨"TB.UPTIME_LO", 0x2C, [],
    [⟨"NS", 31, 0, .ro, 0⟩]⟩]
def tb_1 : List RegDesc := [
  ⟨"TB.WALL_OFS_HI", 0x30, [],
    [⟨"OFS", 31, 0, .ro, 0⟩]⟩,
  ⟨"TB.WALL_OFS_LO", 0x34, [],
    [⟨"OFS", 31, 0, .ro, 0⟩]⟩,
  ⟨"TB.WALL_RATE", 0x38, [],
    [⟨"PPB", 31, 0, .rw, 0⟩]⟩,
  ⟨"TB.SLEW_NS", 0x3C, [],
    [⟨"NS", 31, 0, .rw, 0⟩]⟩,
  ⟨"TB.SLEW_CTRL", 0x40, [],
    [⟨"GO", 31, 31, .wo, 0⟩, ⟨"RATE", 8, 0, .rw, 0x64⟩]⟩,
  ⟨"TB.STEP_SEC_HI", 0x50, [],
    [⟨"VALUE", 15, 0, .rw, 0⟩]⟩,
  ⟨"TB.STEP_SEC_LO", 0x54, [],
    [⟨"VALUE", 31, 0, .rw, 0⟩]⟩,
  ⟨"TB.STEP_NS", 0x58, [],
    [⟨"VALUE", 31, 0, .rw, 0⟩]⟩,
  ⟨"TB.STEP_CTRL", 0x5C, [],
    [⟨"GO", 31, 31, .wo, 0⟩, ⟨"SOURCE", 5, 3, .rw, 1⟩, ⟨"SIGN", 2, 2, .rw, 0⟩, ⟨"MODE", 1, 1, .rw, 0⟩]⟩,
  ⟨"TB.LAST_STEP_HI", 0x60, [],
    [⟨"NS", 31, 0, .ro, 0⟩]⟩,
  ⟨"TB.LAST_STEP_LO", 0x64, [],
    [⟨"NS", 31, 0, .ro, 0⟩]⟩,
  ⟨"TB.STEP_COUNT", 0x68, [],
    [⟨"COUNT", 31, 0, .ro, 0⟩]⟩]
def tb_2 : List RegDesc := [
  ⟨"TB.CMP_n_CFG", 0x100, [(16, 0x10)],
    [⟨"ARM", 31, 31, .wo, 0⟩, ⟨"DISARM", 30, 30, .wo, 0⟩, ⟨"IRQ", 2, 2, .rw, 0⟩, ⟨"SCALE", 1, 1, .rws, 0⟩, ⟨"ARMED", 0, 0, .ro, 0⟩]⟩,
  ⟨"TB.CMP_n_TARGET", 0x104, [(16, 0x10)],
    [⟨"SPAN", 31, 0, .rw, 0⟩]⟩,
  ⟨"TB.CMP_n_PERIOD", 0x108, [(16, 0x10)],
    [⟨"NS", 31, 0, .rw, 0⟩]⟩,
  ⟨"TB.CMP_n_STAT", 0x10C, [(16, 0x10)],
    [⟨"FIRED", 31, 31, .w1c, 0⟩, ⟨"LATE", 30, 30, .w1c, 0⟩, ⟨"STEPPED", 29, 29, .w1c, 0⟩, ⟨"ERR", 28, 28, .w1c, 0⟩, ⟨"MISSED", 15, 0, .ro, 0⟩]⟩]
def tb : List RegDesc := tb_0 ++ tb_1 ++ tb_2

/-- The registers of unit SX. -/
def sx_0 : List RegDesc := [
  ⟨"SX.STATUS", 0, [],
    [⟨"SYNC", 31, 31, .ro, 0⟩, ⟨"LEADER", 30, 30, .ro, 0⟩, ⟨"FOLDED", 29, 29, .ro, 0⟩, ⟨"SCHED_MISMATCH", 28, 28, .ro, 0⟩, ⟨"CLASH", 27, 27, .w1c, 0⟩, ⟨"NO_ROOM", 26, 26, .w1c, 0⟩, ⟨"RXC_OVF", 25, 25, .w1c, 0⟩, ⟨"FRAME_OK", 24, 24, .ro, 0⟩, ⟨"NODES", 15, 8, .ro, 0⟩, ⟨"LEADER_ADDR", 7, 0, .ro, 0⟩]⟩,
  ⟨"SX.CFG", 4, [],
    [⟨"T_UNITS", 31, 22, .rws, 0⟩, ⟨"CONT_TTL", 21, 14, .rws, 0⟩, ⟨"CLAIM_MAX", 13, 10, .rws, 0⟩, ⟨"LOOP", 8, 8, .rws, 0⟩, ⟨"ADDR", 7, 0, .rws, 0⟩]⟩,
  ⟨"SX.PORT_STATUS", 8, [],
    [⟨"E_RI_CODE", 3, 3, .ro, 0⟩, ⟨"W_FI_CODE", 2, 2, .ro, 0⟩, ⟨"W_RO_FRAME", 1, 1, .ro, 0⟩, ⟨"E_FO_FRAME", 0, 0, .ro, 0⟩]⟩,
  ⟨"SX.FRAME_COUNT", 0xC, [],
    [⟨"COUNT", 31, 0, .ro, 0⟩]⟩,
  ⟨"SX.FRAME_ERR", 0x10, [],
    [⟨"HDR", 31, 16, .ro, 0⟩, ⟨"FCS", 15, 0, .ro, 0⟩]⟩,
  ⟨"SX.CODE_ERR", 0x14, [],
    [⟨"W_FI", 31, 16, .ro, 0⟩, ⟨"E_RI", 15, 0, .ro, 0⟩]⟩,
  ⟨"SX.SLOT_ERR", 0x18, [],
    [⟨"BAD", 31, 16, .ro, 0⟩, ⟨"EMPTY", 15, 0, .ro, 0⟩]⟩,
  ⟨"SX.CLASH", 0x1C, [],
    [⟨"WRITE", 31, 16, .ro, 0⟩, ⟨"COPY_DIFF", 15, 0, .ro, 0⟩]⟩,
  ⟨"SX.PHASE_ERR", 0x20, [],
    [⟨"VALUE", 31, 0, .ro, 0⟩]⟩,
  ⟨"SX.PATH_DELAY", 0x24, [],
    [⟨"VALUE", 31, 0, .ro, 0⟩]⟩,
  ⟨"SX.RX_SPAN", 0x28, [],
    [⟨"VALUE", 31, 0, .ro, 0⟩]⟩,
  ⟨"SX.SCHED_ID", 0x30, [],
    [⟨"VALUE", 31, 0, .ro, 0⟩]⟩]
def sx_1 : List RegDesc := [
  ⟨"SX.SCHED_NEXT", 0x34, [],
    [⟨"VALUE", 31, 0, .ro, 0⟩]⟩,
  ⟨"SX.SWITCH_AT", 0x38, [],
    [⟨"VALUE", 31, 0, .ro, 0⟩]⟩,
  ⟨"SX.SCHED_CTRL", 0x3C, [],
    [⟨"COMMIT", 31, 31, .wo, 0⟩, ⟨"BASTE_PENDING", 30, 30, .ro, 0⟩, ⟨"SCHED_ERR", 29, 29, .w1c, 0⟩, ⟨"CANCEL", 28, 28, .wo, 0⟩, ⟨"ANN_DIFF", 27, 27, .w1c, 0⟩, ⟨"LEAD", 23, 16, .rw, 0x10⟩, ⟨"ERR_CODE", 3, 0, .ro, 0⟩]⟩,
  ⟨"SX.SH_SCHED_ID", 0x40, [],
    [⟨"ID", 31, 0, .rw, 0⟩]⟩,
  ⟨"SX.SH_COUNTS", 0x44, [],
    [⟨"SLOTS", 31, 16, .rw, 0⟩, ⟨"CONTAINERS", 15, 0, .rw, 0⟩]⟩,
  ⟨"SX.SH_T_IN", 0x48, [],
    [⟨"JC", 24, 0, .rw, 0⟩]⟩,
  ⟨"SX.SH_T_COM", 0x4C, [],
    [⟨"JC", 24, 0, .rw, 0⟩]⟩,
  ⟨"SX.SH_LAUNCH", 0x50, [],
    [⟨"JC", 24, 0, .rw, 0⟩]⟩,
  ⟨"SX.SH_LEN4", 0x54, [],
    [⟨"LEN4", 13, 0, .rw, 0⟩]⟩,
  ⟨"SX.COUNTS", 0x64, [],
    [⟨"SLOTS", 31, 16, .ro, 0⟩, ⟨"CONTAINERS", 15, 0, .ro, 0⟩]⟩,
  ⟨"SX.T_IN", 0x68, [],
    [⟨"JC", 24, 0, .ro, 0⟩]⟩,
  ⟨"SX.T_COM", 0x6C, [],
    [⟨"JC", 24, 0, .ro, 0⟩]⟩]
def sx_2 : List RegDesc := [
  ⟨"SX.LAUNCH", 0x70, [],
    [⟨"JC", 24, 0, .ro, 0⟩]⟩,
  ⟨"SX.LEN4", 0x74, [],
    [⟨"LEN4", 13, 0, .ro, 0⟩]⟩,
  ⟨"SX.TXC_HDR", 0x80, [],
    [⟨"DEST", 31, 24, .rw, 0⟩, ⟨"LEN", 23, 16, .rw, 0⟩, ⟨"TAG", 15, 0, .rw, 0⟩]⟩,
  ⟨"SX.TXC_CTRL", 0x84, [],
    [⟨"SUBMIT", 31, 31, .wo, 0⟩, ⟨"FLUSH", 30, 30, .wo, 0⟩, ⟨"KIND", 15, 0, .rw, 0⟩]⟩,
  ⟨"SX.TXC_STATUS", 0x88, [],
    [⟨"REFUSED", 31, 31, .w1c, 0⟩, ⟨"EXPIRED", 23, 16, .ro, 0⟩, ⟨"QUEUED", 4, 0, .ro, 0⟩]⟩,
  ⟨"SX.TXC_COUNT", 0x8C, [],
    [⟨"SENT", 31, 16, .ro, 0⟩, ⟨"NO_ROOM", 15, 0, .ro, 0⟩]⟩,
  ⟨"SX.TXC_DATA_n", 0x90, [(13, 4)],
    [⟨"BYTES", 31, 0, .rw, 0⟩]⟩,
  ⟨"SX.RXC_HDR", 0xD0, [],
    [⟨"SOURCE", 31, 24, .ro, 0⟩, ⟨"LEN", 23, 16, .ro, 0⟩, ⟨"TAG", 15, 0, .ro, 0⟩]⟩,
  ⟨"SX.RXC_STATUS", 0xD4, [],
    [⟨"VALID", 31, 31, .ro, 0⟩, ⟨"BCAST", 30, 30, .ro, 0⟩, ⟨"COUNT", 21, 16, .ro, 0⟩, ⟨"KIND", 15, 0, .ro, 0⟩]⟩,
  ⟨"SX.RXC_CTRL", 0xD8, [],
    [⟨"POP", 0, 0, .wo, 0⟩]⟩,
  ⟨"SX.RXC_DATA_n", 0xE0, [(13, 4)],
    [⟨"BYTES", 31, 0, .ro, 0⟩]⟩,
  ⟨"SX.SLOT_OK_n", 0x120, [(8, 4)],
    [⟨"OK", 31, 0, .ro, 0⟩]⟩]
def sx_3 : List RegDesc := [
  ⟨"SX.SLOT_n_A", 0x1000, [(256, 0x10)],
    [⟨"EN", 31, 31, .ro, 0⟩, ⟨"DIR", 30, 30, .ro, 0⟩, ⟨"DIRECT", 29, 29, .ro, 0⟩, ⟨"SAFE", 28, 28, .ro, 0⟩, ⟨"SOURCE", 27, 26, .ro, 0⟩, ⟨"STATION", 24, 18, .ro, 0⟩, ⟨"INDEX", 11, 0, .ro, 0⟩]⟩,
  ⟨"SX.SLOT_n_B", 0x1004, [(256, 0x10)],
    [⟨"LEN4", 24, 16, .ro, 0⟩, ⟨"OFFSET4", 13, 0, .ro, 0⟩]⟩,
  ⟨"SX.SLOT_n_C", 0x1008, [(256, 0x10)],
    [⟨"CONN", 25, 16, .ro, 0⟩, ⟨"IMG4", 13, 0, .ro, 0⟩]⟩,
  ⟨"SX.SLOT_n_D", 0x100C, [(256, 0x10)],
    [⟨"RESULT", 31, 30, .ro, 0⟩, ⟨"CYCLE", 15, 0, .ro, 0⟩]⟩,
  ⟨"SX.SH_SLOT_n_A", 0x3000, [(256, 0x10)],
    [⟨"EN", 31, 31, .rw, 0⟩, ⟨"DIR", 30, 30, .rw, 0⟩, ⟨"DIRECT", 29, 29, .rw, 0⟩, ⟨"SAFE", 28, 28, .rw, 0⟩, ⟨"SOURCE", 27, 26, .rw, 0⟩, ⟨"STATION", 24, 18, .rw, 0⟩, ⟨"INDEX", 11, 0, .rw, 0⟩]⟩,
  ⟨"SX.SH_SLOT_n_B", 0x3004, [(256, 0x10)],
    [⟨"LEN4", 24, 16, .rw, 0⟩, ⟨"OFFSET4", 13, 0, .rw, 0⟩]⟩,
  ⟨"SX.SH_SLOT_n_C", 0x3008, [(256, 0x10)],
    [⟨"CONN", 25, 16, .rw, 0⟩, ⟨"IMG4", 13, 0, .rw, 0⟩]⟩,
  ⟨"SX.CS_CFG", 0x200, [],
    [⟨"EN", 31, 31, .rws, 0⟩, ⟨"WAKE_EN", 30, 30, .rws, 0⟩, ⟨"LOSS_CYCLES", 11, 8, .rws, 0⟩, ⟨"RANK", 2, 0, .rws, 0⟩]⟩,
  ⟨"SX.CS_STATUS", 0x204, [],
    [⟨"STATE", 31, 28, .ro, 0⟩, ⟨"RANK_CLASH", 27, 27, .w1c, 0⟩, ⟨"ADDR_CLASH", 26, 26, .ro, 0⟩, ⟨"NO_SCHED", 25, 25, .ro, 0⟩, ⟨"DELAY_ERR", 24, 24, .ro, 0⟩, ⟨"FOREIGN", 23, 23, .ro, 0⟩, ⟨"E_OPEN", 22, 22, .ro, 0⟩, ⟨"W_OPEN", 21, 21, .ro, 0⟩, ⟨"DELAY_VALID", 20, 20, .ro, 0⟩, ⟨"FOREIGN_LEADER", 7, 0, .ro, 0⟩]⟩,
  ⟨"SX.CS_COUNT", 0x208, [],
    [⟨"CLAIMS_SEEN", 31, 24, .ro, 0⟩, ⟨"CLASHES", 23, 16, .ro, 0⟩, ⟨"LEADER_LOST", 15, 8, .ro, 0⟩, ⟨"ELECTED", 7, 0, .ro, 0⟩]⟩,
  ⟨"SX.WIN_COUNT", 0x20C, [],
    [⟨"MISSED", 31, 16, .ro, 0⟩, ⟨"OUTSIDE", 15, 0, .ro, 0⟩]⟩,
  ⟨"SX.HEM_COUNT", 0x210, [],
    [⟨"FOLDS", 31, 16, .ro, 0⟩, ⟨"REANCHOR", 15, 0, .ro, 0⟩]⟩]
def sx_4 : List RegDesc := [
  ⟨"SX.HOP_DELAY", 0x214, [],
    [⟨"NS", 15, 0, .ro, 0⟩]⟩,
  ⟨"SX.INAUG_STATUS", 0x218, [],
    [⟨"POS", 31, 24, .ro, 0⟩, ⟨"COUNT", 23, 16, .ro, 0⟩, ⟨"SEL", 1, 0, .ro, 0⟩]⟩,
  ⟨"SX.COMP_DIGEST", 0x21C, [],
    [⟨"VALUE", 31, 0, .ro, 0⟩]⟩,
  ⟨"SX.RING_DELAY", 0x220, [],
    [⟨"VALUE", 31, 0, .ro, 0⟩]⟩,
  ⟨"SX.INAUG_CTRL", 0x224, [],
    [⟨"REINAUG", 31, 31, .wo, 0⟩, ⟨"SLEEP", 30, 30, .wo, 0⟩, ⟨"WAKE", 29, 29, .wo, 0⟩]⟩,
  ⟨"SX.SCHED_COMP_n", 0x240, [(4, 4)],
    [⟨"VALUE", 31, 0, .ro, 0⟩]⟩,
  ⟨"SX.SCHED_ID_n", 0x250, [(4, 4)],
    [⟨"VALUE", 31, 0, .ro, 0⟩]⟩,
  ⟨"SX.SAFE_COUNT", 0x300, [],
    [⟨"IN_SAFE", 31, 21, .ro, 0⟩, ⟨"MAC_WAIT_MAX", 15, 8, .ro, 0⟩, ⟨"TX_HELD", 7, 0, .ro, 0⟩]⟩,
  ⟨"SX.SAFE_SUMMARY_n", 0x380, [(32, 4)],
    [⟨"SAFE", 31, 0, .ro, 0⟩]⟩,
  ⟨"SX.CONN_n_CFG", 0x4000, [(1024, 0x10)],
    [⟨"EN", 31, 31, .rws, 0⟩, ⟨"DIR", 30, 30, .rws, 0⟩, ⟨"MEDIUM", 29, 29, .rws, 0⟩, ⟨"MAC", 28, 28, .rws, 0⟩, ⟨"KEY", 27, 24, .rws, 0⟩, ⟨"ACK_REQ", 23, 23, .rws, 0⟩, ⟨"REVIVE", 22, 19, .rws, 0⟩, ⟨"SEQ_WIN", 18, 11, .rws, 0⟩, ⟨"LEN4", 8, 0, .rws, 0⟩]⟩,
  ⟨"SX.CONN_n_ID", 0x4004, [(1024, 0x10)],
    [⟨"ID", 31, 0, .rws, 0⟩]⟩,
  ⟨"SX.CONN_n_AGE", 0x4008, [(1024, 0x10)],
    [⟨"FUT_TOL", 31, 24, .rws, 0⟩, ⟨"MAX_AGE", 19, 0, .rws, 0⟩]⟩]
def sx_5 : List RegDesc := [
  ⟨"SX.CONN_n_STAT", 0x400C, [(1024, 0x10)],
    [⟨"STATE", 31, 29, .ro, 0⟩, ⟨"CAUSE", 28, 26, .ro, 0⟩, ⟨"ACK", 25, 25, .w1s, 0⟩, ⟨"READY", 24, 24, .ro, 0⟩, ⟨"COUNT", 23, 20, .ro, 0⟩, ⟨"SEQ", 15, 0, .ro, 0⟩]⟩,
  ⟨"SX.CONN_n_ERR_A", 0x8000, [(1024, 8)],
    [⟨"CRC_ERR", 31, 16, .ro, 0⟩, ⟨"MAC_ERR", 15, 0, .ro, 0⟩]⟩,
  ⟨"SX.CONN_n_ERR_B", 0x8004, [(1024, 8)],
    [⟨"SEQ_ERR", 31, 16, .ro, 0⟩, ⟨"AGE_ERR", 15, 0, .ro, 0⟩]⟩,
  ⟨"SX.CONN_n_LAST", 0xA000, [(1024, 4)],
    [⟨"SPAN", 31, 0, .ro, 0⟩]⟩]
def sx : List RegDesc := sx_0 ++ sx_1 ++ sx_2 ++ sx_3 ++ sx_4 ++ sx_5

/-- The registers of unit VT. -/
def vt_0 : List RegDesc := [
  ⟨"VT.CFG", 0, [],
    [⟨"RELAPSE_MAX", 15, 12, .rws, 0⟩, ⟨"PROBATION", 11, 8, .rws, 0⟩, ⟨"SVC_LIMIT", 7, 4, .rws, 0⟩, ⟨"AUTO_READMIT", 3, 3, .rws, 0⟩, ⟨"SAFE_HOLD", 2, 0, .rws, 0⟩]⟩,
  ⟨"VT.STATUS", 4, [],
    [⟨"SAFE_ALL", 15, 15, .ro, 1⟩, ⟨"WORD_LATCHED", 14, 14, .ro, 0⟩, ⟨"MODE", 13, 12, .ro, 3⟩, ⟨"HOLD_LEFT", 10, 8, .ro, 0⟩, ⟨"PRESENT", 6, 4, .ro, 0⟩, ⟨"DONOR", 3, 2, .ro, 3⟩, ⟨"READMIT_BUSY", 0, 0, .ro, 0⟩]⟩,
  ⟨"VT.LANE_STATE", 8, [],
    [⟨"C_CAUSE", 23, 20, .ro, 0⟩, ⟨"C_STATE", 19, 16, .ro, 0⟩, ⟨"B_CAUSE", 15, 12, .ro, 0⟩, ⟨"B_STATE", 11, 8, .ro, 0⟩, ⟨"A_CAUSE", 7, 4, .ro, 0⟩, ⟨"A_STATE", 3, 0, .ro, 0⟩]⟩,
  ⟨"VT.READMIT", 0xC, [],
    [⟨"ABORT", 3, 3, .wo, 0⟩, ⟨"LANE", 2, 1, .wo, 0⟩, ⟨"START", 0, 0, .wo, 0⟩]⟩,
  ⟨"VT.READMIT_STATUS", 0x10, [],
    [⟨"RESULT", 31, 28, .ro, 0⟩, ⟨"PHASE", 27, 24, .ro, 0⟩, ⟨"PASS", 23, 20, .ro, 0⟩, ⟨"RECEIVER", 19, 18, .ro, 3⟩, ⟨"DIRTY", 15, 0, .ro, 0⟩]⟩,
  ⟨"VT.SAFE_RELEASE", 0x14, [],
    [⟨"RELEASE", 0, 0, .wo, 0⟩]⟩,
  ⟨"VT.CNT_CLEAR", 0x18, [],
    [⟨"CLR_EXCL", 1, 1, .wo, 0⟩, ⟨"CLR_CNT", 0, 0, .wo, 0⟩]⟩,
  ⟨"VT.LANE_A_INFO", 0x20, [],
    [⟨"EXCLUSIONS", 31, 24, .ro, 0⟩, ⟨"RELAPSES", 23, 20, .ro, 0⟩, ⟨"SVC_RUN", 19, 16, .ro, 0⟩, ⟨"DIS_WORD", 13, 0, .ro, 0⟩]⟩,
  ⟨"VT.LANE_B_INFO", 0x24, [],
    [⟨"EXCLUSIONS", 31, 24, .ro, 0⟩, ⟨"RELAPSES", 23, 20, .ro, 0⟩, ⟨"SVC_RUN", 19, 16, .ro, 0⟩, ⟨"DIS_WORD", 13, 0, .ro, 0⟩]⟩,
  ⟨"VT.LANE_C_INFO", 0x28, [],
    [⟨"EXCLUSIONS", 31, 24, .ro, 0⟩, ⟨"RELAPSES", 23, 20, .ro, 0⟩, ⟨"SVC_RUN", 19, 16, .ro, 0⟩, ⟨"DIS_WORD", 13, 0, .ro, 0⟩]⟩,
  ⟨"VT.CYC_2OO2", 0x30, [],
    [⟨"COUNT", 31, 0, .ro, 0⟩]⟩,
  ⟨"VT.CYC_HOLD", 0x34, [],
    [⟨"COUNT", 31, 0, .ro, 0⟩]⟩]
def vt_1 : List RegDesc := [
  ⟨"VT.DIS2_COUNT", 0x38, [],
    [⟨"COUNT", 31, 0, .ro, 0⟩]⟩,
  ⟨"VT.FQ_MISMATCH", 0x3C, [],
    [⟨"COUNT", 31, 0, .ro, 0⟩]⟩,
  ⟨"VT.VS_n_BASE", 0x100, [(16, 8)],
    [⟨"BASE", 16, 0, .rws, 0⟩]⟩,
  ⟨"VT.VS_n_SIZE", 0x104, [(16, 8)],
    [⟨"SIZE", 10, 0, .rws, 0⟩]⟩]
def vt : List RegDesc := vt_0 ++ vt_1

/-- The registers of unit FIO. -/
def fio_0 : List RegDesc := [
  ⟨"FIO.STATUS", 0, [],
    [⟨"OWN_CONFLICT", 31, 31, .w1c, 0⟩, ⟨"EXT_SEEN", 30, 30, .w1c, 0⟩, ⟨"TRIP_SEEN", 29, 29, .w1c, 0⟩, ⟨"G2", 5, 4, .ro, 1⟩, ⟨"G1", 3, 2, .ro, 1⟩, ⟨"G0", 1, 0, .ro, 1⟩]⟩,
  ⟨"FIO.CTRL", 4, [],
    [⟨"COMMIT", 31, 31, .wo, 0⟩, ⟨"BASTE_PENDING", 30, 30, .ro, 0⟩, ⟨"CFG_ERR", 29, 29, .w1c, 0⟩, ⟨"ERR_CODE", 3, 0, .ro, 0⟩]⟩,
  ⟨"FIO.TICK", 8, [],
    [⟨"US", 9, 0, .ro, 0xA⟩]⟩,
  ⟨"FIO.SH_TICK", 0xC, [],
    [⟨"US", 9, 0, .rw, 0xA⟩]⟩,
  ⟨"FIO.IN_BASE", 0x10, [],
    [⟨"OFS4", 13, 0, .rws, 0⟩]⟩,
  ⟨"FIO.OWN_SEAL", 0x14, [],
    [⟨"VALID", 31, 31, .ro, 0⟩, ⟨"KIND", 30, 28, .ro, 0⟩, ⟨"CLAIMANT", 23, 20, .ro, 0⟩, ⟨"HOLDER", 19, 16, .ro, 0⟩, ⟨"INDEX", 5, 0, .ro, 0⟩]⟩,
  ⟨"FIO.OWN_RUN", 0x18, [],
    [⟨"VALID", 31, 31, .ro, 0⟩, ⟨"KIND", 30, 28, .ro, 0⟩, ⟨"CLAIMANT", 23, 20, .ro, 0⟩, ⟨"HOLDER", 19, 16, .ro, 0⟩, ⟨"INDEX", 5, 0, .ro, 0⟩]⟩,
  ⟨"FIO.GRP_ACK", 0x1C, [],
    [⟨"ACK", 2, 0, .wo, 0⟩]⟩,
  ⟨"FIO.GRP_m_CFG", 0x20, [(3, 4)],
    [⟨"NOMINAL", 1, 0, .rws, 0⟩]⟩,
  ⟨"FIO.GRP_m_STAT", 0x30, [(3, 4)],
    [⟨"STATE", 31, 30, .ro, 1⟩, ⟨"READY", 29, 29, .ro, 0⟩, ⟨"CAUSE", 28, 27, .ro, 0⟩, ⟨"CUTS", 26, 19, .ro, 0⟩, ⟨"VOLT", 15, 0, .ro, 0⟩]⟩,
  ⟨"FIO.SUP_q_MEAS", 0x40, [(4, 4)],
    [⟨"VOLT", 15, 0, .ro, 0⟩]⟩,
  ⟨"FIO.SUP_q_CAL", 0x50, [(4, 4)],
    [⟨"GAIN", 31, 16, .ro, 0x8000⟩, ⟨"OFFSET", 15, 0, .ro, 0⟩]⟩]
def fio_1 : List RegDesc := [
  ⟨"FIO.SH_SUP_q_CAL", 0x60, [(4, 4)],
    [⟨"GAIN", 31, 16, .rw, 0x8000⟩, ⟨"OFFSET", 15, 0, .rw, 0⟩]⟩,
  ⟨"FIO.TMR_m_CFG", 0x80, [(8, 4)],
    [⟨"EN", 31, 31, .rws, 0⟩, ⟨"OWNER", 30, 28, .rws, 0⟩, ⟨"CH", 4, 0, .rws, 0⟩]⟩,
  ⟨"FIO.CAP_m_CTRL", 0xA0, [(4, 4)],
    [⟨"ARM", 31, 31, .wo, 0⟩, ⟨"OWNER", 28, 26, .rws, 0⟩, ⟨"CH", 2, 0, .rw, 0⟩]⟩,
  ⟨"FIO.CAP_m_STAT", 0xB0, [(4, 4)],
    [⟨"DONE", 31, 31, .ro, 0⟩, ⟨"BUSY", 30, 30, .ro, 0⟩]⟩,
  ⟨"FIO.TMR_m_COUNT", 0xC0, [(8, 8)],
    [⟨"VALUE", 31, 0, .ro, 0⟩]⟩,
  ⟨"FIO.TMR_m_PERIOD", 0xC4, [(8, 8)],
    [⟨"VALUE", 31, 0, .ro, 0⟩]⟩,
  ⟨"FIO.CH_n_CFG", 0x100, [(32, 0x20)],
    [⟨"DIR", 31, 30, .rws, 0⟩, ⟨"PERMIT_REQ", 29, 29, .rws, 0⟩, ⟨"WIDE", 28, 28, .ro, 0⟩, ⟨"OWNER", 27, 25, .ro, 0⟩, ⟨"DIRECT", 24, 24, .ro, 0⟩]⟩,
  ⟨"FIO.CH_n_MAP", 0x104, [(32, 0x20)],
    [⟨"WORD", 29, 16, .rws, 0⟩, ⟨"BIT", 4, 0, .rws, 0⟩]⟩,
  ⟨"FIO.CH_n_FLT", 0x108, [(32, 0x20)],
    [⟨"TYPE", 11, 9, .ro, 0⟩, ⟨"RETRY", 8, 8, .ro, 0⟩, ⟨"N", 7, 0, .ro, 0⟩]⟩,
  ⟨"FIO.CH_n_STAT", 0x10C, [(32, 0x20)],
    [⟨"OSTATE", 31, 29, .ro, 0⟩, ⟨"EXT_DRIVE", 28, 28, .ro, 0⟩, ⟨"EXT_SEEN", 27, 27, .w1c, 0⟩, ⟨"TRIPPED", 26, 26, .ro, 0⟩, ⟨"TRIP_CAUSE", 25, 25, .ro, 0⟩, ⟨"LIMIT", 24, 24, .ro, 0⟩, ⟨"VALID", 23, 23, .ro, 0⟩, ⟨"FILT", 22, 22, .ro, 0⟩, ⟨"RAW", 21, 21, .ro, 0⟩, ⟨"CONDUCT", 20, 20, .ro, 0⟩, ⟨"COUNT", 7, 0, .ro, 0⟩]⟩,
  ⟨"FIO.CH_n_MEAS", 0x110, [(32, 0x20)],
    [⟨"CURR", 31, 16, .ro, 0⟩, ⟨"VOLT", 15, 0, .ro, 0⟩]⟩,
  ⟨"FIO.CH_n_CNT", 0x114, [(32, 0x20)],
    [⟨"RETRIES", 31, 16, .ro, 0⟩, ⟨"EXT_EVENTS", 15, 0, .ro, 0⟩]⟩]
def fio_2 : List RegDesc := [
  ⟨"FIO.CH_n_CTRL", 0x118, [(32, 0x20)],
    [⟨"CLEAR", 0, 0, .wo, 0⟩]⟩,
  ⟨"FIO.CH_n_CALV", 0x600, [(32, 0x10)],
    [⟨"GAIN", 31, 16, .ro, 0x8000⟩, ⟨"OFFSET", 15, 0, .ro, 0⟩]⟩,
  ⟨"FIO.CH_n_CALI", 0x604, [(32, 0x10)],
    [⟨"GAIN", 31, 16, .ro, 0x8000⟩, ⟨"OFFSET", 15, 0, .ro, 0⟩]⟩,
  ⟨"FIO.SH_CH_n_CALV", 0x608, [(32, 0x10)],
    [⟨"GAIN", 31, 16, .rw, 0x8000⟩, ⟨"OFFSET", 15, 0, .rw, 0⟩]⟩,
  ⟨"FIO.SH_CH_n_CALI", 0x60C, [(32, 0x10)],
    [⟨"GAIN", 31, 16, .rw, 0x8000⟩, ⟨"OFFSET", 15, 0, .rw, 0⟩]⟩,
  ⟨"FIO.SH_CH_n_FLT", 0x800, [(32, 4)],
    [⟨"TYPE", 11, 9, .rw, 0⟩, ⟨"RETRY", 8, 8, .rw, 0⟩, ⟨"N", 7, 0, .rw, 0⟩]⟩,
  ⟨"FIO.CAP_m_DATA_w", 0xC00, [(4, 0x40), (16, 4)],
    [⟨"SAMPLES", 31, 0, .ro, 0⟩]⟩]
def fio : List RegDesc := fio_0 ++ fio_1 ++ fio_2

/-- The registers of unit MC. -/
def mc_0 : List RegDesc := [
  ⟨"MC.STATUS", 0, [],
    [⟨"FADING", 23, 16, .ro, 0⟩, ⟨"STUCK", 15, 8, .ro, 0⟩, ⟨"VALID", 7, 0, .ro, 0⟩]⟩,
  ⟨"MC.CFG", 4, [],
    [⟨"MCLK", 0, 0, .rws, 0⟩]⟩,
  ⟨"MC.IN_BASE", 8, [],
    [⟨"OFS4", 13, 0, .rws, 0⟩]⟩,
  ⟨"MC.CH_n_CFG", 0x100, [(8, 0x40)],
    [⟨"EN", 31, 31, .rws, 0⟩, ⟨"D", 30, 27, .rws, 0⟩, ⟨"NM1", 26, 21, .rws, 0⟩, ⟨"R", 20, 12, .rws, 0⟩]⟩,
  ⟨"MC.CH_n_ALIGN", 0x104, [(8, 0x40)],
    [⟨"PHASE", 15, 8, .rws, 0⟩, ⟨"SAMPLE", 5, 0, .rws, 0⟩]⟩,
  ⟨"MC.CH_n_DET", 0x108, [(8, 0x40)],
    [⟨"ATT", 31, 28, .rw, 0⟩, ⟨"DEC", 27, 24, .rw, 0⟩, ⟨"WINDOW", 15, 0, .rw, 0⟩]⟩,
  ⟨"MC.CH_n_CTRL", 0x10C, [(8, 0x40)],
    [⟨"COMMIT", 31, 31, .wo, 0⟩, ⟨"BASTE_PENDING", 30, 30, .ro, 0⟩, ⟨"PEAK_CLR", 29, 29, .wo, 0⟩, ⟨"FADING", 28, 28, .ro, 0⟩, ⟨"FADE", 7, 0, .rw, 0⟩]⟩,
  ⟨"MC.CH_n_STAT", 0x110, [(8, 0x40)],
    [⟨"VALID", 31, 31, .ro, 0⟩, ⟨"STUCK", 30, 30, .ro, 0⟩, ⟨"OVER", 29, 29, .w1c, 0⟩, ⟨"STUCK_SEEN", 28, 28, .w1c, 0⟩, ⟨"LEVEL", 21, 16, .ro, 0⟩, ⟨"RESULTS", 15, 0, .ro, 0⟩]⟩,
  ⟨"MC.CH_n_CNT", 0x114, [(8, 0x40)],
    [⟨"OVF", 31, 16, .ro, 0⟩, ⟨"UNDERRUN", 15, 0, .ro, 0⟩]⟩,
  ⟨"MC.CH_n_FIFO_CFG", 0x118, [(8, 0x40)],
    [⟨"THRESH", 5, 0, .rws, 8⟩]⟩,
  ⟨"MC.CH_n_VALUE", 0x11C, [(8, 0x40)],
    [⟨"VALUE", 31, 0, .ro, 0⟩]⟩,
  ⟨"MC.CH_n_SPAN", 0x120, [(8, 0x40)],
    [⟨"VALUE", 31, 0, .ro, 0⟩]⟩]
def mc_1 : List RegDesc := [
  ⟨"MC.CH_n_MAX", 0x124, [(8, 0x40)],
    [⟨"VALUE", 31, 0, .ro, 0⟩]⟩,
  ⟨"MC.CH_n_MIN", 0x128, [(8, 0x40)],
    [⟨"VALUE", 31, 0, .ro, 0⟩]⟩,
  ⟨"MC.CH_n_RMS", 0x12C, [(8, 0x40)],
    [⟨"VALUE", 31, 0, .ro, 0⟩]⟩,
  ⟨"MC.CH_n_ENV", 0x130, [(8, 0x40)],
    [⟨"VALUE", 31, 0, .ro, 0⟩]⟩,
  ⟨"MC.CH_n_COEF_i", 0x1000, [(8, 0x100), (32, 4)],
    [⟨"H", 17, 0, .ro, 0⟩]⟩,
  ⟨"MC.SH_CH_n_COEF_i", 0x1080, [(8, 0x100), (32, 4)],
    [⟨"H", 17, 0, .rw, 0⟩]⟩,
  ⟨"MC.CH_n_FIFO_w", 0x2000, [(8, 0x40), (16, 4)],
    [⟨"WORD", 31, 0, .ro, 0x80000000⟩]⟩]
def mc : List RegDesc := mc_0 ++ mc_1

/-- The registers of unit GB. -/
def gb_0 : List RegDesc := [
  ⟨"GB.STATUS", 0, [],
    [⟨"PEF_VALID", 31, 31, .ro, 0⟩, ⟨"PEF_OVF", 30, 30, .w1c, 0⟩, ⟨"SAT_SEEN", 29, 29, .w1c, 0⟩, ⟨"PEF_COUNT", 28, 24, .ro, 0⟩, ⟨"HALTED", 15, 0, .ro, 0⟩]⟩,
  ⟨"GB.CFG", 4, [],
    [⟨"PE_EY", 31, 27, .rws, 0⟩, ⟨"NP_TMO", 15, 0, .rws, 0⟩]⟩,
  ⟨"GB.IN_SECT", 8, [],
    [⟨"SIZE4", 31, 16, .rws, 0⟩, ⟨"OFS4", 13, 0, .rws, 0⟩]⟩,
  ⟨"GB.COUNT", 0xC, [],
    [⟨"SATURATED", 31, 16, .ro, 0⟩, ⟨"REPLACED", 15, 0, .ro, 0⟩]⟩,
  ⟨"GB.MSG_COUNT", 0x10, [],
    [⟨"BAD_KIND", 31, 16, .ro, 0⟩, ⟨"LATE_CPL", 15, 8, .ro, 0⟩, ⟨"SHORT", 7, 0, .ro, 0⟩]⟩,
  ⟨"GB.SAT_LAST", 0x14, [],
    [⟨"VALID", 31, 31, .ro, 0⟩, ⟨"ENTRY", 9, 0, .ro, 0⟩]⟩,
  ⟨"GB.PEF_INFO", 0x20, [],
    [⟨"CAUSE", 31, 28, .ro, 0⟩, ⟨"INIT", 27, 25, .ro, 0⟩, ⟨"WIN", 24, 21, .ro, 0⟩, ⟨"NODE", 7, 0, .ro, 0⟩]⟩,
  ⟨"GB.PEF_ADDR", 0x24, [],
    [⟨"ADDR", 31, 0, .ro, 0⟩]⟩,
  ⟨"GB.PEF_TAG", 0x28, [],
    [⟨"SEQ", 31, 16, .ro, 0⟩, ⟨"TAG", 15, 0, .ro, 0⟩]⟩,
  ⟨"GB.PEF_CTRL", 0x2C, [],
    [⟨"LOST", 31, 16, .ro, 0⟩, ⟨"POP", 0, 0, .wo, 0⟩]⟩,
  ⟨"GB.CPL_i", 0x40, [(3, 4)],
    [⟨"PENDING", 31, 31, .ro, 0⟩, ⟨"RESULT", 27, 24, .ro, 0⟩, ⟨"WIN", 23, 20, .ro, 0⟩, ⟨"SEQ", 15, 0, .ro, 0⟩]⟩,
  ⟨"GB.WIN_n_CFG", 0x100, [(16, 0x20)],
    [⟨"EN", 31, 31, .rws, 0⟩, ⟨"NP", 30, 30, .rws, 0⟩, ⟨"HALT", 29, 29, .rws, 0⟩, ⟨"RING", 28, 28, .rws, 0⟩, ⟨"DEST", 20, 13, .rws, 0⟩, ⟨"APT_BASE", 12, 0, .rws, 0⟩]⟩]
def gb_1 : List RegDesc := [
  ⟨"GB.WIN_n_REMOTE", 0x104, [(16, 0x20)],
    [⟨"REMOTE", 31, 0, .rws, 0⟩]⟩,
  ⟨"GB.WIN_n_SIZE", 0x108, [(16, 0x20)],
    [⟨"WORDS", 13, 0, .rws, 0⟩]⟩,
  ⟨"GB.WIN_n_STAT", 0x10C, [(16, 0x20)],
    [⟨"DROPPED", 31, 16, .ro, 0⟩, ⟨"SEQ", 15, 0, .ro, 0⟩]⟩,
  ⟨"GB.WIN_n_CTRL", 0x110, [(16, 0x20)],
    [⟨"RESUME", 31, 31, .wo, 0⟩, ⟨"TAG", 15, 0, .rw, 0⟩]⟩,
  ⟨"GB.WIN_n_SIG", 0x114, [(16, 0x20)],
    [⟨"CODE", 31, 0, .wo, 0⟩]⟩,
  ⟨"GB.IN_n_CFG", 0x300, [(8, 0x10)],
    [⟨"EN", 31, 31, .rws, 0⟩, ⟨"EY", 30, 26, .rws, 0⟩, ⟨"SRC", 7, 0, .rws, 0⟩]⟩,
  ⟨"GB.IN_n_BASE", 0x304, [(8, 0x10)],
    [⟨"BASE", 31, 0, .rws, 0⟩]⟩,
  ⟨"GB.IN_n_PAGES", 0x308, [(8, 0x10)],
    [⟨"PAGES", 17, 0, .rws, 0⟩]⟩,
  ⟨"GB.IN_n_STAT", 0x30C, [(8, 0x10)],
    [⟨"APPLIED", 31, 16, .ro, 0⟩, ⟨"REFUSED", 15, 0, .ro, 0⟩]⟩,
  ⟨"GB.MAP_e_SRC", 0x1000, [(768, 0x20)],
    [⟨"EN", 31, 31, .rws, 0⟩, ⟨"KIND", 30, 28, .rws, 0⟩, ⟨"SIGNED", 27, 27, .rws, 0⟩, ⟨"ORDER", 26, 26, .rws, 0⟩, ⟨"WIDTH", 25, 21, .rws, 0⟩, ⟨"BIT", 18, 0, .rws, 0⟩]⟩,
  ⟨"GB.MAP_e_SIDX", 0x1004, [(768, 0x20)],
    [⟨"INDEX", 9, 0, .rws, 0⟩]⟩,
  ⟨"GB.MAP_e_DST", 0x1008, [(768, 0x20)],
    [⟨"DKIND", 31, 31, .rws, 0⟩, ⟨"DSIGNED", 30, 30, .rws, 0⟩, ⟨"DWIDTH", 29, 25, .rws, 0⟩, ⟨"DBIT", 18, 0, .rws, 0⟩]⟩]
def gb_2 : List RegDesc := [
  ⟨"GB.MAP_e_A", 0x100C, [(768, 0x20)],
    [⟨"VALUE", 31, 0, .rws, 0⟩]⟩,
  ⟨"GB.MAP_e_B", 0x1010, [(768, 0x20)],
    [⟨"VALUE", 31, 0, .rws, 0⟩]⟩,
  ⟨"GB.APT_w", 0x8000, [(8192, 4)],
    [⟨"DATA", 31, 0, .wo, 0⟩]⟩]
def gb : List RegDesc := gb_0 ++ gb_1 ++ gb_2

/-- The registers of unit SH. -/
def sh_0 : List RegDesc := [
  ⟨"SH.STATUS", 0, [],
    [⟨"ERROR", 31, 16, .ro, 0⟩, ⟨"ACTIVE", 15, 0, .ro, 0⟩]⟩,
  ⟨"SH.CFG", 4, [],
    [⟨"GB_WEIGHT", 19, 16, .rws, 0⟩]⟩,
  ⟨"SH.LW_BASE", 8, [],
    [⟨"PAGES", 20, 0, .rws, 0⟩]⟩,
  ⟨"SH.LW_SIZE", 0xC, [],
    [⟨"PAGES", 20, 0, .rws, 0⟩]⟩,
  ⟨"SH.GB_STALL", 0x10, [],
    [⟨"JC", 31, 0, .ro, 0⟩]⟩,
  ⟨"SH.IRQ", 0x14, [],
    [⟨"CH", 15, 0, .w1c, 0⟩]⟩,
  ⟨"SH.CH_c_CFG", 0x100, [(16, 0x40)],
    [⟨"SECURE", 31, 31, .rws, 0⟩, ⟨"WEIGHT", 19, 16, .ro, 1⟩, ⟨"IRQ", 15, 15, .ro, 0⟩]⟩,
  ⟨"SH.CH_c_PC", 0x104, [(16, 0x40)],
    [⟨"JUMP", 31, 31, .ro, 0⟩, ⟨"ENTRY", 24, 16, .ro, 0⟩, ⟨"PC", 8, 0, .ro, 0⟩]⟩,
  ⟨"SH.CH_c_CTRL", 0x108, [(16, 0x40)],
    [⟨"START", 31, 31, .wo, 0⟩, ⟨"STOP", 30, 30, .wo, 0⟩, ⟨"COMMIT", 29, 29, .wo, 0⟩, ⟨"BASTE_PENDING", 28, 28, .ro, 0⟩, ⟨"CLEAR", 27, 27, .wo, 0⟩]⟩,
  ⟨"SH.CH_c_STAT", 0x10C, [(16, 0x40)],
    [⟨"STATE", 31, 29, .ro, 0⟩, ⟨"DONE", 28, 28, .w1c, 0⟩, ⟨"STOP_PEND", 27, 27, .ro, 0⟩, ⟨"ERR", 23, 20, .ro, 0⟩, ⟨"ERR_PC", 8, 0, .ro, 0⟩]⟩,
  ⟨"SH.CH_c_CNT", 0x110, [(16, 0x40)],
    [⟨"OVERRUN", 31, 16, .ro, 0⟩, ⟨"BURSTS", 15, 0, .ro, 0⟩]⟩,
  ⟨"SH.CH_c_STALL", 0x114, [(16, 0x40)],
    [⟨"JC", 31, 0, .ro, 0⟩]⟩]
def sh_1 : List RegDesc := [
  ⟨"SH.CH_c_MSG", 0x118, [(16, 0x40)],
    [⟨"VALUE", 31, 0, .ro, 0⟩]⟩,
  ⟨"SH.CH_c_SOFS", 0x11C, [(16, 0x40)],
    [⟨"VALUE", 31, 0, .ro, 0⟩]⟩,
  ⟨"SH.CH_c_DOFS", 0x120, [(16, 0x40)],
    [⟨"VALUE", 31, 0, .ro, 0⟩]⟩,
  ⟨"SH.SH_CH_c_CFG", 0x124, [(16, 0x40)],
    [⟨"SECURE", 31, 31, .ro, 0⟩, ⟨"WEIGHT", 19, 16, .rw, 1⟩, ⟨"IRQ", 15, 15, .rw, 0⟩]⟩,
  ⟨"SH.SH_CH_c_PC", 0x128, [(16, 0x40)],
    [⟨"JUMP", 31, 31, .rw, 0⟩, ⟨"ENTRY", 24, 16, .rw, 0⟩, ⟨"PC", 8, 0, .ro, 0⟩]⟩,
  ⟨"SH.CH_c_LOOP", 0x12C, [(16, 0x40)],
    [⟨"VALUE", 31, 0, .ro, 0⟩]⟩,
  ⟨"SH.PROG_w", 0x8000, [(2048, 4)],
    [⟨"WORD", 31, 0, .rw, 0⟩]⟩]
def sh : List RegDesc := sh_0 ++ sh_1

/-- The registers of unit EY. -/
def ey_0 : List RegDesc := [
  ⟨"EY.CH_n_CFG", 0, [(2, 0x1000), (16, 0x20)],
    [⟨"EN", 31, 31, .rws, 0⟩, ⟨"RCV", 30, 28, .rws, 0⟩]⟩,
  ⟨"EY.CH_n_POST", 4, [(2, 0x1000), (16, 0x20)],
    [⟨"WORD", 31, 0, .wo, 0⟩]⟩,
  ⟨"EY.CH_n_MSG", 8, [(2, 0x1000), (16, 0x20)],
    [⟨"WORD", 31, 0, .ro, 0⟩]⟩,
  ⟨"EY.CH_n_STAT", 0xC, [(2, 0x1000), (16, 0x20)],
    [⟨"FULL", 31, 31, .ro, 0⟩, ⟨"REFUSED", 30, 30, .w1c, 0⟩, ⟨"REFUSALS", 23, 16, .ro, 0⟩, ⟨"POSTS", 15, 0, .ro, 0⟩]⟩,
  ⟨"EY.CH_n_PEEK", 0x10, [(2, 0x1000), (16, 0x20)],
    [⟨"WORD", 31, 0, .ro, 0⟩]⟩,
  ⟨"EY.TH_n", 0x2000, [(64, 4)],
    [⟨"OWNER", 7, 0, .rw, 0⟩]⟩,
  ⟨"EY.TH_OWNED_LO", 0x2100, [],
    [⟨"BITS", 31, 0, .ro, 0⟩]⟩,
  ⟨"EY.TH_OWNED_HI", 0x2104, [],
    [⟨"BITS", 31, 0, .ro, 0⟩]⟩,
  ⟨"EY.TH_FORCE_LO", 0x2108, [],
    [⟨"BITS", 31, 0, .wo, 0⟩]⟩,
  ⟨"EY.TH_FORCE_HI", 0x210C, [],
    [⟨"BITS", 31, 0, .wo, 0⟩]⟩,
  ⟨"EY.TH_STAT", 0x2110, [],
    [⟨"BAD_RELEASES", 31, 16, .ro, 0⟩, ⟨"AUTO_RELEASES", 15, 0, .ro, 0⟩]⟩,
  ⟨"EY.STATUS", 0x3000, [],
    [⟨"SEC_VIOL", 31, 31, .w1c, 0⟩]⟩]
def ey_1 : List RegDesc := [
  ⟨"EY.FULL", 0x3004, [],
    [⟨"FULL", 31, 0, .ro, 0⟩]⟩]
def ey : List RegDesc := ey_0 ++ ey_1

/-- The registers of unit ETH. -/
def eth_0 : List RegDesc := [
  ⟨"ETH.CFG", 0, [],
    [⟨"PD_ETYPE", 31, 16, .rws, 0⟩, ⟨"DOMAIN", 15, 8, .rws, 0⟩, ⟨"OC_EN", 1, 1, .rws, 0⟩, ⟨"TC_EN", 0, 0, .rws, 0⟩]⟩,
  ⟨"ETH.IN_BASE", 4, [],
    [⟨"OFS4", 13, 0, .rws, 0⟩]⟩,
  ⟨"ETH.TXR_IDX", 0x10, [],
    [⟨"PROD", 25, 16, .rw, 0⟩, ⟨"CONS", 9, 0, .ro, 0⟩]⟩,
  ⟨"ETH.RXR_IDX", 0x14, [],
    [⟨"PROD", 25, 16, .ro, 0⟩, ⟨"CONS", 9, 0, .rw, 0⟩]⟩,
  ⟨"ETH.QLIM_q", 0x40, [(8, 4)],
    [⟨"KB", 9, 0, .rws, 0⟩]⟩,
  ⟨"ETH.PORT_p_CFG", 0x100, [(8, 0x20)],
    [⟨"EN", 31, 31, .rws, 0⟩, ⟨"BLOCK", 30, 30, .rw, 0⟩, ⟨"LEARN", 29, 29, .rws, 0⟩, ⟨"SPEED", 28, 27, .rws, 0⟩, ⟨"DEF_PCP", 26, 24, .rws, 0⟩, ⟨"PVID", 11, 0, .rws, 0⟩]⟩,
  ⟨"ETH.PORT_p_STAT", 0x104, [(8, 0x20)],
    [⟨"LINK", 31, 31, .ro, 0⟩, ⟨"RATE", 30, 29, .ro, 0⟩, ⟨"DUPLEX_ERR", 28, 28, .w1c, 0⟩, ⟨"LINK_DOWNS", 15, 0, .ro, 0⟩]⟩,
  ⟨"ETH.PORT_p_RX_ERR", 0x108, [(8, 0x20)],
    [⟨"FCS_LEN", 31, 16, .ro, 0⟩, ⟨"PAUSE", 15, 0, .ro, 0⟩]⟩,
  ⟨"ETH.PORT_p_RX_DROP", 0x10C, [(8, 0x20)],
    [⟨"NO_BUF", 31, 16, .ro, 0⟩, ⟨"VLAN", 15, 0, .ro, 0⟩]⟩,
  ⟨"ETH.PORT_p_QDROP_j", 0x110, [(8, 0x20), (4, 4)],
    [⟨"Q_ODD", 31, 16, .ro, 0⟩, ⟨"Q_EVEN", 15, 0, .ro, 0⟩]⟩,
  ⟨"ETH.VLAN_v", 0x200, [(64, 4)],
    [⟨"EN", 31, 31, .rws, 0⟩, ⟨"VID", 27, 16, .rws, 0⟩, ⟨"MEMBER", 15, 8, .rws, 0⟩, ⟨"UNTAG", 7, 0, .rws, 0⟩]⟩,
  ⟨"ETH.MAC_m_HI", 0x300, [(16, 8)],
    [⟨"ADDR", 31, 0, .rws, 0⟩]⟩]
def eth_1 : List RegDesc := [
  ⟨"ETH.MAC_m_LO", 0x304, [(16, 8)],
    [⟨"ADDR", 31, 0, .rws, 0⟩]⟩,
  ⟨"ETH.PD_n_A", 0x400, [(256, 0x10)],
    [⟨"EN", 31, 31, .rws, 0⟩, ⟨"DIR", 30, 30, .rws, 0⟩, ⟨"SEL", 29, 28, .rws, 0⟩, ⟨"MAC", 27, 24, .rws, 0⟩, ⟨"PCP", 23, 21, .rws, 0⟩, ⟨"VID", 20, 9, .rws, 0⟩, ⟨"LEN4", 8, 0, .rws, 0⟩]⟩,
  ⟨"ETH.PD_n_B", 0x404, [(256, 0x10)],
    [⟨"STREAM", 31, 16, .rws, 0⟩, ⟨"IMG4_CONN", 13, 0, .rws, 0⟩]⟩,
  ⟨"ETH.PD_n_STAT", 0x40C, [(256, 0x10)],
    [⟨"FRESH", 31, 31, .ro, 0⟩, ⟨"LATE", 23, 16, .ro, 0⟩, ⟨"FRAMES", 15, 0, .ro, 0⟩]⟩]
def eth : List RegDesc := eth_0 ++ eth_1

/-- The registers of unit MVB. -/
def mvb_0 : List RegDesc := [
  ⟨"MVB.STATUS", 0, [],
    [⟨"BA_ACTIVE", 31, 31, .ro, 0⟩, ⟨"MASTER_CLASH", 30, 30, .w1c, 0⟩, ⟨"BA_RESUME", 29, 29, .wo, 0⟩, ⟨"TRUSTED", 28, 28, .ro, 0⟩, ⟨"LOAD", 9, 0, .ro, 0⟩]⟩,
  ⟨"MVB.CFG", 4, [],
    [⟨"EN", 31, 31, .rws, 0⟩, ⟨"BA", 30, 30, .rws, 0⟩, ⟨"BP", 29, 29, .rws, 0⟩, ⟨"DEV_ADDR", 27, 16, .rws, 0⟩]⟩,
  ⟨"MVB.LINE_ERR", 8, [],
    [⟨"LINE_A", 31, 16, .ro, 0⟩, ⟨"LINE_B", 15, 0, .ro, 0⟩]⟩,
  ⟨"MVB.IN_BASE", 0xC, [],
    [⟨"OFS4", 13, 0, .rws, 0⟩]⟩,
  ⟨"MVB.PORT_n_CFG", 0x1000, [(1024, 8)],
    [⟨"EN", 31, 31, .rws, 0⟩, ⟨"DIR", 30, 30, .rws, 0⟩, ⟨"GUSSET", 29, 29, .rws, 0⟩, ⟨"FCODE", 28, 26, .rws, 0⟩, ⟨"ADDR", 25, 14, .rws, 0⟩, ⟨"IMG4", 13, 0, .rws, 0⟩]⟩,
  ⟨"MVB.PORT_n_STAT", 0x1004, [(1024, 8)],
    [⟨"FRESH", 31, 31, .ro, 0⟩, ⟨"LIMIT", 30, 20, .rws, 0⟩, ⟨"AGE", 15, 0, .ro, 0xFFFF⟩]⟩,
  ⟨"MVB.POLL_j", 0x4000, [(1024, 4)],
    [⟨"EN", 31, 31, .rws, 0⟩, ⟨"FCODE", 30, 28, .rws, 0⟩, ⟨"ADDR", 27, 16, .rws, 0⟩, ⟨"EXP", 15, 12, .rws, 0⟩, ⟨"PHASE", 9, 0, .rws, 0⟩]⟩]
def mvb : List RegDesc := mvb_0

/-- The registers of unit CAN. -/
def can_0 : List RegDesc := [
  ⟨"CAN.CTL_c_STATUS", 0, [(4, 0x4000)],
    [⟨"STATE", 31, 30, .ro, 0⟩, ⟨"LISTEN", 29, 29, .ro, 0⟩, ⟨"BUSOFF_SEEN", 28, 28, .w1c, 0⟩, ⟨"TEC", 15, 8, .ro, 0⟩, ⟨"REC", 7, 0, .ro, 0⟩]⟩,
  ⟨"CAN.CTL_c_CFG", 4, [(4, 0x4000)],
    [⟨"EN", 31, 31, .rws, 0⟩, ⟨"FD", 30, 30, .rws, 0⟩, ⟨"TERM", 29, 29, .rws, 0⟩, ⟨"AUTO_REC", 28, 28, .rws, 0⟩, ⟨"MON", 27, 27, .rw, 0⟩, ⟨"REST", 26, 26, .rw, 0⟩]⟩,
  ⟨"CAN.CTL_c_NBT", 8, [(4, 0x4000)],
    [⟨"BRP", 26, 22, .rws, 0⟩, ⟨"TSEG1", 21, 14, .rws, 0⟩, ⟨"TSEG2", 13, 7, .rws, 0⟩, ⟨"SJW", 6, 0, .rws, 0⟩]⟩,
  ⟨"CAN.CTL_c_DBT", 0xC, [(4, 0x4000)],
    [⟨"TDC", 31, 31, .rws, 0⟩, ⟨"BRP", 26, 22, .rws, 0⟩, ⟨"TSEG1", 21, 14, .rws, 0⟩, ⟨"TSEG2", 13, 7, .rws, 0⟩, ⟨"SJW", 6, 0, .rws, 0⟩]⟩,
  ⟨"CAN.CTL_c_ERR", 0x10, [(4, 0x4000)],
    [⟨"RECOVER", 31, 31, .wo, 0⟩, ⟨"BUSOFFS", 23, 16, .ro, 0⟩, ⟨"RTR", 15, 8, .ro, 0⟩, ⟨"LAST_ERR", 7, 0, .ro, 0⟩]⟩,
  ⟨"CAN.CTL_c_MB_m_ID", 0x100, [(4, 0x4000), (64, 0x80)],
    [⟨"XTD", 31, 31, .rws, 0⟩, ⟨"ID", 28, 0, .rws, 0⟩]⟩,
  ⟨"CAN.CTL_c_MB_m_MASK", 0x104, [(4, 0x4000), (64, 0x80)],
    [⟨"ID", 28, 0, .rws, 0⟩]⟩,
  ⟨"CAN.CTL_c_MB_m_CTRL", 0x108, [(4, 0x4000), (64, 0x80)],
    [⟨"SEND", 31, 31, .wo, 0⟩, ⟨"KIND", 30, 29, .rws, 0⟩, ⟨"GUSSET", 28, 28, .rws, 0⟩, ⟨"FDF", 27, 27, .rws, 0⟩, ⟨"BRS", 26, 26, .rws, 0⟩, ⟨"DLC", 19, 16, .rw, 0⟩, ⟨"SOFT", 15, 15, .rws, 0⟩, ⟨"IMG4", 13, 0, .rws, 0⟩]⟩,
  ⟨"CAN.CTL_c_MB_m_STAT", 0x10C, [(4, 0x4000), (64, 0x80)],
    [⟨"PEND", 31, 31, .ro, 0⟩, ⟨"NEW", 30, 30, .w1c, 0⟩, ⟨"OVR", 29, 29, .w1c, 0⟩, ⟨"LATE", 15, 0, .ro, 0⟩]⟩,
  ⟨"CAN.CTL_c_MB_m_DATA_w", 0x110, [(4, 0x4000), (64, 0x80), (16, 4)],
    [⟨"BYTES", 31, 0, .rw, 0⟩]⟩,
  ⟨"CAN.IN_BASE", 0xF000, [],
    [⟨"OFS4", 13, 0, .rws, 0⟩]⟩]
def can : List RegDesc := can_0

/-- The registers of unit WL. -/
def wl_0 : List RegDesc := [
  ⟨"WL.STATUS", 0, [],
    [⟨"FROZEN", 31, 31, .ro, 0⟩, ⟨"KEEP_FULL", 30, 30, .ro, 0⟩, ⟨"WRAPPED", 29, 29, .ro, 0⟩, ⟨"QUEUED", 6, 0, .ro, 0⟩]⟩,
  ⟨"WL.CFG", 4, [],
    [⟨"CIRC_LOG2", 21, 17, .rws, 0x17⟩, ⟨"KEEP_N", 16, 0, .rws, 0⟩]⟩,
  ⟨"WL.CTRL", 8, [],
    [⟨"FREEZE", 31, 31, .wo, 0⟩, ⟨"THAW", 30, 30, .wo, 0⟩]⟩,
  ⟨"WL.TOTAL_HI", 0xC, [],
    [⟨"COUNT", 31, 0, .ro, 0⟩]⟩,
  ⟨"WL.TOTAL_LO", 0x10, [],
    [⟨"COUNT", 31, 0, .ro, 0⟩]⟩,
  ⟨"WL.OLDEST", 0x14, [],
    [⟨"SEQ", 31, 0, .ro, 0⟩]⟩,
  ⟨"WL.LOST", 0x18, [],
    [⟨"COUNT", 31, 0, .ro, 0⟩]⟩,
  ⟨"WL.FROZEN_EVENTS", 0x1C, [],
    [⟨"COUNT", 31, 0, .ro, 0⟩]⟩,
  ⟨"WL.FLUSH_CFG", 0x20, [],
    [⟨"THRESH", 5, 0, .rw, 2⟩]⟩,
  ⟨"WL.FLUSH_SEQ", 0x24, [],
    [⟨"SEQ", 31, 0, .ro, 0⟩]⟩,
  ⟨"WL.FLUSH_CNT", 0x28, [],
    [⟨"LOST", 31, 16, .ro, 0⟩, ⟨"UNDER", 15, 0, .ro, 0⟩]⟩,
  ⟨"WL.FLUSH_w", 0x100, [(16, 4)],
    [⟨"WORD", 31, 0, .ro, 0xFFFFFFFF⟩]⟩]
def wl : List RegDesc := wl_0

/-- The registers of unit DX. -/
def dx_0 : List RegDesc := [
  ⟨"DX.STATUS", 0, [],
    [⟨"STATE", 31, 28, .ro, 1⟩, ⟨"ROLE", 27, 26, .ro, 3⟩, ⟨"PRIMARY", 25, 25, .ro, 0⟩, ⟨"LINK_OK", 24, 24, .ro, 0⟩, ⟨"RING_LIFE", 23, 23, .ro, 0⟩, ⟨"CLAIM_LINE", 22, 21, .ro, 1⟩, ⟨"CLAIM_VALID", 20, 20, .ro, 0⟩, ⟨"RING_COVERS", 19, 19, .ro, 0⟩, ⟨"DRILL_REFUSED", 18, 18, .w1c, 0⟩, ⟨"SF", 17, 17, .ro, 0⟩, ⟨"SF_CAUSE", 15, 8, .ro, 0⟩]⟩,
  ⟨"DX.CFG", 4, [],
    [⟨"DUPLEX", 31, 31, .rws, 0⟩, ⟨"SF_FQ8", 30, 30, .rws, 0⟩, ⟨"MISMATCH_MAX", 29, 26, .rws, 0⟩]⟩,
  ⟨"DX.CTRL", 8, [],
    [⟨"DRILL", 31, 31, .wo, 0⟩, ⟨"RESYNC", 30, 30, .wo, 0⟩, ⟨"CKPT_DEFER", 0, 0, .rw, 0⟩]⟩,
  ⟨"DX.CLAIM", 0xC, [],
    [⟨"PARTNER", 31, 16, .ro, 0⟩, ⟨"OWN", 15, 0, .ro, 0⟩]⟩,
  ⟨"DX.PARTNER", 0x10, [],
    [⟨"STATE", 31, 28, .ro, 0⟩, ⟨"PRIMARY", 27, 27, .ro, 0⟩, ⟨"SF", 26, 26, .ro, 0⟩, ⟨"COMPAT", 25, 25, .ro, 0⟩, ⟨"SF_CAUSE", 23, 16, .ro, 0⟩, ⟨"MISSES", 15, 0, .ro, 0⟩]⟩,
  ⟨"DX.HB_SEQ", 0x14, [],
    [⟨"SEQ", 31, 0, .ro, 0⟩]⟩,
  ⟨"DX.COUNT", 0x18, [],
    [⟨"TAKEOVERS", 31, 24, .ro, 0⟩, ⟨"DEMOTIONS", 23, 16, .ro, 0⟩, ⟨"LINK_LOSSES", 15, 8, .ro, 0⟩, ⟨"SYNCS", 7, 0, .ro, 0⟩]⟩,
  ⟨"DX.TAKEOVER", 0x1C, [],
    [⟨"REASON", 31, 28, .ro, 0⟩, ⟨"COLD", 27, 27, .ro, 0⟩, ⟨"COLD_INIT", 26, 26, .ro, 0⟩, ⟨"GAP", 15, 0, .ro, 0⟩]⟩,
  ⟨"DX.SYNC_STATUS", 0x20, [],
    [⟨"PHASE", 31, 28, .ro, 0⟩, ⟨"AGREE", 27, 24, .ro, 0⟩, ⟨"RUN", 23, 20, .ro, 0⟩, ⟨"GAPS", 19, 16, .ro, 0⟩, ⟨"MISMATCH", 15, 0, .ro, 0⟩]⟩,
  ⟨"DX.CKPT_STATUS", 0x24, [],
    [⟨"AGE_MS", 31, 16, .ro, 0xFFFF⟩, ⟨"VALID", 15, 15, .ro, 0⟩, ⟨"COPY", 14, 14, .ro, 0⟩, ⟨"RESTORED", 13, 13, .ro, 0⟩]⟩,
  ⟨"DX.CKPT_n_BASE", 0x40, [(8, 8)],
    [⟨"BASE", 16, 0, .rws, 0⟩]⟩,
  ⟨"DX.CKPT_n_SIZE", 0x44, [(8, 8)],
    [⟨"SIZE", 4, 0, .rws, 0⟩]⟩]
def dx : List RegDesc := dx_0

/-- The registers of unit UPD. -/
def upd_0 : List RegDesc := [
  ⟨"UPD.START_STATUS", 0, [],
    [⟨"PHASE", 31, 28, .ro, 0⟩, ⟨"WARM", 27, 27, .ro, 0⟩, ⟨"LAST_CODE", 15, 8, .ro, 0⟩, ⟨"STARTS", 7, 0, .ro, 0⟩]⟩,
  ⟨"UPD.LAST_DETAIL", 4, [],
    [⟨"SOURCE", 31, 16, .ro, 0⟩, ⟨"OFFSET", 15, 0, .ro, 0⟩]⟩,
  ⟨"UPD.START_CFG", 8, [],
    [⟨"WARM", 31, 31, .rws, 0⟩]⟩,
  ⟨"UPD.IMG_POLICY", 0xC, [],
    [⟨"FAMILY", 31, 16, .rws, 0⟩, ⟨"MIN_VERSION", 15, 0, .rws, 0⟩]⟩,
  ⟨"UPD.SLOT_A", 0x10, [],
    [⟨"PAGES", 20, 0, .rws, 0⟩]⟩,
  ⟨"UPD.SLOT_B", 0x14, [],
    [⟨"PAGES", 20, 0, .rws, 0⟩]⟩,
  ⟨"UPD.SLOT_SIZE", 0x18, [],
    [⟨"PAGES", 20, 0, .rws, 0⟩]⟩,
  ⟨"UPD.RESTART", 0x1C, [],
    [⟨"KEY", 31, 16, .wo, 0⟩, ⟨"KIND", 1, 0, .wo, 0⟩]⟩,
  ⟨"UPD.IMG_ID", 0x20, [],
    [⟨"RUN_VERSION", 31, 16, .ro, 0⟩, ⟨"STAGED_VERSION", 15, 0, .ro, 0⟩]⟩,
  ⟨"UPD.FLASH_CTRL", 0x24, [],
    [⟨"GO", 31, 31, .wo, 0⟩, ⟨"OP", 3, 2, .wo, 0⟩, ⟨"LANE", 1, 0, .wo, 0⟩]⟩,
  ⟨"UPD.FLASH_STATUS", 0x28, [],
    [⟨"BUSY", 31, 31, .ro, 0⟩, ⟨"STAGED", 30, 28, .ro, 0⟩, ⟨"RESULT", 27, 24, .ro, 0⟩, ⟨"PERCENT", 7, 0, .ro, 0⟩]⟩,
  ⟨"UPD.ACT_CTRL", 0x2C, [],
    [⟨"GO", 31, 31, .wo, 0⟩, ⟨"LEAD", 7, 0, .wo, 0⟩]⟩]
def upd_1 : List RegDesc := [
  ⟨"UPD.ACT_STATUS", 0x30, [],
    [⟨"PENDING", 31, 31, .ro, 0⟩, ⟨"RESULT", 27, 24, .ro, 0⟩, ⟨"GAP", 23, 16, .ro, 0⟩, ⟨"K_A", 15, 0, .ro, 0⟩]⟩,
  ⟨"UPD.CHG_CTRL", 0x34, [],
    [⟨"SUBMIT", 31, 31, .wo, 0⟩]⟩,
  ⟨"UPD.CHG_STATUS", 0x38, [],
    [⟨"BUSY", 31, 31, .ro, 0⟩, ⟨"RESULT", 19, 16, .ro, 0⟩, ⟨"SEQ", 15, 0, .ro, 0⟩]⟩,
  ⟨"UPD.SLEEP_CTRL", 0x3C, [],
    [⟨"WAKE", 31, 31, .wo, 0⟩]⟩,
  ⟨"UPD.SLEEP_STATUS", 0x40, [],
    [⟨"WAKE_HELD", 31, 31, .w1c, 0⟩, ⟨"SLEEPS", 15, 8, .ro, 0⟩, ⟨"RESUMES", 7, 0, .ro, 0⟩]⟩,
  ⟨"UPD.JFLASH", 0x44, [],
    [⟨"GO", 31, 31, .wo, 0⟩, ⟨"BUSY", 30, 30, .ro, 0⟩, ⟨"RESULT", 29, 28, .ro, 0⟩, ⟨"LOADED", 27, 27, .ro, 0⟩, ⟨"LEN", 26, 0, .wo, 0⟩]⟩,
  ⟨"UPD.REC_CTRL", 0x48, [],
    [⟨"PROGRAM", 31, 31, .wo, 0⟩, ⟨"MEMTEST", 30, 30, .wo, 0⟩, ⟨"TARGET", 29, 27, .wo, 0⟩, ⟨"LEN", 26, 0, .wo, 0⟩]⟩,
  ⟨"UPD.REC_STATUS", 0x4C, [],
    [⟨"BUSY", 31, 31, .ro, 0⟩, ⟨"RESULT", 30, 28, .ro, 0⟩, ⟨"BLOCKS", 27, 0, .ro, 0⟩]⟩,
  ⟨"UPD.CHG_DATA_w", 0x100, [(66, 4)],
    [⟨"BYTES", 31, 0, .rw, 0⟩]⟩]
def upd : List RegDesc := upd_0 ++ upd_1

/-- The registers of unit TL. -/
def tl_0 : List RegDesc := [
  ⟨"TL.STATUS", 0, [],
    [⟨"TSEQ", 31, 0, .ro, 0⟩]⟩,
  ⟨"TL.READ_IDX", 4, [],
    [⟨"IDX", 9, 0, .rw, 0⟩]⟩,
  ⟨"TL.ENTRY_w", 0x40, [(16, 4)],
    [⟨"BYTES", 31, 0, .ro, 0⟩]⟩]
def tl : List RegDesc := tl_0

/-- The registers of unit TT. -/
def tt_0 : List RegDesc := [
  ⟨"TT.STATUS", 0, [],
    [⟨"ENABLED", 31, 31, .ro, 0⟩, ⟨"SCAN_REFUSED", 30, 30, .w1c, 0⟩]⟩,
  ⟨"TT.SEL_n", 0x10, [(8, 4)],
    [⟨"INV", 8, 8, .rw, 0⟩, ⟨"SIGNAL", 7, 0, .rw, 0⟩]⟩]
def tt : List RegDesc := tt_0

/-- The registers of unit AX. -/
def ax_0 : List RegDesc := [
  ⟨"AX.DEV_ID", 0, [],
    [⟨"DEVICE", 31, 24, .ro, 3⟩, ⟨"STEP", 23, 16, .ro, 0⟩, ⟨"INSTANCE", 7, 0, .ro, 0⟩]⟩,
  ⟨"AX.STATUS", 4, [],
    [⟨"CAUSE", 23, 16, .ro, 0⟩, ⟨"LINK_OK", 6, 6, .ro, 0⟩, ⟨"OSC_OK", 5, 5, .ro, 0⟩, ⟨"DIGEST_OK", 4, 4, .ro, 0⟩, ⟨"STATE", 2, 0, .ro, 0⟩]⟩,
  ⟨"AX.EVAL_COUNT", 8, [],
    [⟨"VALUE", 31, 0, .ro, 0⟩]⟩,
  ⟨"AX.PERMITS", 0xC, [],
    [⟨"VALUE", 31, 0, .ro, 0⟩]⟩,
  ⟨"AX.SENSE", 0x10, [],
    [⟨"VALUE", 31, 0, .ro, 0⟩]⟩,
  ⟨"AX.SUP_Q", 0x14, [],
    [⟨"VALUE", 31, 0, .ro, 0⟩]⟩,
  ⟨"AX.SUP_F", 0x18, [],
    [⟨"VALUE", 31, 0, .ro, 0⟩]⟩,
  ⟨"AX.DIGEST_AGE", 0x1C, [],
    [⟨"US", 15, 0, .ro, 0xFFFF⟩]⟩,
  ⟨"AX.IN_BASE", 0x20, [],
    [⟨"OFS4", 13, 0, .ro, 0⟩]⟩,
  ⟨"AX.DIGEST_n", 0x40, [(8, 4)],
    [⟨"DIGEST", 31, 0, .ro, 0⟩]⟩,
  ⟨"AX.SUP_n_CFG", 0x100, [(32, 8)],
    [⟨"EN", 31, 31, .ro, 0⟩, ⟨"MODE", 30, 30, .ro, 0⟩, ⟨"START_SAFE", 29, 29, .ro, 0⟩, ⟨"CH_A", 25, 21, .ro, 0⟩, ⟨"CH_B", 20, 16, .ro, 0⟩, ⟨"D", 15, 0, .ro, 0⟩]⟩,
  ⟨"AX.SUP_n_STAT", 0x104, [(32, 8)],
    [⟨"STATE", 31, 29, .ro, 0⟩, ⟨"F", 28, 28, .ro, 0⟩, ⟨"Q", 27, 27, .ro, 0⟩, ⟨"FAULTS", 23, 16, .ro, 0⟩, ⟨"COUNT", 15, 0, .ro, 0⟩]⟩]
def ax_1 : List RegDesc := [
  ⟨"AX.SENSE_n_CFG", 0x200, [(32, 4)],
    [⟨"OWNED", 31, 31, .ro, 0⟩, ⟨"TYPE", 26, 24, .ro, 0⟩, ⟨"N", 23, 16, .ro, 0⟩, ⟨"NP", 7, 0, .ro, 0⟩]⟩,
  ⟨"AX.PERMIT_n_SRC", 0x280, [(32, 4)],
    [⟨"SRC", 9, 0, .ro, 0⟩]⟩,
  ⟨"AX.CELL_m_HI", 0x1000, [(512, 8)],
    [⟨"TYPE", 31, 29, .ro, 0⟩, ⟨"UNIT", 28, 28, .ro, 0⟩, ⟨"INV", 27, 25, .ro, 0⟩, ⟨"A", 19, 10, .ro, 0⟩, ⟨"B", 9, 0, .ro, 0⟩]⟩,
  ⟨"AX.CELL_m_LO", 0x1004, [(512, 8)],
    [⟨"C", 25, 16, .ro, 0⟩, ⟨"TIME", 15, 0, .ro, 0⟩]⟩,
  ⟨"AX.CELL_OUT_w", 0x2000, [(16, 4)],
    [⟨"VALUE", 31, 0, .ro, 0⟩]⟩]
def ax : List RegDesc := ax_0 ++ ax_1

/-- The registers of unit LC. -/
def lc_0 : List RegDesc := [
  ⟨"LC.DEV_ID", 0, [],
    [⟨"DEVICE", 31, 24, .ro, 1⟩, ⟨"STEP", 23, 16, .ro, 0⟩, ⟨"INSTANCE", 7, 0, .ro, 0⟩]⟩,
  ⟨"LC.LANE_STATUS", 4, [],
    [⟨"EXEC", 11, 8, .ro, 0⟩, ⟨"REPLAY_HALT", 6, 6, .ro, 0⟩, ⟨"DEBUG_SPLIT", 5, 5, .ro, 0⟩, ⟨"H1_HALTED", 4, 4, .ro, 0⟩, ⟨"H0_HALTED", 3, 3, .ro, 0⟩, ⟨"VOTING", 2, 2, .ro, 0⟩, ⟨"SVC_MASTER", 1, 1, .ro, 0⟩, ⟨"IN_STEP", 0, 0, .ro, 0⟩]⟩,
  ⟨"LC.LS_CFG", 8, [],
    [⟨"DBG_MODE", 1, 1, .rws, 0⟩, ⟨"REPL", 0, 0, .rws, 0⟩]⟩,
  ⟨"LC.FAULT_CAUSE", 0xC, [],
    [⟨"VALID", 31, 31, .ro, 0⟩, ⟨"CAUSE", 15, 8, .ro, 0⟩, ⟨"GROUP", 2, 0, .ro, 0⟩]⟩,
  ⟨"LC.FAULT_TIME_HI", 0x10, [],
    [⟨"TIME", 31, 0, .ro, 0⟩]⟩,
  ⟨"LC.FAULT_TIME_LO", 0x14, [],
    [⟨"TIME", 31, 0, .ro, 0⟩]⟩,
  ⟨"LC.L1_CORR", 0x18, [],
    [⟨"IC_CORR", 31, 16, .ro, 0⟩, ⟨"DC_CORR", 15, 0, .ro, 0⟩]⟩,
  ⟨"LC.L1_REFETCH", 0x1C, [],
    [⟨"REFETCH", 15, 0, .ro, 0⟩]⟩,
  ⟨"LC.CNT_CLEAR", 0x20, [],
    [⟨"CLR_MISSED", 1, 1, .wo, 0⟩, ⟨"CLR_L1", 0, 0, .wo, 0⟩]⟩,
  ⟨"LC.DBG_STATUS", 0x24, [],
    [⟨"MISSED", 31, 16, .ro, 0⟩, ⟨"GRANT", 3, 3, .ro, 0⟩, ⟨"TRIG_CLEARED", 2, 2, .w1c, 0⟩, ⟨"HALT_REFUSED", 1, 1, .w1c, 0⟩, ⟨"STRAP", 0, 0, .ro, 0⟩]⟩]
def lc : List RegDesc := lc_0

/-- The registers of unit CMP. -/
def cmp_0 : List RegDesc := [
  ⟨"CMP.STATUS", 0, [],
    [⟨"DLY_H1_OK", 5, 5, .ro, 0⟩, ⟨"DLY_H0_OK", 4, 4, .ro, 0⟩, ⟨"COPY_B_OK", 3, 3, .ro, 0⟩, ⟨"COPY_A_OK", 2, 2, .ro, 0⟩, ⟨"H1_COMPARED", 1, 1, .ro, 0⟩, ⟨"H0_COMPARED", 0, 0, .ro, 0⟩]⟩,
  ⟨"CMP.TEST_COUNT", 4, [],
    [⟨"COUNT", 31, 0, .ro, 0⟩]⟩,
  ⟨"CMP.TEST_LAST", 8, [],
    [⟨"FLAGS_B", 31, 16, .ro, 0⟩, ⟨"FLAGS_A", 15, 0, .ro, 0⟩]⟩,
  ⟨"CMP.TEST_AGE", 0xC, [],
    [⟨"AGE", 15, 0, .ro, 0xFFFF⟩]⟩,
  ⟨"CMP.TEST_REQ", 0x10, [],
    [⟨"RUN", 0, 0, .wo, 0⟩]⟩]
def cmp : List RegDesc := cmp_0

/-- The registers of unit TRD. -/
def trd_0 : List RegDesc := [
  ⟨"TRD.STATUS", 0, [],
    [⟨"QUIET", 31, 31, .ro, 1⟩, ⟨"HALT_REL", 30, 30, .ro, 0⟩, ⟨"BANK", 29, 29, .ro, 0⟩, ⟨"CUR_TASK", 28, 24, .ro, 0x1F⟩, ⟨"FORCES", 23, 16, .ro, 0⟩, ⟨"CHG_SEQ", 15, 0, .ro, 0⟩]⟩,
  ⟨"TRD.NEXT", 4, [],
    [⟨"VALID", 31, 31, .ro, 0⟩, ⟨"RESUME", 30, 30, .ro, 0⟩, ⟨"PRIO", 12, 8, .ro, 0⟩, ⟨"TASK", 4, 0, .ro, 0x1F⟩]⟩,
  ⟨"TRD.DISPATCH", 8, [],
    [⟨"TASK", 4, 0, .wo, 0⟩]⟩,
  ⟨"TRD.DONE", 0xC, [],
    [⟨"TASK", 4, 0, .wo, 0⟩]⟩,
  ⟨"TRD.CYCLE", 0x10, [],
    [⟨"CYCLE", 31, 0, .ro, 0⟩]⟩,
  ⟨"TRD.CNT_CLEAR", 0x14, [],
    [⟨"CLR_RESP", 1, 1, .wo, 0⟩, ⟨"CLR_CNT", 0, 0, .wo, 0⟩]⟩,
  ⟨"TRD.CT_n_CFG", 0x100, [(8, 0x10)],
    [⟨"EN", 31, 31, .rws, 0⟩, ⟨"PRIO", 28, 24, .rws, 0⟩, ⟨"PERIOD", 19, 10, .rws, 0⟩, ⟨"PHASE", 9, 0, .rws, 0⟩]⟩,
  ⟨"TRD.CT_n_STAT", 0x104, [(8, 0x10)],
    [⟨"STATE", 31, 29, .ro, 0⟩, ⟨"STALE", 28, 28, .w1c, 0⟩, ⟨"PENDING", 27, 27, .ro, 0⟩, ⟨"REL_CYCLE", 15, 0, .ro, 0⟩]⟩,
  ⟨"TRD.CT_n_CNT", 0x108, [(8, 0x10)],
    [⟨"LATE", 31, 16, .ro, 0⟩, ⟨"OVERRUN", 15, 0, .ro, 0⟩]⟩,
  ⟨"TRD.CT_n_RESP", 0x10C, [(8, 0x10)],
    [⟨"MAX_RESP", 31, 16, .ro, 0⟩, ⟨"MIN_SLACK", 15, 0, .ro, 0xFFFF⟩]⟩,
  ⟨"TRD.ET_n_CFG", 0x200, [(16, 0x10)],
    [⟨"EN", 31, 31, .rws, 0⟩, ⟨"PRIO", 28, 24, .rws, 0⟩, ⟨"SRC", 23, 20, .rws, 0⟩, ⟨"EDGE", 19, 18, .rws, 0⟩, ⟨"SEL", 17, 12, .rws, 0⟩, ⟨"WINDOW", 11, 0, .rws, 0⟩]⟩,
  ⟨"TRD.ET_n_STAT", 0x204, [(16, 0x10)],
    [⟨"STATE", 31, 29, .ro, 0⟩, ⟨"STALE", 28, 28, .w1c, 0⟩, ⟨"PENDING", 27, 27, .ro, 0⟩, ⟨"REL_CYCLE", 15, 0, .ro, 0⟩]⟩]
def trd_1 : List RegDesc := [
  ⟨"TRD.ET_n_CNT", 0x208, [(16, 0x10)],
    [⟨"LATE", 31, 16, .ro, 0⟩, ⟨"OVERRUN", 15, 0, .ro, 0⟩]⟩,
  ⟨"TRD.ET_n_RESP", 0x20C, [(16, 0x10)],
    [⟨"MAX_RESP", 31, 16, .ro, 0⟩, ⟨"MIN_SLACK", 15, 0, .ro, 0xFFFF⟩]⟩,
  ⟨"TRD.ET_n_EVT_SPAN", 0x400, [(16, 8)],
    [⟨"VALUE", 31, 0, .ro, 0⟩]⟩,
  ⟨"TRD.ET_n_EVT_DATA", 0x404, [(16, 8)],
    [⟨"VALUE", 31, 0, .ro, 0⟩]⟩,
  ⟨"TRD.FORCE_n_LOC", 0x1000, [(64, 0x10)],
    [⟨"ACTIVE", 31, 31, .ro, 0⟩, ⟨"IMG", 30, 30, .ro, 0⟩, ⟨"SAFETY", 29, 29, .ro, 0⟩, ⟨"WORD", 13, 0, .ro, 0⟩]⟩,
  ⟨"TRD.FORCE_n_MASK", 0x1004, [(64, 0x10)],
    [⟨"VALUE", 31, 0, .ro, 0⟩]⟩,
  ⟨"TRD.FORCE_n_VAL", 0x1008, [(64, 0x10)],
    [⟨"VALUE", 31, 0, .ro, 0⟩]⟩]
def trd : List RegDesc := trd_0 ++ trd_1

/-- The registers of unit MEM. -/
def mem_0 : List RegDesc := [
  ⟨"MEM.STATUS", 0, [],
    [⟨"FILLING", 31, 31, .ro, 0⟩, ⟨"INVAL_BUSY", 30, 30, .ro, 0⟩, ⟨"LAP_LATE", 29, 29, .w1c, 0⟩, ⟨"INVAL_ERR", 28, 28, .w1c, 0⟩, ⟨"DIAG_HOLD", 27, 27, .ro, 0⟩, ⟨"RETIRE_BUSY", 26, 26, .ro, 0⟩, ⟨"ELOG_COUNT", 15, 8, .ro, 0⟩, ⟨"RT_USED", 7, 0, .ro, 0⟩]⟩,
  ⟨"MEM.CFG", 4, [],
    [⟨"LAP_MAX", 31, 16, .rws, 0⟩]⟩,
  ⟨"MEM.SPARE_BASE", 8, [],
    [⟨"PAGE", 20, 0, .rws, 0⟩]⟩,
  ⟨"MEM.INVAL_BASE", 0xC, [],
    [⟨"PAGES", 20, 0, .rw, 0⟩]⟩,
  ⟨"MEM.INVAL_SIZE", 0x10, [],
    [⟨"PAGES", 20, 0, .rw, 0⟩]⟩,
  ⟨"MEM.CMD", 0x14, [],
    [⟨"CLR_CNT", 1, 1, .wo, 0⟩, ⟨"INVAL", 0, 0, .wo, 0⟩]⟩,
  ⟨"MEM.FILL_TIME", 0x18, [],
    [⟨"US", 31, 0, .ro, 0⟩]⟩,
  ⟨"MEM.CORR_COUNT", 0x20, [],
    [⟨"COUNT", 31, 0, .ro, 0⟩]⟩,
  ⟨"MEM.UNCORR_COUNT", 0x24, [],
    [⟨"COUNT", 31, 0, .ro, 0⟩]⟩,
  ⟨"MEM.SRAM_CORR", 0x28, [],
    [⟨"L2", 31, 24, .ro, 0⟩, ⟨"SCRATCH", 23, 16, .ro, 0⟩, ⟨"IMAGE", 15, 8, .ro, 0⟩, ⟨"BITMAP", 7, 0, .ro, 0⟩]⟩,
  ⟨"MEM.PF_REJECT", 0x2C, [],
    [⟨"COUNT", 31, 0, .ro, 0⟩]⟩,
  ⟨"MEM.SCRUB_LAP", 0x30, [],
    [⟨"LAPS", 31, 16, .ro, 0⟩, ⟨"LAST_MS", 15, 0, .ro, 0⟩]⟩]
def mem_1 : List RegDesc := [
  ⟨"MEM.SCRUB_AGE", 0x34, [],
    [⟨"MS", 15, 0, .ro, 0⟩]⟩,
  ⟨"MEM.SCRUB_VALID", 0x38, [],
    [⟨"BLOCKS", 24, 0, .ro, 0⟩]⟩,
  ⟨"MEM.IDLE", 0x3C, [],
    [⟨"PERMILLE", 9, 0, .ro, 0⟩]⟩,
  ⟨"MEM.ELOG_INFO", 0x40, [],
    [⟨"VALID", 31, 31, .ro, 0⟩, ⟨"TYPE", 27, 24, .ro, 0⟩, ⟨"SOURCE", 23, 20, .ro, 0⟩, ⟨"REPEAT", 15, 8, .ro, 0⟩, ⟨"SYNDROME", 7, 0, .ro, 0⟩]⟩,
  ⟨"MEM.ELOG_ADDR", 0x44, [],
    [⟨"ADDR", 26, 0, .ro, 0⟩]⟩,
  ⟨"MEM.ELOG_TIME_HI", 0x48, [],
    [⟨"TIME", 31, 0, .ro, 0⟩]⟩,
  ⟨"MEM.ELOG_TIME_LO", 0x4C, [],
    [⟨"TIME", 31, 0, .ro, 0⟩]⟩,
  ⟨"MEM.ELOG_CTRL", 0x50, [],
    [⟨"LOST", 31, 16, .ro, 0⟩, ⟨"POP", 0, 0, .wo, 0⟩]⟩,
  ⟨"MEM.DIAG_ADDR", 0x60, [],
    [⟨"WORD", 29, 0, .rw, 0⟩]⟩,
  ⟨"MEM.DIAG_DATA_HI", 0x64, [],
    [⟨"DATA", 31, 0, .rw, 0⟩]⟩,
  ⟨"MEM.DIAG_DATA_LO", 0x68, [],
    [⟨"DATA", 31, 0, .rw, 0⟩]⟩,
  ⟨"MEM.DIAG_CHECK", 0x6C, [],
    [⟨"CHECK", 7, 0, .rw, 0⟩]⟩]
def mem_2 : List RegDesc := [
  ⟨"MEM.DIAG_CMD", 0x70, [],
    [⟨"RELEASE", 2, 2, .wo, 0⟩, ⟨"READ", 1, 1, .wo, 0⟩, ⟨"WRITE", 0, 0, .wo, 0⟩]⟩,
  ⟨"MEM.DIAG_RESULT", 0x74, [],
    [⟨"DONE", 31, 31, .ro, 0⟩, ⟨"REFUSED", 30, 30, .ro, 0⟩, ⟨"CLASS", 29, 28, .ro, 0⟩, ⟨"SYNDROME", 15, 8, .ro, 0⟩, ⟨"BIT", 6, 0, .ro, 0⟩]⟩,
  ⟨"MEM.RT_n", 0x400, [(128, 4)],
    [⟨"ACTIVE", 31, 31, .w1s, 0⟩, ⟨"BUSY", 30, 30, .ro, 0⟩, ⟨"COPY_ERR", 29, 29, .ro, 0⟩, ⟨"REFUSED", 28, 28, .w1c, 0⟩, ⟨"PAGE", 20, 0, .rw, 0⟩]⟩]
def mem : List RegDesc := mem_0 ++ mem_1 ++ mem_2

end RegMap

end Sys2Proof.Machine
end

