-- ==== Sys2Proof/Config.lean ====
section
/-! DEFINITION. What an implementation fixes and what the spec leaves open: opaque constants without a body, so that no proof can
see a value of them. Each is named in the assumption log. -/

namespace Sys2Proof

/-- A fresh unstated word, applied to the counter that State carries (log entry 3). -/
opaque Config.freeValue : Nat → BitVec 64

/-- The eight Hsiao (72,64) check bits of a 64-bit word; R152 names the code and not its matrix (log entry 8). -/
opaque Config.hsiaoCheck : BitVec 64 → Byte

/-- Whether a non-zero syndrome names one bit to correct, by the word and the check bits that it is read with (log entry 8). -/
opaque Config.hsiaoFixes : BitVec 64 → Byte → Bool

/-- The position of the corrected bit, below 64 a data bit (log entry 8). -/
opaque Config.hsiaoBit : BitVec 64 → Byte → Fin 72

/-- Whether a signature over a digest verifies under a public key (ECDSA on the curve of R469; log entry 6). -/
opaque Config.verifies : (key digest signature : List Byte) → Bool

/-- The contents of the Awl ROM by lane address (R28); the spec does not list them (log entry 11). -/
opaque Config.awlRom : Nat → Byte

/-- The level, at an uptime, of a test-tap signal that lies below the commands: frames on the incoming ring pairs and the claim wires as sampled (log entry 14). -/
opaque Config.tapLine : (signal : Nat) → (uptime : Nat) → Bool

/-- The time in ns of one poll of an MVB port by F-code, master frame, reply and slave frame; R366 refers to the standard (log entry 10). -/
opaque Config.mvbPollTime : Nat → Nat

end Sys2Proof
end

