-- ==== Sys2Proof/Machine/State.lean ====
section
/-! DEFINITION. The state of the module, all of it plain data: every register of the spec in one sparse store keyed by the
register's address (RegMap gives the reset value of an unlisted one), and what the module holds beside its registers, unit by unit;
the queue of waiting commands; the reset state; the reasons a step can stop. -/

namespace Sys2Proof.Machine

/-- A sparse store in canonical form: addresses strictly rising, no entry equal to what an unlisted address reads as. -/
abbrev Store (β : Type) := List (Nat × β)

/-- A memory: a store of bytes whose unlisted addresses read zero (R159, R163). -/
abbrev Mem := List Host.Cell

/-- The last answer to an initiator's access (R12, R28): nothing yet, accepted, a word read, an access fault. -/
inductive BusResp | idle | done | data (w : Word) | fault
  deriving DecidableEq, Repr

/-- A step command waiting for the jc after its GO (R187): absolute wall time or signed relative size, in ns. -/
structure StepReq where
  absolute : Bool
  value : Int
  source : Nat
  at_ : Nat
  deriving DecidableEq, Repr

/-- The timescales of R178 and the running corrections: uptime and network time in ns, the wall offset, the remaining
phase correction of R181 and its 250 jc count, the fractional drift of R186 in units of 10^-9 ns, the running slew with the
rate of its GO (R196) and its elapsed ns, the pending step command, the last offset taken from the ring with its network time
(R509), and the targets that the compare units were armed with (R191). -/
structure Clock where
  uptime : Nat
  net : Nat
  ofs : Int
  corr : Int
  corrCnt : Nat
  drift : Int
  slew : Int
  slewRate : Nat
  slewAcc : Nat
  stepPend : Option StepReq
  ringOfs : Option (Int × Nat)
  targets : List (Nat × Nat)
  deriving DecidableEq, Repr

/-- An event for the Welt (R451, R452): the jc it entered in, its source, code and data, and the wall time with its flags. -/
structure WEvent where
  at_ : Nat
  src : Nat
  code : Nat
  data : Nat
  sec : Nat
  flags : Nat
  ns : Nat
  deriving DecidableEq, Repr

/-- The last record written (R455). -/
structure WLast where
  src : Nat
  code : Nat
  data : Nat
  addr : Nat
  seq : Nat
  deriving DecidableEq, Repr

/-- The Welt recorder's state that no register shows: the input queue (R453), the held time-step events and the lost
steps of a freeze and the uptime at which it began (R456), the last record, and the next word of the flush (R458). -/
structure WeltSt where
  queue : List WEvent
  held : List WEvent
  lostSteps : Nat
  frozenAt : Option Nat
  last : Option WLast
  flushWord : Nat
  deriving DecidableEq, Repr

/-- A trouble-log cause waiting to be written (R461). -/
structure TCause where
  at_ : Nat
  src : Nat
  code : Nat
  off : Nat
  bit : Nat
  detail : List Nat
  starts : Nat
  uptime : Nat
  sec : Nat
  flags : Nat
  ns : Nat
  deriving DecidableEq, Repr

/-- The architectural and debug state of a hart (R61 to R68, R84 to R90): integer and floating registers and the CSRs
as sparse stores of zero default, the pc, machine mode, the load reservation, the clock gate of WFI, the pending
interrupt lines (bit 3 software, bit 7 timer, bit 11 external), whether the hart is halted, halts on its next reset or
single-steps, its four triggers, and mcycle: its offset from the uptime while it counts, its value while it stands. -/
structure HartSt where
  x : Store (BitVec 64)
  f : Store (BitVec 64)
  csr : Store (BitVec 64)
  pc : BitVec 64
  machine : Bool
  resv : Option Nat
  gated : Bool
  lines : Nat
  halted : Bool
  resetHalt : Bool
  step : Bool
  triggers : List Trigger
  cycOfs : Int
  cycStop : Option Nat
  deriving DecidableEq, Repr

/-- The debug module of a lane (R84, R85): dmactive, hartsel, cmderr, data0 and data1, the program buffer, and the resume
acknowledgements of the two harts. -/
structure DmSt where
  active : Bool
  hartsel : Nat
  cmderr : Nat
  data : BitVec 64
  progbuf : List Word
  ack0 : Bool
  ack1 : Bool
  deriving DecidableEq, Repr

/-- What the header of a lane image and its tables declare (R140, R147, R472): identity, slot, size, entry points,
retained region, version, migration budget, changeable variables, initial output block. -/
structure LaneImage where
  id : Nat
  slot : Nat
  size : Nat
  entry0 : Nat
  entry1 : Nat
  retBase : Nat
  retSize : Nat
  retVersion : Nat
  budget : Nat
  vars : List VarDecl
  init : List Byte
  deriving DecidableEq, Repr

/-- A debug request that awaits the junction's grant answer (R86). -/
inductive DbgReq
  | halt (h : Hart)
  | ndmreset
  | trigger (h : Hart) (t : Fin 4) (v : Trigger)
  | ebreak (h : Hart) (dcsr : BitVec 64)
  deriving DecidableEq, Repr

/-- An event notice on its way to a lane or held there (R125 to R127): the event task, t_e as network time and as a
span, the release instant r, the event data and the count of triggers not sent. -/
structure Notice where
  task : Nat
  te : Nat
  span : Nat
  r : Nat
  data : Word
  missed : Nat
  deriving DecidableEq, Repr

/-- What a Treadle holds of a task beside its registers: the uptime and network time of the release, the CYCLE and bank
it reads, the network time from which its result is published, whether the release was suppressed under R134 and
whether it missed its publication point. -/
structure TaskSt where
  relUp : Nat
  relCycle : Nat
  bank : Nat
  pubAt : Nat
  stale : Bool
  late : Bool
  slack : Bool
  doneAt : Nat
  deriving DecidableEq, Repr

/-- One record of a change block (R140). -/
structure ChgRec where
  target : Nat
  op : Nat
  width : Nat
  mask : Word
  value : BitVec 64
  deriving DecidableEq, Repr

/-- A change block (R140). -/
structure ChgBlock where
  seq : Nat
  recs : List ChgRec
  deriving DecidableEq, Repr

/-- A core write held in the egress gate until the comparator has passed it (R80), with the uptime at which the core made it. -/
structure EgressWr where
  hart : Hart
  addr : Nat
  len : Nat
  word : Word
  at_ : Nat
  deriving DecidableEq, Repr

/-- What the registers of CMP showed before a forced-mismatch test (R77): the uptime of the test, the words of STATUS, TEST_LAST and
TEST_COUNT, and the uptime of the last test passed. -/
structure TestUndo where
  at_ : Nat
  status : Word
  last : Word
  count : Word
  passed : Option Nat
  deriving DecidableEq, Repr

/-- A lane beside its registers: its harts, its memories (scratch, DDR4, what L2 lines that outlive an invalidation may hold (R161), the two
input banks, the working and published
output images, the lane flash and the loaded image), the tasks and the notices held, the staged change block, the
egress gate, the notices on their way to the vote unit, the debug module, the image loaded, and the times that timeouts and ages count from. -/
structure LaneSt where
  h0 : HartSt
  h1 : HartSt
  scratch : Mem
  ddr : Mem
  l2 : Mem
  bank0 : Mem
  bank1 : Mem
  work : Mem
  pub : Mem
  flash : Mem
  curTask : Option Nat
  tasks : List TaskSt
  notices : List Notice
  inbox : List Notice
  staged : Option ChgBlock
  egressOpen : Bool
  egress : List EgressWr
  cmdLink : Bool
  withdrawal : Option (Nat × Nat × Nat)
  haltNotice : Bool
  dbgReq : Option DbgReq
  dbgAt : Nat
  resumeAt : Option Nat
  resumeK : Nat
  testAt : Option Nat
  testRun : Option Nat
  testUndo : Option TestUndo
  testStage : Nat
  replMode : Nat
  handover : Option Bool
  held : Option Mem
  pfCaptured : Bool
  ready : Bool
  img : Option LaneImage
  dm : DmSt
  deriving DecidableEq, Repr

/-- What the vote unit received of a lane's hand-over in a cycle: the image, and whether a word failed its check. -/
structure HandOver where
  img : Mem
  bad : Bool
  deriving DecidableEq, Repr

/-- A readmission in progress (R112 to R117): receiver, donor, the uptime of START, the dirty pages of voted state,
the pages being copied in this pass and the cycle of the quiet point of FINAL. -/
structure Readmit where
  receiver : Lane
  donor : Lane
  start : Nat
  dirty : List Nat
  passPages : List Nat
  quiet : Option Nat
  deriving DecidableEq, Repr

/-- The message that the vote unit sends to an FQ8 (chapter 04, The output stage): the membership and for each of its
eight channels the voted command, the mode (0 normal, 1 hold, 2 preset, 3 safe) and the preset value. Only the
membership counts in a message that follows a notice. -/
structure FqMsg where
  member : Tri Bool
  only : Bool
  cmds : List Bool
  modes : List Nat
  presets : List Bool
  deriving DecidableEq, Repr

/-- A report of an FQ8 to the vote unit (R107, R109): the channel, the lanes counted as a mask, and whether the channel was driven to
its safe value. -/
structure FqReport where
  ch : Nat
  counted : Nat
  mismatch : Bool
  direct : Bool
  deriving DecidableEq, Repr

/-- One FQ8 (chapters 01, 04, 11): the membership in force and the one that takes force at the next commit, messages on the field
control link, the lane frames arrived and latched, and per channel the command, whether the voted bit of a direct-mapped channel differed
from its direct command (R48), and the own latch of R109; drive, the monitors of R21, reports not yet received, and the claim class it holds. -/
structure FqSt where
  member : Option (Tri Bool)
  inbox : List FqMsg
  msg : Option FqMsg
  arrived : Tri (Option Nat)
  frames : Tri (Option Nat)
  cmd : List Bool
  differs : List Bool
  latch : List Bool
  drive : Bool
  lost : Bool
  reports : List FqReport
  claimValid : Bool
  deriving DecidableEq, Repr

/-- The vote unit beside its registers: the hand-overs received in the cycle, halt notices not yet acted on, the lanes present at the
last commit, whether any image was voted since the start, the last voted value of each word and the words without one,
the words in 2oo2 disagreement now, the words in which any present lane disagreed, the run of each word in 2oo2 disagreement before this
cycle, the latched words, the image in force at the
outputs with the one before it and the uptime from which it stands (R38), the first cycle with fewer than two lanes present, the last cycle that was voted, agreeing cycles of a compared lane, the uptime of entry to
VOTING after a readmission (R111), the readmission, the holder of the debug grant, the cycle of a release awaiting its
boundary (R105), the direct-mapped channels whose re-vote failed with the cycles counted since (R109), and the cycle of a lane's exclusion
awaiting its automatic readmission (R112). -/
structure VoteSt where
  hand : Tri (Option HandOver)
  haltSeen : Tri Bool
  present : Tri Bool
  voted : Bool
  last : Mem
  noVote : List Nat
  disNow : List Nat
  disAny : List Nat
  disRun : List (Nat × Nat)
  latched : List Nat
  out : Mem
  prev : Option Mem
  readyAt : Nat
  k0 : Option Nat
  lastK : Nat
  agree : Tri Nat
  since : Tri (Option Nat)
  readmit : Option Readmit
  grant : Option Lane
  release : Option Nat
  dHold : List (Nat × Nat)
  autoAt : Tri (Option Nat)
  deriving DecidableEq, Repr

/-- The cycle in progress: its number k, whether each of its instants has passed (R33), the cycle in which the first voting lane became another than the
service master (R29), and the CYCLE of the input image that the lanes got in this cycle. -/
structure CycSt where
  running : Bool
  k : Nat
  inDone : Bool
  relDone : Bool
  handDone : Bool
  cmdDone : Bool
  comDone : Bool
  vrDone : Bool
  outDone : Bool
  svcLeft : Option Nat
  image : Option Nat
  deriving DecidableEq, Repr

/-- The state of a station (R138). -/
structure StationSt where
  id : Nat
  mode : Nat
  missed : Nat
  good : Nat
  started : Bool
  deriving DecidableEq, Repr

/-- The junction's part of online change and retained saves (R141 to R150): the block submitted, whether an input image has announced it (R142),
the acknowledgements, the cycle of submission, and what the status section shows. -/
structure ChgSt where
  block : Option ChgBlock
  announced : Bool
  acks : Tri Bool
  since : Nat
  apply : Nat
  restart : Nat
  retSaved : Nat
  retIncomplete : Bool
  migrate : Bool
  saveDue : Bool
  saveSeq : Nat
  saveWarn : Bool
  capture : Tri (Option (List Byte))
  capIncomplete : Bool
  capCycle : Nat
  deriving DecidableEq, Repr

/-- A retained copy in MRAM (R148): whether one was written, its sequence, CYCLE, version, size, INCOMPLETE, difference count, the CRC-32C over
header and data, and the data. -/
structure MramCopy where
  valid : Bool
  seq : Nat
  cycle : Nat
  version : Nat
  size : Nat
  incomplete : Bool
  diffs : Nat
  crc : Word
  data : List Byte
  deriving DecidableEq, Repr

/-- An entry of a controller's error log (R167). -/
structure ElogEntry where
  type : Nat
  source : Nat
  syndrome : Nat
  addr : Nat
  time : Nat
  rep : Nat
  deriving DecidableEq, Repr

/-- A memory controller beside its registers: the valid 256-byte blocks (R159), the check bits that a diagnostic
write placed (by word address, R171), the range under invalidation (R161), the error log (R167), the scrubber's next
burst and the uptime at which its lap began (R164, R166), the retirement copy in progress (R169), the burst under
diagnostic hold (R172), the running diagnostic command, and the uptime at which a fill began (R163). -/
structure MemCtl where
  valid : List Nat
  chk : Store Byte
  inval : Option (Nat × Nat)
  elog : List ElogEntry
  scrub : Nat
  lapStart : Nat
  copying : Option Nat
  hold : Option Nat
  diagBusy : Bool
  fillStart : Option Nat
  badBitmap : List Nat
  deriving DecidableEq, Repr

/-- A safe connection beside its registers (R269 to R273): the whole SEQ of the last message accepted or sent, whether there was one, the
message itself with the one before and the uptime from which it stands (R38), and an acknowledgement given while READY. -/
structure ConnSt where
  seq : Nat
  any : Bool
  msg : List Byte
  prev : List Byte
  at_ : Nat
  ack : Bool
  deriving DecidableEq, Repr

/-- An Ethernet copy waiting for or in the HMAC engine (R274): the connection, the message, the span of its arrival and the uptime at
which it joined the queue. -/
structure MacJob where
  conn : Nat
  msg : List Byte
  rx : Nat
  since : Nat
  deriving DecidableEq, Repr

/-- A slot copy in the receive staging of a ring (R215, R225): the entry, the CYCLE of the frame that brought it, the data, and whether it
passes for R225, and the uptime from which it stands there. -/
structure SlotRx where
  entry : Nat
  cycle : Nat
  data : List Byte
  pass : Bool
  at_ : Nat
  deriving DecidableEq, Repr

/-- A container message waiting to be sent (R220), with the frames it has stayed queued and, for one of a bridge window, the initiator of the
write or signal (R394). -/
structure TxMsg where
  dest : Nat
  len : Nat
  tag : Nat
  kind : Nat
  data : List Byte
  age : Nat
  init : Nat := 0
  deriving DecidableEq, Repr

/-- A container in the receive FIFO (R221). -/
structure RxMsg where
  source : Nat
  bcast : Bool
  len : Nat
  tag : Nat
  kind : Nat
  data : List Byte
  deriving DecidableEq, Repr

/-- A slot that the module puts on the ring (R208, R212, R213): its data, or the empty mark, the CYCLE of its check's prefix, and the check. -/
structure SlotOut where
  entry : Nat
  cycle : Nat
  empty : Bool
  data : List Byte
  check : Word
  deriving DecidableEq, Repr

/-- What becomes of a frame whose header has passed (R210, R230, R254): its header was bad, it is only forwarded, it is used, it re-anchored
the path delay (with the delay and the mark before it, for the case that it proves not valid), or its SCHED_ID is another. -/
inductive FrameFate | bad | forward | used | anchor (delay : Nat) (anchored : Bool) | mismatch
  deriving DecidableEq, Repr

/-- A frame in passage (R210): its header, its fold flags with this node's own, the network time of its /S/, what becomes of it, and whether
slots and containers may be used. -/
structure FrameIn where
  hdr : FrameHdr
  fold : Nat
  rx : Nat
  fate : FrameFate
  slots : Bool
  conts : Bool
  deriving DecidableEq, Repr

/-- CYCLE of a frame in passage. -/
def FrameIn.cycle (f : FrameIn) : Nat := f.hdr.cycle

/-- The frame that the unit forwards (R207, R209, R222): the header as it leaves, none when it leaves as it came; whether it leaves on W_RO,
else E_FO; the departure stamp of its /S/ (R184); and trailer bytes 0 to 27. -/
structure PassOut where
  header : Option (List Byte)
  west : Bool
  stamp : Nat
  trailer : List Byte
  deriving DecidableEq, Repr

/-- What the leader launched (R212, R218, R222): CYCLE, the header, the slots written and carried by their index, the containers carried, the
number of containers, trailer bytes 0 to 27, and whether it left on W_RO, else E_FO. -/
structure Launched where
  cycle : Nat
  header : List Byte
  slots : List SlotOut
  conts : List Container
  count : Nat
  record : List Byte
  west : Bool
  deriving DecidableEq, Repr

/-- A control frame that a unit sent last (R235), as its bytes after the delimiter, with the pairs: E_FO, W_RO. -/
structure CtrlOut where
  bytes : List Byte
  at_ : Nat
  east : Bool
  west : Bool
  deriving DecidableEq, Repr

/-- An ordered set that a unit sent last on E_FO, or W_RO, with its two characters (R236). -/
structure SetOut where
  char : Nat
  data : Nat
  west : Bool
  at_ : Nat
  deriving DecidableEq, Repr

/-- A ring unit beside its registers: the frame in passage and what leaves of it, the CYCLE and network time of the last valid frames (for
R245 and R248), the last fold flags, whether the path delay is re-anchored, staged slot copies, slots written, the launched frame, the
control frame and ordered sets sent, the uptimes until which E_FO and W_RO carry a frame that the module sent, containers to send and
received, seen bits of the frame of a CYCLE and of the one before (R219), the number of containers claimed in this frame and those written,
expected frames in a row without a valid one; and for chapter 09 the entry time of the present state, whether it withdrew, recorded a clash or
sent a claim with its NONCE, the time of the hop delay request, open ports by loss and by /F/ (east, west), the time a
port opened, whether the west fold still takes the frames on E_RI after its healing (R257), the census' return, the full-rate path delay kept in sleep, the cycle and the network
time of the sleep switch, whether the unit led when it fell asleep, the resume time, the uptime at which a WAKE was seen, and IDLE frames
launched or missed. -/
structure RingSt where
  cur : Option FrameIn
  fwd : Option PassOut
  last : Option (Nat × Nat × Int)
  first : Option (Nat × Nat)
  fold : Nat
  anchored : Bool
  rx : List SlotRx
  wrote : List SlotOut
  sent : Option Launched
  ctrl : Option CtrlOut
  sets : List SetOut
  outE : Nat
  outW : Nat
  txq : List TxMsg
  rxq : List RxMsg
  seen : List Nat
  seenPrev : List Nat
  seenOf : Nat
  claimed : Nat
  claimOut : List Container
  missed : Nat
  expK : Nat
  since : Nat
  withdrawn : Bool
  clash : Bool
  nonce : Option Nat
  probe : Option Nat
  answer : Option Nat
  eLoss : Bool
  wLoss : Bool
  eF : Bool
  wF : Bool
  openAt : Option Nat
  tail : Bool
  fresh : Bool
  healing : Bool
  census : Option Nat
  keepDelay : Nat
  sleepAt : Option Nat
  sleepNs : Nat
  led : Bool
  resumeAt : Option Nat
  wakeAt : Option Nat
  idles : Nat
  launchFrom : Option Nat
  deriving DecidableEq, Repr

/-- A direct command frame (R46): the FQ8, the entry and CYCLE it was built from, the channels' bits. -/
structure DirectOut where
  q : Nat
  entry : Nat
  cycle : Nat
  bits : List (Nat × Bool)
  deriving DecidableEq, Repr


/-- A field channel beside its registers (chapter 11): its permit line, whether the die is at or above its restart temperature, whether it
waits for the next t_out after a group's release (R299), the uptimes at which the gate boost and the gate discharge end and at which
it entered LIMIT and TRIPPED and last stopped conducting, and its consecutive ticks at 1 and at 0 (R295). -/
structure FieldCh where
  permit : Bool
  hot : Bool
  waitOut : Bool
  boostAt : Option Nat
  dischAt : Option Nat
  limitAt : Option Nat
  tripAt : Option Nat
  stopAt : Option Nat
  run1 : Nat
  run0 : Nat
  deriving DecidableEq, Repr

/-- The supply monitor of an FQ8 (R297 to R299): its state, consecutive low samples, consecutive good or qualifying samples, whether it
qualifies for release, and the cause of its cut. -/
structure SupSt where
  st : Nat
  low : Nat
  ok : Nat
  ready : Bool
  cause : Nat
  deriving DecidableEq, Repr

/-- The field I/O beside its registers: channels, supply monitors, the uptimes of the next and the last filter tick, whether the next tick
is the first after seal, whether the last tick found a commit of an earlier jc pending, the FQ8s that missed a tick since the last
input instant, the uptime of each edge timer's last edge, the samples each capture buffer holds and its channel, the state word on its way to
staging with its arrival and the one staged, and the last supply sample and measurement by number. -/
structure FieldSt where
  chs : List FieldCh
  sups : List SupSt
  tickAt : Nat
  lastTick : Nat
  first : Bool
  ticked : Bool
  gap : List Bool
  edgeAt : List (Option Nat)
  capPos : List Nat
  capCh : List Nat
  pend : Option (Nat × Word)
  staged : Word
  supN : Nat
  measN : Nat
  deriving DecidableEq, Repr

/-- A cell's memory (R315): the evaluations it has counted and the value of A in the evaluation before. -/
structure CellSt where
  cnt : Nat
  prev : Bool
  deriving DecidableEq, Repr

/-- A two-contact supervisor (R321, R322): its state, count and entries into FAULT. -/
structure SupvSt where
  st : Nat
  cnt : Nat
  faults : Nat
  deriving DecidableEq, Repr

/-- The reflex plane itself (chapter 12); AX shows what it last sent over the plane status link. The plane's state and cause, its
configuration storage, whether its clock runs, the evaluations since entry to HOLD, sense filters (counter and state), supervisors, cell
outputs and memories, the permits registered and the permit lines as driven, the lines that read back wrong in the evaluation before,
whether an evaluation's results are on the status link with the supervisors that entered FAULT, the uptimes of the last digest pass and of
the last results that arrived, and whether the junction has dealt with a silent link or a SAFE report (R319). -/
structure PlaneSt where
  st : Nat
  cause : Nat
  table : List Byte
  osc : Bool
  evals : Nat
  sense : List (Nat × Bool)
  sups : List SupvSt
  outs : List Bool
  cells : List CellSt
  reg : Word
  lines : Word
  bad : Word
  sent : Bool
  faulted : List Nat
  digestAt : Option Nat
  heardAt : Nat
  told : Bool
  deriving DecidableEq, Repr

/-- A checkpoint of the cold class (R346): whether one was stored whole, its save sequence, CYCLE and the CRC-32C over header and content,
the regions by lane address, and the junction's tables. -/
structure Ckpt where
  valid : Bool
  seq : Nat
  cycle : Nat
  crc : Word
  mem : Mem
  tables : List (Nat × Word)
  deriving DecidableEq, Repr

/-- What the FQ8s hold after a takeover until the first own cycle's t_out (R347): that cycle, and the mode and preset of each channel. -/
structure DxHold where
  until_ : Nat
  modes : List Nat
  presets : List Bool
  deriving DecidableEq, Repr

/-- The duplex unit beside its registers (chapter 13): the number of the last heartbeat's 50 µs instant and the last heartbeat sent;
whether any valid heartbeat came, the last link HB_SEQ, whether the ring has shown life since and when it did last, the run of misses and the
next due time; the uptime of permit release; a drill request; the partner's input and voted images by cycle, the last voted one, the
last SEQ values with their cycle, the last image processed; the input image and the voted image with its SEQ values last streamed to the
partner; each FQ8's class of the claim wire (0 VALID, 1 RELEASED, 2 ABSENT) and partner claim; what a takeover holds and its uptime; the first
cycle voted as active while pair entries wait for it, and the uptime from which they are written; the transfer's start and content; the
checkpoint's last number, the uptime it is due since, whether its deferral ended, the copies, time and the one streamed; whether a cold
restore runs. -/
structure DxSt where
  hbN : Nat
  hbOut : List Byte
  seen : Bool
  linkSeq : Option Nat
  lifeSince : Bool
  lifeAt : Option Nat
  missRun : Nat
  dueAt : Option Nat
  listenAt : Option Nat
  drill : Bool
  inImgs : List (Nat × Mem)
  outImgs : List (Nat × Mem)
  lastVoted : Option Mem
  lastSeqs : Option (Nat × List (Nat × Nat))
  lastUsed : Option Nat
  imgTx : Option (Nat × Mem)
  votedTx : Option (Nat × Mem × List (Nat × Nat))
  wire : List (Nat × Nat)
  hold : Option DxHold
  tookAt : Option Nat
  pairWait : Option Nat
  pairAt : Nat
  xferAt : Option Nat
  xferMem : Mem
  xferTrd : List (Nat × Word)
  xferApply : Bool
  ckN : Nat
  ckDefer : Option Nat
  ckForce : Bool
  ckA : Ckpt
  ckB : Ckpt
  ckAt : Option Nat
  ckOut : Option Ckpt
  restoring : Bool
  deriving DecidableEq, Repr

/-- A frame waiting at an egress port (R358): port and queue, the frame without FCS, the number of the frame it is a copy of, its ingress
port, the uptime of its arrival from an external port, the process-data entry or the transmit descriptor it came from, and whether
the clock's time is inserted (R363). -/
structure EthOut where
  port : Nat
  queue : Nat
  bytes : List Byte
  fid : Nat
  rx : Option Nat
  pd : Option Nat
  desc : Option Nat
  oneStep : Bool
  deriving DecidableEq, Repr

/-- The switch beside its registers (chapter 14): the learned addresses as VLAN, address, port and the uptime last seen (R356), frames
waiting, the number of the next frame, the last frame sent at each port, and the cycle each transmit entry last queued a frame for. -/
structure EthSt where
  macs : List (Nat × List Byte × Nat × Nat)
  out : List EthOut
  fid : Nat
  sent : List (Nat × List Byte)
  pdK : List (Nat × Nat)
  deriving DecidableEq, Repr

/-- The MVB attachment beside its registers: the basic-period count and the uptime of the last boundary, whether a clash stopped the
administrator (R367), the master frames of the last basic period as F-code and address, and the last slave frame sent. -/
structure MvbSt where
  count : Nat
  at_ : Nat
  stopped : Bool
  polls : List (Nat × Nat)
  answer : Option (Nat × List Byte)
  deriving DecidableEq, Repr

/-- The CAN controllers beside their registers: the mailboxes (64 c + m) that took a frame since the last input instant, and the last
frame each controller sent, as mailbox and data. -/
structure CanSt where
  took : List Nat
  sent : List (Nat × (Nat × List Byte))
  deriving DecidableEq, Repr

/-- A response of the host port (R377). -/
structure HostResp where
  op : Nat
  tag : Nat
  result : Nat
  count : Nat
  data : List Byte
  deriving DecidableEq, Repr

/-- The host port (R375 to R379): the pending response, one on its way with the uptime from which it is pending, the LAST bits of the
status word, the bytes of the last FETCH and the status word of the last transaction. -/
structure HostSt where
  resp : Option HostResp
  busy : Option (HostResp × Nat)
  dropped : Bool
  checkErr : Bool
  ok : Bool
  fetched : List Byte
  status : Nat
  deriving DecidableEq, Repr

/-- A source message of the Gusset bridge (R384): its KIND and INDEX, the data, and the jc in which it completed. -/
structure GMsg where
  kind : Nat
  index : Nat
  data : List Byte
  at_ : Nat
  deriving DecidableEq, Repr

/-- A carried write or signal that waits to land (R396, R400): the ring it came on, the sender's node and window, SEQ, TAG, FLAGS, the
address or code, the data, whether it is a signal, the inbound window, and the CAUSE already found. -/
structure GLand where
  ring : Ring
  src : Nat
  win : Nat
  seq : Nat
  tag : Nat
  flags : Nat
  addr : Nat
  data : Nat
  signal : Bool
  inWin : Nat
  cause : Nat
  deriving DecidableEq, Repr

/-- An entry of the posted-error FIFO (R398). -/
structure PefEntry where
  cause : Nat
  init : Nat
  win : Nat
  node : Nat
  addr : Nat
  seq : Nat
  tag : Nat
  deriving DecidableEq, Repr

/-- The Gusset bridge beside its registers (chapter 15): the working bank of the transmit buffer, completed sources not yet taken, pending
sources, the uptime until which the pipeline is busy, received carried messages, the expected SEQ by sender (256 × node + window), writes
and signals not yet landed, the posted-error FIFO, and the uptime at which each initiator's non-posted write began. -/
structure GussetSt where
  work : Mem
  done : List GMsg
  pend : List GMsg
  busy : Nat
  inq : List (Ring × RxMsg)
  exp : List (Nat × Nat)
  land : List GLand
  pef : List PefEntry
  npAt : List (Nat × Nat)
  deriving DecidableEq, Repr

/-- A transfer of a Shuttle channel (R411): source and destination as start, stride and length of a line, the bytes done and in all, and
what the instruction asked for: the sides that may touch a side-effect region, pacing, the request line, the offsets to advance, whether it
takes two slots; and the bytes of a side-effect word already read that the next burst writes. -/
structure ShXfer where
  src : Nat
  sStride : Int
  sLen : Nat
  dst : Nat
  dStride : Int
  dLen : Nat
  done : Nat
  total : Nat
  seSrc : Bool
  seDst : Bool
  pace : Bool
  req : Nat
  advS : Bool
  advD : Bool
  two : Bool
  carry : List Byte
  deriving DecidableEq, Repr

/-- A WAIT that completed (R417): the uptime, the condition and its index, SH.CH_c_MSG and PC before, and whether a Thimble was acquired. -/
structure Waited where
  at_ : Nat
  cond : Nat
  index : Nat
  msg : Word
  pc : Nat
  got : Bool
  deriving DecidableEq, Repr

/-- A Shuttle channel beside its registers: the transfer in progress, the condition it waits on as COND, INDEX, TIMEOUT and the uptime at
which the WAIT began, whether the event of that condition came, whether a copy with JUMP set PC in the meantime, and the WAIT that completed
last with no instruction since. -/
structure ShSt where
  xfer : Option ShXfer
  wait : Option (Nat × Nat × Nat × Nat)
  event : Bool
  jumped : Bool
  waited : Option Waited
  deriving DecidableEq, Repr

/-- What the requesters of one Eyelet channel or Thimble did within one jc (R425, R428): the uptime of that jc, the place of the winner of the
last contest before it, the place whose request took the free channel or Thimble in it, whether others asked for it as well, the requests
that found it taken, and whether REFUSED read 0 before them. -/
structure Contest where
  at_ : Nat
  base : Option Nat
  win : Option Nat
  contested : Bool
  late : List (Nat × Word)
  clean : Bool
  deriving DecidableEq, Repr

/-- The class 3 requesters (R419), 16 for the Gusset bridge: those granted a burst in this jc, and the grants of the round in progress. -/
structure ArbSt where
  granted : List Nat
  round : List Nat
  deriving DecidableEq, Repr

/-- A measurement channel beside its registers (chapter 17): the delay line of bits, newest first, the run of equal bits, the three
integrators and the three combs, the FIR inputs, newest first, the second coefficient bank, the sample and length of a fade, the sum, count
and WINDOW of the running RMS window, the peaks, the count and OVER since the last input instant, the result FIFO, whether the head
entry's VALUE was read, whether a new peak is due, the uptime at which a refill ends, that of the last result, that at which a fade ended, the
result that the full FIFO discarded last, whether a run of 4096 equal bits came, and the modulator clocks since the last such run ended. -/
structure McSt where
  delay : List Bool
  runBit : Bool
  run : Nat
  i1 : Word
  i2 : Word
  i3 : Word
  d1 : Word
  d2 : Word
  d3 : Word
  us : List Int
  newBank : List Int
  fadeJ : Nat
  fadeK : Nat
  sum : Nat
  cntW : Nat
  window : Nat
  maxC : Int
  minC : Int
  cnt : Nat
  overC : Bool
  fifo : List (Word × Word)
  half : Bool
  clrPeak : Bool
  refillAt : Option Nat
  resultAt : Option Nat
  fadeEnd : Option Nat
  spill : Option (Word × Word)
  stuckDue : Bool
  sinceRun : Nat
  deriving DecidableEq, Repr

/-- A copy of the junction image in junction flash (R480): whether its signature holds, and its version. -/
structure JCopy where
  valid : Bool
  version : Nat
  deriving DecidableEq, Repr

/-- What a lane reported in LOAD (R466): whether its image loaded, the configuration digest it computed, and its plane comparison. -/
structure LaneReport where
  loaded : Bool
  digest : List Byte
  planeOk : Bool
  deriving DecidableEq, Repr

/-- A pending activation (R475 to R478): k_a and k_r, the staged identity that the partner last gave, whether the pause runs, and the lanes
that are ready. -/
structure ActSt where
  ka : Nat
  kr : Nat
  partner : Nat
  paused : Bool
  ready : Tri Bool
  deriving DecidableEq, Repr

/-- Start, update, supply and maintenance beside the registers (chapters 19 and 20): whether the module is powered; the uptime at which
the phase began and at which this start began; whether this start follows power-on, the kind a restart command gave (warm), and whether it
was asked into RECOVERY; whether the Welt's start record was written; the reset contact held; the overvoltage
hold; the uptime at which the input fell below 12.0 V; whether the retained copy of a power-fail warning is in MRAM; whether the plug was
verified, the plane table sent and the plane released; the recovery address; the junction image copies; the lanes' reports and the lanes
that sent a withdrawal notice in LOAD; the images staged; the running lane flash operation; the pending activation and the k_a of the last
one accepted; the running recovery
programming as TARGET and LEN; the TFTP transfer as lane or junction, blocks and bytes, and the last TFTP answer as opcode and number;
whether a memory test runs and found an error; the primary strap's contact; the uptime at which sleep entry began; whether a resume from sleep runs; the instruction each TAP
holds, whether it may be left only through a module start, and the data register it captured last; and the uptime of the last pulse of each
SIGNAL of R501. -/
structure StartSt where
  powered : Bool
  phaseAt : Nat
  startAt : Nat
  kind : Option Bool
  recorded : Bool
  fromPower : Bool
  recover : Bool
  contact : Bool
  overvolt : Bool
  lowAt : Option Nat
  copied : Bool
  plugOk : Bool
  tableSent : Bool
  relSent : Bool
  recAddr : Nat
  copyA : JCopy
  copyB : JCopy
  reports : Tri (Option LaneReport)
  noticed : Tri Bool
  stagedImg : Tri (Option LaneImage)
  flashOp : Option (Lane × Bool)
  act : Option ActSt
  lastKa : Option Nat
  prog : Option (Nat × Nat)
  tftp : Option (Bool × Nat × Nat)
  tftpOut : Option (Nat × Nat)
  testing : Bool
  testBad : Bool
  primary : Bool
  sleepFrom : Option Nat
  resuming : Bool
  taps : List Nat
  tapLock : List Bool
  scan : List Nat
  pulses : List (Nat × Nat)
  deriving DecidableEq, Repr

/-- The module. `pending` is the queue of commands, first in, first out. `regs` holds every register that differs from its
reset value; `holdR` and `holdW` are the holding registers of R13, keyed by initiator and register; `resp` the last
answer to each initiator; `free` counts the unstated values taken so far (log entry 3). `stage` is the junction staging that the sources
without a rule of their own write, by input image offset (R35); `wakeReq` a wake request of an Eyelet post (R426); `baste` the uptime of the
COMMIT that waits at a CTRL register (R15). -/
structure State where
  pending : List Instr
  regs : Store Word
  holdR : List (Nat × Word)
  holdW : List (Nat × Word)
  resp : List (Nat × BusResp)
  free : Nat
  clk : Clock
  welt : WeltSt
  tWait : List TCause
  tLog : Mem
  tLast : Option Nat
  cfg : Cfg
  cyc : CycSt
  lane : Tri LaneSt
  memc : Tri MemCtl
  jmem : MemCtl
  jddr : Mem
  vote : VoteSt
  conns : List (Nat × ConnSt)
  macQ : List MacJob
  ring : Duo RingSt
  sched : Option Sched
  annAt : Option Nat
  oldTab : Option (Nat × List (Nat × (Word × Word × Word)))
  gus : GussetSt
  stage : Mem
  eth : EthSt
  mvb : MvbSt
  can : CanSt
  host : HostSt
  shc : List ShSt
  arb : ArbSt
  contests : List (Nat × Contest)
  mcs : List McSt
  wakeReq : Bool
  baste : List (Nat × Nat)
  directQ : List DirectOut
  directIn : List DirectOut
  directBuilt : List (Nat × Nat × List Byte)
  gTx : Mem
  fq : List FqSt
  fld : FieldSt
  chg : ChgSt
  mramA : MramCopy
  mramB : MramCopy
  stations : List StationSt
  evR : List (Nat × Nat)
  evMiss : List (Nat × Nat)
  plane : PlaneSt
  dx : DxSt
  pfWarnAt : Option Nat
  ej2Down : Bool
  jddrRefresh : Bool
  st : StartSt
  deriving DecidableEq, Repr

/-- Reasons a step can stop with a fault. -/
inductive Fault
  /-- Raised by no command: every command of the table has an effect the spec gives (safe). -/
  | none
  deriving DecidableEq, Repr

/-- Reasons a step can be refused. -/
inductive Refusal
  /-- A command without a meaning yet; raised by exec alone (safe). -/
  | notModelled (mnemonic : String)
  deriving DecidableEq, Repr

/-! ### Reset -/

/-- A trigger that holds nothing. -/
def noTrigger : Trigger := { m := false, u := false, action := 0, onExec := false, onLoad := false, onStore := false, value := 0 }

/-- A hart with nothing in it: every register zero (log entry 9), machine mode, no PMP region (R65). -/
def HartSt.fresh : HartSt :=
  { x := [], f := [], csr := [], pc := 0, machine := true, resv := none, gated := false, lines := 0, halted := false,
    resetHalt := false, step := false, triggers := List.replicate 4 noTrigger,
    cycOfs := 0, cycStop := none }

/-- A task in IDLE with nothing recorded. -/
def TaskSt.idle : TaskSt :=
  { relUp := 0, relCycle := 0, bank := 0, pubAt := 0, stale := false, late := false, slack := false, doneAt := 0 }

/-- An FQ8 before it has received anything: no membership, every command off, drive removed (R21, R107). -/
def FqSt.none : FqSt :=
  { member := Option.none, inbox := [], msg := Option.none, arrived := ⟨Option.none, Option.none, Option.none⟩,
    frames := ⟨Option.none, Option.none, Option.none⟩, cmd := List.replicate 8 false,
    differs := List.replicate 8 false, latch := List.replicate 8 false,
    drive := false, lost := false, reports := [], claimValid := false }

/-- A channel before anything has happened. -/
def FieldCh.idle : FieldCh :=
  { permit := false, hot := false, waitOut := false, boostAt := none, dischAt := none, limitAt := none, tripAt := none, stopAt := none,
    run1 := 0, run0 := 0 }

/-- A supply monitor at seal (R297). -/
def SupSt.start : SupSt := { st := 1, low := 0, ok := 0, ready := false, cause := 0 }

/-- A channel with nothing in progress. -/
def ShSt.none : ShSt := { xfer := Option.none, wait := Option.none, event := false, jumped := false, waited := Option.none }

/-- A channel as at configuration seal (R436, R448). -/
def McSt.fresh : McSt :=
  { delay := [], runBit := false, run := 0, i1 := 0, i2 := 0, i3 := 0, d1 := 0, d2 := 0, d3 := 0, us := [], newBank := [], fadeJ := 0,
    fadeK := 0, sum := 0, cntW := 0, window := 0, maxC := 0, minC := 0, cnt := 0, overC := false, fifo := [], half := false,
    clrPeak := false, refillAt := none, resultAt := none, fadeEnd := none, spill := none, stuckDue := false, sinceRun := 0 }

/-- A lane at power-on (R83, R162): HELD, nothing loaded, memories unlisted. -/
def LaneSt.fresh : LaneSt :=
  { h0 := HartSt.fresh, h1 := HartSt.fresh, scratch := [], ddr := [], l2 := [], bank0 := [], bank1 := [], work := [], pub := [], flash := [],
    curTask := none, tasks := List.replicate 24 TaskSt.idle, notices := [], inbox := [], staged := none, egressOpen := false,
    egress := [], cmdLink := false, withdrawal := none, haltNotice := false, dbgReq := none, dbgAt := 0, resumeAt := none, resumeK := 0,
    testAt := none, testRun := none, testUndo := none, testStage := 0, replMode := 0, handover := none, held := none, pfCaptured := false, ready := false, img := none,
    dm := { active := false, hartsel := 0, cmderr := 0, data := 0, progbuf := List.replicate 8 0, ack0 := false, ack1 := false } }

/-- A memory controller with every block invalid (R162). -/
def MemCtl.fresh : MemCtl :=
  { valid := [], chk := [], inval := none, elog := [], scrub := 0, lapStart := 0, copying := none, hold := none, diagBusy := false,
    fillStart := none, badBitmap := [] }

/-- An empty MRAM copy. -/
def MramCopy.none : MramCopy :=
  { valid := false, seq := 0, cycle := 0, version := 0, size := 0, incomplete := false, diffs := 0, crc := 0, data := [] }

/-- An empty checkpoint. -/
def Ckpt.none : Ckpt := { valid := false, seq := 0, cycle := 0, crc := 0, mem := [], tables := [] }

/-- The configuration of a module that holds none. -/
def Cfg.none : Cfg :=
  { sIn := 0, sOut := 0, safety := [], owner := [], safeImg := [], stations := [], direct := [], vars := [], retBase := 0, retSize := 0,
    retPeriod := 0, scheds := [], safeVals := [], keys := [], hot := [], pairDigest := [], ethSafe := [], imageKey := [],
    planeTable := [] }

/-- A ring unit at a start. -/
def RingSt.start : RingSt :=
  { cur := none, fwd := none, last := none, first := none, fold := 0, anchored := false, rx := [], wrote := [], sent := none, ctrl := none,
    sets := [], outE := 0, outW := 0, txq := [], rxq := [], seen := [], seenPrev := [], seenOf := 0, claimed := 0, claimOut := [], missed := 0, expK := 0, since := 0, withdrawn := false,
    clash := false, nonce := none, probe := none, answer := none, eLoss := false, wLoss := false, eF := false, wF := false,
    openAt := none, tail := false, fresh := false, healing := false, census := none, keepDelay := 0, sleepAt := none, sleepNs := 0, led := false, resumeAt := none, wakeAt := none,
    idles := 0, launchFrom := none }

/-- The vote unit at a start. -/
def VoteSt.fresh : VoteSt :=
  { hand := Tri.all none, haltSeen := Tri.all false, present := Tri.all false, voted := false, last := [], noVote := [], disNow := [], disAny := [],
    disRun := [], latched := [], out := [], prev := none, readyAt := 0, k0 := none, lastK := 0, agree := Tri.all 0, since := Tri.all none, readmit := none,
    grant := none, release := none, dHold := [], autoAt := Tri.all none }

/-- The junction's part of online change at a start. -/
def ChgSt.fresh : ChgSt :=
  { block := none, announced := false, acks := Tri.all false, since := 0, apply := 0, restart := 0, retSaved := 0, retIncomplete := false, migrate := false,
    saveDue := false, saveSeq := 0, saveWarn := false, capture := Tri.all none, capIncomplete := false, capCycle := 0 }

/-- The field I/O at a start. -/
def FieldSt.fresh : FieldSt :=
  { chs := List.replicate 32 FieldCh.idle, sups := List.replicate 4 SupSt.start, tickAt := 0, lastTick := 0, first := true,
    ticked := false, gap := List.replicate 4 false, edgeAt := List.replicate 8 none, capPos := List.replicate 4 0, capCh := List.replicate 4 0,
    pend := none,
    staged := 0, supN := 0, measN := 0 }

/-- The plane in OFF (R307). -/
def PlaneSt.off : PlaneSt :=
  { st := 0, cause := 0, table := [], osc := true, evals := 0, sense := [], sups := [], outs := [], cells := [], reg := 0, lines := 0,
    bad := 0, sent := false, faulted := [], digestAt := none, heardAt := 0, told := false }

/-- The duplex unit at a start; the checkpoint copies in MRAM are empty (DESIGN CHOICE, log entry 5). -/
def DxSt.fresh : DxSt :=
  { hbN := 0, hbOut := [], seen := false, linkSeq := none, lifeSince := false, lifeAt := none, missRun := 0, dueAt := none,
    listenAt := none, drill := false, inImgs := [], outImgs := [], lastVoted := none, lastSeqs := none, lastUsed := none, imgTx := none, votedTx := none,
    wire := List.replicate 4 (1, 0),
    hold := none, tookAt := none, pairWait := none, pairAt := 0, xferAt := none, xferMem := [], xferTrd := [], xferApply := false, ckN := 0, ckDefer := none, ckForce := false,
    ckA := Ckpt.none, ckB := Ckpt.none, ckAt := none, ckOut := none, restoring := false }

/-- The start, update, supply and maintenance units at a start; the factory's contents are named in log entry 5. -/
def StartSt.fresh : StartSt :=
  { powered := true, phaseAt := 0, startAt := 0, kind := none, recorded := false, fromPower := true, recover := false, contact := false, overvolt := false, lowAt := none,
    copied := false, plugOk := false, tableSent := false, relSent := false, recAddr := 0xA9FE0026, copyA := { valid := true, version := 0 },
    copyB := { valid := true, version := 0 }, reports := Tri.all none, noticed := Tri.all false, stagedImg := Tri.all none,
    flashOp := none, act := none, lastKa := none, prog := none, tftp := none, tftpOut := none, testing := false, testBad := false, primary := false,
    sleepFrom := none, resuming := false, taps := List.replicate 8 0, tapLock := List.replicate 8 false, scan := List.replicate 8 0, pulses := [] }

/-- The module in reset at power-on (R159, R162, R178, R465): every register at its reset value, memory unlisted, nothing queued. -/
def State.reset : State :=
  { pending := [], regs := [], holdR := [], holdW := [], resp := [], free := 0,
    clk := { uptime := 0, net := 0, ofs := 0, corr := 0, corrCnt := 0, drift := 0, slew := 0, slewRate := 100,
             slewAcc := 0, stepPend := none, ringOfs := none, targets := [] }
    welt := { queue := [], held := [], lostSteps := 0, frozenAt := none, last := none, flushWord := 0 }
    tWait := [], tLog := [], tLast := none, cfg := Cfg.none
    cyc := { running := false, k := 0, inDone := false, relDone := false, handDone := false, cmdDone := false, comDone := false,
             vrDone := false, outDone := false, svcLeft := none, image := none }
    lane := Tri.all LaneSt.fresh, memc := Tri.all MemCtl.fresh, jmem := MemCtl.fresh, jddr := [], vote := VoteSt.fresh, conns := [],
    macQ := [], ring := ⟨RingSt.start, RingSt.start⟩, sched := none, annAt := none, oldTab := none
    gus := { work := [], done := [], pend := [], busy := 0, inq := [], exp := [], land := [], pef := [], npAt := [] }
    stage := [], eth := { macs := [], out := [], fid := 0, sent := [], pdK := [] }
    mvb := { count := 0, at_ := 0, stopped := false, polls := [], answer := none }, can := { took := [], sent := [] }
    host := { resp := none, busy := none, dropped := false, checkErr := false, ok := false, fetched := [], status := 0 }
    shc := List.replicate 16 ShSt.none, arb := { granted := [], round := [] }, contests := [], mcs := List.replicate 8 McSt.fresh, wakeReq := false, baste := [], directQ := [], directIn := [],
    directBuilt := [], gTx := [], fq := List.replicate 4 FqSt.none, fld := FieldSt.fresh, chg := ChgSt.fresh, mramA := MramCopy.none,
    mramB := MramCopy.none, stations := [], evR := [], evMiss := [], plane := PlaneSt.off, dx := DxSt.fresh, pfWarnAt := none,
    ej2Down := false, jddrRefresh := false, st := StartSt.fresh }

end Sys2Proof.Machine
end

