-- ==== Sys2Proof/Machine/Store.lean ====
section
/-! DEFINITION. Sparse stores in canonical form, and little-endian access to byte memories (R9). -/

namespace Sys2Proof.Machine

/-- What the store reads at an address; `d` gives what an unlisted address reads as. -/
def Store.get {β : Type} (d : Nat → β) : Store β → Nat → β
  | [], a => d a
  | (k, v) :: r, a => if k = a then v else Store.get d r a

/-- The store without an entry at the address. -/
def Store.erase {β : Type} : Store β → Nat → Store β
  | [], _ => []
  | (k, v) :: r, a => if k = a then Store.erase r a else (k, v) :: Store.erase r a

/-- The store with an entry at the address, in order. -/
def Store.insert {β : Type} : Store β → Nat → β → Store β
  | [], a, v => [(a, v)]
  | (k, x) :: r, a, v =>
    if a < k then (a, v) :: (k, x) :: r
    else if a = k then (a, v) :: r
    else (k, x) :: Store.insert r a v

/-- The store after a write; writing what an unlisted address reads as removes the entry. -/
def Store.put {β : Type} [DecidableEq β] (d : Nat → β) (m : Store β) (a : Nat) (v : β) : Store β :=
  if v = d a then Store.erase m a else Store.insert m a v

/-- Addresses strictly rising from `lo`, no entry equal to what an unlisted address reads as. -/
def Store.wfFrom {β : Type} [DecidableEq β] (d : Nat → β) : Nat → Store β → Bool
  | _, [] => true
  | lo, (k, v) :: r => decide (lo ≤ k) && decide (v ≠ d k) && Store.wfFrom d (k + 1) r

/-- The canonical form of a store. -/
def Store.wf {β : Type} [DecidableEq β] (d : Nat → β) (m : Store β) : Bool := Store.wfFrom d 0 m

/-- What an unlisted byte of a memory reads as: zero (log entry 4). -/
def memZero (_ : Nat) : Byte := 0

/-- The byte at an address. -/
def Mem.rb (m : Mem) (a : Nat) : Byte := Store.get memZero m a

/-- The memory with the byte at an address written. -/
def Mem.wb (m : Mem) (a : Nat) (v : Byte) : Mem := Store.put memZero m a v

/-- The canonical form of a memory. -/
abbrev Mem.wf (m : Mem) : Bool := Store.wf memZero m

/-- `n` bytes from an address on. -/
def Mem.bytes (m : Mem) (a : Nat) : Nat → List Byte
  | 0 => []
  | n + 1 => m.rb a :: Mem.bytes m (a + 1) n

/-- The memory with bytes written from an address on. -/
def Mem.putBytes (m : Mem) (a : Nat) : List Byte → Mem
  | [] => m
  | b :: bs => Mem.putBytes (m.wb a b) (a + 1) bs

/-- An `n`-byte little-endian number. -/
def Mem.num (m : Mem) (a n : Nat) : Nat := leNat (m.bytes a n)

/-- The memory with an `n`-byte little-endian number written. -/
def Mem.putNum (m : Mem) (a n v : Nat) : Mem := m.putBytes a (leBytes n v)

/-- A 32-bit word of a memory. -/
def Mem.word (m : Mem) (a : Nat) : Word := BitVec.ofNat 32 (m.num a 4)

/-- The memory with a 32-bit word written. -/
def Mem.putWord (m : Mem) (a : Nat) (w : Word) : Mem := m.putNum a 4 w.toNat

/-- The memory with no entry from `a` up to and excluding `b`: those bytes read zero. -/
def Mem.clear (m : Mem) (a b : Nat) : Mem := m.filter (fun c => decide (c.1 < a) || decide (b ≤ c.1))

/-- The entries of `src` from `a` up to and excluding `b` laid over `dst`. -/
def Mem.copyRange (dst src : Mem) (a b : Nat) : Mem :=
  (src.filter (fun c => decide (a ≤ c.1) && decide (c.1 < b))).foldl (fun m c => m.wb c.1 c.2) (dst.clear a b)

/-- What an unlisted hart register reads as. -/
def xZero (_ : Nat) : BitVec 64 := 0

/-- Look a key up in an association list. -/
def lookupN {β : Type} : List (Nat × β) → Nat → Option β
  | [], _ => none
  | (k, v) :: r, a => if k = a then some v else lookupN r a

/-- Drop a key from an association list. -/
def dropN {β : Type} (m : List (Nat × β)) (a : Nat) : List (Nat × β) := m.filter (fun c => c.1 != a)

/-- Set a key of an association list. -/
def setN {β : Type} (m : List (Nat × β)) (a : Nat) (v : β) : List (Nat × β) := (a, v) :: dropN m a

end Sys2Proof.Machine
end

