-- ==== Sys2Proof/Machine/Ops.lean ====
section
/-! DEFINITION. The named operations that every meaning uses: registers and their fields, time, the trouble log and the Welt,
responses, holding registers, event notices and interrupts. -/

namespace Sys2Proof.Machine

/-- floor(sqrt(n)) of a number below 2^(2 b), bit by bit. -/
def isqrt : Nat → Nat → Nat
  | 0, _ => 0
  | b + 1, n =>
    let r := 2 * isqrt b (n / 4)
    if (r + 1) * (r + 1) ≤ n then r + 1 else r

/-! ### Registers -/

/-- The registers that SY shows as SX's (R224, R267): the slot tables, the shadow and timing registers, the schedule
identity and its commit, and the safe transport tables. -/
def syMirrored (o : Nat) : Bool :=
  o == 0x30 || decide (0x3C ≤ o ∧ o ≤ 0x74) || decide (0x1000 ≤ o ∧ o < 0x4000) || decide (0x300 ≤ o ∧ o < 0x400)
    || decide (0x4000 ≤ o ∧ o < 0xB000)

/-- Whether the key lies in SY's mirrored part. -/
def isSyMirror (k : Nat) : Bool := k / 0x10000 == 3 && syMirrored (k % 0x10000)

/-- The key under which a register's value is kept. -/
def homeKey (k : Nat) : Nat := if isSyMirror k then k - 0x10000 else k

/-- The registers of a junction unit by the number of its 64 KB block (junction window of chapter 01). -/
def unitRegs : Nat → List RegDesc
  | 0 => RegMap.jc
  | 1 => RegMap.tb
  | 2 => RegMap.sx
  | 3 => RegMap.sx
  | 4 => RegMap.vt
  | 5 => RegMap.fio
  | 6 => RegMap.mc
  | 7 => RegMap.gb
  | 8 => RegMap.sh
  | 9 => RegMap.ey
  | 10 => RegMap.eth
  | 11 => RegMap.mvb
  | 12 => RegMap.can
  | 13 => RegMap.wl
  | 14 => RegMap.dx
  | 15 => RegMap.upd
  | 16 => RegMap.tl
  | 17 => RegMap.tt
  | 18 => RegMap.ax
  | _ => []

/-- The registers of a lane unit by the number of its 64 KB block in the lane map (R28). -/
def laneRegs : Nat → List RegDesc
  | 0 => RegMap.lc
  | 1 => RegMap.cmp
  | 2 => RegMap.trd
  | 3 => RegMap.mem
  | _ => []

/-- The register that a key names, none where the offset holds no register. -/
def regAt (k : Nat) : Option RegDesc :=
  if k < 0x1000000 then
    if decide (0x1000 ≤ k ∧ k < 0x2000) then RegMap.mem.find? (fun d => d.hit (k - 0x1000))
    else (unitRegs (k / 0x10000)).find? (fun d => d.hit (k % 0x10000))
  else if k < 0x40000000 then (laneRegs (k % 0x10000000 / 0x10000)).find? (fun d => d.hit (k % 0x10000))
  else none

/-- The number with bits `hi` down to `lo` replaced by `v`. -/
def putBits (n hi lo v : Nat) : Nat :=
  n / 2 ^ (hi + 1) * 2 ^ (hi + 1) + v % 2 ^ (hi + 1 - lo) * 2 ^ lo + n % 2 ^ lo

/-- The reset word that a descriptor's fields spell. -/
def fieldsReset : List RField → Nat → Nat
  | [], n => n
  | f :: fs, n => fieldsReset fs (putBits n f.hi f.lo f.reset)

/-- The bits of the reset word that depend on the position: INSTANCE of the identity registers (R31), USED of the triple word
status registers (R158) and WIDE of channels 24 to 31 (R304). -/
def positionBits (k : Nat) : Nat :=
  if decide (4 ≤ k ∧ k < 0x14) then (k - 4) / 4
  else if k = 0x20000000 then 1
  else if k = 0x30000000 then 2
  else if k = 0x80 then 15 * 0x10000
  else if decide (0x84 ≤ k ∧ k ≤ 0x8C) then 6 * 0x10000
  else if k = 0x90 then 10 * 0x10000
  else if decide (0x94 ≤ k ∧ k ≤ 0xA0) then 5 * 0x10000
  else if decide (0x50400 ≤ k ∧ k < 0x50500 ∧ k % 32 = 0) then 2 ^ 28
  else 0

/-- The value of a register that nothing has changed since reset. -/
def regReset (k : Nat) : Word :=
  match regAt k with
  | some d => BitVec.ofNat 32 (fieldsReset d.fields 0 + positionBits k)
  | none => 0

/-- The word a register holds. -/
def State.reg (s : State) (k : Nat) : Word := Store.get regReset s.regs (homeKey k)

/-- The state with a register's word replaced. -/
def State.setReg (s : State) (k : Nat) (w : Word) : State := { s with regs := Store.put regReset s.regs (homeKey k) w }

/-- The word with nothing outside these fields (R10). -/
def onlyFields (w : Nat) : List RField → Nat → Nat
  | [], n => n
  | f :: fs, n => onlyFields w fs (putBits n f.hi f.lo (bitsOf w f.hi f.lo))

/-- The state with the fields of a register taken from a word; its reserved bits read zero (R10). -/
def State.setFields (s : State) (k : Nat) (w : Word) : State :=
  s.setReg k (BitVec.ofNat 32 (onlyFields w.toNat ((regAt k).map (·.fields) |>.getD []) 0))

/-- The number a field holds. -/
def State.rd (s : State) (f : Field) : Nat := bitsOf (s.reg f.addr).toNat f.hi f.lo

/-- The state with a field replaced, the register's other bits kept. -/
def State.wr (s : State) (f : Field) (v : Nat) : State :=
  s.setReg f.addr (BitVec.ofNat 32 (putBits (s.reg f.addr).toNat f.hi f.lo v))

/-- Whether a one-bit field is set. -/
def State.flag (s : State) (f : Field) : Bool := s.rd f != 0

/-- Write a one-bit field. -/
def State.wrB (s : State) (f : Field) (b : Bool) : State := s.wr f (b2n b)

/-- Set a one-bit field. -/
def State.set1 (s : State) (f : Field) : State := s.wr f 1

/-- Count up a field, saturating at all ones. -/
def State.bumpBy (s : State) (f : Field) (n : Nat) : State := s.wr f (satAdd (2 ^ (f.hi + 1 - f.lo) - 1) (s.rd f) n)

/-- Count up a field by one, saturating. -/
def State.bump (s : State) (f : Field) : State := s.bumpBy f 1

/-- Count up a field by one, wrapping. -/
def State.bumpW (s : State) (f : Field) : State := s.wr f (s.rd f + 1)

/-- The 64-bit value of a register pair. -/
def State.rd64 (s : State) (hi lo : Nat) : Nat := (s.reg hi).toNat * 2 ^ 32 + (s.reg lo).toNat

/-- Write a 64-bit value into a register pair, both words at once (R13). -/
def State.wr64 (s : State) (hi lo v : Nat) : State :=
  (s.setReg hi (BitVec.ofNat 32 (v / 2 ^ 32))).setReg lo (BitVec.ofNat 32 v)

/-- A bit of a register word treated as a set of flags. -/
def State.regBit (s : State) (k b : Nat) : Bool := bitOf (s.reg k).toNat b

/-- Write one bit of a register word. -/
def State.wrBit (s : State) (k b : Nat) (v : Bool) : State := s.wr ⟨k, b, b⟩ (b2n v)

/-- Whether configuration seal has taken place (R31). -/
def State.isSealed (s : State) : Bool := s.flag Fld.JC_MOD_STATUS_SEALED

/-! ### Basting -/

/-- The flag BASTE_PENDING rises with COMMIT, whose jc is kept; while it stands a further COMMIT starts nothing (R14, R15). -/
def State.basteCommit (s : State) (f : Field) : State :=
  if s.flag f then s else ({ s with baste := setN s.baste f.addr s.clk.uptime } : State).set1 f

/-- Whether a copy is due at a boundary that falls in this jc: COMMIT came in an earlier one (R14, R15). -/
def State.basteDue (s : State) (f : Field) : Bool :=
  s.flag f && (match lookupN s.baste f.addr with
    | some t => decide (t < s.clk.uptime)
    | none => true)

/-! ### Lanes -/

/-- A lane's hidden state. -/
def State.ln (s : State) (l : Lane) : LaneSt := s.lane.get l

/-- Replace a lane's hidden state. -/
def State.setLn (s : State) (l : Lane) (x : LaneSt) : State := { s with lane := s.lane.put l x }

/-- Change a lane's hidden state. -/
def State.modLn (s : State) (l : Lane) (g : LaneSt → LaneSt) : State := s.setLn l (g (s.ln l))

/-- A hart. -/
def State.hart (s : State) (l : Lane) (h : Hart) : HartSt :=
  match h with
  | .h0 => (s.ln l).h0
  | .h1 => (s.ln l).h1

/-- Replace a hart. -/
def State.setHart (s : State) (l : Lane) (h : Hart) (x : HartSt) : State :=
  match h with
  | .h0 => s.modLn l (fun n => { n with h0 := x })
  | .h1 => s.modLn l (fun n => { n with h1 := x })

/-- A memory controller. -/
def State.mctl (s : State) : MemSel → MemCtl
  | .lane l => s.memc.get l
  | .junction => s.jmem

/-- Replace a memory controller. -/
def State.setMctl (s : State) (m : MemSel) (x : MemCtl) : State :=
  match m with
  | .lane l => { s with memc := s.memc.put l x }
  | .junction => { s with jmem := x }

/-- Raise interrupt lines of a hart (bit 3 software, bit 7 timer, bit 11 external); they reach it through HART_INTERRUPT (R69). -/
def State.raise (s : State) (l : Lane) (h : Hart) (line : Nat) : State :=
  let x := s.hart l h
  if bitOf x.lines line then s else s.setHart l h { x with lines := x.lines + 2 ^ line }

/-- Drop an interrupt line of a hart. -/
def State.drop (s : State) (l : Lane) (h : Hart) (line : Nat) : State :=
  let x := s.hart l h
  if bitOf x.lines line then s.setHart l h { x with lines := x.lines - 2 ^ line } else s

/-- Raise the external interrupt of HART_1 in every lane. -/
def State.raiseService (s : State) : State := lanes.foldl (fun t l => t.raise l .h1 11) s

/-- The membership state of a lane (R110). -/
def memberFld : Lane → Field
  | .A => Fld.VT_LANE_STATE_A_STATE
  | .B => Fld.VT_LANE_STATE_B_STATE
  | .C => Fld.VT_LANE_STATE_C_STATE

/-- The last exclusion cause of a lane (R121). -/
def causeFld : Lane → Field
  | .A => Fld.VT_LANE_STATE_A_CAUSE
  | .B => Fld.VT_LANE_STATE_B_CAUSE
  | .C => Fld.VT_LANE_STATE_C_CAUSE

/-- The key of VT.LANE_x_INFO. -/
def infoKey : Lane → Nat
  | .A => Reg.VT_LANE_A_INFO
  | .B => Reg.VT_LANE_B_INFO
  | .C => Reg.VT_LANE_C_INFO

/-- The membership states of R110 by their codes. -/
abbrev Mbr.init : Nat := 0
abbrev Mbr.voting : Nat := 1
abbrev Mbr.excluded : Nat := 2
abbrev Mbr.transfer : Nat := 3
abbrev Mbr.probation : Nat := 4
abbrev Mbr.observed : Nat := 5
abbrev Mbr.halted : Nat := 6
abbrev Mbr.locked : Nat := 7

/-- The execution states of R83 by their codes. -/
abbrev Exec.held : Nat := 0
abbrev Exec.loading : Nat := 1
abbrev Exec.running : Nat := 2
abbrev Exec.stopped : Nat := 3
abbrev Exec.receiving : Nat := 4
abbrev Exec.splitHalt : Nat := 5
abbrev Exec.splitRun : Nat := 6
abbrev Exec.replayHalt : Nat := 7
abbrev Exec.replayCheck : Nat := 8

/-- The start phases of R465 by their codes. -/
abbrev Phase.reset : Nat := 0
abbrev Phase.junction : Nat := 1
abbrev Phase.plug : Nat := 2
abbrev Phase.seal : Nat := 3
abbrev Phase.fill : Nat := 4
abbrev Phase.load : Nat := 5
abbrev Phase.agree : Nat := 6
abbrev Phase.run : Nat := 7
abbrev Phase.recovery : Nat := 8

/-- The phase of the module (R465). -/
def State.phase (s : State) : Nat := s.rd Fld.UPD_START_STATUS_PHASE

/-- A lane's membership state. -/
def State.member (s : State) (l : Lane) : Nat := s.rd (memberFld l)

/-- A lane's execution state. -/
def State.ex (s : State) (l : Lane) : Nat := s.rd (Fld.LC_LANE_STATUS_EXEC l)

/-- Whether a lane votes. -/
def State.votes (s : State) (l : Lane) : Bool := s.member l == Mbr.voting

/-- How many lanes vote. -/
def State.numVoting (s : State) : Nat := (lanes.filter s.votes).length

/-- Put a lane into a membership state; VOTING is mirrored in LC.LANE_STATUS and JC.MOD_STATUS. -/
def State.setMember (s : State) (l : Lane) (m : Nat) : State :=
  (((s.wr (memberFld l) m).wrB (Fld.LC_LANE_STATUS_VOTING l) (m == Mbr.voting)).wrBit
    Reg.JC_MOD_STATUS (8 + l.num) (m == Mbr.voting))

/-- The service master in office (R29), none where the field reads 0b11. -/
def State.svcMaster (s : State) : Option Lane := Lane.ofNat? (s.rd Fld.JC_MOD_STATUS_SVC_MASTER)

/-- The first voting lane in the order of R29. -/
def State.firstVoting (s : State) : Option Lane := lanes.find? s.votes

/-- Put a lane, or none, into office as service master (R29). -/
def State.setSvcMaster (s : State) (l : Option Lane) : State :=
  let s1 := s.wr Fld.JC_MOD_STATUS_SVC_MASTER (match l with
    | some x => x.num
    | none => 3)
  lanes.foldl (fun t x => t.wrB (Fld.LC_LANE_STATUS_SVC_MASTER x) (l == some x)) s1

/-! ### Time -/

/-- Nanoseconds in a second. -/
abbrev giga : Nat := 1000000000

/-- Network seconds (R178). -/
def State.netSec (s : State) : Nat := s.clk.net / giga % 2 ^ 48

/-- Network nanoseconds (R179). -/
def State.netNs (s : State) : Nat := s.clk.net % giga

/-- The span of a time in ns (R182). -/
def spanOf (t : Nat) : Nat := t % 4000000000

/-- The network-time span (R183). -/
def State.netSpan (s : State) : Nat := spanOf s.clk.net

/-- Wall time in ns (R178), folded into the 48-bit seconds. -/
def State.wall (s : State) : Nat := (((s.clk.net : Int) + s.clk.ofs) % ((2 ^ 48 * giga : Nat) : Int)).toNat

/-- The wall-time span (R183). -/
def State.wallSpan (s : State) : Nat := spanOf s.wall

/-- The difference of two spans (R182). -/
def spanDiff (a b : Nat) : Int :=
  let d : Int := ((a : Int) - b) % 4000000000
  if d ≥ 2000000000 then d - 4000000000 else d

/-- The base cycle T in ns (R33), a multiple of 125 µs. -/
def State.tCycle (s : State) : Nat := s.rd (Fld.SX_CFG_T_UNITS .X) * 125000

/-- Input delivery D_in in jc (R33). -/
def State.dIn (s : State) : Nat := ceilDiv s.cfg.sIn 8 + 10

/-- Hand-over H in jc (R33). -/
def State.hOver (s : State) : Nat := ceilDiv s.cfg.sOut 8 + 6

/-- Vote duration V in jc (R33). -/
def State.vDur (s : State) : Nat := ceilDiv s.cfg.sOut 16 + 4

/-- The instants of a cycle in jc from its start (R33). -/
def State.tIn (s : State) : Nat := s.rd Fld.SX_T_IN_JC
def State.tRel (s : State) : Nat := s.tIn + s.dIn
def State.tCom (s : State) : Nat := s.rd Fld.SX_T_COM_JC
def State.tHand (s : State) : Nat := s.tCom - s.hOver
def State.tVr (s : State) : Nat := s.tCom + s.vDur
def State.tOut (s : State) : Nat := s.tVr + 8

/-- The network time at which cycle k's instant, given in jc from the cycle start, falls. -/
def State.instant (s : State) (jc : Nat) : Nat := s.cyc.k * s.tCycle + 4 * jc

/-- Whether that instant of the running cycle has been reached. -/
def State.reached (s : State) (jc : Nat) : Bool := s.cyc.running && decide (s.instant jc ≤ s.clk.net)

/-- Whether the module is synchronised to a ring (R31). -/
def State.ringSync (s : State) (r : Ring) : Bool := s.flag (Fld.SX_STATUS_SYNC r)

/-! ### Trouble log and Welt -/

/-- SOURCE of R452 for a register's key: a junction unit's block number, 0x0020 to 0x0022 for a lane, 0x0030 to 0x0032 for its Treadle. -/
def sourceOf (k : Nat) : Nat :=
  if k < 0x1000000 then k / 0x10000
  else if k % 0x10000000 / 0x10000 = 2 then 0x30 + (k / 0x10000000 - 1)
  else 0x20 + (k / 0x10000000 - 1)

/-- Place a cause among those of the same jc in ascending SOURCE, then OFFSET (R461). -/
def insertCause (c : TCause) : List TCause → List TCause
  | [] => [c]
  | x :: xs =>
    if x.at_ = c.at_ ∧ (c.src < x.src ∨ (c.src = x.src ∧ c.off < x.off)) then c :: x :: xs
    else x :: insertCause c xs

/-- The flag byte of R451: WALL_VALID and NET_VALID. -/
def State.timeFlags (s : State) : Nat := s.rd Fld.TB_STATUS_WALL_VALID + 2 * s.rd Fld.TB_STATUS_NET_VALID

/-- A cause for a trouble-log entry (R461). With 16 waiting it takes a TSEQ and writes no entry. -/
def State.trouble (s : State) (src off bit code : Nat) (detail : List Nat) : State :=
  if 16 ≤ s.tWait.length then s.bumpW Fld.TL_STATUS_TSEQ
  else
    let c : TCause :=
      { at_ := s.clk.uptime, src := src, code := code, off := off, bit := bit, detail := detail,
        starts := s.rd Fld.UPD_START_STATUS_STARTS, uptime := s.clk.uptime, sec := s.wall / giga,
        flags := s.timeFlags, ns := s.wall % giga }
    { s with tWait := insertCause c s.tWait }

/-- A status event that set a field: CODE 0x0002 at that field (R461). -/
def State.troubleAt (s : State) (f : Field) (detail : List Nat) : State :=
  s.trouble (sourceOf f.addr) (f.addr % 0x10000) f.lo 2 detail

/-- Place an event among those of the same jc in ascending SOURCE, then CODE (R453). -/
def insertEvent (c : WEvent) : List WEvent → List WEvent
  | [] => [c]
  | x :: xs =>
    if x.at_ = c.at_ ∧ (c.src < x.src ∨ (c.src = x.src ∧ c.code < x.code)) then c :: x :: xs
    else x :: insertEvent c xs

/-- The event as it enters now, with the wall time of this jc (R451). -/
def State.mkEvent (s : State) (src code data : Nat) : WEvent :=
  { at_ := s.clk.uptime, src := src, code := code, data := data, sec := s.wall / giga, flags := s.timeFlags,
    ns := s.wall % giga }

/-- Whether a freeze is in force (R456). -/
def State.frozen (s : State) : Bool := s.flag Fld.WL_STATUS_FROZEN

/-- Put an event into the Welt's input queue, or count it as lost (R453). -/
def State.enqueue (s : State) (e : WEvent) : State :=
  if 64 ≤ s.welt.queue.length then s.bump Fld.WL_LOST_COUNT
  else ({ s with welt := { s.welt with queue := insertEvent e s.welt.queue } } : State).wr
    Fld.WL_STATUS_QUEUED (s.welt.queue.length + 1)

/-- An event for the Welt (R453, R456): in a freeze a time-step event is held, up to 4, and every other event is counted
in FROZEN_EVENTS. -/
def State.weltEvent (s : State) (src code data : Nat) : State :=
  if s.frozen then
    if code = 0x30 ∨ code = 0x31 then
      if s.welt.held.length < 4 then { s with welt := { s.welt with held := s.welt.held ++ [s.mkEvent src code data] } }
      else { s with welt := { s.welt with lostSteps := s.welt.lostSteps + 1 } }
    else s.bump Fld.WL_FROZEN_EVENTS_COUNT
  else s.enqueue (s.mkEvent src code data)

/-! ### Answers and holding registers -/

/-- Record the answer to an initiator. -/
def State.respond (s : State) (i : Initiator) (r : BusResp) : State := { s with resp := setN s.resp i.num r }

/-- The last answer to an initiator. -/
def State.response (s : State) (i : Initiator) : BusResp := (lookupN s.resp i.num).getD .idle

/-- The key of an initiator's holding register for a register (R13). -/
def holdKey (i : Initiator) (k : Nat) : Nat := i.num * 2 ^ 40 + k

/-- Capture a word for an initiator's next read of a register (R13, R197). -/
def State.capture (s : State) (i : Initiator) (k : Nat) (w : Word) : State := { s with holdR := setN s.holdR (holdKey i k) w }

/-- A fresh unstated value; each use is a new one (log entry 3). -/
def State.takeFree (s : State) : BitVec 64 × State := (Config.freeValue s.free, { s with free := s.free + 1 })

/-! ### Test taps -/

/-- A pulse signal of R501 occurs in this jc. -/
def State.pulse (s : State) (signal : Nat) : State := { s with st := { s.st with pulses := setN s.st.pulses signal s.clk.uptime } }

end Sys2Proof.Machine
end

