-- ==== Sys2Proof/Machine/Access.lean ====
section
/-! DEFINITION. Register access: from an initiator's own address to a register (R28), who may read and write it (R12, R28,
R29, R422, R424, AX read-only), and what a write does to the fields by their access class (R10, R11, R16). -/

namespace Sys2Proof.Machine

/-- The register key at an initiator's address: a hart sees its own lane's units at 0x1000_0000 and the junction window at
0x2000_0000; every other initiator addresses the junction by offset alone (R28). -/
def keyOf (i : Initiator) (addr : Nat) : Option Nat :=
  match i with
  | .hart l _ =>
    if decide (0x10000000 ≤ addr ∧ addr < 0x10040000) then some (laneKey l + (addr - 0x10000000))
    else if decide (0x20000000 ≤ addr ∧ addr < 0x20130000) then some (addr - 0x20000000)
    else none
  | _ => if addr < 0x130000 then some addr else none

/-- The secure masters of R424. -/
def State.secure (s : State) (i : Initiator) : Bool :=
  match i with
  | .hart l h => (s.hart l h).machine
  | .host => false
  | .shuttle c => s.flag (Fld.SH_CH_c_CFG_SECURE c)
  | .gusset => true

/-- The secure part of EY (R424). -/
def eySecure (k : Nat) : Bool := decide (0x90000 ≤ k ∧ k < 0x91000)

/-- The channel whose CTRL, shadow CFG or shadow PC register the key names (R422). -/
def shGuarded (k : Nat) : Option Nat :=
  if decide (0x80100 ≤ k ∧ k < 0x80500) then
    let o := (k - 0x80100) % 64
    if o = 8 ∨ o = 36 ∨ o = 40 then some ((k - 0x80100) / 64) else none
  else none

/-- Whether the key belongs to the lane's own unit area. -/
def laneOf (k : Nat) : Option Lane := if k < 0x1000000 then none else Lane.ofNat? (k / 0x10000000 - 1)

/-- Whether an initiator may read the register (R12, R28, R424). -/
def State.mayRead (s : State) (i : Initiator) (k : Nat) : Bool :=
  (regAt k).isSome &&
  (match i, laneOf k with
   | .hart l _, some x => decide (l = x)
   | _, some _ => false
   | _, none => true) &&
  (!eySecure k || s.secure i)

/-- Whether an initiator may write the register (R12, R28, R29, R422, R424; AX is read-only). -/
def State.mayWrite (s : State) (i : Initiator) (k : Nat) : Bool :=
  (regAt k).isSome && k / 0x10000 != 0x12 &&
  (match i, laneOf k with
   | .hart l h, some x => decide (l = x) && (k % 0x10000000 / 0x10000 != 2 || decide (h = Hart.h0))
   | .hart l h, none => decide (h = Hart.h1) && decide (s.svcMaster = some l)
   | _, some _ => false
   | _, none => true) &&
  (!eySecure k || s.secure i) &&
  (match shGuarded k with
   | some c => !s.flag (Fld.SH_CH_c_CFG_SECURE c) || s.secure i
   | none => true)

/-- What a refused access does: the initiator gets an access fault and nothing else changes, except the violation note of R424. -/
def State.deny (s : State) (i : Initiator) (k : Nat) : State :=
  if eySecure k && !s.secure i then
    ((s.set1 Fld.EY_STATUS_SEC_VIOL).troubleAt Fld.EY_STATUS_SEC_VIOL [k % 0x10000]).respond i .fault
  else s.respond i .fault

/-- Registers whose counts a write of 0xFFFF_FFFF clears and which ignore any other write (R232, R263, R276, R304, R381, R404). -/
def clearsOnOnes (k : Nat) : Bool :=
  let u := k / 0x10000
  let o := k % 0x10000
  match u with
  | 2 | 3 => decide (o ∈ [0x10, 0x14, 0x18, 0x1C, 0x208, 0x20C, 0x210]) || (u == 2 && decide (0x8000 ≤ o ∧ o < 0xA000))
  | 5 => decide (0x100 ≤ o ∧ o < 0x500) && o % 32 == 20
  | 6 => decide (0x100 ≤ o ∧ o < 0x300) && o % 64 == 20
  | 7 => o == 0xC || o == 0x10
  | 8 => decide (0x100 ≤ o ∧ o < 0x500) && (o - 0x100) % 64 == 16
  | 9 => o == 0x2110
  | 10 => decide (0x100 ≤ o ∧ o < 0x200) && decide (8 ≤ o % 32)
  | 11 => o == 8
  | 13 => o == 0x28
  | _ => false

/-- The value a field takes where the spec replaces the written one: WALL_RATE, RATE and PERIOD limits (R197), LEAD, WEIGHT
and THRESH minima (R232, R431, R463). -/
def clampField (k : Nat) (f : RField) (v : Nat) : Nat :=
  if k = Reg.TB_WALL_RATE then
    (if v < 2 ^ 31 then (if v ≤ 200000 then v else 200000) else (if 2 ^ 32 - 200000 ≤ v then v else 2 ^ 32 - 200000))
  else if k = Reg.TB_SLEW_CTRL then (if v = 0 ∨ 500 < v then 500 else v)
  else if decide (0x10100 ≤ k ∧ k < 0x10200) && k % 16 == 8 then
    (if v = 0 then 0 else if v < 1000 then 1000 else if 2000000000 ≤ v then 1999999999 else v)
  else if k = Reg.SX_SCHED_CTRL ∧ f.name = "LEAD" then (if v < 16 then 16 else v)
  else if f.name = "WEIGHT" then (if v = 0 then 1 else v)
  else if k = Reg.WL_FLUSH_CFG then (if v = 0 then 1 else v)
  else v

/-- Whether a field keeps its value: the ring's shadow set and LEAD while a copy is pending (R16, R229), and the page of an
active retire entry (R176). -/
def State.locked (s : State) (k : Nat) (f : RField) : Bool :=
  (f.name == "PAGE" && bitOf (s.reg k).toNat 31) ||
  s.flag Fld.SX_SCHED_CTRL_BASTE_PENDING &&
  ((decide (0x20040 ≤ k ∧ k < 0x20060) || decide (0x23000 ≤ k ∧ k < 0x24000)) || (k == Reg.SX_SCHED_CTRL && f.name == "LEAD"))

/-- Whether a field is SY.CFG.T_UNITS, which is read-only and shows the value of SX (R224, R232). -/
def isSyT (k : Nat) (f : RField) : Bool := k == Reg.SX_CFG .Y && f.name == "T_UNITS"

/-- ETH.MAC_0 is set at manufacture and read-only. -/
def factoryMac (k : Nat) : Bool := k == 0xA0300 || k == 0xA0304

/-- A register's word after a write of `w` to these fields, each by its access class; `n` is the word so far. -/
def mergeFields (s : State) (k : Nat) (w : Nat) : List RField → Nat → Nat
  | [], n => n
  | f :: fs, n =>
    let v := bitsOf w f.hi f.lo
    let o := bitsOf n f.hi f.lo
    let m : Nat := match f.acc with
      | .rw => if s.locked k f then o else clampField k f v
      | .rws => if s.isSealed || factoryMac k || isSyT k f then o else v
      | .w1c => o - (o &&& v)
      | .w1s => o ||| v
      | .ro | .wo => o
    mergeFields s k w fs (putBits n f.hi f.lo m)

/-- The first sealed field that a write would change (R11). -/
def refusedField (s : State) (k : Nat) (w : Nat) (fs : List RField) : Option RField :=
  if s.isSealed then fs.reverse.find? (fun f => f.acc == .rws && !isSyT k f && bitsOf w f.hi f.lo != bitsOf (s.reg k).toNat f.hi f.lo) else none

/-- The trouble entry of a write that would change a sealed field (R11). -/
def State.noteSealed (s : State) (k : Nat) (w : Word) : State :=
  match regAt k with
  | some d => match refusedField s k w.toNat d.fields with
    | some f => s.trouble (sourceOf k) (k % 0x10000) f.lo 1 []
    | none => s
  | none => s

/-- The trouble entry of a write that would change LEAD while a copy is pending (R229). -/
def State.noteLead (s : State) (k : Nat) (w : Word) : State :=
  let f := Fld.SX_SCHED_CTRL_LEAD
  if k = Reg.SX_SCHED_CTRL ∧ s.flag Fld.SX_SCHED_CTRL_BASTE_PENDING = true ∧ bitsOf w.toNat f.hi f.lo ≠ s.rd f then
    s.trouble (sourceOf k) (k % 0x10000) f.lo 1 []
  else s

/-- The plain effect of a write on a register's fields (R10, R11, R16); writes to SY's mirrored part are ignored (R224). -/
def State.merge (s : State) (k : Nat) (w : Word) : State :=
  if isSyMirror k then s
  else match regAt k with
    | none => s
    | some d =>
      if clearsOnOnes k then (if w = 0xFFFFFFFF then s.setReg k 0 else s)
      else
        ((s.noteSealed k w).noteLead k w).setReg k (BitVec.ofNat 32 (mergeFields s k w.toNat d.fields (s.reg k).toNat))

/-- A write of a register that has an effect of its own: the permission check, the fields, then the effect. -/
def State.regCmd (s : State) (i : Initiator) (k : Nat) (w : Word) (eff : State → State) : State :=
  if s.mayWrite i k then (eff (s.merge k w)).respond i .done else s.deny i k

/-- A write of a register whose effect alone decides about the register's fields. -/
def State.regCmdRaw (s : State) (i : Initiator) (k : Nat) (eff : State → State) : State :=
  if s.mayWrite i k then (eff s).respond i .done else s.deny i k

/-- A field of a written word, by the bits the register map gives it. -/
def wbits (w : Word) (f : Field) : Nat := bitsOf w.toNat f.hi f.lo

end Sys2Proof.Machine
end

