-- ==== Sys2Proof/Machine/MemOps.lean ====
section
/-! DEFINITION. The DDR4 memories behind their controllers (chapter 06): valid blocks (R159, R160), retired pages (R169),
the error log and its counters (R167), and bursts to junction and lane memory. -/

namespace Sys2Proof.Machine

/-- Insert a number into a rising list without repeats. -/
def insertNat (n : Nat) : List Nat → List Nat
  | [] => [n]
  | x :: xs => if n < x then n :: x :: xs else if n = x then x :: xs else x :: insertNat n xs

/-- The first address of a controller's DDR4: lane map 0x8000_0000 (R28), junction 0x4000_0000 (R173). -/
def ddrBase : MemSel → Nat
  | .lane _ => 0x80000000
  | .junction => 0x40000000

/-- The address after the last of a controller's DDR4. -/
def ddrEnd : MemSel → Nat
  | .lane _ => 0x180000000
  | .junction => 0x80000000

/-- Whether an address lies in the controller's DDR4. -/
def inDdr (m : MemSel) (a : Nat) : Bool := decide (ddrBase m ≤ a ∧ a < ddrEnd m)

/-- The DDR4 contents of a controller. -/
def State.ddr (s : State) : MemSel → Mem
  | .lane l => (s.ln l).ddr
  | .junction => s.jddr

/-- Replace the DDR4 contents of a controller. -/
def State.setDdr (s : State) (m : MemSel) (x : Mem) : State :=
  match m with
  | .lane l => s.modLn l (fun n => { n with ddr := x })
  | .junction => { s with jddr := x }

/-- The first page of a controller's spare pool. -/
def State.poolPage (s : State) (m : MemSel) : Nat := s.rd (Fld.MEM_SPARE_BASE_PAGE m)

/-- Whether a page lies in the spare pool, 128 pages from SPARE_BASE (R168); no pool is set while SPARE_BASE reads 0. -/
def State.inPool (s : State) (m : MemSel) (page : Nat) : Bool :=
  s.poolPage m != 0 && decide (s.poolPage m ≤ page ∧ page < s.poolPage m + 128)

/-- The active entry of the retire table that holds a page (R169). -/
def State.retired (s : State) (m : MemSel) (page : Nat) : Option Nat :=
  (List.range 128).find? (fun n => s.flag (Fld.MEM_RT_n_ACTIVE m n) && !s.flag (Fld.MEM_RT_n_BUSY m n)
    && s.rd (Fld.MEM_RT_n_PAGE m n) == page)

/-- The address by which initiators reach a place in DDR4: that of the retired page whose pool page it lies in (R169). -/
def State.logical (s : State) (m : MemSel) (p : Nat) : Nat :=
  let n := p / 4096 - s.poolPage m
  if s.inPool m (p / 4096) && s.flag (Fld.MEM_RT_n_ACTIVE m n) && !s.flag (Fld.MEM_RT_n_BUSY m n) then
    s.rd (Fld.MEM_RT_n_PAGE m n) * 4096 + p % 4096
  else p

/-- The address that a request reaches: the pool page in place of a retired page (R169). -/
def State.phys (s : State) (m : MemSel) (a : Nat) : Nat :=
  match s.retired m (a / 4096) with
  | some n => (s.poolPage m + n) * 4096 + a % 4096
  | none => a

/-- `n` bytes of DDR4; an invalid block reads zeros (R159). -/
def State.ddrBytes (s : State) (m : MemSel) (a n : Nat) : List Byte :=
  (List.range n).map (fun i => (s.ddr m).rb (s.phys m (a + i)))

/-- Mark the block of an address valid; SCRUB_VALID counts the valid blocks (R160, R176). A retired page keeps its block numbers (R164). -/
def State.markValid (s : State) (m : MemSel) (a : Nat) : State :=
  let b := (a - ddrBase m) / 256
  if b ∈ (s.mctl m).valid then s
  else
    let v := insertNat b (s.mctl m).valid
    (s.setMctl m { s.mctl m with valid := v }).wr (Fld.MEM_SCRUB_VALID_BLOCKS m) v.length

/-- Write one byte of DDR4: a diagnostic pattern in its word is replaced by correct check bits, and its block becomes valid. -/
def State.ddrWb (s : State) (m : MemSel) (a : Nat) (v : Byte) : State :=
  let p := s.phys m a
  let s1 := s.markValid m a
  let c := s1.mctl m
  (s1.setMctl m { c with chk := Store.erase c.chk (p / 8) }).setDdr m ((s1.ddr m).wb p v)

/-- Write bytes of DDR4 (R160). -/
def State.ddrPut (s : State) (m : MemSel) (a : Nat) : List Byte → State
  | [] => s
  | b :: bs => (s.ddrWb m a b).ddrPut m (a + 1) bs

/-- The class of a word read with check bits (R171): 0 no error, 1 corrected, 2 uncorrectable. -/
def hsiaoClass (d : BitVec 64) (c : Byte) : Nat :=
  if c = Config.hsiaoCheck d then 0 else if Config.hsiaoFixes d c then 1 else 2

/-- The syndrome: the check bits read against those of the data. -/
def hsiaoSyndrome (d : BitVec 64) (c : Byte) : Byte := c ^^^ Config.hsiaoCheck d

/-- The corrected data of a word of class 1. -/
def hsiaoData (d : BitVec 64) (c : Byte) : BitVec 64 :=
  let n := (Config.hsiaoBit d c).val
  if n < 64 then d ^^^ BitVec.ofNat 64 (2 ^ n) else d

/-- The word of DDR4 by its number, as the array holds it. -/
def State.rawWord (s : State) (m : MemSel) (w : Nat) : BitVec 64 := BitVec.ofNat 64 ((s.ddr m).num (w * 8) 8)

/-- The words with placed check bits in the burst of an address: number and check bits. -/
def State.placed (s : State) (m : MemSel) (a : Nat) : List (Nat × Byte) :=
  (s.mctl m).chk.filter (fun c => c.1 / 8 == s.phys m a / 64)

/-- The class of the error in the burst of an address (R152), the worst of its words with placed check bits, and the syndrome of the first
word of that class. -/
def State.burstClass (s : State) (m : MemSel) (a : Nat) : Nat × Byte :=
  (s.placed m a).foldl (fun x c =>
    let d := s.rawWord m c.1
    if x.1 < hsiaoClass d c.2 then (hsiaoClass d c.2, hsiaoSyndrome d c.2) else x) (0, 0)

/-- A corrected burst is written back (R153): each of its words that reads as corrected takes the corrected data and correct check bits. -/
def State.fixBurst (s : State) (m : MemSel) (a : Nat) : State :=
  (s.placed m a).foldl (fun (t : State) c =>
    let d := t.rawWord m c.1
    if hsiaoClass d c.2 = 1 then
      (t.setMctl m { t.mctl m with chk := Store.erase (t.mctl m).chk c.1 }).setDdr m ((t.ddr m).putNum (c.1 * 8) 8 (hsiaoData d c.2).toNat)
    else t) s

/-- A line that an L2 may hold of an invalidated range is gone (R161). -/
def State.dropLine (s : State) (l : Lane) (a : Nat) : State :=
  s.modLn l (fun n => { n with l2 := n.l2.filter (fun c => c.1 / 64 != a / 64) })

/-- Before a write to a line that an L2 may still hold (R161): where it does, the line's data reach DDR4 with the write (log entry 85). -/
def State.settleLine (s : State) (l : Lane) (a : Nat) : State :=
  let line := (s.ln l).l2.filter (fun c => c.1 / 64 == a / 64)
  if line = [] then s
  else
    let t := s.takeFree.2.dropLine l a
    if s.takeFree.1.getLsbD 0 then t.ddrPut (.lane l) (a / 64 * 64) (Mem.bytes line (a / 64 * 64) 64) else t

/-- The lines that `n` bytes from `a` on touch. -/
def State.settleLines (s : State) (l : Lane) (a n : Nat) : State :=
  if (s.ln l).l2 = [] then s
  else (List.range ((a + n - 1) / 64 + 1 - a / 64)).foldl (fun t j => t.settleLine l (64 * (a / 64 + j))) s

/-- Whether the junction bitmap word of an address is damaged, so that its blocks answer with an error (R155). -/
def State.bitmapBad (s : State) (a : Nat) : Bool := s.jmem.badBitmap.contains ((a - 0x40000000) / 256 / 64)

/-- Enter an error in a controller's log (R167). -/
def State.logError (s : State) (m : MemSel) (type source syndrome addr : Nat) : State :=
  let c := s.mctl m
  if c.elog.any (fun e => e.type == type && e.addr == addr) then
    s.setMctl m { c with
      elog := c.elog.map (fun e => if e.type == type && e.addr == addr then { e with rep := satAdd 0xFF e.rep 1 } else e) }
  else if 32 ≤ c.elog.length then s.bump (Fld.MEM_ELOG_CTRL_LOST m)
  else
    let e : ElogEntry := { type := type, source := source, syndrome := syndrome, addr := addr, time := s.clk.uptime, rep := 0 }
    (s.setMctl m { c with elog := c.elog ++ [e] }).wr (Fld.MEM_STATUS_ELOG_COUNT m) (c.elog.length + 1)

/-- Show the head of the error log in ELOG_INFO, ELOG_ADDR and ELOG_TIME, zero when the log is empty (R167). -/
def State.showElog (s : State) (m : MemSel) : State :=
  match (s.mctl m).elog with
  | [] =>
    (((s.setReg (Reg.MEM_ELOG_INFO m) 0).setReg (Reg.MEM_ELOG_ADDR m) 0).wr64 (Reg.MEM_ELOG_TIME_HI m) (Reg.MEM_ELOG_TIME_LO m) 0)
  | e :: _ =>
    ((((((s.wr (Fld.MEM_ELOG_INFO_VALID m) 1).wr (Fld.MEM_ELOG_INFO_TYPE m) e.type).wr (Fld.MEM_ELOG_INFO_SOURCE m) e.source).wr
      (Fld.MEM_ELOG_INFO_REPEAT m) e.rep).wr (Fld.MEM_ELOG_INFO_SYNDROME m) e.syndrome).wr (Fld.MEM_ELOG_ADDR_ADDR m) e.addr).wr64
      (Reg.MEM_ELOG_TIME_HI m) (Reg.MEM_ELOG_TIME_LO m) e.time

/-- Count an error in the counter of its store, by ELOG type (R167, R176). -/
def State.countError (s : State) (m : MemSel) (type : Nat) (uncorr : Bool) : State :=
  if uncorr then s.bump (Fld.MEM_UNCORR_COUNT_COUNT m)
  else match type with
    | 1 => s.bump (Fld.MEM_CORR_COUNT_COUNT m)
    | 3 | 4 => s.bump (Fld.MEM_SRAM_CORR_L2 m)
    | 6 => s.bump (Fld.MEM_SRAM_CORR_SCRATCH m)
    | 7 => s.bump (Fld.MEM_SRAM_CORR_IMAGE m)
    | 8 => s.bump (Fld.MEM_SRAM_CORR_BITMAP m)
    | _ => s

/-- An error of a store: log entry, shown head and counter (R167). -/
def State.memError (s : State) (m : MemSel) (type source syndrome addr : Nat) (uncorr : Bool) : State :=
  ((s.logError m type source syndrome addr).countError m type uncorr).showElog m

end Sys2Proof.Machine
end

