-- ==== Sys2Proof/Machine/Time.lean ====
section
/-! DEFINITION. The time base (chapter 07): the passing of one jc, steps and slews of wall time, the compare units, event notices
to the Treadles (R125 to R127), and the captured reads of TB. -/

namespace Sys2Proof.Machine

/-- The sign of an integer as −1, 0 or 1. -/
def signI (i : Int) : Int := if i < 0 then -1 else if i = 0 then 0 else 1

/-- Whether the module leads a ring. -/
def State.leads (s : State) : Bool := rings.any (fun r => s.flag (Fld.SX_STATUS_LEADER r))

/-- The wall offset as the signed 64 bits that hold it (R178). -/
def wrapOfs (i : Int) : Int := toSigned 64 (ofSigned 64 i)

/-- Whether the wall offset is held for the ring (R509): WALL_SRC ring at a module that is not the leader. -/
def State.ringHeldOfs (s : State) : Bool := s.rd Fld.TB_CFG_WALL_SRC == 0 && !s.leads && s.isSealed

/-- One jc passes (R178, R179, R181, R186): uptime and network time advance by 4 ns, network time corrected by 1 ns once in
250 jc while a phase error remains; the drift of WALL_RATE accumulates and a running slew moves the offset by 1 ns every
floor(1 000 000 ÷ RATE) ns at the RATE of its GO (R196), unless the offset is held for the ring. -/
def State.tick (s : State) : State :=
  let c := s.clk
  let cnt := (c.corrCnt + 1) % 250
  let adj : Int := if cnt = 0 then signI c.corr else 0
  let dn := (4 + adj).toNat
  let held := s.ringHeldOfs
  let d1 : Int := if held then c.drift else c.drift + toSigned 32 (s.rd Fld.TB_WALL_RATE_PPB) * dn
  let dOfs : Int := if held then 0 else d1.tdiv 1000000000
  let period := 1000000 / c.slewRate
  let stepNow := !held && c.slew != 0 && decide (period ≤ c.slewAcc + 4)
  let sl : Int := if stepNow then signI c.slew else 0
  let c1 : Clock :=
    { c with
      uptime := c.uptime + 4
      net := (c.net + dn) % (2 ^ 48 * giga)
      corr := c.corr - adj
      corrCnt := cnt
      drift := d1 - dOfs * 1000000000
      ofs := wrapOfs (c.ofs + dOfs + sl)
      slew := c.slew - sl
      slewAcc := if c.slew = 0 ∨ held then 0 else if stepNow then c.slewAcc + 4 - period else c.slewAcc + 4 }
  (({ s with clk := c1 } : State).wrB Fld.TB_STATUS_NET_SLEW (c1.corr != 0)).wrB Fld.TB_STATUS_SLEW_BUSY (c1.slew != 0)

/-! ### Event notices -/

/-- Whether event task 8 + n has this trigger; `edge` is the EDGE bit of a field edge, 0 for the other sources (R125). -/
def State.triggers (s : State) (n src sel edge : Nat) : Bool :=
  s.flag (Fld.TRD_ET_n_CFG_EN .A n) && s.rd (Fld.TRD_ET_n_CFG_SRC .A n) == src && s.rd (Fld.TRD_ET_n_CFG_SEL .A n) == sel
    && (src != 0 || (s.rd (Fld.TRD_ET_n_CFG_EDGE .A n) &&& edge) != 0)

/-- The release instant r of a trigger time (R126). -/
def releaseAt (te : Nat) : Nat := ceilDiv te 1000 * 1000 + 4000

/-- A trigger for event task 8 + n (R127): one notice to the three lanes, or a count while a notice is outstanding. -/
def State.notifyTask (s : State) (n te : Nat) (data : Word) : State :=
  match lookupN s.evR n with
  | some r0 =>
    if s.clk.net < r0 then { s with evMiss := setN s.evMiss n ((lookupN s.evMiss n).getD 0 + 1) }
    else
      let x : Notice := { task := 8 + n, te := te, span := spanOf te, r := releaseAt te, data := data, missed := (lookupN s.evMiss n).getD 0 }
      lanes.foldl (fun t l => t.modLn l (fun y => { y with inbox := y.inbox ++ [x] }))
        { s with evR := setN s.evR n (releaseAt te), evMiss := dropN s.evMiss n }
  | none =>
    let x : Notice := { task := 8 + n, te := te, span := spanOf te, r := releaseAt te, data := data, missed := (lookupN s.evMiss n).getD 0 }
    lanes.foldl (fun t l => t.modLn l (fun y => { y with inbox := y.inbox ++ [x] }))
      { s with evR := setN s.evR n (releaseAt te), evMiss := dropN s.evMiss n }

/-- A trigger of a source (R125): every event task set to it gets its notice. -/
def State.notify (s : State) (src sel edge te : Nat) (data : Word) : State :=
  (List.range 16).foldl (fun t n => if t.triggers n src sel edge then t.notifyTask n te data else t) s

/-- A ring event of R125. -/
def State.ringEvent (s : State) (r : Ring) (code : Nat) : State :=
  s.notify 3 code 0 s.clk.net (BitVec.ofNat 32 (r.num * 256 + code))

/-! ### Compare units -/

/-- The span that a compare unit's timescale reads now (R190). -/
def State.cmpNow (s : State) (n : Nat) : Nat := if s.flag (Fld.TB_CMP_n_CFG_SCALE n) then s.wallSpan else s.netSpan

/-- The target that a unit was armed with, or has advanced to since (R191, R192). -/
def State.cmpTarget (s : State) (n : Nat) : Nat := (lookupN s.clk.targets n).getD 0

/-- A unit is armed with a target, or its target advances (R191, R192). -/
def State.setTarget (s : State) (n t : Nat) : State := { s with clk := { s.clk with targets := setN s.clk.targets n t } }

/-- The network time nearest to now whose span is the target. -/
def State.netOfSpan (s : State) (target : Nat) : Nat := ((s.clk.net : Int) + spanDiff target s.netSpan).toNat

/-- The event of a WAIT condition reaches the channels that wait for it: a compare unit, t_in or t_vr (R413). -/
def State.shEvent (s : State) (cond index : Nat) : State :=
  { s with shc := s.shc.map (fun x => match x.wait with
      | some (d, n, _) => if d = cond ∧ n = index then { x with event := true } else x
      | none => x) }

/-- A unit fires (R192): FIRED in STAT and STATUS, the notice with t_e equal to the target, the TB interrupt; a one-shot unit is
disarmed, a periodic one advances its target until it lies ahead and counts the periods skipped. The TARGET register shows the
advance unless a target written for the next ARM stands in it (DESIGN CHOICE, log entry 89). -/
def State.fire (s : State) (n : Nat) : State :=
  let target := s.cmpTarget n
  let period := s.rd (Fld.TB_CMP_n_PERIOD_NS n)
  let s1 := (s.set1 (Fld.TB_CMP_n_STAT_FIRED n)).wrBit Reg.TB_STATUS (16 + n) true
  let s2 := (s1.shEvent 3 n).notify 1 n 0 (s.netOfSpan target) (BitVec.ofNat 32 n)
  let s3 := if s.flag (Fld.TB_CMP_n_CFG_IRQ n) then s2.raiseService else s2
  if period = 0 then s3.wr (Fld.TB_CMP_n_CFG_ARMED n) 0
  else
    let t1 := spanOf (target + period)
    let past := spanDiff (s.cmpNow n) t1
    let k := if past < 0 then 0 else past.toNat / period + 1
    let next := spanOf (t1 + k * period)
    let s4 := if s3.rd (Fld.TB_CMP_n_TARGET_SPAN n) = target then s3.wr (Fld.TB_CMP_n_TARGET_SPAN n) next else s3
    (s4.setTarget n next).bumpBy (Fld.TB_CMP_n_STAT_MISSED n) k

/-- Whether an armed unit has reached its target (R190). -/
def State.cmpDue (s : State) (n : Nat) : Bool :=
  s.flag (Fld.TB_CMP_n_CFG_ARMED n) && decide (0 ≤ spanDiff (s.cmpNow n) (s.cmpTarget n))

/-- Every unit that is due fires, on the time as it stands (R193). -/
def State.fireDue (s : State) : State := (List.range 16).foldl (fun t n => if t.cmpDue n then t.fire n else t) s

/-- The effect of CMP_n_CFG with ARM (R191, R194): DISARM in the same write wins; a target of 4·10^9 or more is refused with
ERR; a target in the past fires at once with LATE. -/
def State.armUnit (s : State) (n : Nat) (w : Word) : State :=
  if wbits w (Fld.TB_CMP_n_CFG_DISARM n) = 1 then s.wr (Fld.TB_CMP_n_CFG_ARMED n) 0
  else if 4000000000 ≤ s.rd (Fld.TB_CMP_n_TARGET_SPAN n) then
    (s.set1 (Fld.TB_CMP_n_STAT_ERR n)).wr (Fld.TB_CMP_n_CFG_ARMED n) 0
  else
    let s1 := ((s.wr (Fld.TB_CMP_n_STAT_MISSED n) 0).set1 (Fld.TB_CMP_n_CFG_ARMED n)).setTarget n (s.rd (Fld.TB_CMP_n_TARGET_SPAN n))
    if spanDiff (s.rd (Fld.TB_CMP_n_TARGET_SPAN n)) (s.cmpNow n) < 0 then (s1.set1 (Fld.TB_CMP_n_STAT_LATE n)).fire n else s1

/-- ARM (R191). -/
def execArm (i : Initiator) (n : Fin 16) (w : Word) (s : State) : Host.Outcome State Fault Refusal :=
  .next (s.regCmd i (Reg.TB_CMP_n_CFG n) w (fun t => t.armUnit n w))

/-- DISARM (R194): the unit is disarmed at once. -/
def execDisarm (i : Initiator) (n : Fin 16) (w : Word) (s : State) : Host.Outcome State Fault Refusal :=
  .next (s.regCmd i (Reg.TB_CMP_n_CFG n) w (fun t => t.wr (Fld.TB_CMP_n_CFG_ARMED n) 0))

/-- CMP_FIRE (R190, R192): an armed unit whose target is reached fires; otherwise nothing happens. -/
def execCmpFire (n : Fin 16) (s : State) : Host.Outcome State Fault Refusal :=
  .next (if s.cmpDue n then s.fire n else s)

/-! ### Steps -/

/-- Every armed unit on the scale, or on both, is disarmed with STEPPED set when the step exceeds 1 ms (R189). -/
def State.disarmStepped (s : State) (size : Int) (both : Bool) : State :=
  if size > 1000000 ∨ size < -1000000 then
    (List.range 16).foldl (fun t n =>
      if t.flag (Fld.TB_CMP_n_CFG_ARMED n) && (both || t.flag (Fld.TB_CMP_n_CFG_SCALE n)) then
        (t.wr (Fld.TB_CMP_n_CFG_ARMED n) 0).set1 (Fld.TB_CMP_n_STAT_STEPPED n)
      else t) s
  else s

/-- The record of a step (R188): LAST_STEP, STEP_COUNT, the reported SOURCE and the Welt's time-step record. -/
def State.recordStep (s : State) (size : Int) (source code : Nat) : State :=
  ((((s.wr64 Reg.TB_LAST_STEP_HI Reg.TB_LAST_STEP_LO (ofSigned 64 (satSigned 64 size))).bumpW Fld.TB_STEP_COUNT_COUNT).wr
    Fld.TB_STEP_CTRL_SOURCE source).weltEvent 1 code (ofSigned 64 (satSigned 64 size)))

/-- A wall-time step (R187 to R189), after the units due on the time before it have fired (R193). -/
def State.wallStep (s0 : State) (size : Int) (source : Nat) : State :=
  let s := s0.fireDue
  ((({ s with clk := { s.clk with ofs := wrapOfs (s.clk.ofs + size) } } : State).set1 Fld.TB_STATUS_WALL_VALID).recordStep size source 0x30).disarmStepped
    size false

/-- A network-time step by adoption (R180, R187 to R189); it steps both timescales and writes the network record only. The units
due on the time before it fire first (R193). -/
def State.netStep (s0 : State) (t : Nat) : State :=
  let s := s0.fireDue
  let size : Int := (t : Int) - s.clk.net
  ((({ s with clk := { s.clk with net := t, corr := 0 } } : State).set1 Fld.TB_STATUS_NET_VALID).recordStep size 4 0x31).disarmStepped
    size true

/-- The seconds of the step registers (R197). -/
def State.stepSec (s : State) : Nat := (s.rd Fld.TB_STEP_SEC_HI_VALUE) * 2 ^ 32 + s.rd Fld.TB_STEP_SEC_LO_VALUE

/-- Whether a word names a source that a step command may have (R197): command or PTP. -/
def sourceOk (w : Word) : Bool := wbits w Fld.TB_STEP_CTRL_SOURCE == 1 || wbits w Fld.TB_STEP_CTRL_SOURCE == 2

/-- The fields of STEP_CTRL that a write keeps (R197): MODE and SIGN; SOURCE goes on reading the source of the last step. -/
def State.keepStepCtl (s : State) (w : Word) : State :=
  (s.merge Reg.TB_STEP_CTRL w).wr Fld.TB_STEP_CTRL_SOURCE (s.rd Fld.TB_STEP_CTRL_SOURCE)

/-- A write of STEP_CTRL without GO (R197): another source is refused. -/
def State.stepCtl (s : State) (w : Word) : State := if sourceOk w then s.keepStepCtl w else s.set1 Fld.TB_STATUS_STEP_REFUSED

/-- Whether a step command is refused (R186, R187): one pending, nanoseconds of 10^9 or more, a source other than command or
PTP, or WALL_SRC ring at a module that does not lead. -/
def State.stepRefused (s : State) (w : Word) : Bool :=
  s.clk.stepPend.isSome || decide (giga ≤ s.rd Fld.TB_STEP_NS_VALUE) || !sourceOk w || (s.rd Fld.TB_CFG_WALL_SRC == 0 && !s.leads)

/-- The effect of STEP_CTRL with GO (R187): the request is held for the next jc, or refused with nothing changed. -/
def State.goStep (s : State) (w : Word) : State :=
  if s.stepRefused w then s.set1 Fld.TB_STATUS_STEP_REFUSED
  else
    let v : Int := s.stepSec * giga + s.rd Fld.TB_STEP_NS_VALUE
    let rel := wbits w Fld.TB_STEP_CTRL_MODE == 1
    let neg := wbits w Fld.TB_STEP_CTRL_SIGN == 1
    let q : StepReq :=
      { absolute := !rel, value := if rel && neg then -v else v, source := wbits w Fld.TB_STEP_CTRL_SOURCE, at_ := s.clk.uptime }
    ({ s.keepStepCtl w with clk := { s.clk with stepPend := some q } } : State).set1 Fld.TB_STATUS_STEP_PEND

/-- STEP_GO (R187). -/
def execStepGo (i : Initiator) (w : Word) (s : State) : Host.Outcome State Fault Refusal :=
  .next (s.regCmdRaw i Reg.TB_STEP_CTRL (fun t => t.goStep w))

/-- The pending step is applied in a jc after that of its GO (R187 to R189). -/
def State.applyStep (s : State) : State :=
  match s.clk.stepPend with
  | none => s
  | some q =>
    if q.at_ < s.clk.uptime then
      let s1 := ({ s with clk := { s.clk with stepPend := none } } : State).wr Fld.TB_STATUS_STEP_PEND 0
      s1.wallStep (if q.absolute then q.value - (s.wall : Int) else q.value) q.source
    else s

/-- STEP_APPLY (R187 to R189): the pending step is applied in the jc after GO. -/
def execStepApply (s : State) : Host.Outcome State Fault Refusal := .next s.applyStep

/-- The effect of SLEW_CTRL with GO (R186): a slew of SLEW_NS replaces any remainder; refused like a step. -/
def State.goSlew (s : State) (w : Word) : State :=
  if s.rd Fld.TB_CFG_WALL_SRC == 0 && !s.leads then s.set1 Fld.TB_STATUS_STEP_REFUSED
  else
    let amount := toSigned 32 (s.rd Fld.TB_SLEW_NS_NS)
    let s0 := s.merge Reg.TB_SLEW_CTRL w
    let s1 := ({ s0 with clk := { s0.clk with slew := amount, slewRate := s0.rd Fld.TB_SLEW_CTRL_RATE, slewAcc := 0 } } : State).wrB
      Fld.TB_STATUS_SLEW_BUSY (amount != 0)
    if s.rd Fld.TB_CFG_WALL_SRC == 1 then s1.set1 Fld.TB_STATUS_WALL_VALID else s1

/-- SLEW_GO (R186). -/
def execSlewGo (i : Initiator) (w : Word) (s : State) : Host.Outcome State Fault Refusal :=
  .next (s.regCmdRaw i Reg.TB_SLEW_CTRL (fun t => t.goSlew w))

/-! ### Captured reads -/

/-- The registers whose value is the time of the jc of the read (R197). -/
def State.timeReg (s : State) (k : Nat) : Option Word :=
  let w : Nat → Word := BitVec.ofNat 32
  let ofs := ofSigned 64 s.clk.ofs
  match k with
  | 0x10008 => some (w (s.netSec / 2 ^ 32))
  | 0x1000C => some (w s.netSec)
  | 0x10010 => some (w s.netNs)
  | 0x10014 => some (w s.netSpan)
  | 0x10018 => some (w (s.wall / giga / 2 ^ 32))
  | 0x1001C => some (w (s.wall / giga))
  | 0x10020 => some (w (s.wall % giga))
  | 0x10024 => some (w s.wallSpan)
  | 0x10028 => some (w (s.clk.uptime / 2 ^ 32))
  | 0x1002C => some (w s.clk.uptime)
  | 0x10030 => some (w (ofs / 2 ^ 32))
  | 0x10034 => some (w ofs)
  | _ => none

/-- A read of TB.NS (R197): SEC_HI, SEC_LO and SPAN of the same jc are captured for the reader. -/
def State.readNs (s : State) (i : Initiator) : State :=
  ((((s.capture i Reg.TB_SEC_HI (BitVec.ofNat 32 (s.netSec / 2 ^ 32))).capture i Reg.TB_SEC_LO (BitVec.ofNat 32 s.netSec)).capture i
    Reg.TB_SPAN (BitVec.ofNat 32 s.netSpan))).respond i (.data (BitVec.ofNat 32 s.netNs))

/-- A read of TB.WALL_NS (R197). -/
def State.readWallNs (s : State) (i : Initiator) : State :=
  ((((s.capture i Reg.TB_WALL_SEC_HI (BitVec.ofNat 32 (s.wall / giga / 2 ^ 32))).capture i Reg.TB_WALL_SEC_LO
    (BitVec.ofNat 32 (s.wall / giga))).capture i Reg.TB_WALL_SPAN (BitVec.ofNat 32 s.wallSpan))).respond i
    (.data (BitVec.ofNat 32 (s.wall % giga)))

/-- TB_NS_READ (R197). -/
def execTbNsRead (i : Initiator) (s : State) : Host.Outcome State Fault Refusal :=
  .next (if s.mayRead i Reg.TB_NS then s.readNs i else s.deny i Reg.TB_NS)

/-- WALL_NS_READ (R197). -/
def execWallNsRead (i : Initiator) (s : State) : Host.Outcome State Fault Refusal :=
  .next (if s.mayRead i Reg.TB_WALL_NS then s.readWallNs i else s.deny i Reg.TB_WALL_NS)

end Sys2Proof.Machine
end

