-- ==== Sys2Proof/Machine/Measure.lean ====
section
/-! DEFINITION. The measurement chain (chapter 17): sinc3 and FIR decimators, cross-fades, detectors, delivery and the result FIFOs. -/

namespace Sys2Proof.Machine

/-- A channel beside its registers. -/
def State.mc (s : State) (n : Nat) : McSt := getAt McSt.fresh s.mcs n

/-- Change a channel. -/
def State.modMc (s : State) (n : Nat) (g : McSt → McSt) : State := { s with mcs := setAt s.mcs n (g (s.mc n)) }

/-- R, D, N and PHASE of a channel. -/
def State.mcR (s : State) (n : Nat) : Nat := s.rd (Fld.MC_CH_n_CFG_R n)
def State.mcD (s : State) (n : Nat) : Nat := s.rd (Fld.MC_CH_n_CFG_D n)
def State.mcN (s : State) (n : Nat) : Nat := s.rd (Fld.MC_CH_n_CFG_NM1 n) + 1
def State.mcPhase (s : State) (n : Nat) : Nat := s.rd (Fld.MC_CH_n_ALIGN_PHASE n)

/-- The modulator clock period in ns (R432). -/
def State.mclkNs (s : State) : Nat := if s.flag Fld.MC_CFG_MCLK then 50 else 100

/-! ### Filters -/

/-- One modulator clock (R435 to R437): the run of equal bits, the delay line and the integrators; no sample has passed a delay line
that is not yet full. -/
def McSt.clock (phase : Nat) (m : McSt) (b : Bool) : McSt :=
  let bits := b :: m.delay
  let x : Word := match bits[phase]? with
    | some true => 1
    | some false => -1
    | none => 0
  let i1 := m.i1 + x
  let i2 := m.i2 + i1
  let run := if m.run ≠ 0 ∧ m.runBit = b then m.run + 1 else 1
  { m with
    delay := bits.take (phase + 1), runBit := b, run := run, stuckDue := m.stuckDue || run == 4096,
    sinceRun := if 4096 ≤ m.run ∧ run = 1 then 0 else m.sinceRun + 1,
    i1 := i1, i2 := i2, i3 := m.i3 + i2 }

/-- ceil(log2 R) (R438). -/
def ceilLog2 (r : Nat) : Nat := if r ≤ 1 then 0 else Nat.log2 (r - 1) + 1

/-- The signed 24-bit range, and whether a value left it. -/
def sat24 (x : Int) : Int × Bool := (satSigned 24 x, satSigned 24 x != x)

/-- The normaliser (R438). -/
def normalise (r : Nat) (y : Int) : Int × Bool :=
  let k := ceilLog2 r
  sat24 (if 3 * k ≤ 23 then y * (2 ^ (23 - 3 * k) : Nat) else y / (2 ^ (3 * k - 23) : Nat))

/-- The combs (R437) and the normaliser: one FIR input. -/
def McSt.comb (r : Nat) (m : McSt) : McSt :=
  let c1 := m.i3 - m.d1
  let c2 := c1 - m.d2
  let y := c2 - m.d3
  let u := normalise r (toSigned 32 y.toNat)
  { m with d1 := m.i3, d2 := c1, d3 := c2, us := (u.1 :: m.us).take 64, overC := m.overC || u.2 }

/-- The bits of one result pass: the integrators at each bit, the combs after every R-th. -/
def McSt.feed (phase r : Nat) : Nat → List Bool → McSt → McSt
  | _, [], m => m
  | k, b :: bs, m =>
    let m1 := m.clock phase b
    if k + 1 = r then McSt.feed phase r 0 bs (m1.comb r) else McSt.feed phase r (k + 1) bs m1

/-- The FIR of N taps with mirrored coefficients (R439). -/
def firAt (n : Nat) (h us : List Int) : Int × Bool :=
  let acc : Int := ((List.range n).map (fun i => getAt 0 h (min i (n - 1 - i)) * getAt 0 us i)).sum
  sat24 ((acc + 32768) / 65536)

/-- The active coefficient bank. -/
def State.mcBank (s : State) (n : Nat) : List Int := (List.range 32).map (fun i => toSigned 18 (s.rd (Fld.MC_CH_n_COEF_i_H n i)))

/-! ### Results -/

/-- G in ns (R440). -/
def State.mcDelayNs (s : State) (n : Nat) : Nat :=
  (2 * s.mcPhase n + 3 * (s.mcR n - 1) + s.mcR n * (s.mcN n - 1)) * (s.mclkNs / 2)

/-- The time from the MCLK edge of a result's last bit to the jc that ends its path (R433, R442). -/
def State.mcPathNs (s : State) (n : Nat) : Nat := 4 * ((s.mcN n + 1) / 2 + 13) + 2 * s.rd (Fld.MC_CH_n_ALIGN_SAMPLE n)

/-- The represented instant of a result that is complete now (R441, R442). -/
def State.mcSpan (s : State) (n : Nat) : Nat :=
  let back := s.mcPathNs n + s.mcDelayNs n
  ((s.netSpan : Int) - back) % 4000000000 |>.toNat

/-- The peak detector (R445). -/
def State.mcPeak (s : State) (n : Nat) (v : Int) : State :=
  let m := s.mc n
  let mx := toSigned 32 (s.rd (Fld.MC_CH_n_MAX_VALUE n))
  let mn := toSigned 32 (s.rd (Fld.MC_CH_n_MIN_VALUE n))
  let hi := if m.clrPeak ∨ mx < v then v else mx
  let lo := if m.clrPeak ∨ v < mn then v else mn
  (((s.wr (Fld.MC_CH_n_MAX_VALUE n) (ofSigned 32 hi)).wr (Fld.MC_CH_n_MIN_VALUE n) (ofSigned 32 lo))).modMc n (fun x =>
    { x with
      clrPeak := false, maxC := if x.cnt = 0 ∨ x.maxC < v then v else x.maxC, minC := if x.cnt = 0 ∨ v < x.minC then v else x.minC,
      cnt := satAdd 255 x.cnt 1 })

/-- The RMS detector (R445): a change of WINDOW restarts the sum; WINDOW 0 stops it. -/
def State.mcRms (s : State) (n : Nat) (v : Int) : State :=
  let w := s.rd (Fld.MC_CH_n_DET_WINDOW n)
  let m := s.mc n
  let sum0 := if m.window = w then m.sum else 0
  let cnt0 := if m.window = w then m.cntW else 0
  let sum := sum0 + v.natAbs * v.natAbs
  if w = 0 then (s.setReg (Reg.MC_CH_n_RMS n) 0).modMc n (fun x => { x with sum := 0, cntW := 0, window := 0 })
  else if cnt0 + 1 = w then
    (s.wr (Fld.MC_CH_n_RMS_VALUE n) (isqrt 32 (sum / w))).modMc n (fun x => { x with sum := 0, cntW := 0, window := w })
  else s.modMc n (fun x => { x with sum := sum, cntW := cnt0 + 1, window := w })

/-- The envelope detector (R445). -/
def State.mcEnv (s : State) (n : Nat) (v : Int) : State :=
  let a := v.natAbs
  let e := s.rd (Fld.MC_CH_n_ENV_VALUE n)
  s.wr (Fld.MC_CH_n_ENV_VALUE n)
    (if e < a then e + (a - e) / 2 ^ s.rd (Fld.MC_CH_n_DET_ATT n) else e - (e - a) / 2 ^ s.rd (Fld.MC_CH_n_DET_DEC n))

/-- A result enters the FIFO, or is discarded from it and counted (R447). -/
def State.mcFifoPut (s : State) (n : Nat) (v span : Word) : State :=
  if 32 ≤ (s.mc n).fifo.length then (s.bump (Fld.MC_CH_n_CNT_OVF n)).modMc n (fun x => { x with spill := some (v, span) })
  else
    let s1 := s.modMc n (fun x => { x with fifo := x.fifo ++ [(v, span)], spill := none })
    s1.wr (Fld.MC_CH_n_STAT_LEVEL n) (s1.mc n).fifo.length

/-- The FIR output, during a fade the mix of both banks; the last sample of a fade makes the new bank active (R443). -/
def State.mcOutput (s : State) (n : Nat) : State × Int :=
  let m := s.mc n
  let old := firAt (s.mcN n) (s.mcBank n) m.us
  if s.flag (Fld.MC_CH_n_CTRL_FADING n) then
    let new := firAt (s.mcN n) m.newBank m.us
    let j := m.fadeJ + 1
    let v := old.1 + (new.1 - old.1) * j / m.fadeK
    let s1 := s.modMc n (fun x => { x with fadeJ := j, overC := x.overC || old.2 || new.2 })
    if j = m.fadeK then
      let s2 := (List.range 32).foldl (fun t i => t.wr (Fld.MC_CH_n_COEF_i_H n i) (ofSigned 18 (getAt 0 m.newBank i))) s1
      ((((s2.wr (Fld.MC_CH_n_CTRL_FADING n) 0).wrBit Reg.MC_STATUS (16 + n) false).weltEvent 6 0x71 n).modMc n
        (fun x => { x with fadeEnd := some s.clk.uptime }), v)
    else (s1, v)
  else (s.modMc n (fun x => { x with overC := x.overC || old.2 }), old.1)

/-- MC_RESULT (R435 to R447): the R × D modulator bits since the last result, oldest first, make one result, all of whose fields change
together. Bits of another number make none. -/
def execMcResult (n : Fin 8) (bits : List Bool) (s : State) : Host.Outcome State Fault Refusal :=
  .next (if s.flag (Fld.MC_CH_n_CFG_EN n) && !s.flag Fld.JC_MOD_STATUS_SLEEP && !s.ej2Down && decide (bits.length = s.mcR n * s.mcD n)
      && decide (bits ≠ []) then
      let over0 := (s.mc n).overC
      let s1 := s.modMc n (fun x => McSt.feed (s.mcPhase n) (s.mcR n) 0 bits { x with overC := false })
      let r := s1.mcOutput n
      let ovr := (r.1.mc n).overC
      let s2 := r.1.modMc n (fun x => { x with overC := over0 || ovr, resultAt := some s.clk.uptime })
      let s3 := ((s2.mcPeak n r.2).mcRms n r.2).mcEnv n r.2
      let v : Word := BitVec.ofNat 32 (ofSigned 32 r.2)
      let sp : Word := BitVec.ofNat 32 (s.mcSpan n)
      let s4 := (((s3.setReg (Reg.MC_CH_n_VALUE n) v).setReg (Reg.MC_CH_n_SPAN n) sp).bumpW (Fld.MC_CH_n_STAT_RESULTS n)).mcFifoPut n v sp
      if ovr then s4.set1 (Fld.MC_CH_n_STAT_OVER n) else s4
    else s)

/-- Show VALID of a channel. -/
def State.mcValid (s : State) (n : Nat) (b : Bool) : State := (s.wrB (Fld.MC_CH_n_STAT_VALID n) b).wrBit Reg.MC_STATUS n b

/-- A refill starts at the MCLK edge so long ago: VALID returns (N + 3) × R + PHASE modulator clocks after it (R436). -/
def State.mcRefill (s : State) (n ago : Nat) : State :=
  (s.mcValid n false).modMc n (fun x => { x with refillAt := some (s.clk.uptime + ((s.mcN n + 3) * s.mcR n + s.mcPhase n) * s.mclkNs - ago) })

/-- MC_STUCK (R436): 4096 equal bits. -/
def execMcStuck (n : Fin 8) (s : State) : Host.Outcome State Fault Refusal :=
  .next (if (s.mc n).stuckDue && !s.flag (Fld.MC_CH_n_STAT_STUCK n) then
      ((((s.mcValid n false).set1 (Fld.MC_CH_n_STAT_STUCK n)).wrBit Reg.MC_STATUS (8 + n) true).set1 (Fld.MC_CH_n_STAT_STUCK_SEEN n)).weltEvent
        6 0x70 n |>.modMc n (fun x => { x with refillAt := none, stuckDue := false })
    else s)

/-- How long ago the first bit came that differs from a run of 4096 equal bits; it is among those of the last result (log entry 94). -/
def State.mcDiffered (s : State) (n : Nat) : Nat :=
  s.clk.uptime - (s.mc n).resultAt.getD s.clk.uptime + s.mcPathNs n + (s.mc n).sinceRun * s.mclkNs

/-- MC_STUCK_CLEAR (R436): the first bit that differs. -/
def execMcStuckClear (n : Fin 8) (s : State) : Host.Outcome State Fault Refusal :=
  .next (if decide ((s.mc n).run < 4096) && s.flag (Fld.MC_CH_n_STAT_STUCK n) then
      ((s.wr (Fld.MC_CH_n_STAT_STUCK n) 0).wrBit Reg.MC_STATUS (8 + n) false).mcRefill n (s.mcDiffered n)
    else s)

/-- MC_REFILL_DONE (R436). -/
def execMcRefillDone (n : Fin 8) (s : State) : Host.Outcome State Fault Refusal :=
  .next (match (s.mc n).refillAt with
    | some t => if t ≤ s.clk.uptime then (s.mcValid n true).modMc n (fun x => { x with refillAt := none }) else s
    | none => s)

/-- PEAK_CLR (R445): the next result sets MAX and MIN, and so does one of this same jc. -/
def State.mcPeakClr (s : State) (n : Nat) : State :=
  if (s.mc n).resultAt = some s.clk.uptime then
    (s.setReg (Reg.MC_CH_n_MAX n) (s.reg (Reg.MC_CH_n_VALUE n))).setReg (Reg.MC_CH_n_MIN n) (s.reg (Reg.MC_CH_n_VALUE n))
  else s.modMc n (fun x => { x with clrPeak := true })

/-- The effect of a write of CH_n_CTRL (R443 to R445). -/
def State.mcCtl (s : State) (n : Nat) (w : Word) : State :=
  let s1 := if wbits w (Fld.MC_CH_n_CTRL_COMMIT n) = 1 then s.basteCommit (Fld.MC_CH_n_CTRL_BASTE_PENDING n) else s
  if wbits w (Fld.MC_CH_n_CTRL_PEAK_CLR n) = 1 then s1.mcPeakClr n else s1

/-- MC_COMMIT (R443, R444). -/
def execMcCommit (i : Initiator) (n : Fin 8) (w : Word) (s : State) : Host.Outcome State Fault Refusal :=
  .next (s.regCmd i (Reg.MC_CH_n_CTRL n) w (fun t => t.mcCtl n (w ||| 0x80000000)))

/-- PEAK_CLR (R445). -/
def execPeakClr (i : Initiator) (n : Fin 8) (w : Word) (s : State) : Host.Outcome State Fault Refusal :=
  .next (s.regCmd i (Reg.MC_CH_n_CTRL n) w (fun t => t.mcCtl n (w ||| 0x20000000)))

/-- MC_SHADOW_COPY (R14 to R16, R443, R444): in the jc of a FIR output after that of COMMIT and after the one that ended a fade, the shadow bank
is copied and a fade of FADE + 1 samples starts. -/
def execMcShadowCopy (n : Fin 8) (s : State) : Host.Outcome State Fault Refusal :=
  .next (if s.basteDue (Fld.MC_CH_n_CTRL_BASTE_PENDING n) && !s.flag (Fld.MC_CH_n_CTRL_FADING n)
      && decide ((s.mc n).resultAt = some s.clk.uptime) && decide ((s.mc n).fadeEnd ≠ some s.clk.uptime) then
      let bank := (List.range 32).map (fun i => toSigned 18 (s.rd (Fld.MC_SH_CH_n_COEF_i_H n i)))
      (((s.wr (Fld.MC_CH_n_CTRL_BASTE_PENDING n) 0).set1 (Fld.MC_CH_n_CTRL_FADING n)).wrBit Reg.MC_STATUS (16 + n) true).modMc n
        (fun x => { x with newBank := bank, fadeJ := 0, fadeK := s.rd (Fld.MC_CH_n_CTRL_FADE n) + 1 })
    else s)

/-! ### Delivery -/

/-- Whether the newest entry of the FIFO came in this jc, so that a read does not see it yet (R447). -/
def State.mcUnread (s : State) (n : Nat) : Bool :=
  decide ((s.mc n).resultAt = some s.clk.uptime) && (s.mc n).spill.isNone

/-- The next word of a channel's result FIFO and the state after the read (R447). A read and a result of one jc act read first: the read does
not see the result, and a result that found the FIFO full enters it once the read has removed an entry. -/
def State.mcFifoNext (s : State) (n : Nat) : State × Word :=
  let m := s.mc n
  match m.fifo with
  | [] => (s.bump (Fld.MC_CH_n_CNT_UNDERRUN n), 0x80000000)
  | (v, sp) :: q =>
    if q.isEmpty && s.mcUnread n then (s.bump (Fld.MC_CH_n_CNT_UNDERRUN n), 0x80000000)
    else if m.half then
      match if m.resultAt = some s.clk.uptime then m.spill else none with
      | some x =>
        ((s.modMc n (fun y => { y with fifo := q ++ [x], half := false, spill := none })).wr (Fld.MC_CH_n_CNT_OVF n)
          (s.rd (Fld.MC_CH_n_CNT_OVF n) - 1), sp)
      | none => ((s.modMc n (fun x => { x with fifo := q, half := false })).wr (Fld.MC_CH_n_STAT_LEVEL n) q.length, sp)
    else (s.modMc n (fun x => { x with half := true }), v)

/-- MC_FIFO_READ (R447): a read of the window, whatever the word. -/
def execMcFifoRead (i : Initiator) (n : Fin 8) (w : Fin 16) (s : State) : Host.Outcome State Fault Refusal :=
  .next (if s.mayRead i (Reg.MC_CH_n_FIFO_w n w) then (s.mcFifoNext n).1.respond i (.data (s.mcFifoNext n).2)
    else s.deny i (Reg.MC_CH_n_FIFO_w n w))

/-- A read of CH_n_VALUE captures the other fields of the same result (R450). -/
def State.mcCapture (s : State) (i : Initiator) (n : Nat) : State :=
  [Reg.MC_CH_n_SPAN n, Reg.MC_CH_n_MAX n, Reg.MC_CH_n_MIN n, Reg.MC_CH_n_RMS n, Reg.MC_CH_n_ENV n].foldl
    (fun t k => t.capture i k (s.reg k)) s

/-- MC_VALUE_READ (R450, R13). -/
def execMcValueRead (i : Initiator) (n : Fin 8) (s : State) : Host.Outcome State Fault Refusal :=
  .next (if s.mayRead i (Reg.MC_CH_n_VALUE n) then (s.mcCapture i n).respond i (.data (s.reg (Reg.MC_CH_n_VALUE n)))
    else s.deny i (Reg.MC_CH_n_VALUE n))

/-- The 32 bytes of a channel in the measurement section (R446). -/
def State.mcChannel (s : State) (n : Nat) : List Byte :=
  let m := s.mc n
  let v := (s.reg (Reg.MC_CH_n_VALUE n)).toNat
  let st := m.cnt + 256 * b2n (s.flag (Fld.MC_CH_n_STAT_VALID n)) + 512 * b2n (s.flag (Fld.MC_CH_n_STAT_STUCK n)) + 1024 * b2n m.overC
    + 2048 * b2n (s.flag (Fld.MC_CH_n_CTRL_FADING n))
  leBytes 4 v ++ leBytes 4 (s.reg (Reg.MC_CH_n_SPAN n)).toNat ++ leBytes 4 (if m.cnt = 0 then v else ofSigned 32 m.maxC) ++
    leBytes 4 (if m.cnt = 0 then v else ofSigned 32 m.minC) ++ leBytes 4 (s.reg (Reg.MC_CH_n_RMS n)).toNat ++
    leBytes 4 (s.reg (Reg.MC_CH_n_ENV n)).toNat ++ leBytes 4 st ++ leBytes 4 0

/-- The measurement section (R446): the channels, then COUNT and PERIOD of the edge timers that the chain owns. -/
def State.mcSection (s : State) : List Byte :=
  ((List.range 8).map (fun n => s.mcChannel n)).flatten ++
    ((List.range 8).map (fun m => if s.rd (Fld.FIO_TMR_m_CFG_OWNER m) = 2 then
        leBytes 4 (s.reg (Reg.FIO_TMR_m_COUNT m)).toNat ++ leBytes 4 (s.reg (Reg.FIO_TMR_m_PERIOD m)).toNat
      else List.replicate 8 0)).flatten

/-- The input instant begins a new interval for every channel (R446). -/
def State.mcNewInterval (s : State) : State := { s with mcs := s.mcs.map (fun x => { x with cnt := 0, overC := false }) }

/-- The chain starts as at configuration seal (R436, R448). -/
def State.mcStart (s : State) : State :=
  (List.range 8).foldl (fun t n =>
    let t1 := [Reg.MC_CH_n_MAX n, Reg.MC_CH_n_MIN n, Reg.MC_CH_n_RMS n, Reg.MC_CH_n_ENV n].foldl (fun u k => u.setReg k 0) t
    let t2 := ((t1.wr (Fld.MC_CH_n_STAT_LEVEL n) 0).wr (Fld.MC_CH_n_STAT_STUCK n) 0).wr (Fld.MC_CH_n_CTRL_FADING n) 0
    let t3 := { t2 with mcs := setAt t2.mcs n McSt.fresh }
    if t3.flag (Fld.MC_CH_n_CFG_EN n) then t3.mcRefill n 0 else t3)
    ({ s with mcs := List.replicate 8 McSt.fresh } : State) |>.setReg Reg.MC_STATUS 0

end Sys2Proof.Machine
end

