-- ==== Sys2Proof/Machine/Eyelets.lean ====
section
/-! DEFINITION. Eyelets and Thimbles (chapter 16): posts, takes, the notices to receivers, acquires and releases. -/

namespace Sys2Proof.Machine

/-! ### Eyelets -/

/-- Whether an Eyelet channel holds a word. -/
def State.eyHolds (s : State) (n : Nat) : Bool := s.flag (Fld.EY_CH_n_STAT_FULL n)

/-- The receiver code of a channel (R423). -/
def State.eyRcv (s : State) (n : Nat) : Nat := s.rd (Fld.EY_CH_n_CFG_RCV n)

/-- Whether a source of HART_1's external interrupt is active: a full Eyelet of the lanes (R423), a bit of SH.IRQ (R414), a fired compare
unit with IRQ (R192). -/
def State.serviceLevel (s : State) : Bool :=
  (List.range 32).any (fun n => s.eyHolds n && s.eyRcv n == 0) || s.rd Fld.SH_IRQ_CH != 0
    || (List.range 16).any (fun n => s.regBit Reg.TB_STATUS (16 + n) && s.flag (Fld.TB_CMP_n_CFG_IRQ n))

/-- The external interrupt of HART_1 follows its sources in every lane. -/
def State.syncService (s : State) : State :=
  if s.serviceLevel then s.raiseService else lanes.foldl (fun t l => t.drop l .h1 11) s

/-- A channel holds a word, or none; FULL shows it (R431). -/
def State.eyPut (s : State) (n : Nat) (w : Option Word) : State :=
  ((((s.setReg (Reg.EY_CH_n_MSG n) (w.getD 0)).setReg (Reg.EY_CH_n_PEEK n) (w.getD 0)).wrB (Fld.EY_CH_n_STAT_FULL n) w.isSome).wrBit
    Reg.EY_FULL n w.isSome)

/-- A stored word reaches its receiver (R423, R426): the EY interrupt of HART_1, with the wake request in depot sleep; the host alert; the
event notice, with which the junction takes the word; nothing for the Shuttle. -/
def State.eyNotice (s : State) (n : Nat) (w : Word) : State :=
  match s.eyRcv n with
  | 0 => { s.raiseService with wakeReq := s.wakeReq || s.flag Fld.JC_MOD_STATUS_SLEEP }
  | 1 => s.set1 Fld.JC_HOST_ALERT_EY
  | 2 => (s.notify 2 n 0 s.clk.net w).eyPut n none
  | _ => s

/-! ### Contests within one jc -/

/-- The place of a requester in the order of R425 and R428: the host port, the lanes, the Shuttle channels, the Gusset bridge. -/
def placeOf : Initiator → Nat
  | .host => 0
  | .hart l _ => 1 + l.num
  | .shuttle c => 4 + c
  | .gusset => 20

/-- How far a place stands behind the one after the winner of the last contest; before any contest the order begins with the host port
(DESIGN CHOICE, log entry 93). -/
def turn (base : Option Nat) (p : Nat) : Nat := match base with
  | some b => (p + 20 - b) % 21
  | none => p

/-- The first of the requests in the order of a contest. -/
def firstOf (base : Option Nat) : List (Nat × Word) → Option (Nat × Word)
  | [] => none
  | x :: xs => match firstOf base xs with
    | some y => if turn base y.1 < turn base x.1 then some y else some x
    | none => some x

/-- What was asked of an Eyelet channel or a Thimble (key 64 + n) in this jc. -/
def State.contest (s : State) (key : Nat) : Contest :=
  match lookupN s.contests key with
  | some c =>
    if c.at_ = s.clk.uptime then c
    else { at_ := s.clk.uptime, base := if c.contested then c.win else c.base, win := none, contested := false, late := [], clean := true }
  | none => { at_ := s.clk.uptime, base := none, win := none, contested := false, late := [], clean := true }

/-- Note what was asked in this jc. -/
def State.putContest (s : State) (key : Nat) (c : Contest) : State := { s with contests := setN s.contests key c }

/-- A post finds an Eyelet channel full or disabled: the word is discarded, REFUSED set, and REFUSALS counts (R425). -/
def State.eyRefuse (s : State) (n : Nat) : State := (s.set1 (Fld.EY_CH_n_STAT_REFUSED n)).bump (Fld.EY_CH_n_STAT_REFUSALS n)

/-- A word is stored in an empty Eyelet channel, and its receiver hears of it (R425, R426). -/
def State.eyStore (s : State) (n : Nat) (w : Word) : State := ((s.eyPut n (some w)).bumpW (Fld.EY_CH_n_STAT_POSTS n)).eyNotice n w

/-- A post to an Eyelet channel by the requester at a place (R425), and whether it was stored; a full or disabled channel refuses it. Of two
posts to an empty channel in one jc the first in the contest's order is stored; a word that the Treadle took or the bridge posted stays
(DESIGN CHOICE, log entry 93). -/
def State.eyPost (s : State) (p n : Nat) (w : Word) : State × Bool :=
  let j := s.contest n
  if !s.flag (Fld.EY_CH_n_CFG_EN n) then (s.eyRefuse n, false)
  else match j.win with
    | some q =>
      let first := s.eyHolds n && decide (q ≠ 20) && decide (turn j.base p < turn j.base q)
      (((if first then s.eyPut n (some w) else s).eyRefuse n).putContest n
        { j with win := some (if first then p else q), contested := true }, first)
    | none =>
      if s.eyHolds n then
        ((s.eyRefuse n).putContest n { j with late := j.late ++ [(p, w)], clean := if j.late.isEmpty then !s.flag (Fld.EY_CH_n_STAT_REFUSED n) else j.clean },
         false)
      else ((s.eyStore n w).putContest n { j with win := some p }, true)

/-- Whether a receiver finds a word to take: one that the channel held before this jc's posts (R425). -/
def State.eyReady (s : State) (n : Nat) : Bool := s.eyHolds n && (s.contest n).win.isNone

/-- The word of a full channel is taken (R423); a post that the channel refused in the same jc is then stored (R425). -/
def State.eyTake (s : State) (n : Nat) : State :=
  let j := s.contest n
  let s1 := s.eyPut n none
  match firstOf j.base j.late with
  | some (p, w) =>
    let s2 := s1.wr (Fld.EY_CH_n_STAT_REFUSALS n) (s1.rd (Fld.EY_CH_n_STAT_REFUSALS n) - 1)
    let s3 := if j.clean && decide (j.late.length = 1) then s2.wr (Fld.EY_CH_n_STAT_REFUSED n) 0 else s2
    (s3.eyStore n w).putContest n { j with win := some p, contested := decide (1 < j.late.length), late := [] }
  | none => s1

/-- Whether an initiator is the receiver that takes a channel's message by reading it (R423). -/
def State.eyTaker (s : State) (i : Initiator) (n : Nat) : Bool :=
  match i with
  | .hart l .h1 => s.eyRcv n == 0 && decide (s.svcMaster = some l)
  | .host => s.eyRcv n == 1
  | _ => false

/-- A read of EY.CH_n_MSG (R423): the word, taken when the reader is the receiver; a word posted in the same jc to the empty channel is not
taken, and the read returns zero (R425). -/
def State.eyRead (s : State) (i : Initiator) (n : Nat) : State × Word :=
  if s.eyTaker i n then
    if s.eyReady n then ((s.eyTake n).syncService, s.reg (Reg.EY_CH_n_MSG n)) else (s, 0)
  else (s, s.reg (Reg.EY_CH_n_MSG n))

/-- EYELET_POST (R425, R424, R426). -/
def execEyeletPost (i : Initiator) (n : Fin 32) (w : Word) (s : State) : Host.Outcome State Fault Refusal :=
  .next (s.regCmdRaw i (Reg.EY_CH_n_POST n) (fun t => (t.eyPost (placeOf i) n w).1))

/-- EYELET_TAKE (R423, R424). -/
def execEyeletTake (i : Initiator) (n : Fin 32) (s : State) : Host.Outcome State Fault Refusal :=
  .next (if s.mayRead i (Reg.EY_CH_n_MSG n) then (s.eyRead i n).1.respond i (.data (s.eyRead i n).2) else s.deny i (Reg.EY_CH_n_MSG n))

/-! ### Thimbles -/

/-- The identity of a requester (R427). -/
def thimbleId : Initiator → Nat
  | .host => 1
  | .hart l .h1 => 2 + l.num
  | .shuttle c => 16 + c
  | _ => 0

/-- The owner of a Thimble, 0 when free. -/
def State.thOwner (s : State) (n : Nat) : Nat := s.rd (Fld.EY_TH_n_OWNER n)

/-- Give a Thimble an owner; TH_OWNED shows it. -/
def State.thSet (s : State) (n id : Nat) : State :=
  (s.wr (Fld.EY_TH_n_OWNER n) id).wrBit (if n < 32 then Reg.EY_TH_OWNED_LO else Reg.EY_TH_OWNED_HI) (n % 32) (id != 0)

/-- Whether a reader acquires: the host port, a Shuttle channel, or HART_1 of the service master (R427). -/
def State.thMayAcquire (s : State) (i : Initiator) : Bool :=
  match i with
  | .host | .shuttle _ => true
  | .hart l .h1 => decide (s.svcMaster = some l)
  | _ => false

/-- Whether a requester obtains a Thimble: it is free, or another requester took it in this same jc and stands behind in the order of the
contest (R428). What a Shuttle channel has obtained stays (DESIGN CHOICE, log entry 93). -/
def State.thWins (s : State) (i : Initiator) (n : Nat) : Bool :=
  let j := s.contest (64 + n)
  s.thOwner n == 0 || (match j.win with
    | some q => decide (q < 4) && decide (turn j.base (placeOf i) < turn j.base q)
    | none => false)

/-- The requesters that read a Thimble in this jc read the winner's identity (R428). -/
def State.thTell (s : State) (ps : List Nat) (id : Nat) : State :=
  let who (p : Nat) : Initiator := match Lane.ofNat? (p - 1) with
    | some l => if p = 0 then .host else .hart l .h1
    | none => .host
  ps.foldl (fun t p => t.respond (who p) (.data (BitVec.ofNat 32 id))) s

/-- A requester obtains a Thimble (R427, R428). -/
def State.thGrant (s : State) (i : Initiator) (n : Nat) : State :=
  let j := s.contest (64 + n)
  let late := (match j.win with
    | some q => if s.thOwner n = 0 then [] else [(q, (0 : Word))]
    | none => []) ++ j.late
  ((s.thSet n (thimbleId i)).thTell (late.map (fun x => x.1)) (thimbleId i)).putContest (64 + n)
    { j with win := some (placeOf i), contested := j.contested || !late.isEmpty, late := late }

/-- A read of EY.TH_n (R427): a free Thimble is acquired; the answer is the owner's identity. -/
def State.thRead (s : State) (i : Initiator) (n : Nat) : State × Nat :=
  let j := s.contest (64 + n)
  if s.thMayAcquire i && s.thOwner n != thimbleId i then
    if s.thWins i n then (s.thGrant i n, thimbleId i)
    else (if placeOf i < 4 then s.putContest (64 + n) { j with contested := j.contested || j.win.isSome, late := j.late ++ [(placeOf i, 0)] } else s,
      s.thOwner n)
  else (s, s.thOwner n)

/-- A Thimble is released; a requester that met its owner in the same jc obtains it (R428). -/
def State.thFree (s : State) (n : Nat) : State :=
  let j := s.contest (64 + n)
  match j.win, firstOf j.base j.late with
  | none, some (p, _) =>
    let id := 1 + p
    ((s.thSet n id).thTell (j.late.map (fun x => x.1)) id).putContest (64 + n)
      { j with win := some p, contested := decide (1 < j.late.length) }
  | _, _ => s.thSet n 0

/-- A write of EY.TH_n (R429): a release when the value is both the owner's and the writer's identity. -/
def State.thWrite (s : State) (i : Initiator) (n : Nat) (w : Word) : State :=
  let v := w.toNat % 256
  if v ≠ 0 ∧ v = s.thOwner n ∧ v = thimbleId i then s.thFree n else s.bump Fld.EY_TH_STAT_BAD_RELEASES

/-- Every Thimble of an owner is released automatically (R429). -/
def State.thAuto (s : State) (id : Nat) : State :=
  (List.range 64).foldl (fun t n => if t.thOwner n = id ∧ id ≠ 0 then (t.thFree n).bump Fld.EY_TH_STAT_AUTO_RELEASES else t) s

/-- A write of EY.TH_FORCE_LO or HI (R429): a secure master releases the Thimbles of the set bits. -/
def State.thForce (s : State) (i : Initiator) (high : Bool) (w : Word) : State :=
  if s.secure i then
    (List.range 32).foldl (fun t b => if bitOf w.toNat b then (let n := if high then 32 + b else b; if t.thOwner n = 0 then t else t.thFree n) else t) s
  else s

/-- THIMBLE_ACQUIRE (R427, R428). -/
def execThimbleAcquire (i : Initiator) (n : Fin 64) (s : State) : Host.Outcome State Fault Refusal :=
  .next (if s.mayRead i (Reg.EY_TH_n n) then (s.thRead i n).1.respond i (.data (BitVec.ofNat 32 (s.thRead i n).2)) else s.deny i (Reg.EY_TH_n n))

/-- THIMBLE_RELEASE (R429). -/
def execThimbleRelease (i : Initiator) (n : Fin 64) (w : Word) (s : State) : Host.Outcome State Fault Refusal :=
  .next (s.regCmdRaw i (Reg.EY_TH_n n) (fun t => t.thWrite i n w))

/-- A write of the pair EY.TH_FORCE (R13, R429): the _HI word is held, and a write of the _LO word applies both. -/
def State.thForcePair (s : State) (i : Initiator) (high : Bool) (w : Word) : State :=
  let k := holdKey i Reg.EY_TH_FORCE_HI
  if high then { s with holdW := setN s.holdW k w }
  else match lookupN s.holdW k with
    | some v => (({ s with holdW := dropN s.holdW k } : State).thForce i true v).thForce i false w
    | none => s.thForce i false w

/-- TH_FORCE (R13, R429). -/
def execThForce (i : Initiator) (high : Bool) (w : Word) (s : State) : Host.Outcome State Fault Refusal :=
  .next (s.regCmdRaw i (if high then Reg.EY_TH_FORCE_HI else Reg.EY_TH_FORCE_LO) (fun t => t.thForcePair i high w))

end Sys2Proof.Machine
end

