-- ==== Sys2Proof/Machine/Crc.lean ====
section
/-! DEFINITION. The check functions of the spec: CRC-32 (R208), CRC-32C (R148, R265), the 8-bit check of the claim wire (R336), SHA-256
(R31, R317, R468) and HMAC-SHA-256 (R266). -/

namespace Sys2Proof.Machine

/-- One bit of a reflected CRC. -/
def crcBit (poly crc : BitVec 32) : BitVec 32 := if crc &&& 1 = 1 then (crc >>> 1) ^^^ poly else crc >>> 1

/-- One byte of a reflected CRC. -/
def crcByte (poly crc : BitVec 32) (b : Byte) : BitVec 32 :=
  let c := crc ^^^ b.setWidth 32
  crcBit poly (crcBit poly (crcBit poly (crcBit poly (crcBit poly (crcBit poly (crcBit poly (crcBit poly c)))))))

/-- The running value of a reflected CRC over bytes. -/
def crcRun (poly : BitVec 32) : BitVec 32 → List Byte → BitVec 32
  | c, [] => c
  | c, b :: bs => crcRun poly (crcByte poly c b) bs

/-- CRC-32 of R208: reflected polynomial 0xEDB88320, initial and final all ones. -/
def crc32 (bs : List Byte) : BitVec 32 := ~~~ (crcRun 0xEDB88320 0xFFFFFFFF bs)

/-- CRC-32C of R148 and R265: reflected polynomial 0x82F63B78, initial and final all ones. -/
def crc32c (bs : List Byte) : BitVec 32 := ~~~ (crcRun 0x82F63B78 0xFFFFFFFF bs)

/-- One bit of a CRC-8, most significant bit first. -/
def crc8Bit (poly crc : BitVec 8) : BitVec 8 := if crc.getMsbD 0 then (crc <<< 1) ^^^ poly else crc <<< 1

/-- CRC-8 over bytes, most significant bit first. -/
def crc8Run (poly : BitVec 8) : BitVec 8 → List Byte → BitVec 8
  | c, [] => c
  | c, b :: bs =>
    let d := c ^^^ b
    crc8Run poly (crc8Bit poly (crc8Bit poly (crc8Bit poly (crc8Bit poly (crc8Bit poly (crc8Bit poly (crc8Bit poly (crc8Bit poly d)))))))) bs

/-- The greatest `r` below `2 ^ b` more than the one given whose `k`-th power does not pass `x`, one bit at a time. -/
def rootFrom (k x : Nat) : Nat → Nat → Nat
  | 0, r => r
  | b + 1, r => rootFrom k x b (if (r + 2 ^ b) ^ k ≤ x then r + 2 ^ b else r)

/-- The first 32 bits of the fraction of the `k`-th root of `p`: what FIPS 180-4 takes its words from. -/
def rootFraction (k p : Nat) : Word := BitVec.ofNat 32 (rootFrom k (p * 2 ^ (32 * k)) 40 0)

/-- The prime numbers below 312; 18 is past the square root of each. -/
def smallPrimes : List Nat :=
  (List.range 312).filter (fun n => 2 ≤ n && (List.range 18).all (fun d => d < 2 || n ≤ d || n % d != 0))

/-- The running value of the hash as its two histories, newest first: the words that FIPS 180-4 names a to d, and e to h. -/
structure Hash where
  upper : List Word
  lower : List Word
  deriving DecidableEq, Repr

/-- The value before the first block: the square roots of the first eight primes. -/
def Hash.first : Hash :=
  let roots := (smallPrimes.take 8).map (rootFraction 2)
  { upper := roots.take 4, lower := roots.drop 4 }

/-- The three rotations of a word, joined by exclusive or. -/
def spin (n m k : Nat) (x : Word) : Word := x.rotateRight n ^^^ x.rotateRight m ^^^ x.rotateRight k

/-- One round: the sum of constant and message word is stirred in, and each history grows by a word. -/
def Hash.turn (v : Hash) (sum : Word) : Hash :=
  let p := getAt 0 v.upper
  let q := getAt 0 v.lower
  let pick := q 2 ^^^ (q 0 &&& (q 1 ^^^ q 2))
  let most := (p 0 &&& (p 1 ||| p 2)) ||| (p 1 &&& p 2)
  let stir := sum + q 3 + pick + spin 6 11 25 (q 0)
  { upper := (stir + most + spin 2 13 22 (p 0)) :: v.upper.take 3, lower := (p 3 + stir) :: v.lower.take 3 }

/-- The message word that follows the last sixteen, newest first. -/
def nextWord (last : List Word) : Word :=
  let x := getAt 0 last 14
  let y := getAt 0 last 1
  (x.rotateRight 7 ^^^ x.rotateRight 18 ^^^ x >>> 3) + (y.rotateRight 17 ^^^ y.rotateRight 19 ^^^ y >>> 10) +
    getAt 0 last 6 + getAt 0 last 15

/-- The rounds, one for each constant: first the words of the block, then those that follow from the last sixteen. -/
def Hash.turns : List Word → List Word → List Word → Hash → Hash
  | [], _, _, v => v
  | k :: ks, [], last, v => let w := nextWord last; Hash.turns ks [] (w :: last.take 15) (v.turn (k + w))
  | k :: ks, w :: rest, last, v => Hash.turns ks rest (w :: last) (v.turn (k + w))

/-- Bytes as big-endian words. -/
def beWords : Nat → List Byte → List Word
  | 0, _ => []
  | n + 1, bs => BitVec.ofNat 32 (beNat (bs.take 4)) :: beWords n (bs.drop 4)

/-- One block of 64 bytes: the 64 rounds with the cube roots of the first 64 primes, added to what was there. -/
def Hash.block (v : Hash) (bs : List Byte) : Hash :=
  let r := Hash.turns (smallPrimes.map (rootFraction 3)) (beWords 16 bs) [] v
  { upper := List.zipWith (· + ·) v.upper r.upper, lower := List.zipWith (· + ·) v.lower r.lower }

/-- The blocks of a padded message. -/
def Hash.blocks : Nat → List Byte → Hash → Hash
  | 0, _, v => v
  | n + 1, bs, v => Hash.blocks n (bs.drop 64) (v.block (bs.take 64))

/-- SHA-256 of a message, 32 bytes: a one bit, zeros to the block's end and the length in bits follow the message. -/
def sha256 (bs : List Byte) : List Byte :=
  let zeros := (119 - bs.length % 64) % 64
  let v := Hash.blocks ((bs.length + 72) / 64) (bs ++ 0x80 :: (List.replicate zeros 0 ++ beBytes 8 (8 * bs.length))) Hash.first
  (v.upper ++ v.lower).flatMap (fun w => beBytes 4 w.toNat)

/-- HMAC-SHA-256 with a key of at most 64 bytes. -/
def hmac (key msg : List Byte) : List Byte :=
  let k := key ++ List.replicate (64 - key.length) 0
  sha256 (k.map (· ^^^ 0x5c) ++ sha256 (k.map (· ^^^ 0x36) ++ msg))

end Sys2Proof.Machine
end

