-- ==== Sys2Proof/Machine/LaneFault.lean ====
section
/-! DEFINITION. A lane fault (R78, R79, R506): the one operation that every cause of chapter 03 uses, the device fault summary of
R31, and the state of a hart whose registers are discarded. -/

namespace Sys2Proof.Machine

/-- A hart after its reset; a reset-halt request stays (R85), its triggers are cleared. -/
def HartSt.restart (h : HartSt) (pc : BitVec 64) : HartSt :=
  { HartSt.fresh with pc := pc, resetHalt := h.resetHalt }

/-- The key of a task's STAT register (R151): cyclic tasks 0 to 7, event tasks 8 to 23. -/
def taskStat (l : Lane) (t : Nat) : Nat := if t < 8 then Reg.TRD_CT_n_STAT l t else Reg.TRD_ET_n_STAT l (t - 8)

/-- The state of a task (R128). -/
def State.taskState (s : State) (l : Lane) (t : Nat) : Nat := s.rd ⟨taskStat l t, 31, 29⟩

/-- The task states of R128 by their codes. -/
abbrev Task.idle : Nat := 0
abbrev Task.ready : Nat := 1
abbrev Task.running : Nat := 2
abbrev Task.preempted : Nat := 3
abbrev Task.done : Nat := 4

/-- Show in JC.MOD_STATUS.FAULT_DEV which kinds of device have a non-zero fault summary (R31). The spec does not say which register is a
device's fault summary (DESIGN CHOICE, log 77): FAILED of the EJ2's tripwire, LC.FAULT_CAUSE of a BL3, CAUSE of AX.STATUS, and for an FQ8 a
silent link or FAILED of its tripwire. -/
def State.showFaultDev (s : State) : State :=
  let ej2 := s.flag (Fld.JC_TW_n_STATUS_FAILED 0)
  let bl3 := lanes.any (fun l => (s.reg (Reg.LC_FAULT_CAUSE l)).toNat != 0)
  let ax := s.rd Fld.AX_STATUS_CAUSE != 0
  let fqs := s.fq.any (fun q => q.lost) || (List.range 4).any (fun q => s.flag (Fld.JC_TW_n_STATUS_FAILED (5 + q)))
  s.wr Fld.JC_MOD_STATUS_FAULT_DEV (b2n ej2 + 2 * b2n bl3 + 4 * b2n ax + 8 * b2n fqs)

/-- Record a lane's first cause with the uptime (R78); a cause already recorded stays. -/
def State.recordCause (s : State) (l : Lane) (cause group : Nat) : State :=
  if s.flag (Fld.LC_FAULT_CAUSE_VALID l) then s
  else (((s.set1 (Fld.LC_FAULT_CAUSE_VALID l)).wr (Fld.LC_FAULT_CAUSE_CAUSE l) cause).wr (Fld.LC_FAULT_CAUSE_GROUP l) group).wr64
    (Reg.LC_FAULT_TIME_HI l) (Reg.LC_FAULT_TIME_LO l) s.clk.uptime |>.showFaultDev

/-- Put every task of a lane into IDLE and drop the notices it holds: the state of a lane that stops (R79) or starts (R147). -/
def State.clearTasks (s : State) (l : Lane) : State :=
  let s1 := (List.range 24).foldl (fun t n => (t.wr ⟨taskStat l n, 31, 29⟩ 0).wr ⟨taskStat l n, 27, 27⟩ 0) s
  ((((s1.wr (Fld.TRD_STATUS_QUIET l) 1).wr (Fld.TRD_STATUS_CUR_TASK l) 0x1F).setReg (Reg.TRD_NEXT l) 0x1F).modLn l
    (fun n => { n with tasks := List.replicate 24 TaskSt.idle, notices := [], curTask := none })).drop l .h0 11

/-- The actions of R79 without the notice: both harts stopped and discarded, the egress gate closed with the writes it holds discarded (R80),
the command links silent, a frame that is not yet complete at the FQ8s aborted. A hand-over under way goes on: the notice decides on it
(R81). -/
def State.stopLane (s : State) (l : Lane) : State :=
  let s1 := ((s.wr (Fld.LC_LANE_STATUS_EXEC l) Exec.stopped).wr (Fld.LC_LANE_STATUS_IN_STEP l) 0).wr (Fld.LC_LANE_STATUS_H0_HALTED l) 0
  let s2 := ((s1.wr (Fld.LC_LANE_STATUS_H1_HALTED l) 0).wr (Fld.LC_LANE_STATUS_REPLAY_HALT l) 0).setReg (Reg.CMP_STATUS l)
    (s1.reg (Reg.CMP_STATUS l) &&& 0x3C)
  let s3 := (s2.clearTasks l).modLn l (fun n =>
    { n with
      h0 := { HartSt.fresh with resetHalt := n.h0.resetHalt }
      h1 := { HartSt.fresh with resetHalt := n.h1.resetHalt }
      egressOpen := false, cmdLink := false, egress := [], l2 := [], dbgReq := none, inbox := [] })
  let inFlight := s.cyc.running && s.cyc.cmdDone && !s.cyc.comDone && decide (s.clk.net < s.instant (s.tCom - 3))
  if inFlight then { s3 with fq := s3.fq.map (fun q => { q with arrived := q.arrived.put l none }) } else s3

/-- A second cause declared in the lc of the first (R78): two core mismatches set the bits of both harts and keep the lower group; otherwise
the lower code stays. -/
def secondCause (c g cause group : Nat) : Nat × Nat :=
  if c ≤ 3 ∧ cause ≤ 3 then (c ||| cause, min g group) else if cause < c then (cause, group) else (c, g)

/-- A cause declared while the notice of the first one of the same instant still waits (R78). The uptime tells jc apart, not lc. -/
def State.sameLc (s : State) (l : Lane) (cause group : Nat) : State :=
  match (s.ln l).withdrawal with
  | some (c, g, t) =>
    if t = s.clk.uptime then
      let x := secondCause c g cause group
      let s1 := s.modLn l (fun n => { n with withdrawal := some (x.1, x.2, t) })
      if s.rd64 (Reg.LC_FAULT_TIME_HI l) (Reg.LC_FAULT_TIME_LO l) = t then
        (s1.wr (Fld.LC_FAULT_CAUSE_CAUSE l) x.1).wr (Fld.LC_FAULT_CAUSE_GROUP l) x.2
      else s1
    else s
  | none => s

/-- A lane fault (R78, R79, R506): none is declared in HELD or STOPPED, but for a second cause in the lc of the first. The notice carries
the cause even where the record keeps an earlier one. -/
def State.laneFault (s : State) (l : Lane) (cause group : Nat) : State :=
  if s.ex l == Exec.held || s.ex l == Exec.stopped then s.sameLc l cause group
  else ((s.recordCause l cause group).stopLane l).modLn l (fun n => { n with withdrawal := some (cause, group, s.clk.uptime) })

/-- The EJ2 faults (R22): field control links and strobe stop, so every FQ8 removes drive, and the module behaves as unpowered; the
lanes and the plane are left as they are. -/
def State.ej2Fault (s : State) : State :=
  if s.ej2Down then s
  else
    let s1 := rings.foldl (fun t r => ((t.wr (Fld.SX_CS_STATUS_STATE r) 0).wr (Fld.SX_STATUS_SYNC r) 0).wr (Fld.SX_STATUS_LEADER r) 0) s
    ({ s1 with ej2Down := true, cyc := { s1.cyc with running := false } } : State).showFaultDev

/-- The plane enters SAFE with its first cause, its permit drivers disabled, and reports it (R307, R318, R319); an AX1 in OFF holds none. -/
def State.planeSafe (s : State) (cause : Nat) : State :=
  if s.plane.st = 5 ∨ s.plane.st = 0 then s else { s with plane := { s.plane with st := 5, cause := cause, lines := 0, sent := true } }

end Sys2Proof.Machine
end

