-- ==== Sys2Proof/Machine/Memory.lean ====
section
/-! DEFINITION. Memory integrity (chapter 06): uncorrectable errors and triple words, invalidation, fills, scrubbing, the error log,
page retirement and diagnostic access. -/

namespace Sys2Proof.Machine

/-- UNCORRECTABLE_ERROR (R154, R167): the error is logged and counted, then the lane faults with cause 0x0A. -/
def execUncorrectableError (l : Lane) (type source : Fin 16) (addr : Nat) (syndrome : Byte) (s : State) :
    Host.Outcome State Fault Refusal :=
  .next ((s.memError (.lane l) type source syndrome.toNat (addr / 64) true).laneFault l 0x0A 0)

/-- TRIPLE_WORD_REPAIR (R156): the copy is rewritten with the majority, so the value stays, and the repair is counted. -/
def execTripleWordRepair (d : Fin 9) (s : State) : Host.Outcome State Fault Refusal :=
  .next (s.bump (Fld.JC_TW_n_STATUS_REPAIRS d))

/-! ### Invalidation and the counters -/

/-- Whether an invalidation is refused (R161): the range leaves DDR4 or touches the spare pool, SIZE is 0, or one is running. -/
def State.invalRefused (s : State) (m : MemSel) : Bool :=
  let b := s.rd (Fld.MEM_INVAL_BASE_PAGES m)
  let n := s.rd (Fld.MEM_INVAL_SIZE_PAGES m)
  decide (n = 0) || decide (b * 4096 < ddrBase m) || decide (ddrEnd m < (b + n) * 4096) || (s.mctl m).inval.isSome
    || (s.poolPage m != 0 && decide (b < s.poolPage m + 128 ∧ s.poolPage m < b + n))

/-- Clear the counters that MEM.CMD.CLR_CNT names (R176): CORR_COUNT, UNCORR_COUNT, SRAM_CORR, PF_REJECT and ELOG_CTRL.LOST. -/
def State.clearMemCounts (s : State) (m : MemSel) : State :=
  ((((s.setReg (Reg.MEM_CORR_COUNT m) 0).setReg (Reg.MEM_UNCORR_COUNT m) 0).setReg (Reg.MEM_SRAM_CORR m) 0).setReg
    (Reg.MEM_PF_REJECT m) 0).wr (Fld.MEM_ELOG_CTRL_LOST m) 0

/-- The range of bytes cleared in a memory and in its check bits. -/
def State.clearBytes (s : State) (m : MemSel) (lo hi : Nat) : State :=
  let c := s.mctl m
  (s.setMctl m { c with chk := c.chk.filter (fun e => decide (e.1 * 8 < lo) || decide (hi ≤ e.1 * 8)) }).setDdr m ((s.ddr m).clear lo hi)

/-- What the L2 of a lane may hold of a range outlives its invalidation (R161). -/
def State.keepLines (s : State) (m : MemSel) (lo hi : Nat) : State :=
  match m with
  | .lane l =>
    let cells := (s.ln l).ddr.filterMap (fun c =>
      let a := s.logical m c.1
      if lo ≤ a ∧ a < hi then some (a, c.2) else none)
    s.modLn l (fun n => { n with l2 := cells.foldl (fun x c => x.wb c.1 c.2) n.l2 })
  | .junction => s

/-- The valid bits of pages `lo` to `hi − 1` cleared: their blocks read zero (R159, R161), those of a retired page in its pool page; a damaged
bitmap word that is wholly covered is rewritten (R155). -/
def State.invalidate (s : State) (m : MemSel) (lo hi : Nat) : State :=
  let b0 := (lo * 4096 - ddrBase m) / 256
  let b1 := (hi * 4096 - ddrBase m) / 256
  let v := (s.mctl m).valid.filter (fun b => decide (b < b0) || decide (b1 ≤ b))
  let moved := (List.range 128).filter (fun n => s.flag (Fld.MEM_RT_n_ACTIVE m n) && !s.flag (Fld.MEM_RT_n_BUSY m n)
    && decide (lo ≤ s.rd (Fld.MEM_RT_n_PAGE m n) ∧ s.rd (Fld.MEM_RT_n_PAGE m n) < hi))
  let s1 := moved.foldl (fun t n => t.clearBytes m ((s.poolPage m + n) * 4096) ((s.poolPage m + n + 1) * 4096))
    ((s.keepLines m (lo * 4096) (hi * 4096)).clearBytes m (lo * 4096) (hi * 4096))
  let c := s1.mctl m
  (s1.setMctl m { c with
    valid := v, badBitmap := c.badBitmap.filter (fun x => decide (x * 64 < b0) || decide (b1 < (x + 1) * 64)) }).wr
    (Fld.MEM_SCRUB_VALID_BLOCKS m) v.length

/-- The effect of a write of MEM.CMD (R161, R176). Requests to the range wait while INVAL_BUSY is 1, so the blocks are invalid for every
request after the command. -/
def State.memCmd (s : State) (m : MemSel) (w : Word) : State :=
  let s1 := if wbits w (Fld.MEM_CMD_CLR_CNT m) = 1 then s.clearMemCounts m else s
  if wbits w (Fld.MEM_CMD_INVAL m) = 1 then
    if s1.invalRefused m then s1.set1 (Fld.MEM_STATUS_INVAL_ERR m)
    else
      let b := s1.rd (Fld.MEM_INVAL_BASE_PAGES m)
      let hi := b + s1.rd (Fld.MEM_INVAL_SIZE_PAGES m)
      let s2 := s1.invalidate m b hi
      (s2.setMctl m { s2.mctl m with inval := some (b, hi) }).set1 (Fld.MEM_STATUS_INVAL_BUSY m)
  else s1

/-- INVAL (R161). -/
def execInval (i : Initiator) (m : MemSel) (w : Word) (s : State) : Host.Outcome State Fault Refusal :=
  .next (s.regCmd i (Reg.MEM_CMD m) w (fun t => t.memCmd m (w ||| 1)))

/-- MEM_CLR_CNT (R176). -/
def execMemClrCnt (i : Initiator) (m : MemSel) (w : Word) (s : State) : Host.Outcome State Fault Refusal :=
  .next (s.regCmd i (Reg.MEM_CMD m) w (fun t => t.memCmd m (w ||| 2)))

/-- INVALIDATION_DONE (R161): INVAL_BUSY returns to 0. -/
def execInvalidationDone (m : MemSel) (s : State) : Host.Outcome State Fault Refusal :=
  .next (match (s.mctl m).inval with
    | some _ => (s.setMctl m { s.mctl m with inval := none }).wr (Fld.MEM_STATUS_INVAL_BUSY m) 0
    | none => s)

/-! ### Fills -/

/-- Begin a hardware fill (R163). -/
def State.beginFill (s : State) (m : MemSel) : State :=
  (s.setMctl m { s.mctl m with fillStart := some s.clk.uptime }).set1 (Fld.MEM_STATUS_FILLING m)

/-- What a fill writes (R163): the whole memory zero with correct check bits, and a lane's bitmap cleared, its caches invalid, its scratch and
image SRAM zero as well. The junction bitmap is cleared by the power-on fill only (R162). The retire table, the error log, the counters and
a diagnostic hold stay. -/
def State.fillMem (s : State) (m : MemSel) : State :=
  let c := s.mctl m
  let s1 := (s.setMctl m { c with chk := [] }).setDdr m []
  let clear (t : State) : State := (t.setMctl m { t.mctl m with valid := [], badBitmap := [] }).wr (Fld.MEM_SCRUB_VALID_BLOCKS m) 0
  match m with
  | .lane l => (clear s1).modLn l (fun n => { n with scratch := [], l2 := [], bank0 := [], bank1 := [], work := [], pub := [] })
  | .junction => if s.st.fromPower then clear s1 else s1

/-- A running fill completes (R163): FILLING reads 0 and FILL_TIME the duration in µs. -/
def State.endFill (s : State) (m : MemSel) : State :=
  match (s.mctl m).fillStart with
  | some t =>
    let s1 := s.fillMem m
    ((s1.setMctl m { s1.mctl m with fillStart := none }).wr (Fld.MEM_STATUS_FILLING m) 0).wr (Fld.MEM_FILL_TIME_US m)
      (ceilDiv (s.clk.uptime - t) 1000)
  | none => s

/-! ### Scrubbing -/

/-- The next valid block at or after a block, in ascending order (R164). -/
def nextValid (v : List Nat) (b : Nat) : Option Nat := v.find? (fun x => decide (b ≤ x))

/-- The burst the scrubber visits next: four per valid block, skipping a burst under diagnostic hold (R164, R172). -/
def scrubTarget (c : MemCtl) : Option Nat :=
  let go (b : Nat) : Option Nat := (nextValid c.valid (b / 4)).map (fun x => if x = b / 4 then b else x * 4)
  match go c.scrub with
  | some b => if c.hold = some b then go (b + 1) else some b
  | none => none

/-- The end of a lap (R166): LAPS counts, LAST_MS reports the duration rounded up, and the next lap begins. -/
def State.endLap (s : State) (m : MemSel) : State :=
  let c := s.mctl m
  (((s.bumpW (Fld.MEM_SCRUB_LAP_LAPS m)).wr (Fld.MEM_SCRUB_LAP_LAST_MS m)
    (min 0xFFFF (ceilDiv (s.clk.uptime - c.lapStart) 1000000))).setMctl m { c with scrub := 0, lapStart := s.clk.uptime }).wr
    (Fld.MEM_SCRUB_AGE_MS m) 0

/-- The time since the current lap began, in ms (R176). -/
def State.scrubAge (s : State) (m : MemSel) : Nat := min 0xFFFF ((s.clk.uptime - (s.mctl m).lapStart) / 1000000)

/-- LAP_LATE (R166): set when SCRUB_AGE exceeds a non-zero LAP_MAX. -/
def execLapLate (m : MemSel) (s : State) : Host.Outcome State Fault Refusal :=
  let lim := s.rd (Fld.MEM_CFG_LAP_MAX m)
  .next (if decide (0 < lim) && decide (lim < s.scrubAge m) then s.set1 (Fld.MEM_STATUS_LAP_LATE m) else s)

/-! ### Error log and retirement -/

/-- Remove the head entry of the error log (R167). -/
def State.popElog (s : State) (m : MemSel) : State :=
  let c := s.mctl m
  ((s.setMctl m { c with elog := c.elog.drop 1 }).wr (Fld.MEM_STATUS_ELOG_COUNT m) (c.elog.drop 1).length).showElog m

/-- ELOG_POP (R167). -/
def execElogPop (i : Initiator) (m : MemSel) (w : Word) (s : State) : Host.Outcome State Fault Refusal :=
  .next (s.regCmd i (Reg.MEM_ELOG_CTRL m) w (fun t => t.popElog m))

/-- Whether a retirement is refused (R169): the page lies outside DDR4 or inside the pool, another active entry holds it, or a copy is
busy. -/
def State.retireRefused (s : State) (m : MemSel) (n page : Nat) : Bool :=
  !inDdr m (page * 4096) || s.inPool m page || s.flag (Fld.MEM_STATUS_RETIRE_BUSY m)
    || (List.range 128).any (fun k => k != n && s.flag (Fld.MEM_RT_n_ACTIVE m k) && s.rd (Fld.MEM_RT_n_PAGE m k) == page)

/-- The effect of RT_n with ACTIVE (R169); an active entry stays as it is (R170). -/
def State.retire (s : State) (m : MemSel) (n : Nat) (w : Word) : State :=
  let was := s.flag (Fld.MEM_RT_n_ACTIVE m n)
  let s1 := s.merge (Reg.MEM_RT_n m n) (w &&& 0x7FFFFFFF)
  if was then s1
  else if s1.retireRefused m n (s1.rd (Fld.MEM_RT_n_PAGE m n)) then s1.set1 (Fld.MEM_RT_n_REFUSED m n)
  else
    ((((s1.set1 (Fld.MEM_RT_n_ACTIVE m n)).set1 (Fld.MEM_RT_n_BUSY m n)).set1 (Fld.MEM_STATUS_RETIRE_BUSY m)).bump
      (Fld.MEM_STATUS_RT_USED m)).setMctl m { s1.mctl m with copying := some n }

/-- RETIRE_ACTIVATE (R169). -/
def execRetireActivate (i : Initiator) (m : MemSel) (n : Fin 128) (w : Word) (s : State) : Host.Outcome State Fault Refusal :=
  .next (s.regCmdRaw i (Reg.MEM_RT_n m n) (fun t => t.retire m n w))

/-- The 64 bursts of a page copied into a pool page, corrected under SECDED (R169): a burst with an uncorrectable word is not copied. The answer
says whether there was none, with the first syndrome. -/
def State.copyPage (s : State) (m : MemSel) (page dst : Nat) : State × Option Byte :=
  (List.range 64).foldl (fun (r : State × Option Byte) j =>
    let a := page * 4096 + 64 * j
    let c := r.1.burstClass m a
    let t := if c.1 = 1 then (r.1.fixBurst m a).memError m 9 4 c.2.toNat (a / 64) false else r.1
    if c.1 = 2 then (t, some (r.2.getD c.2))
    else
      let bytes := (t.ddr m).bytes a 64
      let u := t.clearBytes m (dst * 4096 + 64 * j) (dst * 4096 + 64 * j + 64)
      (u.setDdr m ((u.ddr m).putBytes (dst * 4096 + 64 * j) bytes), r.2)) (s, none)

/-- RETIRE_COPY_DONE (R169, R170): the page stands in pool page n, which every initiator reaches from now on; the 64 bursts written make all its
blocks valid. An uncorrectable error (one of the page's words, or one that struck it meanwhile) sets COPY_ERR and faults a lane. -/
def execRetireCopyDone (m : MemSel) (uncorr : Bool) (s : State) : Host.Outcome State Fault Refusal :=
  .next (match (s.mctl m).copying with
    | none => s
    | some n =>
      let page := s.rd (Fld.MEM_RT_n_PAGE m n)
      let r := s.copyPage m page (s.poolPage m + n)
      let s1 := ((r.1.setMctl m { r.1.mctl m with copying := none }).wr (Fld.MEM_RT_n_BUSY m n) 0).wr (Fld.MEM_STATUS_RETIRE_BUSY m) 0
      let s2 := (List.range 16).foldl (fun t j => t.markValid m (page * 4096 + 256 * j)) s1
      if uncorr || r.2.isSome then
        let s3 := (s2.set1 (Fld.MEM_RT_n_COPY_ERR m n)).memError m 9 4 (r.2.getD 0).toNat (page * 64) true
        match m with
        | .lane l => s3.laneFault l 0x0A 0
        | .junction => s3
      else s2)

/-! ### Diagnostic access -/

/-- The byte address that DIAG_ADDR names. -/
def State.diagAddr (s : State) (m : MemSel) : Nat := s.rd (Fld.MEM_DIAG_ADDR_WORD m) * 8

/-- Whether a diagnostic WRITE is refused (R172). -/
def State.diagRefused (s : State) (m : MemSel) : Bool :=
  let a := s.diagAddr m
  !inDdr m a || s.inPool m (a / 4096)
    || (match (s.mctl m).hold with
        | some b => b != (a - ddrBase m) / 64
        | none => false)
    || (match m with
        | .lane l => s.votes l && decide (s.numVoting < 3)
        | .junction => false)

/-- The effect of a write of MEM.DIAG_CMD (R171, R172): WRITE places data and check bits and takes the burst under hold; READ loads them
with the class, syndrome and corrected bit; RELEASE ends the hold. -/
def State.diagCmd (s : State) (m : MemSel) (w : Word) : State :=
  let a := s.diagAddr m
  let s1 :=
    if wbits w (Fld.MEM_DIAG_CMD_RELEASE m) = 1 then
      ((s.setMctl m { s.mctl m with hold := none, diagBusy := true }).wr (Fld.MEM_STATUS_DIAG_HOLD m) 0).wr (Fld.MEM_DIAG_RESULT_DONE m) 0
    else s
  let s2 :=
    if wbits w (Fld.MEM_DIAG_CMD_WRITE m) = 1 then
      let t := s1.wr (Fld.MEM_DIAG_RESULT_DONE m) 0
      if t.diagRefused m then
        (t.set1 (Fld.MEM_DIAG_RESULT_REFUSED m)).setMctl m { t.mctl m with diagBusy := true }
      else
        let t0 := match m with
          | .lane l => t.settleLine l a
          | .junction => t
        let t1 := (t0.wr (Fld.MEM_DIAG_RESULT_REFUSED m) 0).ddrPut m a
          (leBytes 4 (t.rd (Fld.MEM_DIAG_DATA_LO_DATA m)) ++ leBytes 4 (t.rd (Fld.MEM_DIAG_DATA_HI_DATA m)))
        let c := t1.mctl m
        (t1.setMctl m { c with
          chk := Store.insert c.chk (t1.phys m a / 8) (BitVec.ofNat 8 (t1.rd (Fld.MEM_DIAG_CHECK_CHECK m)))
          hold := some ((a - ddrBase m) / 64), diagBusy := true }).set1 (Fld.MEM_STATUS_DIAG_HOLD m)
    else s1
  if wbits w (Fld.MEM_DIAG_CMD_READ m) = 1 then
    let t := s2.wr (Fld.MEM_DIAG_RESULT_DONE m) 0
    let data := BitVec.ofNat 64 (leNat (t.ddrBytes m a 8))
    let chk := (lookupN (t.mctl m).chk (t.phys m a / 8)).getD (Config.hsiaoCheck data)
    let cls := hsiaoClass data chk
    let t1 := ((t.wr (Fld.MEM_DIAG_DATA_LO_DATA m) data.toNat).wr (Fld.MEM_DIAG_DATA_HI_DATA m) (data.toNat / 2 ^ 32)).wr
      (Fld.MEM_DIAG_CHECK_CHECK m) chk.toNat
    let t2 := ((t1.wr (Fld.MEM_DIAG_RESULT_CLASS m) cls).wr (Fld.MEM_DIAG_RESULT_SYNDROME m)
      (hsiaoSyndrome data chk).toNat).wr (Fld.MEM_DIAG_RESULT_BIT m) (if cls = 1 then (Config.hsiaoBit data chk).val else 0)
    t2.setMctl m { t2.mctl m with diagBusy := true }
  else s2

/-- DIAG_WRITE (R171, R172). -/
def execDiagWrite (i : Initiator) (m : MemSel) (w : Word) (s : State) : Host.Outcome State Fault Refusal :=
  .next (s.regCmd i (Reg.MEM_DIAG_CMD m) w (fun t => t.diagCmd m (w ||| 1)))

/-- DIAG_READ (R171). -/
def execDiagRead (i : Initiator) (m : MemSel) (w : Word) (s : State) : Host.Outcome State Fault Refusal :=
  .next (s.regCmd i (Reg.MEM_DIAG_CMD m) w (fun t => t.diagCmd m (w ||| 2)))

/-- DIAG_RELEASE (R172). -/
def execDiagRelease (i : Initiator) (m : MemSel) (w : Word) (s : State) : Host.Outcome State Fault Refusal :=
  .next (s.regCmd i (Reg.MEM_DIAG_CMD m) w (fun t => t.diagCmd m (w ||| 4)))

/-- DIAG_DONE (R171): the running command has completed. -/
def execDiagDone (m : MemSel) (s : State) : Host.Outcome State Fault Refusal :=
  .next (if (s.mctl m).diagBusy then (s.setMctl m { s.mctl m with diagBusy := false }).set1 (Fld.MEM_DIAG_RESULT_DONE m) else s)

end Sys2Proof.Machine
end

