-- ==== Sys2Proof/Machine/Reads.lean ====
section
/-! DEFINITION. Reads of DDR4 by an initiator, with the reaction to an error (R152 to R155), and the L2 lines of an invalidated range (R161). -/

namespace Sys2Proof.Machine

/-- The check of the burst of an address at a read by an initiator with this SOURCE of the error log: a corrected burst is written back (R153);
an uncorrectable one faults a lane (R154) and gives the reader an error response (R155), which the answer says. -/
def State.checkBurst (s : State) (m : MemSel) (source a : Nat) : State × Bool :=
  let damaged := match m with
    | .lane _ => false
    | .junction => s.bitmapBad a
  if damaged then (s.memError m 8 source 0 (a / 64) true, false)
  else
    let (cls, syn) := s.burstClass m a
    match cls with
    | 0 => (s, true)
    | 1 => ((s.fixBurst m a).memError m 1 source syn.toNat (a / 64) false, true)
    | _ =>
      let t := s.memError m 2 source syn.toNat (a / 64) true
      match m with
      | .lane l => (t.laneFault l 0x0A 0, false)
      | .junction => (t, false)

/-- A read of bytes within one 64-byte burst: the bytes, or none after an error response. A line of an invalidated range that an L2 may still
hold gives its data or those of DDR4: which of them is unstated (R161; log entry 85). -/
def State.ddrRead (s : State) (m : MemSel) (source a n : Nat) : State × Option (List Byte) :=
  let plain (t : State) : State × Option (List Byte) :=
    let r := t.checkBurst m source a
    (r.1, if r.2 then some (r.1.ddrBytes m a n) else none)
  match m with
  | .lane l =>
    if (s.ln l).l2.any (fun c => c.1 / 64 == a / 64) then
      let t := s.takeFree.2
      if s.takeFree.1.getLsbD 0 then (t, some ((s.ln l).l2.bytes a n)) else plain (t.dropLine l a)
    else plain s
  | .junction => plain s

/-- The addresses of the bursts that `n` bytes from `a` on touch and that hold placed check bits or, in the junction, lie in a damaged bitmap
word. -/
def State.suspects (s : State) (m : MemSel) (a n : Nat) : List Nat :=
  let placed := (s.mctl m).chk.map (fun c => s.logical m (c.1 * 8) / 64)
  let bad := match m with
    | .lane _ => []
    | .junction => s.jmem.badBitmap.map (fun w => max (a / 64) ((0x40000000 + w * 16384) / 64))
  (((placed ++ bad).filter (fun b => decide (a / 64 ≤ b ∧ b * 64 < a + n))).foldl (fun l b => insertNat b l) []).map (fun b => b * 64)

/-- A range is read by an engine: every burst is checked, and the answer says whether none gave an error response (R152 to R155). -/
def State.checkRange (s : State) (m : MemSel) (source a n : Nat) : State × Bool :=
  (s.suspects m a n).foldl (fun (r : State × Bool) b =>
    let q := r.1.checkBurst m source b
    (q.1, r.2 && q.2)) (s, true)

/-- Bytes of junction DDR4 as an engine reads them, none after an error response (R155). -/
def State.junctionRead (s : State) (source a n : Nat) : State × Option (List Byte) :=
  let r := s.checkRange .junction source a n
  (r.1, if r.2 then some (r.1.ddrBytes .junction a n) else none)

/-- Whether a write would touch the Welt's area (R454). -/
def inWelt (a n : Nat) : Bool := decide (a < 0x70200000 ∧ 0x60000000 < a + n)

end Sys2Proof.Machine
end

