-- ==== Sys2Proof/Machine/Treadle.lean ====
section
/-! DEFINITION. The Treadle (chapter 05): task states, releases, dispatch and publication, forces, and the images of a lane. -/

namespace Sys2Proof.Machine

/-! ### Tasks -/

/-- The keys of a task's registers (R151). -/
def taskCfg (l : Lane) (t : Nat) : Nat := if t < 8 then Reg.TRD_CT_n_CFG l t else Reg.TRD_ET_n_CFG l (t - 8)
def taskCnt (l : Lane) (t : Nat) : Nat := if t < 8 then Reg.TRD_CT_n_CNT l t else Reg.TRD_ET_n_CNT l (t - 8)
def taskResp (l : Lane) (t : Nat) : Nat := if t < 8 then Reg.TRD_CT_n_RESP l t else Reg.TRD_ET_n_RESP l (t - 8)

/-- Whether a task is enabled (R123). -/
def State.taskEn (s : State) (l : Lane) (t : Nat) : Bool := s.regBit (taskCfg l t) 31

/-- The priority of a task, 0 the highest (R123). -/
def State.taskPrio (s : State) (l : Lane) (t : Nat) : Nat := s.rd ⟨taskCfg l t, 28, 24⟩

/-- Put a task into a state (R128). -/
def State.setTask (s : State) (l : Lane) (t st : Nat) : State := s.wr ⟨taskStat l t, 31, 29⟩ st

/-- What the Treadle holds of a task. -/
def State.task (s : State) (l : Lane) (t : Nat) : TaskSt := getAt TaskSt.idle (s.ln l).tasks t

/-- Replace what the Treadle holds of a task. -/
def State.putTask (s : State) (l : Lane) (t : Nat) (x : TaskSt) : State := s.modLn l (fun n => { n with tasks := setAt n.tasks t x })

/-- Whether a task is released and not complete (R129). -/
def State.taskBusy (s : State) (l : Lane) (t : Nat) : Bool :=
  let x := s.taskState l t
  x == Task.ready || x == Task.running || x == Task.preempted

/-- Whether the Treadle is QUIET: no task READY, RUNNING or PREEMPTED (R151). -/
def State.quiet (s : State) (l : Lane) : Bool := (List.range 24).all (fun t => !s.taskBusy l t)

/-- The task of least priority number among some, none of an empty list. -/
def State.bestTask (s : State) (l : Lane) : List Nat → Option Nat
  | [] => none
  | t :: ts =>
    match s.bestTask l ts with
    | none => some t
    | some u => if s.taskPrio l t ≤ s.taskPrio l u then some t else some u

/-- The task to dispatch next (dispatch protocol, step 1). -/
def State.nextTask (s : State) (l : Lane) : Option Nat :=
  match s.bestTask l ((List.range 24).filter (fun t => s.taskState l t == Task.ready || s.taskState l t == Task.preempted)) with
  | none => none
  | some t =>
    match (s.ln l).curTask with
    | some c => if s.taskPrio l t < s.taskPrio l c then some t else none
    | none => some t

/-- Bring TRD.NEXT, TRD.STATUS and the machine external interrupt of HART_0 up to date (dispatch protocol, step 1). -/
def State.reschedule (s : State) (l : Lane) : State :=
  let s1 := (s.wrB (Fld.TRD_STATUS_QUIET l) (s.quiet l)).wr (Fld.TRD_STATUS_CUR_TASK l) ((s.ln l).curTask.getD 0x1F)
  match s1.nextTask l with
  | some t =>
    ((((s1.setReg (Reg.TRD_NEXT l) 0).set1 (Fld.TRD_NEXT_VALID l)).wrB (Fld.TRD_NEXT_RESUME l)
      (s1.taskState l t == Task.preempted)).wr (Fld.TRD_NEXT_PRIO l) (s1.taskPrio l t)).wr (Fld.TRD_NEXT_TASK l) t |>.raise l .h0 11
  | none => (s1.setReg (Reg.TRD_NEXT l) 0x1F).drop l .h0 11

/-- Whether a lane's Treadle works: the lane runs, or is in a debug state with its Treadle alive (R83). -/
def State.treadleOn (s : State) (l : Lane) : Bool :=
  let x := s.ex l
  x == Exec.running || x == Exec.splitHalt || x == Exec.splitRun || x == Exec.replayHalt || x == Exec.replayCheck

/-- The donor's release between the quiet point and the boundary abandons the final pass (R116): back to BULK, its pages dirty again. -/
def State.abandonFinal (s : State) (l : Lane) : State :=
  match s.vote.readmit with
  | some r =>
    if r.donor = l ∧ s.rd Fld.VT_READMIT_STATUS_PHASE = 3 ∧ r.quiet = some s.cyc.k then
      let ps := r.passPages.foldl (fun d p => insertNat p d) r.dirty
      let s1 : State := { s with vote := { s.vote with readmit := some { r with quiet := none, passPages := ps, dirty := [] } } }
      ((s1.wr Fld.VT_READMIT_STATUS_PHASE 2).wr Fld.VT_READMIT_STATUS_DIRTY (min 0xFFFF ps.length)).bump Fld.VT_READMIT_STATUS_PASS
    else s
  | none => s

/-- Whether a lane address lies in a region of voted state (R119). -/
def State.inVoted (s : State) (a : Nat) : Bool :=
  (List.range 16).any (fun n =>
    let b := 65536 * s.rd (Fld.VT_VS_n_BASE_BASE n)
    decide (b ≤ a ∧ a < b + 65536 * s.rd (Fld.VT_VS_n_SIZE_SIZE n)))

/-- A write in the donor marks its 4 KB page of voted state as dirty while a transfer runs (R113). -/
def State.markDirty (s : State) (l : Lane) (a : Nat) : State :=
  match s.vote.readmit with
  | some r =>
    if r.donor = l ∧ s.inVoted a then { s with vote := { s.vote with readmit := some { r with dirty := insertNat (a / 4096) r.dirty } } }
    else s
  | none => s

/-- A release of a task for the cycle last released (R128 to R130): from IDLE or DONE to READY, in any other state skipped, counted and
recorded. With HART_0 halted it is discarded and counted in MISSED (R87); after a power-fail warning there is none (R149). -/
def State.release (s : State) (l : Lane) (t pubAt : Nat) : State :=
  if s.flag (Fld.TRD_STATUS_HALT_REL l) then s
  else if (s.ln l).h0.halted then s.bump (Fld.LC_DBG_STATUS_MISSED l)
  else
    let k := s.rd (Fld.TRD_CYCLE_CYCLE l)
    let s0 := s.abandonFinal l
    if s0.taskBusy l t then
      (s0.bump ⟨taskCnt l t, 15, 0⟩).weltEvent (0x30 + l.num) 0x20 (t + k * 2 ^ 32)
    else
      ((s0.setTask l t Task.ready).wr ⟨taskStat l t, 15, 0⟩ k).putTask l t
        { relUp := s.clk.uptime, relCycle := k, bank := k % 2, pubAt := pubAt, stale := false, late := false, slack := false, doneAt := 0 }

/-- Dispatch of the task that TRD.NEXT names (R128, R131, R135); any other number is ignored. -/
def State.dispatchTask (s : State) (l : Lane) (t : Nat) : State :=
  if s.flag (Fld.TRD_NEXT_VALID l) && s.rd (Fld.TRD_NEXT_TASK l) == t then
    let s1 := match (s.ln l).curTask with
      | some c => s.setTask l c Task.preempted
      | none => s
    ((s1.setTask l t Task.running).modLn l (fun n => { n with curTask := some t })).reschedule l
  else s

/-- Completion of the running task (R128, R131): to DONE, or straight to IDLE where the release was suppressed (R134); the response and
slack figures of RESP follow. -/
def State.taskDone (s : State) (l : Lane) (t : Nat) : State :=
  if (s.ln l).curTask = some t then
    let x := s.task l t
    let resp := min 0xFFFF (ceilDiv (s.clk.uptime - x.relUp) 1000)
    let slack := if x.late then 0 else min 0xFFFF ((x.pubAt - s.clk.net) / 1000)
    let s1 := s.wr ⟨taskResp l t, 31, 16⟩ (max resp (s.rd ⟨taskResp l t, 31, 16⟩))
    let s2 := s1.wr ⟨taskResp l t, 15, 0⟩ (min slack (s.rd ⟨taskResp l t, 15, 0⟩))
    let s3 := s2.setTask l t (if x.stale then Task.idle else Task.done)
    ((s3.modLn l (fun n => { n with curTask := none })).putTask l t { x with doneAt := s.clk.uptime }).reschedule l
  else s

/-! ### Forces -/

/-- The force entry of a word of an image (R144); `img` is 1 for the output image. -/
def State.forceOf (s : State) (l : Lane) (img word : Nat) : Option Nat :=
  (List.range 64).find? (fun n => s.flag (Fld.TRD_FORCE_n_LOC_ACTIVE l n) && s.rd (Fld.TRD_FORCE_n_LOC_IMG l n) == img
    && s.rd (Fld.TRD_FORCE_n_LOC_WORD l n) == word)

/-- The number of active force entries (R144). -/
def State.numForces (s : State) (l : Lane) : Nat := ((List.range 64).filter (fun n => s.flag (Fld.TRD_FORCE_n_LOC_ACTIVE l n))).length

/-- Show the number of active force entries in TRD.STATUS. -/
def State.showForces (s : State) (l : Lane) : State := s.wr (Fld.TRD_STATUS_FORCES l) (s.numForces l)

/-- A force record merges into the entry for its word, or takes a free entry (R144). -/
def State.addForce (s : State) (l : Lane) (img word : Nat) (mask val : Word) : State :=
  match s.forceOf l img word with
  | some n =>
    ((s.setReg (Reg.TRD_FORCE_n_VAL l n) ((s.reg (Reg.TRD_FORCE_n_VAL l n) &&& ~~~mask) ||| (val &&& mask))).setReg
      (Reg.TRD_FORCE_n_MASK l n) (s.reg (Reg.TRD_FORCE_n_MASK l n) ||| mask))
  | none =>
    match (List.range 64).find? (fun n => !s.flag (Fld.TRD_FORCE_n_LOC_ACTIVE l n)) with
    | some n =>
      ((((((s.set1 (Fld.TRD_FORCE_n_LOC_ACTIVE l n)).wr (Fld.TRD_FORCE_n_LOC_IMG l n) img).wr (Fld.TRD_FORCE_n_LOC_WORD l n) word).wrB
        (Fld.TRD_FORCE_n_LOC_SAFETY l n) (img == 1 && s.cfg.safety.contains word)).setReg (Reg.TRD_FORCE_n_MASK l n) mask).setReg
        (Reg.TRD_FORCE_n_VAL l n) (val &&& mask)).showForces l
    | none => s

/-- A remove record clears its mask bits; an entry whose mask becomes zero is freed (R144). -/
def State.dropForce (s : State) (l : Lane) (img word : Nat) (mask : Word) : State :=
  match s.forceOf l img word with
  | some n =>
    let m := s.reg (Reg.TRD_FORCE_n_MASK l n) &&& ~~~mask
    if m = 0 then
      (((s.setReg (Reg.TRD_FORCE_n_LOC l n) 0).setReg (Reg.TRD_FORCE_n_MASK l n) 0).setReg (Reg.TRD_FORCE_n_VAL l n) 0).showForces l
    else (s.setReg (Reg.TRD_FORCE_n_MASK l n) m).setReg (Reg.TRD_FORCE_n_VAL l n) (s.reg (Reg.TRD_FORCE_n_VAL l n) &&& m)
  | none => s

/-- Every start removes all forces (R146). -/
def State.clearForces (s : State) (l : Lane) : State :=
  ((List.range 64).foldl (fun t n => ((t.setReg (Reg.TRD_FORCE_n_LOC l n) 0).setReg (Reg.TRD_FORCE_n_MASK l n) 0).setReg
    (Reg.TRD_FORCE_n_VAL l n) 0) s).showForces l

/-- An image with the active forces of its kind merged in: (x and not mask) or (value and mask) (R144). -/
def State.forced (s : State) (l : Lane) (img : Nat) (m : Mem) : Mem :=
  (List.range 64).foldl (fun m n =>
    if s.flag (Fld.TRD_FORCE_n_LOC_ACTIVE l n) && s.rd (Fld.TRD_FORCE_n_LOC_IMG l n) == img then
      let a := 4 * s.rd (Fld.TRD_FORCE_n_LOC_WORD l n)
      let k := s.reg (Reg.TRD_FORCE_n_MASK l n)
      m.putWord a ((m.word a &&& ~~~k) ||| (s.reg (Reg.TRD_FORCE_n_VAL l n) &&& k))
    else m) m

/-! ### Images -/

/-- The input bank of a cycle, bank k mod 2 (R151). -/
def LaneSt.bankOf (n : LaneSt) (b : Nat) : Mem := if b % 2 = 0 then n.bank0 else n.bank1

/-- Replace an input bank. -/
def LaneSt.putBank (n : LaneSt) (b : Nat) (m : Mem) : LaneSt := if b % 2 = 0 then { n with bank0 := m } else { n with bank1 := m }

/-- The input bank that HART_0 reads: that of the running task's release, else the one of the cycle last released (R135). -/
def State.readBank (s : State) (l : Lane) : Mem :=
  match (s.ln l).curTask with
  | some t => (s.ln l).bankOf (s.task l t).bank
  | none => (s.ln l).bankOf (s.rd (Fld.TRD_STATUS_BANK l))

/-- The task that owns an output word, none for a constant word (R133). -/
def State.owner (s : State) (w : Nat) : Option Nat := lookupN s.cfg.owner w

/-- The words a task owns. -/
def State.ownedWords (s : State) (t : Nat) : List Nat := (s.cfg.owner.filter (fun x => x.2 == t)).map (·.1)

/-- Publication (R133, R134): each task in DONE whose publication point is reached gives its words from the working image and goes to
IDLE; a released task not in DONE at its point is late once. -/
def State.publish (s : State) (l : Lane) : State :=
  ((List.range 24).foldl (fun t n =>
    let x := t.task l n
    if t.taskState l n == Task.done && decide (x.pubAt ≤ t.clk.net) then
      (t.setTask l n Task.idle).modLn l (fun y =>
        { y with pub := (t.ownedWords n).foldl (fun m w => m.putWord (4 * w) (y.work.word (4 * w))) y.pub })
    else if t.taskBusy l n && !x.late && decide (x.pubAt ≤ t.clk.net) then
      ((t.bump ⟨taskCnt l n, 31, 16⟩).wr ⟨taskResp l n, 15, 0⟩ 0).putTask l n { x with late := true }
    else t) s).reschedule l

/-- Releases whose input bank is overwritten at t_in of cycle k before they complete are suppressed (R134). -/
def State.markStale (s : State) (l : Lane) (bank : Nat) : State :=
  (List.range 24).foldl (fun t n =>
    let x := t.task l n
    if t.taskBusy l n && x.bank == bank && !x.stale then (t.putTask l n { x with stale := true }).set1 ⟨taskStat l n, 28, 28⟩
    else t) s

/-- Whether a lane hands over its image in this cycle (R83, R87, R90): it runs, or checks a replay, and no hart of it is halted. -/
def State.handsOver (s : State) (l : Lane) : Bool :=
  (s.ex l == Exec.running || s.ex l == Exec.replayCheck && decide ((s.ln l).resumeK < s.cyc.k)) && (s.ln l).egressOpen && !(s.ln l).h0.halted && !(s.ln l).h1.halted

/-! ### Commands of the Treadle's registers -/

/-- A command to a lane's own register: only the lane's harts see it (R28). -/
def State.laneCmd (s : State) (i : Initiator) (f : Lane → State) : State :=
  match i with
  | .hart l _ => f l
  | _ => s.respond i .fault

/-- DISPATCH (R131). -/
def execDispatch (i : Initiator) (w : Word) (s : State) : Host.Outcome State Fault Refusal :=
  .next (s.laneCmd i (fun l => s.regCmd i (Reg.TRD_DISPATCH l) w (fun t => t.dispatchTask l (wbits w (Fld.TRD_DISPATCH_TASK l)))))

/-- Clear the counters that TRD.CNT_CLEAR names (R151): RESP registers to their reset values, CNT registers to zero. -/
def State.trdClear (s : State) (l : Lane) (w : Word) : State :=
  let s1 := if wbits w (Fld.TRD_CNT_CLEAR_CLR_RESP l) = 1 then
      (List.range 24).foldl (fun t n => t.setReg (taskResp l n) 0xFFFF) s else s
  if wbits w (Fld.TRD_CNT_CLEAR_CLR_CNT l) = 1 then (List.range 24).foldl (fun t n => t.setReg (taskCnt l n) 0) s1 else s1

/-- CLR_RESP (R151). -/
def execClrResp (i : Initiator) (w : Word) (s : State) : Host.Outcome State Fault Refusal :=
  .next (s.laneCmd i (fun l => s.regCmd i (Reg.TRD_CNT_CLEAR l) w (fun t => t.trdClear l (w ||| 2))))

/-- TRD_CLR_CNT (R151). -/
def execTrdClrCnt (i : Initiator) (w : Word) (s : State) : Host.Outcome State Fault Refusal :=
  .next (s.laneCmd i (fun l => s.regCmd i (Reg.TRD_CNT_CLEAR l) w (fun t => t.trdClear l (w ||| 1))))

/-! ### Event notices -/

/-- Whether the activation pause runs (R476). -/
def State.paused (s : State) : Bool :=
  match s.st.act with
  | some a => a.paused
  | none => false

/-- Whether a task may be released in this duplex state (R342, R348): a standby in step releases only hot tasks, and so does a unit whose
cold restore runs. -/
def State.taskMayRun (s : State) (t : Nat) : Bool :=
  let d := s.rd Fld.DX_STATUS_STATE
  !(d == 3 || d == 4 || s.dx.restoring) || s.cfg.hot.contains t

/-- EVENT_NOTICE (R126, R127): the oldest notice on its way to the lane is held until r, its count added to OVERRUN; with HART_0 halted it
is discarded and counted (R87), after a power-fail warning discarded (R149), in the activation pause discarded and counted (R476). -/
def execEventNotice (l : Lane) (s : State) : Host.Outcome State Fault Refusal :=
  .next (match (s.ln l).inbox with
    | [] => s
    | x :: xs =>
      let s1 := s.modLn l (fun n => { n with inbox := xs })
      if !s1.treadleOn l || s1.flag (Fld.TRD_STATUS_HALT_REL l) || !s1.taskMayRun x.task then s1
      else if (s1.ln l).h0.halted then s1.bump (Fld.LC_DBG_STATUS_MISSED l)
      else if s1.paused then s1.bumpBy ⟨taskCnt l x.task, 15, 0⟩ (x.missed + 1)
      else ((s1.modLn l (fun n => { n with notices := n.notices ++ [x] })).bumpBy ⟨taskCnt l x.task, 15, 0⟩ x.missed).set1
        ⟨taskStat l x.task, 27, 27⟩)

/-- The first hand-over start at or after a network time (R134). -/
def State.nextHand (s : State) (t : Nat) : Nat :=
  if s.tCycle = 0 then t else ceilDiv (t - 4 * s.tHand) s.tCycle * s.tCycle + 4 * s.tHand

/-- The release of event task 8 + n in one lane at r (R126, R134, R151). -/
def State.releaseEvent (s : State) (l : Lane) (n : Nat) : State :=
  match (s.ln l).notices.find? (fun x => x.task == 8 + n && decide (x.r ≤ s.clk.net)) with
  | none => s
  | some x =>
    let s1 := (s.modLn l (fun y => { y with notices := y.notices.filter (fun z => z != x) })).wr ⟨taskStat l x.task, 27, 27⟩ 0
    if !s.taskMayRun x.task then s1 else if s.paused then s1.bump ⟨taskCnt l x.task, 15, 0⟩ else
    let s2 := if s1.taskBusy l (8 + n) || (s1.ln l).h0.halted then s1
      else (s1.setReg (Reg.TRD_ET_n_EVT_SPAN l n) (BitVec.ofNat 32 x.span)).setReg (Reg.TRD_ET_n_EVT_DATA l n) x.data
    (s2.release l (8 + n) (s2.nextHand (x.r + 1000 * s.rd (Fld.TRD_ET_n_CFG_WINDOW l n)))).reschedule l

/-- EVENT_TASK_RELEASE (R126): every lane that holds the notice releases the task at r. -/
def execEventTaskRelease (n : Fin 16) (s : State) : Host.Outcome State Fault Refusal :=
  .next (lanes.foldl (fun t l => if t.treadleOn l then t.releaseEvent l n else t) s)

end Sys2Proof.Machine
end

