-- ==== Sys2Proof/Machine/Change.lean ====
section
/-! DEFINITION. Online change and forcing (R140 to R146), and retained variables (R147 to R150). -/

namespace Sys2Proof.Machine

/-! ### Lane memory by lane address -/

/-- Bytes of a lane's scratch or DDR4 (R28); other addresses give zeros. -/
def State.laneBytes (s : State) (l : Lane) (a n : Nat) : List Byte :=
  if decide (0x08000000 ≤ a ∧ a < 0x08100000) then (s.ln l).scratch.bytes a n else s.ddrBytes (.lane l) a n

/-- Write bytes of a lane's scratch or DDR4, without regard to a running transfer. -/
def State.laneCopy (s : State) (l : Lane) (a : Nat) (bs : List Byte) : State :=
  if decide (0x08000000 ≤ a ∧ a < 0x08100000) then s.modLn l (fun n => { n with scratch := n.scratch.putBytes a bs })
  else if inDdr (.lane l) a then (s.settleLines l a bs.length).ddrPut (.lane l) a bs
  else s

/-- A hart's reservation is lost when its 64-byte block is written (A extension, R61). -/
def HartSt.breakResv (x : HartSt) (a n : Nat) : HartSt :=
  match x.resv with
  | some r => if a / 64 ≤ r / 64 ∧ r / 64 ≤ (a + n - 1) / 64 then { x with resv := none } else x
  | none => x

/-- A write to a lane's scratch or DDR4 (R113). -/
def State.lanePut (s : State) (l : Lane) (a : Nat) (bs : List Byte) : State :=
  ((s.laneCopy l a bs).markDirty l a).modLn l (fun n =>
    { n with h0 := n.h0.breakResv a bs.length, h1 := n.h1.breakResv a bs.length })

/-! ### Change blocks -/

/-- The record at position n of the block in UPD.CHG_DATA (R140). -/
def State.chgRec (s : State) (n : Nat) : ChgRec :=
  let w (j : Nat) : Word := s.reg (Reg.UPD_CHG_DATA_w (2 + 4 * n + j))
  { target := bitsOf (w 0).toNat 15 0, op := bitsOf (w 0).toNat 23 16, width := bitsOf (w 0).toNat 31 24, mask := w 1,
    value := BitVec.ofNat 64 ((w 3).toNat * 2 ^ 32 + (w 2).toNat) }

/-- The block in UPD.CHG_DATA: SEQ, and as many records as its count says (R140). -/
def State.chgBlock (s : State) : ChgBlock :=
  let h := (s.reg (Reg.UPD_CHG_DATA_w 0)).toNat
  { seq := bitsOf h 15 0, recs := (List.range (bitsOf h 23 16)).map s.chgRec }

/-- Whether a value lies within a variable's declared limits (R141). -/
def varWithin (v : VarDecl) (x : BitVec 64) : Bool :=
  let m := 8 * v.width
  if v.signed then decide (toSigned m v.min.toNat ≤ toSigned m x.toNat ∧ toSigned m x.toNat ≤ toSigned m v.max.toNat)
  else decide (v.min.toNat % 2 ^ m ≤ x.toNat % 2 ^ m ∧ x.toNat % 2 ^ m ≤ v.max.toNat % 2 ^ m)

/-- Whether the bits of a force on an output word drive a direct-mapped channel (R141). -/
def State.forcesDirect (s : State) (word : Nat) (mask : Word) : Bool :=
  s.cfg.direct.any (fun d => s.rd (Fld.FIO_CH_n_MAP_WORD d.ch) == word && bitOf mask.toNat (s.rd (Fld.FIO_CH_n_MAP_BIT d.ch)))

/-- A forced word with its mask; `img` is 1 for the output image (R144). -/
structure Forced where
  img : Nat
  word : Nat
  mask : Word
  deriving DecidableEq, Repr

/-- Whether a word of an image is forced. -/
def isForced (forces : List Forced) (img word : Nat) : Bool := forces.any (fun f => f.img == img && f.word == word)

/-- The code of the first check that a record fails, none when it passes (R141); `forces` holds the words forced so far. -/
def State.chgCheck (s : State) (r : ChgRec) (forces : List Forced) : Option Nat :=
  let img := if r.op = 3 ∨ r.op = 5 then s.cfg.sIn / 4 else s.cfg.sOut / 4
  if r.op = 1 then
    match s.cfg.vars.find? (fun v => v.id == r.target) with
    | none => some 2
    | some v => if r.width ≠ v.width then some 3 else if !varWithin v r.value then some 4 else none
  else if r.op < 1 ∨ 6 < r.op ∨ img ≤ r.target then some 2
  else if r.width ≠ 4 then some 3
  else if r.op = 2 ∧ (s.owner r.target).isSome then some 5
  else if r.op = 4 ∧ s.cfg.safety.contains r.target ∧ ¬ s.flag Fld.JC_PWR_STATUS_MAINT_STRAP then some 6
  else if r.op = 4 ∧ s.forcesDirect r.target r.mask then some 7
  else if (r.op = 3 ∨ r.op = 4) ∧ !isForced forces (r.op - 3) r.target ∧ 64 ≤ forces.length then some 8
  else none

/-- The forced words after a record (R144): a force merges into its word's mask; a remove record clears its bits, and a word with none left is
freed. -/
def forcesAfter (r : ChgRec) (forces : List Forced) : List Forced :=
  if r.op = 3 ∨ r.op = 4 then
    let old := (forces.find? (fun f => f.img == r.op - 3 && f.word == r.target)).elim 0 (fun f => f.mask)
    { img := r.op - 3, word := r.target, mask := old ||| r.mask } :: forces.filter (fun f => !(f.img == r.op - 3 && f.word == r.target))
  else if r.op = 5 ∨ r.op = 6 then
    (forces.map (fun f => if f.img == r.op - 5 && f.word == r.target then { f with mask := f.mask &&& ~~~r.mask } else f)).filter
      (fun f => f.mask != 0)
  else forces

/-- The code of the first failing record of a block (R141). -/
def State.chgCheckAll (s : State) : List ChgRec → List Forced → Option Nat
  | [], _ => none
  | r :: rs, f =>
    match s.chgCheck r f with
    | some c => some c
    | none => s.chgCheckAll rs (forcesAfter r f)

/-- The words forced now, taken from the Treadle of the first voting lane. -/
def State.forcedWords (s : State) : List Forced :=
  let l := s.firstVoting.getD .A
  ((List.range 64).filter (fun n => s.flag (Fld.TRD_FORCE_n_LOC_ACTIVE l n))).map
    (fun n => { img := s.rd (Fld.TRD_FORCE_n_LOC_IMG l n), word := s.rd (Fld.TRD_FORCE_n_LOC_WORD l n), mask := s.reg (Reg.TRD_FORCE_n_MASK l n) })

/-- Submission of the block in CHG_DATA (R141): rejected with its code, or sent to every lane and shown BUSY. -/
def State.submitChange (s : State) : State :=
  let b := s.chgBlock
  let reject (c : Nat) : State := (s.wr Fld.UPD_CHG_STATUS_RESULT c).wr Fld.UPD_CHG_STATUS_SEQ b.seq
  if s.chg.block.isSome then s.wr Fld.UPD_CHG_STATUS_RESULT 9
  else if b.recs.length = 0 ∨ 16 < b.recs.length then reject 2
  else match s.chgCheckAll b.recs s.forcedWords with
    | some c => reject c
    | none =>
      ((({ s with chg := { s.chg with block := some b, announced := false, acks := Tri.all false, since := s.cyc.k } } : State).set1
        Fld.UPD_CHG_STATUS_BUSY).wr Fld.UPD_CHG_STATUS_RESULT 0).wr Fld.UPD_CHG_STATUS_SEQ b.seq

/-- CHG_SUBMIT (R141). -/
def execChgSubmit (i : Initiator) (w : Word) (s : State) : Host.Outcome State Fault Refusal :=
  .next (s.regCmd i Reg.UPD_CHG_CTRL w (fun t => t.submitChange))

/-- The lanes that must stage a block: those in VOTING and PROBATION (R142). -/
def State.stagers (s : State) : List Lane := lanes.filter (fun l => s.member l == Mbr.voting || s.member l == Mbr.probation)

/-- CHANGE_BLOCK_STAGED (R142): the lane's Treadle stages the block and its acknowledgement arrives. -/
def execChangeBlockStaged (l : Lane) (s : State) : Host.Outcome State Fault Refusal :=
  .next (match s.chg.block with
    | some b =>
      if s.treadleOn l then
        ({ s with chg := { s.chg with acks := s.chg.acks.put l true } } : State).modLn l (fun n => { n with staged := some b })
      else s
    | none => s)

/-- CHANGE_STAGE_TIMEOUT (R141): 8 cycles after submission a block that is not staged by every VOTING and PROBATION lane, and not yet
announced, is rejected with 0xA and nothing of it is applied. -/
def execChangeStageTimeout (s : State) : Host.Outcome State Fault Refusal :=
  .next (match s.chg.block with
    | some b =>
      let _ := b
      if s.chg.since + 8 ≤ s.cyc.k ∧ s.chg.announced = false ∧ ¬ s.stagers.all (fun l => s.chg.acks.get l) then
        lanes.foldl (fun t l => t.modLn l (fun n => { n with staged := none }))
          (({ s with chg := { s.chg with block := none } } : State).wr Fld.UPD_CHG_STATUS_BUSY 0 |>.wr Fld.UPD_CHG_STATUS_RESULT 0xA)
      else s
    | none => s)

/-- Apply one record in a lane (R140, R144, R145). -/
def State.applyRec (s : State) (l : Lane) (r : ChgRec) : State :=
  let v := BitVec.ofNat 32 r.value.toNat
  match r.op with
  | 1 =>
    match s.cfg.vars.find? (fun d => d.id == r.target) with
    | some d => s.lanePut l d.addr (leBytes d.width r.value.toNat)
    | none => s
  | 2 => s.modLn l (fun n => { n with pub := n.pub.putWord (4 * r.target) v, work := n.work.putWord (4 * r.target) v })
  | 3 => s.addForce l 0 r.target r.mask v
  | 4 => s.addForce l 1 r.target r.mask v
  | 5 => s.dropForce l 0 r.target r.mask
  | 6 => s.dropForce l 1 r.target r.mask
  | _ => s

/-- Each Treadle applies its staged block in the cycle whose image first shows the block's SEQ (R142). -/
def State.applyStaged (s : State) (l : Lane) : State :=
  match (s.ln l).staged with
  | some b =>
    if s.chg.announced ∧ s.chg.apply = b.seq then
      ((b.recs.foldl (fun t r => t.applyRec l r) s).wr (Fld.TRD_STATUS_CHG_SEQ l) b.seq).modLn l (fun n => { n with staged := none })
    else s
  | none => s

/-- Whether an op 0x02 of a block meets a word that is forced at its turn (R145). -/
def meetsForce : List ChgRec → List Forced → Bool
  | [], _ => false
  | r :: rs, f => (r.op == 2 && isForced f 1 r.target) || meetsForce rs (forcesAfter r f)

/-- The Welt record of an applied block and its result (R145, R146): SEQ, record count, and FORCED where an op 0x02 met a forced word. -/
def State.recordChange (s : State) (b : ChgBlock) (forced : Bool) : State :=
  ((({ s with chg := { s.chg with block := none, announced := false } } : State).wr Fld.UPD_CHG_STATUS_BUSY 0).wr
    Fld.UPD_CHG_STATUS_RESULT 1).weltEvent 0x0F 0x23 (b.seq + b.recs.length * 2 ^ 16 + b2n forced * 2 ^ 24)

/-! ### Retained variables -/

/-- The retained region of a lane (R147). -/
def State.retained (s : State) (l : Lane) : List Byte := s.laneBytes l s.cfg.retBase s.cfg.retSize

/-- A lane captures its retained region for the junction (R148, R149). -/
def State.captureRet (s0 : State) (l : Lane) (incomplete : Bool) : State :=
  let r := s0.checkRange (.lane l) 5 s0.cfg.retBase s0.cfg.retSize
  let s := r.1
  if !r.2 then s else
  { s with chg := { s.chg with capture := s.chg.capture.put l (some (s.retained l)), capIncomplete := s.chg.capIncomplete || incomplete,
                               capCycle := s.rd (Fld.TRD_CYCLE_CYCLE l) } }

/-- After a power-fail warning a lane captures at its first QUIET point (R149). -/
def State.captureIfQuiet (s : State) (l : Lane) : State :=
  if s.chg.saveWarn && s.quiet l && !(s.ln l).pfCaptured && s.votes l then
    (s.captureRet l false).modLn l (fun n => { n with pfCaptured := true })
  else s

/-- Every Treadle stops releases and drops its notices (R149). -/
def State.haltReleases (s : State) : State :=
  lanes.foldl (fun t l => ((List.range 16).foldl (fun u n => u.wr (Fld.TRD_ET_n_STAT_PENDING l n) 0)
    (t.set1 (Fld.TRD_STATUS_HALT_REL l))).modLn l (fun n => { n with notices := [], inbox := [] })) s

/-- The retained capture begins, at once in a lane that is QUIET (R149). -/
def State.beginCapture (s : State) : State :=
  let s1 := lanes.foldl (fun t l => t.modLn l (fun n => { n with pfCaptured := false })) s
  lanes.foldl (fun t l => t.captureIfQuiet l)
    ({ s1 with chg := { s1.chg with saveWarn := true, capture := Tri.all none, capIncomplete := false } } : State)

/-- A write of TRD.DONE (R131, R149): one that does not name the running task is ignored. -/
def State.doneCmd (s : State) (l : Lane) (t : Nat) : State :=
  if (s.ln l).curTask = some t then (s.taskDone l t).captureIfQuiet l else s

/-- DONE (R131, R149). -/
def execDone (i : Initiator) (w : Word) (s : State) : Host.Outcome State Fault Refusal :=
  .next (s.laneCmd i (fun l => s.regCmd i (Reg.TRD_DONE l) w (fun t => t.doneCmd l (wbits w (Fld.TRD_DONE_TASK l)))))

/-- RETAINED_SAVE_DUE (R148): every RET_PERIOD cycles, never when it is 0. -/
def execRetainedSaveDue (s : State) : Host.Outcome State Fault Refusal :=
  .next (if s.cfg.retPeriod ≠ 0 ∧ s.phase = Phase.run ∧ s.cyc.k % s.cfg.retPeriod = 0 then { s with chg := { s.chg with saveDue := true } } else s)

/-- The capture of a due periodic save at a commit instant (R149): by every VOTING lane that is QUIET, when at least two are, and never while
a readmission is in FINAL. -/
def State.periodicCapture (s : State) : State :=
  let ready := lanes.filter (fun l => s.votes l && s.quiet l)
  if s.chg.saveDue && decide (2 ≤ ready.length) && s.rd Fld.VT_READMIT_STATUS_PHASE != 3 then
    ready.foldl (fun t l => t.captureRet l false) { s with chg := { s.chg with saveDue := false, capture := Tri.all none, capIncomplete := false } }
  else s

/-- The bitwise majority of three bytes. -/
def maj3 (a b c : Byte) : Byte := (a &&& b) ||| (b &&& c) ||| (a &&& c)

/-- The bitwise majority of three copies. -/
def majBytes : List Byte → List Byte → List Byte → List Byte
  | a :: as, b :: bs, c :: cs => maj3 a b c :: majBytes as bs cs
  | _, _, _ => []

/-- Two copies word by word: the common word, or the first copy's where they differ, and the number of differing words (R148). -/
def pairBytes : Nat → List Byte → List Byte → List Byte × Nat
  | 0, a, _ => (a, 0)
  | f + 1, a, b =>
    if a = [] then ([], 0)
    else
      let r := pairBytes f (a.drop 4) (b.drop 4)
      (a.take 4 ++ r.1, r.2 + b2n (a.take 4 != b.take 4))

/-- The saved data and the difference count from the captured copies (R148); `m` is the service master. -/
def voteCopies (c : Tri (Option (List Byte))) (m : Option Lane) : List Byte × Nat :=
  match lanes.filterMap (fun l => (c.get l).map (fun d => (l, d))) with
  | [(_, a), (_, b), (_, d)] => (majBytes a b d, 0)
  | [(x, a), (y, b)] => if m = some y ∧ x ≠ y then pairBytes b.length b a else pairBytes a.length a b
  | [(_, a)] => (a, 0)
  | _ => ([], 0)

/-- The header of an MRAM copy without its check (R148): save sequence, CYCLE, version, size, INCOMPLETE and difference count, filled with zeros
to 60 bytes (DESIGN CHOICE, log 88). -/
def MramCopy.header (c : MramCopy) : List Byte :=
  leBytes 4 c.seq ++ leBytes 4 c.cycle ++ leBytes 4 c.version ++ leBytes 4 c.size ++ leBytes 4 (b2n c.incomplete) ++ leBytes 4 c.diffs ++
    List.replicate 36 0

/-- The CRC-32C over header and data (R148). -/
def MramCopy.check (c : MramCopy) : Word := crc32c (c.header ++ c.data)

/-- The vote of the captured copies goes into the alternate MRAM copy with its header (R148). -/
def State.saveCopies (s : State) : State :=
  if lanes.all (fun l => (s.chg.capture.get l).isNone) then s
  else
    let r := voteCopies s.chg.capture s.svcMaster
    let seq := s.chg.saveSeq + 1
    let c0 : MramCopy := { valid := true, seq := seq, cycle := s.chg.capCycle, version := leNat (r.1.take 4), size := r.1.length
                           incomplete := s.chg.capIncomplete, diffs := r.2, crc := 0, data := r.1 }
    let cp := { c0 with crc := c0.check }
    let c1 := { s.chg with capture := Tri.all none, capIncomplete := false, saveSeq := seq, retSaved := s.chg.capCycle }
    if seq % 2 = 0 then { s with chg := c1, mramA := cp } else { s with chg := c1, mramB := cp }

/-- RETAINED_CAPTURE_DONE (R148). -/
def execRetainedCaptureDone (s : State) : Host.Outcome State Fault Refusal := .next s.saveCopies

/-- PF_CAPTURE_TIMEOUT (R149, R482): a lane not QUIET 5 ms after the warning, or after sleep entry began, captures with INCOMPLETE. -/
def execPfCaptureTimeout (l : Lane) (s : State) : Host.Outcome State Fault Refusal :=
  .next (match s.pfWarnAt.orElse (fun _ => s.st.sleepFrom) with
    | some t =>
      if t + 5000000 ≤ s.clk.uptime && !(s.ln l).pfCaptured && s.votes l then
        (s.captureRet l true).modLn l (fun n => { n with pfCaptured := true })
      else s
    | none => s)

/-- The retained copy a warm restart restores (R150): the higher save sequence among those whose check passes and of the declared size. -/
def State.bestRetained (s : State) : Option MramCopy :=
  let ok (c : MramCopy) : Bool := c.valid && c.crc == c.check && c.size == s.cfg.retSize
  match ok s.mramA, ok s.mramB with
  | true, true => some (if s.mramA.seq < s.mramB.seq then s.mramB else s.mramA)
  | true, false => some s.mramA
  | false, true => some s.mramB
  | false, false => none

end Sys2Proof.Machine
end

