-- ==== Sys2Proof/Machine/Halt.lean ====
section
/-! DEFINITION. The halt of a hart by its debug module and its resumption (R85, R87 to R90), and the start of a hart at an address. -/

namespace Sys2Proof.Machine

/-- The registers of a hart's debug state (RISC-V debug specification, R85). -/
abbrev csrDcsr : Nat := 0x7B0
abbrev csrDpc : Nat := 0x7B1

/-- The word kept for a CSR. -/
def HartSt.csrRaw (x : HartSt) (n : Nat) : BitVec 64 := Store.get xZero x.csr n

/-- Keep a word for a CSR. -/
def HartSt.setCsr (x : HartSt) (n : Nat) (v : BitVec 64) : HartSt := { x with csr := Store.put xZero x.csr n v }

/-- Whether a trigger is armed: it matches in some mode. -/
def trigArmed (t : Trigger) : Bool := t.m || t.u

/-- A hart without triggers of action 1 and without the ebreak bits of dcsr (R86). -/
def HartSt.disarm (h : HartSt) : HartSt :=
  let y : HartSt := { h with triggers := h.triggers.map (fun (t : Trigger) => if t.action == 1 then { t with m := false, u := false } else t) }
  y.setCsr csrDcsr (h.csrRaw csrDcsr &&& ~~~0x9000#64)

/-- mcycle: it counts lc, one per ns, and stands while the hart is halted (R66, R85). -/
def HartSt.cycles (x : HartSt) (uptime : Nat) : Nat :=
  match x.cycStop with
  | some v => v
  | none => (((uptime : Int) + x.cycOfs) % (2 ^ 64 : Int)).toNat

/-- LC.LANE_STATUS.H0_HALTED or H1_HALTED (R91). -/
def haltedFld (l : Lane) : Hart → Field
  | .h0 => Fld.LC_LANE_STATUS_H0_HALTED l
  | .h1 => Fld.LC_LANE_STATUS_H1_HALTED l

/-- CMP.STATUS.H0_COMPARED or H1_COMPARED (R92). -/
def comparedFld (l : Lane) : Hart → Field
  | .h0 => Fld.CMP_STATUS_H0_COMPARED l
  | .h1 => Fld.CMP_STATUS_H1_COMPARED l

/-- Whether a lane is in a state that a debug halt leaves or keeps (R83): RUNNING, SPLIT_HALT, SPLIT_RUN, REPLAY_HALT or REPLAY_CHECK. -/
def State.debuggable (s : State) (l : Lane) : Bool :=
  let x := s.ex l
  x == Exec.running || x == Exec.splitHalt || x == Exec.splitRun || x == Exec.replayHalt || x == Exec.replayCheck

/-- A hart enters debug mode with this dcsr.cause (R87 to R89): dpc and dcsr.prv keep its pc and mode, and its counters stand. In split mode
comparison of the hart ends and the lane records cause 0x0B; the image not yet handed over is not handed over, and a lane that hands over
images sends its halt notice. -/
def State.haltHart (s : State) (l : Lane) (h : Hart) (cause : Nat) : State :=
  let x := s.hart l h
  if x.halted then s
  else
    let d := (x.csrRaw csrDcsr &&& ~~~0x1C3#64) ||| BitVec.ofNat 64 (64 * cause + if x.machine then 3 else 0)
    let y : HartSt := { (x.setCsr csrDpc x.pc).setCsr csrDcsr d with
      halted := true, step := false, gated := false, cycStop := some (x.cycles s.clk.uptime) }
    let tell := s.ex l == Exec.running || s.ex l == Exec.replayCheck
    let s1 := (s.setHart l h y).wr (haltedFld l h) 1 |>.modLn l (fun n =>
      { n with handover := if tell then none else n.handover, haltNotice := n.haltNotice || tell, resumeAt := none })
    if s.flag (Fld.LC_LS_CFG_DBG_MODE l) then
      let s2 := s1.set1 (Fld.LC_LANE_STATUS_REPLAY_HALT l)
      if s.debuggable l then s2.wr (Fld.LC_LANE_STATUS_EXEC l) Exec.replayHalt else s2
    else
      let s2 := ((s1.set1 (Fld.LC_LANE_STATUS_DEBUG_SPLIT l)).wr (comparedFld l h) 0).wr (Fld.LC_LANE_STATUS_IN_STEP l) 0
      let s3 := s2.recordCause l 0x0B 0
      if s.debuggable l then s3.wr (Fld.LC_LANE_STATUS_EXEC l) Exec.splitHalt else s3

/-- A halted hart resumes at dpc in the mode of dcsr.prv (R88, R90): in split mode it runs unchecked, in replay mode the lane is checked from
the next cycle on. While the other hart is still halted the lane stays in SPLIT_HALT or REPLAY_HALT (R83; DESIGN CHOICE, log 81). -/
def State.resumeHart (s : State) (l : Lane) (h : Hart) : State :=
  let x := s.hart l h
  if x.halted then
    let d := x.csrRaw csrDcsr
    let y : HartSt := { x with
      halted := false, step := bitOf d.toNat 2, pc := x.csrRaw csrDpc, machine := bitsOf d.toNat 1 0 == 3
      cycStop := none, cycOfs := (x.cycles s.clk.uptime : Int) - s.clk.uptime }
    let s1 := (s.setHart l h y).wr (haltedFld l h) 0
    if (s1.ln l).h0.halted || (s1.ln l).h1.halted then s1
    else if s.flag (Fld.LC_LS_CFG_DBG_MODE l) then
      let s2 := s1.wr (Fld.LC_LANE_STATUS_REPLAY_HALT l) 0
      if s.ex l = Exec.replayHalt then
        let s3 := (s2.wr (Fld.LC_LANE_STATUS_EXEC l) Exec.replayCheck).modLn l (fun n =>
          { n with resumeAt := some s.clk.uptime, resumeK := s.cyc.k })
        { s3 with vote := { s3.vote with agree := s3.vote.agree.put l 0 } }
      else s2
    else if s.ex l = Exec.splitHalt then s1.wr (Fld.LC_LANE_STATUS_EXEC l) Exec.splitRun
    else s1
  else s

/-- A hart starts at an address; a reset-halt request halts it at once (R85). -/
def State.startHart (s : State) (l : Lane) (h : Hart) (pc : Nat) : State :=
  let s1 := s.setHart l h ((s.hart l h).restart (BitVec.ofNat 64 pc))
  if (s.hart l h).resetHalt then s1.haltHart l h 3 else s1

end Sys2Proof.Machine
end

