-- ==== Sys2Proof/Machine/Vote.lean ====
section
/-! DEFINITION. The vote unit (chapter 04): presence, the bitwise vote, exclusion and its consequences for the debug grant and a
readmission, the hold to the safe image and the word safe latches, the messages to the FQ8s and their re-vote. -/

namespace Sys2Proof.Machine

/-! ### Exclusion -/

/-- k mod 2^32 of the running cycle. -/
def State.cycleNo (s : State) : Nat := s.cyc.k % 2 ^ 32

/-- The fields of VT.LANE_x_INFO. -/
def exclFld (l : Lane) : Field := ⟨infoKey l, 31, 24⟩
def relapseFld (l : Lane) : Field := ⟨infoKey l, 23, 20⟩
def svcRunFld (l : Lane) : Field := ⟨infoKey l, 19, 16⟩
def disWordFld (l : Lane) : Field := ⟨infoKey l, 13, 0⟩

/-- A relapse is counted, and the lane locked when the counter reaches a non-zero RELAPSE_MAX (R111). -/
def State.relapse (s : State) (l : Lane) : State :=
  let s1 := s.bump (relapseFld l)
  let m := s.rd Fld.VT_CFG_RELAPSE_MAX
  if m ≠ 0 ∧ m ≤ s1.rd (relapseFld l) then s1.setMember l Mbr.locked else s1

/-- Whether the lane entered VOTING after a readmission within the last 10 s (R111). -/
def State.freshVoter (s : State) (l : Lane) : Bool :=
  match s.vote.since.get l with
  | some t => decide (s.clk.uptime < t + 10 * giga)
  | none => false

/-- The exclusion itself (R99 to R101): state and cause, EXCLUSIONS, DIS_WORD, the Welt record and the trouble-log entry, and R79's
actions for every cause but 0x1 and 0x6. Every entry to EXCLUDED is one, from whichever state (DESIGN CHOICE, log 80). -/
def State.excludeLane (s : State) (l : Lane) (cause word : Nat) : State :=
  let s1 := ((s.setMember l Mbr.excluded).wr (causeFld l) cause).bump (exclFld l)
  let s2 := if cause = 2 ∨ cause = 3 ∨ cause = 8 then s1.wr (disWordFld l) word else s1
  let s3 := ((s2.weltEvent 4 0x10 (l.num + cause * 2 ^ 8 + word * 2 ^ 16 + s.cycleNo * 2 ^ 32)).troubleAt (causeFld l)
    [l.num, cause, word, s.cycleNo]).set1 Fld.JC_HOST_ALERT_EXCL
  let s4 : State := { s3 with vote := { s3.vote with autoAt := s3.vote.autoAt.put l (some s.cyc.k) } }
  if cause = 1 ∨ cause = 6 then s4 else s4.stopLane l

/-- The end of a readmission with its RESULT (R117). -/
def State.endReadmit (s : State) (res : Nat) : State :=
  (((((({ s with vote := { s.vote with readmit := none } } : State).wr Fld.VT_READMIT_STATUS_RESULT res).wr
    Fld.VT_READMIT_STATUS_PHASE 0).wr Fld.VT_READMIT_STATUS_RECEIVER 3).wr Fld.VT_STATUS_DONOR 3).wr Fld.VT_STATUS_READMIT_BUSY 0)

/-- A readmission ends without a rejoin: the receiver returns to EXCLUDED with cause 0x7 (R95, R117); a failure counts a relapse
(R111), an abort does not. -/
def State.failReadmit (s : State) (res : Nat) : State :=
  match s.vote.readmit with
  | none => s
  | some r =>
    let s1 := (s.endReadmit res).excludeLane r.receiver 7 0
    if res = 5 then s1 else s1.relapse r.receiver

/-- The lane gives the debug grant back (R86). -/
def State.returnGrant (s : State) (l : Lane) : State :=
  if s.vote.grant = some l then
    ({ s with vote := { s.vote with grant := none } } : State).wr (Fld.LC_DBG_STATUS_GRANT l) 0
  else s

/-- Whether a hart is halted, or a trigger of action 1 or an ebreak bit of dcsr is set in it (R86). -/
def HartSt.debugging (h : HartSt) : Bool :=
  h.halted || h.triggers.any (fun (t : Trigger) => trigArmed t && t.action == 1) || h.csrRaw csrDcsr &&& 0x9000 != 0

/-- A voting lane that no longer needs the debug grant gives it back (R86). -/
def State.settleGrant (s : State) (l : Lane) : State :=
  if s.votes l && !(s.ln l).h0.debugging && !(s.ln l).h1.debugging then s.returnGrant l else s

/-- With fewer than three lanes voting each voting lane clears its action 1 triggers and ebreak bits, refuses a request still awaiting
an answer and gives the grant back (R86). -/
def State.clearTriggers (s : State) : State :=
  if decide (s.numVoting < 3) && s.flag Fld.JC_MOD_STATUS_PERMITS then
    lanes.foldl (fun t l =>
      if t.votes l then
        let t1 := if (t.ln l).dbgReq.isSome then t.set1 (Fld.LC_DBG_STATUS_HALT_REFUSED l) else t
        ((t1.modLn l (fun n => { n with h0 := n.h0.disarm, h1 := n.h1.disarm, dbgReq := none })).set1
          (Fld.LC_DBG_STATUS_TRIG_CLEARED l)).returnGrant l
      else t) s
  else s

/-- What follows when a lane has left VOTING: the service master changes at the next boundary (R29), debug triggers are cleared (R86),
and a readmission loses its donor or its quorum (R117). -/
def State.afterLoss (s : State) (l : Lane) : State :=
  let s1 := if s.svcMaster = some l then { s with cyc := { s.cyc with svcLeft := some s.cyc.k } } else s
  let s2 := s1.clearTriggers
  match s2.vote.readmit with
  | none => s2
  | some r =>
    if r.donor = l then s2.failReadmit 3
    else if r.receiver = l then s2
    else if s2.numVoting < 2 then s2.failReadmit 2
    else s2

/-- A lane in the vote is excluded (R99 to R101, R111). -/
def State.exclude (s : State) (l : Lane) (cause word : Nat) : State :=
  let fresh := s.freshVoter l
  let s1 := s.excludeLane l cause word
  (if fresh then s1.relapse l else s1).afterLoss l

/-! ### Notices -/

/-- The membership that the vote unit tells the FQ8s: lanes VOTING whose halt notice has not arrived (R107). -/
def State.toldMember (s : State) : Tri Bool :=
  let f (l : Lane) : Bool := s.votes l && !s.vote.haltSeen.get l
  ⟨f .A, f .B, f .C⟩

/-- A membership message goes to every FQ8 at once (R107). -/
def State.sendMembership (s : State) : State :=
  let m : FqMsg := { member := s.toldMember, only := true, cmds := [], modes := [], presets := [] }
  { s with fq := s.fq.map (fun q => { q with inbox := q.inbox ++ [m] }) }

/-- The Welt record and trouble-log entry that the junction writes for a lane's fault (R78). -/
def State.recordFault (s : State) (l : Lane) (cause group time : Nat) : State :=
  (s.weltEvent (0x20 + l.num) 1 (cause + group * 2 ^ 8)).troubleAt (Fld.LC_FAULT_CAUSE_CAUSE l)
    [cause, group, time / 2 ^ 32 % 2 ^ 32, time % 2 ^ 32]

/-- A notice that comes before a lane's hand-over completes, or in the jc in which it completes, makes the lane absent (R81, R93). -/
def State.noticeAbsent (s : State) (l : Lane) : State :=
  let s1 := s.modLn l (fun n => { n with handover := none })
  if s.cyc.comDone && !s.cyc.vrDone && decide (s.clk.net < s.instant s.tCom + 4) then
    let p := s.vote.present.put l false
    ({ s1 with vote := { s1.vote with present := p, hand := s1.vote.hand.put l none } } : State).wr Fld.VT_STATUS_PRESENT
      (b2n p.a + 2 * b2n p.b + 4 * b2n p.c)
  else s1

/-- The effect of a lane's withdrawal notice by its membership state (R95). -/
def State.withdraw (s0 : State) (l : Lane) : State :=
  let s := s0.noticeAbsent l
  let m := s.member l
  if m = Mbr.voting then s.exclude l 1 0
  else if m = Mbr.transfer then s.failReadmit 4
  else if m = Mbr.probation then
    let s1 := s.excludeLane l 1 0
    match s1.vote.readmit with
    | some r => if r.receiver = l then (s1.endReadmit 4).relapse l else s1
    | none => s1
  else if m = Mbr.observed ∨ m = Mbr.halted then s.excludeLane l 1 0
  else s

/-- HALT_NOTICE (R87, R88, R107): the lane is marked not VOTING at once and moves to HALTED at the next commit instant; in split mode the
junction writes the record of R78 from the notice. A lane in PROBATION keeps its membership: its hand-over is missing at the next commit, and
the readmission fails there (DESIGN CHOICE, log 81). -/
def execHaltNotice (l : Lane) (s : State) : Host.Outcome State Fault Refusal :=
  .next (if (s.ln l).haltNotice then
      let s1 := s.modLn l (fun n => { n with haltNotice := false })
      let s2 := if s.flag (Fld.LC_LS_CFG_DBG_MODE l) then s1
        else s1.recordFault l 0x0B 0 (s.rd64 (Reg.LC_FAULT_TIME_HI l) (Reg.LC_FAULT_TIME_LO l))
      let s3 := if s.member l = Mbr.observed then (s2.setMember l Mbr.halted).wr (causeFld l) 6 else s2
      ({ s3 with vote := { s3.vote with haltSeen := s3.vote.haltSeen.put l (s.votes l) } } : State).sendMembership
    else s)

/-! ### The commit instant -/

/-- Whether a lane is present (R93): VOTING, its hand-over complete with every word passing its check, and no notice before. -/
def State.isPresent (s : State) (l : Lane) : Bool :=
  s.votes l && !s.vote.haltSeen.get l &&
  (match s.vote.hand.get l with
   | some h => !h.bad
   | none => false)

/-- What a lane's absence does at the commit instant (R87, R94): a lane whose halt notice came moves to HALTED with cause 0x6; a VOTING
lane absent without a notice, on its way included, is excluded with cause 0x4 or 0x5. -/
def State.absence (s : State) (l : Lane) : State :=
  if s.votes l then
    if s.vote.haltSeen.get l then ((s.setMember l Mbr.halted).wr (causeFld l) 6).afterLoss l
    else if s.isPresent l || (s.ln l).withdrawal.isSome || (s.ln l).haltNotice then s
    else s.exclude l (if (s.vote.hand.get l).isSome then 5 else 4) 0
  else s

/-- The FQ8s latch the lane frames arrived, of lanes that the membership in force marks VOTING (R37, R107). -/
def State.latchFrames (s : State) : State :=
  { s with fq := s.fq.map (fun q =>
      let ok (l : Lane) : Bool := match q.member with
        | some m => m.get l
        | none => false
      let f (l : Lane) : Option Nat := if ok l then q.arrived.get l else none
      { q with frames := ⟨f .A, f .B, f .C⟩, arrived := Tri.all none }) }

/-- The vote unit's part of the commit instant (R36, R37, R93, R94): hand-overs that are complete arrive, presence is decided, absent
lanes are dealt with, and the frames are latched. -/
def State.commitVote (s : State) : State :=
  let hand (l : Lane) : Option HandOver := match (s.ln l).handover with
    | some bad => some { img := (s.ln l).held.getD [], bad := bad }
    | none => none
  let s1 : State := { s with vote := { s.vote with hand := ⟨hand .A, hand .B, hand .C⟩ } }
  let pres : Tri Bool := ⟨s1.isPresent .A, s1.isPresent .B, s1.isPresent .C⟩
  let s2 : State := { s1 with vote := { s1.vote with present := pres } }
  let s3 := lanes.foldl (fun t l => (t.absence l).modLn l (fun n => { n with handover := none })) s2
  (({ s3 with vote := { s3.vote with haltSeen := Tri.all false } } : State).wr Fld.VT_STATUS_PRESENT
    (b2n pres.a + 2 * b2n pres.b + 4 * b2n pres.c)).latchFrames

/-- How many lanes were present at the last commit. -/
def State.numPresent (s : State) : Nat := (lanes.filter (fun l => s.vote.present.get l)).length

/-! ### The vote -/

/-- The words in which two images differ, of the first `n`. -/
def disWords (a b : Mem) (n : Nat) : List Nat := (List.range n).filter (fun w => a.word (4 * w) != b.word (4 * w))

/-- The bitwise majority of three images, word by word (R96). -/
def majImage (a b c : Mem) (n : Nat) : Mem :=
  (List.range n).foldl (fun m w =>
    let x := a.word (4 * w)
    let y := b.word (4 * w)
    let z := c.word (4 * w)
    m.putWord (4 * w) ((x &&& y) ||| (y &&& z) ||| (x &&& z))) []

/-- The number of words of the output image. -/
def State.outWords (s : State) : Nat := s.cfg.sOut / 4

/-- The image that a lane handed over in this cycle. -/
def State.copyOf (s : State) (l : Lane) : Mem :=
  match s.vote.hand.get l with
  | some h => h.img
  | none => []

/-- The image with the safe value of some words. -/
def State.withSafe (s : State) (m : Mem) (ws : List Nat) : Mem :=
  ws.foldl (fun m w => m.putWord (4 * w) (Mem.word s.cfg.safeImg (4 * w))) m

/-- Set a word's safe latch (R104). -/
def State.latchWord (s : State) (w : Nat) : State :=
  if w ∈ s.vote.latched then s
  else ((({ s with vote := { s.vote with latched := s.vote.latched ++ [w] } } : State).set1 Fld.VT_STATUS_WORD_LATCHED).weltEvent 4 0x11
    (w * 2 ^ 16 + s.cycleNo * 2 ^ 32)).troubleAt Fld.VT_STATUS_WORD_LATCHED [w, s.cycleNo]

/-- VT.CFG.SAFE_HOLD, h of R103 and R104. -/
def State.safeHold (s : State) : Nat := s.rd Fld.VT_CFG_SAFE_HOLD

/-- A voted image stands (R96, R102, R104): `img` is the voted image, `dis` the words in 2oo2 disagreement, `any` those in which any lane
disagreed. Words that complete h cycles
of disagreement are latched; a word in disagreement repeats its last voted value, or carries its safe value where it has none. -/
def State.standing (s : State) (img : Mem) (dis any : List Nat) (mode : Nat) : State :=
  let h := s.safeHold
  let before (w : Nat) : Nat := (lookupN s.vote.disRun w).getD 0
  let due := (s.vote.disRun.filter (fun x => decide (0 < h ∧ h ≤ x.2))).map (·.1) ++ (if h = 0 then dis else [])
  let s1 := due.foldl (fun t w => t.latchWord w) s
  let last := dis.foldl (fun m w => m.putWord (4 * w) (s.vote.last.word (4 * w))) img
  let noVote := if s.vote.voted then s.vote.noVote.filter (fun w => dis.contains w) else dis
  let shown := s.withSafe last (noVote ++ s1.vote.latched)
  let v := { s1.vote with
    voted := true, lastK := s.cyc.k, last := last, noVote := noVote, disNow := dis, disAny := any, out := shown
    disRun := (dis.filter (fun w => !due.contains w)).map (fun w => (w, before w + 1)) }
  let s2 := ((({ s1 with vote := v } : State).wr Fld.VT_STATUS_MODE mode).wr Fld.VT_STATUS_SAFE_ALL 0).wr Fld.VT_STATUS_HOLD_LEFT 0
  let s3 := if dis = [] then s2 else s2.bump Fld.VT_DIS2_COUNT_COUNT
  if mode = 1 then s3.bump Fld.VT_CYC_2OO2_COUNT else s3

/-- A cycle with fewer than two lanes present, or that counts as one (R97, R103): the last image is held for h cycles from k0, then the safe
image applies. -/
def State.notStanding (s : State) : State :=
  let k0 := s.vote.k0.getD s.cyc.k
  let s1 : State := { s with vote := { s.vote with k0 := some k0, disNow := List.range s.outWords, disAny := List.range s.outWords } }
  let left := k0 + s.safeHold - s.cyc.k
  if s.vote.voted && decide (0 < left) && !s.flag Fld.VT_STATUS_SAFE_ALL then
    ((s1.wr Fld.VT_STATUS_MODE 2).wr Fld.VT_STATUS_HOLD_LEFT left).bump Fld.VT_CYC_HOLD_COUNT
  else
    ((({ s1 with vote := { s1.vote with out := s.cfg.safeImg } } : State).wr Fld.VT_STATUS_MODE 3).wr
      Fld.VT_STATUS_HOLD_LEFT 0).set1 Fld.VT_STATUS_SAFE_ALL

/-- The service-word part of the vote for one lane (R97, R98): SVC_RUN counts or returns to zero, and a lane at SVC_LIMIT is excluded. -/
def State.serviceRun (s : State) (l : Lane) (service : List Nat) : State :=
  match service with
  | [] => s.wr (svcRunFld l) 0
  | w :: _ =>
    let s1 := s.bump (svcRunFld l)
    if s1.votes l ∧ s.rd Fld.VT_CFG_SVC_LIMIT ≤ s1.rd (svcRunFld l) then s1.exclude l 3 w else s1

/-- The vote of three lanes (R96 to R98): lanes that disagree in a safety word are excluded, with cause 0x8 where another lane disagrees in
the same one; the image stands unless two or three lanes are. A lane already out keeps its cause (R95). A lane whose notice or SVC_RUN
excludes it in the cycle does not count among those two or three (DESIGN CHOICE, log 80). -/
def State.voteThree (s : State) : State :=
  let n := s.outWords
  let img := majImage (s.copyOf .A) (s.copyOf .B) (s.copyOf .C) n
  let dis (l : Lane) : List Nat := disWords (s.copyOf l) img n
  let safety (l : Lane) : List Nat := (dis l).filter (fun w => s.cfg.safety.contains w)
  let service (l : Lane) : List Nat := (dis l).filter (fun w => !s.cfg.safety.contains w)
  let shared (l : Lane) : List Nat := (safety l).filter (fun w => lanes.any (fun o => o != l && (safety o).contains w))
  let bad := lanes.filter (fun l => safety l != [])
  let s1 := lanes.foldl (fun t l =>
    match shared l, safety l with
    | w :: _, _ => if t.votes l then t.exclude l 8 w else t
    | [], w :: _ => if t.votes l then t.exclude l 2 w else t
    | [], [] => t.serviceRun l (service l)) s
  let s2 := lanes.foldl (fun t l => if safety l != [] && service l == [] then t.wr (svcRunFld l) 0 else t) s1
  if bad.length < 2 then s2.standing img [] (dis .A ++ dis .B ++ dis .C) 0 else s2.notStanding

/-- The vote of two lanes (R102, R104). -/
def State.voteTwo (s : State) : State :=
  match lanes.filter (fun l => s.vote.present.get l) with
  | [x, y] =>
    let d := disWords (s.copyOf x) (s.copyOf y) s.outWords
    s.standing (s.copyOf x) d d 1
  | _ => s

/-- The vote of the cycle (R96, R103): once a cycle k0 has come the hold goes on, and the safe image stays until the next start. -/
def State.voteCycle (s : State) : State :=
  if s.vote.k0.isSome then s.notStanding
  else if s.numPresent = 3 then s.voteThree
  else if s.numPresent = 2 then s.voteTwo
  else s.notStanding

/-! ### Lanes compared and not counted -/

/-- Whether a lane's hand-over of this cycle agrees with the voted image in every word; none where no good hand-over came. The image compared
with is the one in force, words in 2oo2 disagreement and latched words included (R90, R110; DEDUCED, log 79). -/
def State.agrees (s : State) (l : Lane) : Option Bool :=
  match s.vote.hand.get l with
  | some h => if h.bad then none else some (disWords h.img s.vote.out s.outWords == [])
  | none => none

/-- The first voting lane is another than the service master: it becomes service master at the next cycle boundary (R29). -/
def State.seekMaster (s : State) : State :=
  if s.firstVoting = s.svcMaster then s else { s with cyc := { s.cyc with svcLeft := some s.cyc.k } }

/-- A lane enters VOTING; `fresh` after a readmission (R110, R111). -/
def State.enterVoting (s : State) (l : Lane) (fresh : Bool) : State :=
  let s1 := (s.setMember l Mbr.voting).seekMaster
  let v := { s1.vote with since := s1.vote.since.put l (if fresh then some s.clk.uptime else none), agree := s1.vote.agree.put l 0 }
  ({ s1 with vote := v } : State).settleGrant l

/-- PROBATION (R110, R117): after VT.CFG.PROBATION agreeing cycles the lane votes and the readmission is complete; a disagreement ends it
with RESULT 0x9, and so does a hand-over that is missing or bad (DESIGN CHOICE, log 79). -/
def State.probation (s : State) (l : Lane) : State :=
  if s.agrees l = some true then
    let n := s.vote.agree.get l + 1
    if s.rd Fld.VT_CFG_PROBATION ≤ n then (s.enterVoting l true).endReadmit 1
    else { s with vote := { s.vote with agree := s.vote.agree.put l n } }
  else s.failReadmit 9

/-- OBSERVED (R90): agreeing cycles count up to the 8 after which the lane rejoins; a disagreement faults the lane with cause 0x01. A cycle
without a good hand-over is no agreeing one, and the count begins anew (DESIGN CHOICE, log 79). -/
def State.observe (s : State) (l : Lane) : State :=
  match s.agrees l with
  | some true => { s with vote := { s.vote with agree := s.vote.agree.put l (s.vote.agree.get l + 1) } }
  | some false => s.laneFault l 1 0
  | none => { s with vote := { s.vote with agree := s.vote.agree.put l 0 } }

/-- The compared lanes after the vote of a cycle; nothing is compared once fewer than two lanes were present, for no image is voted any more
(DESIGN CHOICE, log 79). -/
def State.compareLanes (s : State) : State :=
  if s.vote.k0.isSome then s
  else lanes.foldl (fun t l =>
    if t.member l = Mbr.probation then t.probation l
    else if t.member l = Mbr.observed ∧ t.ex l = Exec.replayCheck ∧ (t.ln l).resumeK < t.cyc.k then t.observe l
    else t) s

/-! ### The output stage -/

/-- A channel's bit in an image (R107): the bit that FIO.CH_n_MAP names. -/
def State.chBit (s : State) (m : Mem) (ch : Nat) : Bool :=
  bitOf (m.word (4 * s.rd (Fld.FIO_CH_n_MAP_WORD ch))).toNat (s.rd (Fld.FIO_CH_n_MAP_BIT ch))

/-- The safe value of a channel: its bit in the safe image. -/
def State.safeBit (s : State) (ch : Nat) : Bool := s.chBit s.cfg.safeImg ch

/-- Whether a channel is direct-mapped (R42). -/
def State.isDirect (s : State) (ch : Nat) : Bool := s.cfg.direct.any (fun d => d.ch == ch)

/-- Whether a channel is set as output. -/
def State.isOutput (s : State) (ch : Nat) : Bool := s.rd (Fld.FIO_CH_n_CFG_DIR ch) == 2

/-- The mode of a channel in the vote unit's message (R103, R104, R107, R109, R319): 0 normal, 1 hold, 3 safe. -/
def State.chMode (s : State) (ch : Nat) : Nat :=
  let w := s.rd (Fld.FIO_CH_n_MAP_WORD ch)
  if s.flag Fld.VT_STATUS_SAFE_ALL || (s.plane.told && s.flag (Fld.FIO_CH_n_CFG_PERMIT_REQ ch)) then 3
  else if s.rd Fld.VT_STATUS_MODE = 2 then 1
  else if s.vote.latched.contains w || s.vote.noVote.contains w then 3
  else match lookupN s.vote.dHold ch with
    | some n => if s.safeHold ≤ n then 3 else 1
    | none => if s.vote.disNow.contains w then 1 else 0

/-- The channels of an FQ8. -/
def fqChannels (q : Nat) : List Nat := (List.range 8).map (fun j => 8 * q + j)

/-- The vote unit's message to an FQ8 at t_out (chapter 04, The output stage); after a takeover preset and safe modes stay until the t_out of
the first cycle whose input image the unit sampled itself (R347). -/
def State.outMessage (s : State) (q : Nat) : FqMsg :=
  let m : FqMsg := { member := s.toldMember, only := false, cmds := (fqChannels q).map (s.chBit s.vote.out)
                     modes := (fqChannels q).map s.chMode, presets := List.replicate 8 false }
  match s.dx.hold with
  | some h =>
    if s.cyc.k < h.until_ then
      { m with modes := (fqChannels q).map (fun n => getAt 3 h.modes n), presets := (fqChannels q).map (fun n => getAt false h.presets n) }
    else m
  | none => m

/-- The lanes counted for a channel (R107): bit 0 LANE_A, bit 1 LANE_B, bit 2 LANE_C. -/
def FqSt.countedMask (q : FqSt) : Nat :=
  b2n q.frames.a.isSome + 2 * b2n q.frames.b.isSome + 4 * b2n q.frames.c.isSome

/-- The command bits of the lanes counted for channel j of an FQ8 (R107). -/
def FqSt.counted (q : FqSt) (j : Nat) : List Bool :=
  lanes.filterMap (fun l => (q.frames.get l).map (fun w => bitOf w j))

/-- The re-vote of the counted lanes: none where fewer than two are counted or two disagree (R107). -/
def reVote : List Bool → Option Bool
  | [a, b, c] => some ((a && b) || (b && c) || (a && c))
  | [a, b] => if a = b then some a else none
  | _ => none

/-- One channel at t_out (R107, R109); `safe` is its safe value, `direct` whether it is direct-mapped: its voted bit is then compared with the
direct command and not applied (R48). Hold, preset and safe mode reach a direct-mapped channel too: after a takeover one of a hot word takes
the preset of R347 (DESIGN CHOICE, log 84). -/
def FqSt.apply (q : FqSt) (m : FqMsg) (base j : Nat) (safe direct : Bool) : FqSt :=
  let cur := getAt false q.cmd j
  let put (b : Bool) : FqSt := { q with cmd := setAt q.cmd j b }
  match getAt 3 m.modes j with
  | 0 =>
    if getAt false q.latch j then put safe
    else if direct then { q with differs := setAt q.differs j (getAt false m.cmds j != cur) }
    else
      let voted := getAt false m.cmds j
      let r := reVote (q.counted j)
      let cmd := r.getD cur
      let rep (mis : Bool) : FqReport := { ch := base + j, counted := q.countedMask, mismatch := mis, direct := false }
      let q1 := if r.isNone then { q with reports := q.reports ++ [rep false] } else q
      if cmd = voted then { q1 with cmd := setAt q1.cmd j cmd }
      else { q1 with cmd := setAt q1.cmd j safe, latch := setAt q1.latch j true, reports := q1.reports ++ [rep true] }
  | 1 => if getAt false q.latch j then put safe else q
  | 2 => put (getAt false m.presets j)
  | _ => put safe

/-- An FQ8 at t_out (R107): every output channel follows the message and the frames latched at t_com; the membership it carries is the one
for the next cycle. -/
def State.fqOutput (s : State) (q : Nat) : State :=
  let x := getAt FqSt.none s.fq q
  if x.lost then s
  else
    let m := s.outMessage q
    let y := (List.range 8).foldl (fun y j =>
      if s.isOutput (8 * q + j) then y.apply m (8 * q) j (s.safeBit (8 * q + j)) (s.isDirect (8 * q + j)) else y) x
    { s with fq := setAt s.fq q { y with inbox := y.inbox ++ [m], msg := some m } }

/-- MEMBERSHIP_MESSAGE (R107): FQ_q takes the next message on its field control link. -/
def execMembershipMessage (q : Fin 4) (s : State) : Host.Outcome State Fault Refusal :=
  .next (let x := getAt FqSt.none s.fq q
    match x.inbox with
    | [] => s
    | m :: ms => if x.lost then s else { s with fq := setAt s.fq q { x with inbox := ms, member := some m.member } })

/-- The vote unit takes a report (R47, R107, R109): a trouble-log entry; a mismatch counts in FQ_MISMATCH and writes a Welt record; a failed
direct re-vote puts the channel in hold mode. -/
def State.takeReport (s : State) (q : Nat) (r : FqReport) : State :=
  if r.direct then
    if (lookupN s.vote.dHold r.ch).isSome then s
    else { s with vote := { s.vote with dHold := setN s.vote.dHold r.ch 0 } }
  else if r.mismatch then
    (s.bump Fld.VT_FQ_MISMATCH_COUNT).weltEvent 4 0x12 (q + r.ch * 2 ^ 8 + s.cycleNo * 2 ^ 32)
  else s.troubleAt Fld.VT_FQ_MISMATCH_COUNT [q, r.ch, r.counted]

/-- FQ8_REPORT (R107, R109). -/
def execFq8Report (q : Fin 4) (s : State) : Host.Outcome State Fault Refusal :=
  .next (let x := getAt FqSt.none s.fq q
    match x.reports with
    | [] => s
    | r :: rs => ({ s with fq := setAt s.fq q { x with reports := rs } } : State).takeReport q r)

/-- A cycle that ends without an applied direct command counts towards h (R109); after h the channel's word is latched (R104). -/
def State.countDirectHold (s : State) : State :=
  s.vote.dHold.foldl (fun t x =>
    let t1 : State := { t with vote := { t.vote with dHold := setN t.vote.dHold x.1 (x.2 + 1) } }
    if s.safeHold ≤ x.2 + 1 then t1.latchWord (s.rd (Fld.FIO_CH_n_MAP_WORD x.1)) else t1) s

/-- SAFE_RELEASE (R105): the release acts at the next cycle boundary. -/
def execSafeRelease (i : Initiator) (w : Word) (s : State) : Host.Outcome State Fault Refusal :=
  .next (s.regCmd i Reg.VT_SAFE_RELEASE w (fun t => { t with vote := { t.vote with release := some t.cyc.k } }))

/-- SAFE_LATCH_CLEAR (R105, R109): at the boundary after a release, latches of words voted without disagreement in the cycle before are
cleared, and with them the FQ8 latches of those words. -/
def execSafeLatchClear (s : State) : Host.Outcome State Fault Refusal :=
  .next (match s.vote.release with
    | none => s
    | some k =>
      if k < s.cyc.k ∧ ¬ s.cyc.vrDone then
        let clean (w : Nat) : Bool := s.vote.voted && !s.vote.disAny.contains w
        let lat := s.vote.latched.filter (fun w => !clean w)
        let fq := (List.range 4).map (fun q =>
          let x := getAt FqSt.none s.fq q
          { x with latch := (List.range 8).map (fun j => getAt false x.latch j && !clean (s.rd (Fld.FIO_CH_n_MAP_WORD (8 * q + j)))) })
        let dh := s.vote.dHold.map (fun x => if clean (s.rd (Fld.FIO_CH_n_MAP_WORD x.1)) && decide (s.safeHold ≤ x.2) then (x.1, 0) else x)
        ({ s with fq := fq, vote := { s.vote with latched := lat, release := none, dHold := dh } } : State).wrB
          Fld.VT_STATUS_WORD_LATCHED (lat != [])
      else s)

/-! ### Counters -/

/-- Clear the counters that VT.CNT_CLEAR names (R119); RELAPSES stays. -/
def State.vtClear (s : State) (w : Word) : State :=
  let s1 := if wbits w Fld.VT_CNT_CLEAR_CLR_EXCL = 1 then lanes.foldl (fun t l => t.wr (exclFld l) 0) s else s
  if wbits w Fld.VT_CNT_CLEAR_CLR_CNT = 1 then
    (((s1.setReg Reg.VT_CYC_2OO2 0).setReg Reg.VT_CYC_HOLD 0).setReg Reg.VT_DIS2_COUNT 0).setReg Reg.VT_FQ_MISMATCH 0
  else s1

/-- CLR_EXCL (R119). -/
def execClrExcl (i : Initiator) (w : Word) (s : State) : Host.Outcome State Fault Refusal :=
  .next (s.regCmd i Reg.VT_CNT_CLEAR w (fun t => t.vtClear (w ||| 2)))

/-- VT_CLR_CNT (R119). -/
def execVtClrCnt (i : Initiator) (w : Word) (s : State) : Host.Outcome State Fault Refusal :=
  .next (s.regCmd i Reg.VT_CNT_CLEAR w (fun t => t.vtClear (w ||| 1)))

end Sys2Proof.Machine
end

