-- ==== Sys2Proof/Machine/Safe.lean ====
section
/-! DEFINITION. Safe transport over black channels (chapter 10): building and checking safe messages, and the states of receiving
connections. -/

namespace Sys2Proof.Machine

/-- A connection from which nothing was accepted or sent. -/
def ConnSt.none : ConnSt := { seq := 0, any := false, msg := [], prev := [], at_ := 0, ack := false }

/-- A connection beside its registers. -/
def State.conn (s : State) (n : Nat) : ConnSt := (lookupN s.conns n).getD ConnSt.none

/-- Replace a connection. -/
def State.putConn (s : State) (n : Nat) (c : ConnSt) : State := { s with conns := setN s.conns n c }

/-- P of a connection in bytes (R264). -/
def State.connP (s : State) (n : Nat) : Nat := 4 * s.rd (Fld.SX_CONN_n_CFG_LEN4 n)

/-- CHECK of R265: CRC-32C whose initial value is the connection identity. -/
def safeCheck (id : Word) (bs : List Byte) : Word := ~~~ (crcRun 0x82F63B78 id bs)

/-- MAC of R266: the first 8 bytes of the HMAC over ID and message bytes 0 to 11 + P. -/
def State.safeMac (s : State) (n : Nat) (body : List Byte) : List Byte :=
  (hmac ((lookupN s.cfg.keys (s.rd (Fld.SX_CONN_n_CFG_KEY n))).getD []) (leBytes 4 (s.rd (Fld.SX_CONN_n_ID_ID n)) ++ body)).take 8

/-- A safe message (R264). -/
def State.safeMessage (s : State) (n seq span : Nat) (payload : List Byte) : List Byte :=
  let body := leBytes 4 seq ++ leBytes 4 span ++ payload
  let full := body ++ leBytes 4 (safeCheck (s.reg (Reg.SX_CONN_n_ID n)) body).toNat
  if s.flag (Fld.SX_CONN_n_CFG_MAC n) then full ++ s.safeMac n full else full

/-! ### Sending -/

/-- The span of t_in of a cycle. -/
def State.tInSpan (s : State) (k : Nat) : Nat := spanOf (k * s.tCycle + 4 * s.tIn)

/-- Build the message of a sending connection from the image in force, at an offset (R269): the next SEQ, and the span of t_in of this
cycle, or of the last voted cycle during the hold. -/
def State.buildSafe (s : State) (n off : Nat) : State :=
  if s.flag (Fld.SX_CONN_n_CFG_EN n) && s.flag (Fld.SX_CONN_n_CFG_DIR n) && s.vote.voted then
    let c := s.conn n
    let seq := (c.seq + 1) % 2 ^ 32
    let span := s.tInSpan (if s.rd Fld.VT_STATUS_MODE = 2 then s.vote.lastK else s.cyc.k)
    let m := s.safeMessage n seq span (s.vote.out.bytes off (s.connP n))
    ((s.putConn n { c with seq := seq, any := true, msg := m, prev := c.msg, at_ := s.clk.uptime }).wr (Fld.SX_CONN_n_STAT_SEQ n) seq).wr (Fld.SX_CONN_n_LAST_SPAN n) span
  else s

/-- Whether the unit writes pair entries (R344): SINGLE, ACTIVE, or FAULTED with its claim not yet beaten; after a
takeover from its first voted image as active (R347). -/
def State.writesPair (s : State) : Bool :=
  let x := s.rd Fld.DX_STATUS_STATE
  x == 0 || (x == 2 && s.dx.pairWait.isNone) || (x == 7 && s.rd Fld.DX_STATUS_ROLE == 1)

/-- Whether a slot entry is a write entry whose source is the safe transport engine. -/
def State.sendsSafe (s : State) (n : Nat) : Bool :=
  s.flag (Fld.SX_SLOT_n_A_EN n) && s.flag (Fld.SX_SLOT_n_A_DIR n) && s.flag (Fld.SX_SLOT_n_A_SAFE n) && s.rd (Fld.SX_SLOT_n_A_SOURCE n) == 1

/-- The messages of the cycle are built at t_vr for every write entry whose source is the safe transport engine, one for each connection (R269). -/
def State.buildRingSafe (s : State) : State :=
  if s.writesPair then
    (List.range 256).foldl (fun t n =>
      let c := s.rd (Fld.SX_SLOT_n_C_CONN n)
      if s.sendsSafe n && !(List.range n).any (fun m => s.sendsSafe m && s.rd (Fld.SX_SLOT_n_C_CONN m) == c) then
        t.buildSafe c (4 * s.rd (Fld.SX_SLOT_n_C_IMG4 n))
      else t) s
  else s

/-! ### States of receiving connections -/

/-- The state of a receiving connection (R272). -/
def State.connState (s : State) (n : Nat) : Nat := s.rd (Fld.SX_CONN_n_STAT_STATE n)

/-- Put a connection into a state; SAFE_SUMMARY and IN_SAFE follow (R276). -/
def State.setConnState (s : State) (n st : Nat) : State :=
  let was := s.regBit (Reg.SX_SAFE_SUMMARY_n (n / 32)) (n % 32)
  let now := st == 1 || st == 3
  let s1 := (s.wr (Fld.SX_CONN_n_STAT_STATE n) st).wrBit (Reg.SX_SAFE_SUMMARY_n (n / 32)) (n % 32) now
  s1.wr Fld.SX_SAFE_COUNT_IN_SAFE (s1.rd Fld.SX_SAFE_COUNT_IN_SAFE + b2n now - b2n was)

/-- The revival count starts again; READY clears with it and an acknowledgement lapses (R273). -/
def State.restartRevival (s : State) (n : Nat) : State :=
  ((s.wr (Fld.SX_CONN_n_STAT_COUNT n) 0).wr (Fld.SX_CONN_n_STAT_READY n) 0).putConn n { s.conn n with ack := false }

/-- The direct frames that a slot's data give (R42, R46): for each FQ8 the bits of its channels. -/
def State.directFrames (s : State) (n cycle : Nat) (data : List Byte) : List DirectOut :=
  (List.range 4).filterMap (fun q =>
    let bits := (s.cfg.direct.filter (fun m => m.entry == n && m.ch / 8 == q)).map
      (fun m => (m.ch, bitOf (getAt (0 : Byte) data (m.bit / 8)).toNat (m.bit % 8)))
    if bits = [] then none else some { q := q, entry := n, cycle := cycle, bits := bits })

/-- A direct frame starts on the lane command links of its FQ8, or waits there (R46). -/
def State.sendDirect (s : State) (d : DirectOut) : State :=
  if s.directIn.any (fun x => x.q == d.q) then { s with directQ := s.directQ ++ [d] } else { s with directIn := s.directIn ++ [d] }

/-- The direct-mapped channels of a connection that enters SAFE no longer keep their state (R48): the direct frames carry its safe values
(DEDUCED, log 92). -/
def State.directSafe (s : State) (n : Nat) : State :=
  let data := List.replicate 8 (0 : Byte) ++ (lookupN s.cfg.safeVals n).getD []
  (List.range 256).foldl (fun t e =>
    if s.flag (Fld.SX_SLOT_n_A_EN e) && !s.flag (Fld.SX_SLOT_n_A_DIR e) && s.flag (Fld.SX_SLOT_n_A_DIRECT e) && s.flag (Fld.SX_SLOT_n_A_SAFE e)
      && s.rd (Fld.SX_SLOT_n_C_CONN e) == n then
      (s.directFrames e (s.clk.net / s.tCycle % 2 ^ 32) data).foldl (fun t d => t.sendDirect d) t
    else t) s

/-- Entry to SAFE with its cause, and the Welt record (R48, R272). -/
def State.connSafe (s : State) (n cause : Nat) : State :=
  ((((s.setConnState n 3).wr (Fld.SX_CONN_n_STAT_CAUSE n) cause).restartRevival n).directSafe n).weltEvent 2 0x40 (n + cause * 2 ^ 16)

/-- A message is accepted (R271, R273). -/
def State.connAccept (s : State) (n : Nat) (msg : List Byte) (seq span : Nat) : State :=
  let c := s.conn n
  let d := (seq + 2 ^ 32 - c.seq) % 2 ^ 32
  let cnt := if c.any ∧ d = 1 then satAdd 15 (s.rd (Fld.SX_CONN_n_STAT_COUNT n)) 1 else 1
  let s1 := (((s.putConn n { c with seq := seq, any := true, msg := msg }).wr (Fld.SX_CONN_n_STAT_SEQ n) seq).wr
    (Fld.SX_CONN_n_LAST_SPAN n) span).wr (Fld.SX_CONN_n_STAT_COUNT n) cnt
  if s.connState n ≠ 2 ∧ s.flag (Fld.SX_CONN_n_CFG_ACK_REQ n) then
    if s.rd (Fld.SX_CONN_n_CFG_REVIVE n) ≤ cnt then s1.set1 (Fld.SX_CONN_n_STAT_READY n) else s1
  else s1

/-- The checks of R271 on a received copy, in their order; `rx` is the span of its arrival. Answers whether the copy passes. -/
def State.checkSafe (s : State) (n : Nat) (m : List Byte) (rx : Nat) : State × Bool :=
  let p := s.connP n
  let mac := s.flag (Fld.SX_CONN_n_CFG_MAC n)
  let seq := leNat (m.take 4)
  let span := leNat ((m.drop 4).take 4)
  let c := s.conn n
  let d := (seq + 2 ^ 32 - c.seq) % 2 ^ 32
  let a := spanDiff rx span
  if m.length ≠ (if mac then p + 20 else p + 12) then (s.bump (Fld.SX_CONN_n_ERR_B_SEQ_ERR n), false)
  else if leNat ((m.drop (8 + p)).take 4) ≠ (safeCheck (s.reg (Reg.SX_CONN_n_ID n)) (m.take (8 + p))).toNat then
    (s.bump (Fld.SX_CONN_n_ERR_A_CRC_ERR n), false)
  else if mac && m.drop (12 + p) != s.safeMac n (m.take (12 + p)) then (s.bump (Fld.SX_CONN_n_ERR_A_MAC_ERR n), false)
  else if a < -(1000 * s.rd (Fld.SX_CONN_n_AGE_FUT_TOL n) : Nat) ∨ a > (1000 * s.rd (Fld.SX_CONN_n_AGE_MAX_AGE n) : Nat) then
    (s.bump (Fld.SX_CONN_n_ERR_B_AGE_ERR n), false)
  else if c.any ∧ d = 0 then
    if m = c.msg then (s, true)
    else
      let s1 := s.bump (Fld.SX_CONN_n_ERR_B_SEQ_ERR n)
      (if s.connState n = 2 then s1.connSafe n 3 else s1, false)
  else if s.connState n = 2 ∧ s.rd (Fld.SX_CONN_n_CFG_SEQ_WIN n) < d then
    ((s.bump (Fld.SX_CONN_n_ERR_B_SEQ_ERR n)).connSafe n 2, false)
  else (s.connAccept n m seq span, true)

/-- Whether a connection is enabled for receiving. -/
def State.receives (s : State) (n : Nat) : Bool := s.flag (Fld.SX_CONN_n_CFG_EN n) && !s.flag (Fld.SX_CONN_n_CFG_DIR n)

/-- The evaluation of a receiving connection at an input instant (R272, R273). -/
def State.evalConn (s : State) (n : Nat) : State :=
  if s.receives n then
    let c := s.conn n
    let old := c.any && decide ((1000 * s.rd (Fld.SX_CONN_n_AGE_MAX_AGE n) : Nat) < spanDiff (s.tInSpan s.cyc.k) (s.rd (Fld.SX_CONN_n_LAST_SPAN n)))
    if s.connState n = 2 then (if old then s.connSafe n 1 else s)
    else
      let s1 := if old then s.restartRevival n else s
      let enough := decide (s1.rd (Fld.SX_CONN_n_CFG_REVIVE n) ≤ s1.rd (Fld.SX_CONN_n_STAT_COUNT n))
      let acked := !s1.flag (Fld.SX_CONN_n_CFG_ACK_REQ n) || (s1.flag (Fld.SX_CONN_n_STAT_READY n) && (s1.conn n).ack)
      if enough && acked then (s1.setConnState n 2).putConn n { s1.conn n with ack := false } else s1
  else s

/-- Every receiving connection is evaluated (R272). -/
def State.evalConns (s : State) : State := (List.range 1024).foldl (fun t n => t.evalConn n) s

/-- What the input section of a connection holds (R272): the payload in RUN, otherwise the safe values. -/
def State.connSection (s : State) (n : Nat) : List Byte :=
  if s.connState n = 2 then ((s.conn n).msg.drop 8).take (s.connP n) else (lookupN s.cfg.safeVals n).getD []

/-- A network-time step of more than 2 µs (R272 cause 0x4): connections in RUN enter SAFE, the others restart their revival. -/
def State.stepConns (s : State) (size : Int) : State :=
  if size > 2000 ∨ size < -2000 then
    (List.range 1024).foldl (fun t n =>
      if t.receives n then (if t.connState n = 2 then t.connSafe n 4 else t.restartRevival n) else t) s
  else s

/-- Network time is adopted (R180, R187): a step when it changes. -/
def State.adoptTime (s : State) (t : Nat) : State :=
  if t = s.clk.net then s.set1 Fld.TB_STATUS_NET_VALID
  else (s.netStep t).stepConns ((t : Int) - s.clk.net)

/-- CONN_ACK (R273): an acknowledgement counts while READY is set and is ignored otherwise. -/
def execConnAck (i : Initiator) (n : Fin 1024) (w : Word) (s : State) : Host.Outcome State Fault Refusal :=
  .next (s.regCmd i (Reg.SX_CONN_n_STAT n) w (fun t =>
    let t1 := t.wr (Fld.SX_CONN_n_STAT_ACK n) 0
    if t1.flag (Fld.SX_CONN_n_STAT_READY n) then t1.putConn n { t1.conn n with ack := true } else t1))

/-- MAC_CHECK_DONE (R271, R274): the HMAC engine completes the copy at the head of its queue; the longest wait is kept in units of 68 jc. -/
def execMacCheckDone (s : State) : Host.Outcome State Fault Refusal :=
  .next (match s.macQ with
    | [] => s
    | j :: js =>
      let service := 4 * ((ceilDiv (s.connP j.conn + 25) 64 + 1) * 68 + 6)
      let wait := min 0xFF ((s.clk.uptime - j.since - service) / (4 * 68))
      let s1 := ({ s with macQ := js } : State).wr Fld.SX_SAFE_COUNT_MAC_WAIT_MAX (max wait (s.rd Fld.SX_SAFE_COUNT_MAC_WAIT_MAX))
      (s1.checkSafe j.conn j.msg j.rx).1)

end Sys2Proof.Machine
end

