-- ==== Sys2Proof/Machine/Sched.lean ====
section
/-! DEFINITION. The schedule checks of seal and of a commit: frame-time budget (R226), instant bands (R34), frame limits (R206, R227),
direct-slot conditions (R44) and the interruption bound (R259), on the expected instants of R508. -/

namespace Sys2Proof.Machine

/-- The figures that the checks use (R505). -/
structure SchedFig where
  id : Nat
  t : Nat
  len4 : Nat
  slots : Nat
  conts : Nat
  launch : Nat
  tIn : Nat
  tCom : Nat
  leader : Nat
  order : List Nat
  hops : List Nat
  entries : List (Nat × (Word × Word × Word))
  deriving DecidableEq, Repr

/-- Fields of a slot entry's words (R232). -/
def entEn (e : Word × Word × Word) : Bool := bitOf e.1.toNat 31
def entWrite (e : Word × Word × Word) : Bool := bitOf e.1.toNat 30
def entDirect (e : Word × Word × Word) : Bool := bitOf e.1.toNat 29
def entSafe (e : Word × Word × Word) : Bool := bitOf e.1.toNat 28
def entSource (e : Word × Word × Word) : Nat := bitsOf e.1.toNat 27 26
def entStation (e : Word × Word × Word) : Nat := bitsOf e.1.toNat 24 18
def entIndex (e : Word × Word × Word) : Nat := bitsOf e.1.toNat 11 0
def entLen (e : Word × Word × Word) : Nat := 4 * bitsOf e.2.1.toNat 24 16
def entOff (e : Word × Word × Word) : Nat := 4 * bitsOf e.2.1.toNat 13 0
def entConn (e : Word × Word × Word) : Nat := bitsOf e.2.2.toNat 25 16
def entImg (e : Word × Word × Word) : Nat := 4 * bitsOf e.2.2.toNat 13 0

/-- The sum of numbers. -/
def sumN (l : List Nat) : Nat := l.foldl (· + ·) 0

/-- N of the schedule. -/
def SchedFig.n (f : SchedFig) : Nat := f.order.length + 1

/-- The stated path delay d of a node in ns (R505). -/
def SchedFig.delay (f : SchedFig) (addr : Nat) : Nat :=
  match f.order.findIdx? (· == addr) with
  | some p => sumN (f.hops.take (p + 1)) + 320 * p
  | none => sumN f.hops + 320 * (f.n - 1)

/-- D_ring and D_fold in jc (R226). -/
def SchedFig.dRing (f : SchedFig) : Nat := (f.n - 1) * 80 + ceilDiv (sumN f.hops) 4
def SchedFig.dFold (f : SchedFig) : Nat := f.dRing + 16 + (f.n - 2) * 80 + ceilDiv (sumN f.hops) 4

/-- The frame-time budget of R226; with LOOP the fold is left out. -/
def SchedFig.budgetOk (f : SchedFig) (loop : Bool) : Bool :=
  decide (f.launch + 2 * (4 * f.len4 + 2) + (if loop then f.dRing else f.dFold) + 564 ≤ f.t / 4)

/-- The expected slot arrival in ns from the cycle start, for a path delay (R508). -/
def arrivalOf (launch d : Nat) (e : Word × Word × Word) : Nat := 4 * (launch + 2 * (entOff e + entLen e + 3 + 2)) + d

/-- The expected first byte of an owned slot in ns (R508). -/
def firstByteOf (launch d : Nat) (e : Word × Word × Word) : Nat := 4 * (launch + 2 * (entOff e + 1)) + d

/-- Whether two instants lie within a band of each other, the bound included. -/
def within (a b band : Nat) : Bool := decide (a ≤ b + band) && decide (b ≤ a + band)

/-- Whether an instant lies within a band of an instant that comes once every `t` ns: the neighbour in the next or the last cycle counts
(DEDUCED, log 75). -/
def nearEach (t a b band : Nat) : Bool := within (a % t) b band || within (a % t + t) b band || within (a % t) (b + t) band

/-- Whether an instant lies within a band of a span, the bound included. -/
def nearSpan (a lo hi band : Nat) : Bool := decide (lo ≤ a + band) && decide (a ≤ hi + band)

/-- Whether an instant lies within a band of a span that comes once every `t` ns. -/
def nearSpanEach (t a lo hi band : Nat) : Bool :=
  nearSpan (a % t) lo hi band || nearSpan (a % t + t) lo hi band || nearSpan (a % t) (lo + t) (hi + t) band

/-- The enabled entries. -/
def SchedFig.live (f : SchedFig) : List (Nat × (Word × Word × Word)) := f.entries.filter (fun x => entEn x.2)

/-- The instants and bands of R34, in jc and ns. -/
def SchedFig.bandsOk (f : SchedFig) (c : Cfg) (addr : Nat) : Bool :=
  let h := ceilDiv c.sOut 8 + 6
  let tvr := f.tCom + ceilDiv c.sOut 16 + 4
  let d := f.delay addr
  decide (f.tIn + ceilDiv c.sIn 8 + 10 + h < f.tCom) && decide (tvr + 8 < f.t / 4) &&
  f.live.all (fun x =>
    if entWrite x.2 then !nearEach f.t (firstByteOf f.launch d x.2) (4 * (tvr + 4)) 2000
    else !nearEach f.t (arrivalOf f.launch d x.2) (4 * f.tIn) 2000)

/-- Whether a slot's place can follow from its index (R206): each of the slots before and after it takes 12 to 1028 bytes. -/
def SchedFig.placed (f : SchedFig) (e : Word × Word × Word) : Bool :=
  let before := entOff e - 32
  let after := 4 * f.len4 - 64 * f.conts - 32 - (entOff e + entLen e + 4)
  let n := f.slots - 1 - entIndex e
  decide (12 * entIndex e ≤ before ∧ before ≤ 1028 * entIndex e) && decide (12 * n ≤ after ∧ after ≤ 1028 * n)

/-- Whether a slot of lower index lies before another, with room for those between (R206). -/
def slotsOrdered (x y : Word × Word × Word) : Bool :=
  let gap := entOff y - (entOff x + entLen x + 4)
  let n := entIndex y - entIndex x - 1
  !decide (entIndex x < entIndex y) ||
    (decide (entOff x + entLen x + 4 ≤ entOff y) && decide (12 * n ≤ gap ∧ gap ≤ 1028 * n))

/-- The frame limits of R206 and the slot-table checks of R227. -/
def SchedFig.limitsOk (f : SchedFig) : Bool :=
  let l := 4 * f.len4
  decide (16 ≤ f.len4 ∧ l ≤ 61440) && decide (f.slots ≤ 4096) && decide (f.conts ≤ 512) && 
  decide (64 + 12 * f.slots + 64 * f.conts ≤ l ∧ l ≤ 64 + 1028 * f.slots + 64 * f.conts) &&
  f.live.all (fun x =>
    decide (8 ≤ entLen x.2 ∧ entLen x.2 ≤ 1024) && decide (entIndex x.2 < f.slots) && decide (32 ≤ entOff x.2)
      && decide (entOff x.2 + entLen x.2 + 4 + 64 * f.conts + 32 ≤ l) && (entWrite x.2 || entSource x.2 == 0)
      && f.placed x.2 && f.live.all (fun y => x.1 == y.1 || (entIndex x.2 != entIndex y.2
        && slotsOrdered x.2 y.2)))

/-- The direct-slot conditions of R44; `wordOf` gives a channel's output word. -/
def SchedFig.directOk (f : SchedFig) (c : Cfg) (addr : Nat) (wordOf : Nat → Nat) : Bool :=
  let h := ceilDiv c.sOut 8 + 6
  let d := f.delay addr
  f.live.all (fun x =>
    if entDirect x.2 && !entWrite x.2 then
      let maps := c.direct.filter (fun m => m.entry == x.1)
      let a := arrivalOf f.launch d x.2
      maps.all (fun m => maps.all (fun k => m.bit / 64 == k.bit / 64)) &&
      maps.all (fun m => !c.safety.contains (wordOf m.ch) || entSafe x.2) &&
      !nearSpanEach f.t a (4 * f.tIn) (4 * (f.tIn + ceilDiv c.sIn 8 + 10)) 2400 && !nearSpanEach f.t a (4 * (f.tCom - h)) (4 * f.tCom) 2400
    else true)

/-- The interruption bound of R259. -/
def SchedFig.boundOk (f : SchedFig) (loop ringY : Bool) : Bool :=
  loop || ringY || decide (2 * f.t + 4 * (f.dFold - f.dRing) ≤ 800000)

/-- The first failing check, with its code of R227; `oldId` is the working identity, none at seal. -/
def SchedFig.failure (f : SchedFig) (c : Cfg) (addr : Nat) (wordOf : Nat → Nat) (loop ringY : Bool) (oldId : Option Nat) : Option Nat :=
  if !f.budgetOk loop then some 1
  else if !f.bandsOk c addr then some 2
  else if !f.limitsOk then some 3
  else if !f.directOk c addr wordOf then some 4
  else if f.id = 0 ∨ oldId = some f.id then some 5
  else if !f.boundOk loop ringY then some 6
  else none

/-- The figures of a plug schedule (R505). -/
def planFig (p : Sched) : SchedFig :=
  { id := p.id.toNat, t := 125000 * p.tUnits, len4 := p.len4, slots := p.slots, conts := p.conts, launch := p.launch, tIn := p.tIn,
    tCom := p.tCom, leader := p.leader, order := p.order, hops := p.hops, entries := p.entries }

/-- The shadow slot table. -/
def State.shadowEntries (s : State) : List (Nat × (Word × Word × Word)) :=
  (List.range 256).map (fun n => (n, (s.reg (Reg.SX_SH_SLOT_n_A n), s.reg (Reg.SX_SH_SLOT_n_B n), s.reg (Reg.SX_SH_SLOT_n_C n))))

/-- The working slot entry n. -/
def State.entry (s : State) (n : Nat) : Word × Word × Word := (s.reg (Reg.SX_SLOT_n_A n), s.reg (Reg.SX_SLOT_n_B n), s.reg (Reg.SX_SLOT_n_C n))

/-- The figures of the shadow set, with the working N, node order and hop delays (R227, R505). -/
def State.shadowFig (s : State) : SchedFig :=
  { id := s.rd Fld.SX_SH_SCHED_ID_ID, t := s.tCycle, len4 := s.rd Fld.SX_SH_LEN4_LEN4, slots := s.rd Fld.SX_SH_COUNTS_SLOTS,
    conts := s.rd Fld.SX_SH_COUNTS_CONTAINERS, launch := s.rd Fld.SX_SH_LAUNCH_JC, tIn := s.rd Fld.SX_SH_T_IN_JC,
    tCom := s.rd Fld.SX_SH_T_COM_JC, leader := (s.sched.map (·.leader)).getD 0, order := (s.sched.map (·.order)).getD [],
    hops := (s.sched.map (·.hops)).getD [], entries := s.shadowEntries }

/-- Whether ring Y is enabled (R233). -/
def State.ringEn (s : State) (r : Ring) : Bool := s.flag (Fld.SX_CS_CFG_EN r)

/-- The output word of a channel. -/
def State.chWord (s : State) (ch : Nat) : Nat := s.rd (Fld.FIO_CH_n_MAP_WORD ch)

/-- A refused commit or cancel (R227, R229). -/
def State.refuseSched (s : State) (code : Nat) : State :=
  ((s.set1 Fld.SX_SCHED_CTRL_SCHED_ERR).wr Fld.SX_SCHED_CTRL_ERR_CODE code).troubleAt Fld.SX_SCHED_CTRL_SCHED_ERR [code]

/-- The effect of COMMIT (R227, R229). -/
def State.commitSched (s : State) : State :=
  if s.flag Fld.SX_SCHED_CTRL_BASTE_PENDING then s.refuseSched 7
  else match s.shadowFig.failure s.cfg (s.rd (Fld.SX_CFG_ADDR .X)) s.chWord (s.flag (Fld.SX_CFG_LOOP .X)) (s.ringEn .Y)
      (some (s.rd Fld.SX_SCHED_ID_VALUE)) with
    | some c => s.refuseSched c
    | none => ({ s with annAt := none } : State).set1 Fld.SX_SCHED_CTRL_BASTE_PENDING

/-- The effect of CANCEL (R229): ignored without a pending copy; refused at the leader once the switch has been announced. -/
def State.cancelSched (s : State) : State :=
  if !s.flag Fld.SX_SCHED_CTRL_BASTE_PENDING then s
  else if s.flag (Fld.SX_STATUS_LEADER .X) && s.annAt.isSome then s.refuseSched 8
  else ({ s with annAt := none } : State).wr Fld.SX_SCHED_CTRL_BASTE_PENDING 0

/-- The effect of a write of SX.SCHED_CTRL. -/
def State.schedCtl (s : State) (w : Word) : State :=
  let s1 := if wbits w Fld.SX_SCHED_CTRL_COMMIT = 1 then s.commitSched else s
  if wbits w Fld.SX_SCHED_CTRL_CANCEL = 1 then s1.cancelSched else s1

/-- SCHED_COMMIT (R227). -/
def execSchedCommit (i : Initiator) (w : Word) (s : State) : Host.Outcome State Fault Refusal :=
  .next (s.regCmd i Reg.SX_SCHED_CTRL w (fun t => t.schedCtl (w ||| 0x80000000)))

/-- SCHED_CANCEL (R229). -/
def execSchedCancel (i : Initiator) (w : Word) (s : State) : Host.Outcome State Fault Refusal :=
  .next (s.regCmd i Reg.SX_SCHED_CTRL w (fun t => t.schedCtl (w ||| 0x10000000)))

/-- The cycle number of network time now. -/
def State.kNow (s : State) : Nat := s.clk.net / s.tCycle

/-- The shadow set becomes the working set (R228); read entries due before the switch are taken under the old table. -/
def State.switchSched (s : State) : State :=
  let old := (List.range 256).map (fun n => (n, s.entry n))
  let s1 := (((((({ s with oldTab := some (s.kNow, old), annAt := none } : State).setReg Reg.SX_SCHED_ID (s.reg Reg.SX_SH_SCHED_ID)).setReg
    Reg.SX_COUNTS (s.reg Reg.SX_SH_COUNTS)).setReg Reg.SX_T_IN (s.reg Reg.SX_SH_T_IN)).setReg Reg.SX_T_COM (s.reg Reg.SX_SH_T_COM)).setReg
    Reg.SX_LAUNCH (s.reg Reg.SX_SH_LAUNCH)).setReg Reg.SX_LEN4 (s.reg Reg.SX_SH_LEN4)
  let s2 := s.shadowEntries.foldl (fun t x =>
    ((t.setReg (Reg.SX_SLOT_n_A x.1) x.2.1).setReg (Reg.SX_SLOT_n_B x.1) x.2.2.1).setReg (Reg.SX_SLOT_n_C x.1) x.2.2.2) s1
  s2.wr Fld.SX_SCHED_CTRL_BASTE_PENDING 0

/-- Whether the cycle k has come that a 32-bit CYCLE field names (R207). -/
def cycleReached (k at_ : Nat) : Bool := decide ((k % 2 ^ 32 + 2 ^ 32 - at_ % 2 ^ 32) % 2 ^ 32 < 2 ^ 31)

/-- SCHEDULE_SWITCH (R228): at the start of the announced cycle. -/
def execScheduleSwitch (s : State) : Host.Outcome State Fault Refusal :=
  .next (match s.annAt with
    | some k => if s.flag Fld.SX_SCHED_CTRL_BASTE_PENDING && cycleReached s.kNow k then s.switchSched else s
    | none => s)

end Sys2Proof.Machine
end

