-- ==== Sys2Proof/Machine/GussetBase.lean ====
section
/-! DEFINITION. The sender's side of carried writes that the ring unit's transmit queue needs (chapter 15): the queue, the posted-error
FIFO, the completion registers and HALTED. -/

namespace Sys2Proof.Machine

/-- A ring unit beside its registers. -/
def State.rg (s : State) (r : Ring) : RingSt := s.ring.get r

/-- Change a ring unit. -/
def State.modRg (s : State) (r : Ring) (g : RingSt → RingSt) : State := { s with ring := s.ring.put r (g (s.rg r)) }

/-- Change the Gusset's hidden state. -/
def State.modGus (s : State) (g : GussetSt → GussetSt) : State := { s with gus := g s.gus }

/-- The PEF_INFO word of an entry (R404). -/
def PefEntry.info (e : PefEntry) : Word := BitVec.ofNat 32 (e.cause * 2 ^ 28 + e.init % 8 * 2 ^ 25 + e.win % 16 * 2 ^ 21 + e.node % 256)

/-- Show the head of the posted-error FIFO (R398, R404). -/
def State.showPef (s : State) : State :=
  let s1 := (s.wrB Fld.GB_STATUS_PEF_VALID (s.gus.pef != [])).wr Fld.GB_STATUS_PEF_COUNT s.gus.pef.length
  match s.gus.pef with
  | [] => ((s1.setReg Reg.GB_PEF_INFO 0).setReg Reg.GB_PEF_ADDR 0).setReg Reg.GB_PEF_TAG 0
  | e :: _ =>
    (((s1.setReg Reg.GB_PEF_INFO e.info).setReg Reg.GB_PEF_ADDR (BitVec.ofNat 32 e.addr)).wr Fld.GB_PEF_TAG_SEQ e.seq).wr
      Fld.GB_PEF_TAG_TAG e.tag

/-- Window n enters HALTED at a CAUSE or RESULT other than 0x0, 0x1 and 0x4 when its HALT is set (R399). -/
def State.haltWin (s : State) (n code : Nat) : State :=
  if s.flag (Fld.GB_WIN_n_CFG_HALT n) && decide (code ≠ 0 ∧ code ≠ 1 ∧ code ≠ 4) then s.wrBit Reg.GB_STATUS n true else s

/-- A posted failure becomes an entry of the posted-error FIFO, whose word is posted to the Eyelet of R398; a full FIFO loses it. -/
def State.pefPush (s : State) (e : PefEntry) : State :=
  let s1 := s.haltWin e.win e.cause
  if 16 ≤ s1.gus.pef.length then (s1.bump Fld.GB_PEF_CTRL_LOST).set1 Fld.GB_STATUS_PEF_OVF
  else (((s1.modGus (fun g => { g with pef := g.pef ++ [e] })).showPef).eyPost 20 (s1.rd Fld.GB_CFG_PE_EY) e.info).1

/-- The completion register of an initiator code takes a result (R395, R399). -/
def State.cplEnd (s : State) (i res : Nat) : State :=
  (((s.wr (Fld.GB_CPL_i_PENDING i) 0).wr (Fld.GB_CPL_i_RESULT i) res).modGus (fun g => { g with npAt := dropN g.npAt i })).haltWin
    (s.rd (Fld.GB_CPL_i_WIN i)) res

/-- Whether a queued message is a completion or report, which counts against no limit (R397). -/
def TxMsg.urgent (m : TxMsg) : Bool := m.kind == 0x8002 || m.kind == 0x8003

/-- The number of messages that count against the 16 entries of R220. -/
def RingSt.queued (g : RingSt) : Nat := (g.txq.filter (fun m => !m.urgent)).length

/-- A completion or report goes ahead of every queued message, behind those already ahead (R397). -/
def State.sendUrgent (s : State) (r : Ring) (m : TxMsg) : State :=
  s.modRg r (fun g => { g with txq := g.txq.filter (·.urgent) ++ [m] ++ g.txq.filter (fun x => !x.urgent) })

/-- What becomes of a message of GB that leaves the queue unsent (R394): a non-posted write ends with the result, a posted one or a
signal becomes a FIFO entry; completions and reports are lost. -/
def State.carriedLost (s : State) (m : TxMsg) (code : Nat) : State :=
  let win := leNat (m.data.take 1)
  let fl := leNat ((m.data.drop 1).take 1)
  let seq := leNat ((m.data.drop 2).take 2)
  let addr := leNat ((m.data.drop 4).take 4)
  let np := decide (m.kind = 0x8001) && fl % 2 == 1
  let i := fl / 2 % 8
  if m.kind ≠ 0x8001 ∧ m.kind ≠ 0x8004 then s
  else if np then
    if s.flag (Fld.GB_CPL_i_PENDING i) && s.rd (Fld.GB_CPL_i_WIN i) == win && s.rd (Fld.GB_CPL_i_SEQ i) == seq then s.cplEnd i code else s
  else
    let r := if s.flag (Fld.GB_WIN_n_CFG_RING win) then Ring.Y else Ring.X
    s.pefPush { cause := code, init := m.init, win := win, node := s.rd (Fld.SX_CFG_ADDR r), addr := addr, seq := seq, tag := m.tag }

/-- A received container of KIND 0x8000 to 0x80FF goes to GB; the unused kinds are discarded and counted (R393). -/
def State.gussetTake (s : State) (r : Ring) (m : RxMsg) : State :=
  if decide (0x8001 ≤ m.kind ∧ m.kind ≤ 0x8004) then s.modGus (fun g => { g with inq := g.inq ++ [(r, m)] })
  else s.bump Fld.GB_MSG_COUNT_BAD_KIND

end Sys2Proof.Machine
end

