-- ==== Sys2Proof/Machine/Lanes.lean ====
section
/-! DEFINITION. A lane's own checks (chapter 03): comparator, delay registers, caches, PLL, the forced-mismatch test, and the counters of LC. -/

namespace Sys2Proof.Machine

/-- Whether comparison is active for a hart (R92). -/
def State.compared (s : State) (l : Lane) (h : Hart) : Bool :=
  match h with
  | .h0 => s.flag (Fld.CMP_STATUS_H0_COMPARED l)
  | .h1 => s.flag (Fld.CMP_STATUS_H1_COMPARED l)

/-- The lowest set bit of a group mask (R78). -/
def lowGroup (g : Nat) : Nat := ((List.range 8).find? (bitOf g)).getD 0

/-- The forced-mismatch test that ran at this uptime, if one did. -/
def State.testNow (s : State) (l : Lane) : Option TestUndo := (s.ln l).testUndo.filter (fun u => u.at_ == s.clk.uptime)

/-- Whether comparison was active for a hart in this lc: a test that failed in it has just stopped the lane (R77). -/
def State.wasCompared (s : State) (l : Lane) (h : Hart) : Bool :=
  match s.testNow l with
  | some u => wbits u.status (comparedFld l h) == 1
  | none => s.compared l h

/-- The result of a test in the lc of a real mismatch is discarded (R77): TEST_LAST, TEST_COUNT and the result flags of CMP.STATUS are as
before it. -/
def State.discardTest (s : State) (l : Lane) : State :=
  match s.testNow l with
  | some u =>
    (((s.setReg (Reg.CMP_STATUS l) (s.reg (Reg.CMP_STATUS l) &&& 0xFFFFFFC3 ||| u.status &&& 0x3C)).setReg (Reg.CMP_TEST_LAST l) u.last).setReg
      (Reg.CMP_TEST_COUNT l) u.count).modLn l (fun n => { n with testAt := u.passed, testUndo := none })
  | none => s

/-- CORE_MISMATCH (R72, R73, R77, R78): causes 0x01 to 0x03 by the harts that mismatch and the lowest group; comparison must be active for the
hart, and group 7 counts in core-and-caches mode only. -/
def execCoreMismatch (l : Lane) (g0 g1 : BitVec 8) (s : State) : Host.Outcome State Fault Refusal :=
  let m : BitVec 8 := if (s.ln l).replMode = 1 then 0xFF else 0x7F
  let a := if s.wasCompared l .h0 then (g0 &&& m).toNat else 0
  let b := if s.wasCompared l .h1 then (g1 &&& m).toNat else 0
  .next (if a = 0 ∧ b = 0 then s else (s.discardTest l).laneFault l (b2n (a != 0) + 2 * b2n (b != 0)) (lowGroup (a ||| b)))

/-- DELAY_REGISTER_FAULT (R70, R78). -/
def execDelayRegisterFault (l : Lane) (s : State) : Host.Outcome State Fault Refusal := .next (s.laneFault l 6 0)

/-- COMPARATOR_FAULT (R74, R78). -/
def execComparatorFault (l : Lane) (s : State) : Host.Outcome State Fault Refusal := .next (s.laneFault l 5 0)

/-- L1_PARITY_ERROR (R71): in core-and-caches mode a lane fault with cause 0x08; in core-only mode a single-bit error is corrected and
counted, a double-bit error refetches its line and is counted. -/
def execL1ParityError (l : Lane) (instr double : Bool) (s : State) : Host.Outcome State Fault Refusal :=
  .next (if (s.ln l).replMode = 1 then s.laneFault l 8 0
    else if double then s.bump (Fld.LC_L1_REFETCH_REFETCH l)
    else if instr then s.bump (Fld.LC_L1_CORR_IC_CORR l)
    else s.bump (Fld.LC_L1_CORR_DC_CORR l))

/-- DUAL_RAIL_FAULT (R78 cause 0x09). -/
def execDualRailFault (l : Lane) (s : State) : Host.Outcome State Fault Refusal := .next (s.laneFault l 9 0)

/-- The lock state of a lane PLL in JC.CLK_STATUS (R25). -/
def lockFld (l : Lane) : Field := ⟨Reg.JC_CLK_STATUS, 1 + l.num, 1 + l.num⟩

/-- LANE_PLL_LOSS (R25, R506): shown in JC.CLK_STATUS; a lane fault with cause 0x07 except in HELD and STOPPED. -/
def execLanePllLoss (l : Lane) (s : State) : Host.Outcome State Fault Refusal := .next ((s.wr (lockFld l) 0).laneFault l 7 0)

/-! ### Forced-mismatch test -/

/-- Whether the comparator of a lane tests itself (R75): comparison is active for at least one hart in a state that the rule names. -/
def State.testable (s : State) (l : Lane) : Bool :=
  let x := s.ex l
  (x == Exec.loading || x == Exec.running || x == Exec.splitHalt || x == Exec.splitRun || x == Exec.replayHalt || x == Exec.replayCheck)
    && (s.compared l .h0 || s.compared l .h1)

/-- A test and its result (R75, R76): the flags are recorded; a missing flag or parity report faults the lane with cause 0x04. -/
def State.runTest (s : State) (l : Lane) (fa fb : BitVec 16) (dly0 dly1 : Bool) : State :=
  let c0 := s.compared l .h0
  let c1 := s.compared l .h1
  let u : TestUndo := { at_ := s.clk.uptime, status := s.reg (Reg.CMP_STATUS l), last := s.reg (Reg.CMP_TEST_LAST l)
                        count := s.reg (Reg.CMP_TEST_COUNT l), passed := (s.ln l).testAt }
  let s0 := s.modLn l (fun n => { n with testUndo := some u })
  let s1 := (s0.wr (Fld.CMP_TEST_LAST_FLAGS_A l) fa.toNat).wr (Fld.CMP_TEST_LAST_FLAGS_B l) fb.toNat
  let s2 := ((s1.wrB (Fld.CMP_STATUS_COPY_A_OK l) (fa == 0xFFFF)).wrB (Fld.CMP_STATUS_COPY_B_OK l) (fb == 0xFFFF)).modLn l
    (fun n => { n with testStage := n.testStage + 1 })
  let s3 := if c0 then s2.wrB (Fld.CMP_STATUS_DLY_H0_OK l) dly0 else s2
  let s4 := if c1 then s3.wrB (Fld.CMP_STATUS_DLY_H1_OK l) dly1 else s3
  if fa == 0xFFFF && fb == 0xFFFF && (!c0 || dly0) && (!c1 || dly1) then
    (s4.bumpW (Fld.CMP_TEST_COUNT_COUNT l)).modLn l (fun n => { n with testAt := some s.clk.uptime })
  else s4.laneFault l 4 0

/-- FORCED_MISMATCH_TEST (R75): once at each whole millisecond of uptime. -/
def execForcedMismatchTest (l : Lane) (flagsA flagsB : BitVec 16) (dly0 dly1 : Bool) (s : State) : Host.Outcome State Fault Refusal :=
  let now := s.clk.uptime
  .next (if now % 1000000 == 0 && (s.ln l).testRun != some now && s.testable l then
      (s.modLn l (fun n => { n with testRun := some now })).runTest l flagsA flagsB dly0 dly1
    else s)

/-- TEST_REQ_RUN (R75): one additional test. -/
def execTestReqRun (i : Initiator) (w : Word) (flagsA flagsB : BitVec 16) (dly0 dly1 : Bool) (s : State) :
    Host.Outcome State Fault Refusal :=
  .next (s.laneCmd i (fun l => s.regCmd i (Reg.CMP_TEST_REQ l) w (fun t =>
    if t.testable l then t.runTest l flagsA flagsB dly0 dly1 else t)))

/-- CMP.TEST_AGE (R92): µs since the last passed test, saturating. -/
def State.testAge (s : State) (l : Lane) : Nat :=
  match (s.ln l).testAt with
  | some t => min 0xFFFF ((s.clk.uptime - t) / 1000)
  | none => 0xFFFF

/-! ### Counters of LC -/

/-- Clear the counters that LC.CNT_CLEAR names (R91). -/
def State.lcClear (s : State) (l : Lane) (w : Word) : State :=
  let s1 := if wbits w (Fld.LC_CNT_CLEAR_CLR_MISSED l) = 1 then s.wr (Fld.LC_DBG_STATUS_MISSED l) 0 else s
  if wbits w (Fld.LC_CNT_CLEAR_CLR_L1 l) = 1 then (s1.setReg (Reg.LC_L1_CORR l) 0).setReg (Reg.LC_L1_REFETCH l) 0 else s1

/-- CLR_MISSED (R91). -/
def execClrMissed (i : Initiator) (w : Word) (s : State) : Host.Outcome State Fault Refusal :=
  .next (s.laneCmd i (fun l => s.regCmd i (Reg.LC_CNT_CLEAR l) w (fun t => t.lcClear l (w ||| 2))))

/-- CLR_L1 (R91). -/
def execClrL1 (i : Initiator) (w : Word) (s : State) : Host.Outcome State Fault Refusal :=
  .next (s.laneCmd i (fun l => s.regCmd i (Reg.LC_CNT_CLEAR l) w (fun t => t.lcClear l (w ||| 1))))

/-! ### Hart release -/

/-- The harts of a lane are released in lock-step (R71, R83, R92): comparison active for both, the test counter from zero, the egress gate
and the command links open. -/
def State.releaseHarts (s : State) (l : Lane) : State :=
  ((((s.set1 (Fld.CMP_STATUS_H0_COMPARED l)).set1 (Fld.CMP_STATUS_H1_COMPARED l)).setReg (Reg.CMP_TEST_COUNT l) 0).set1
    (Fld.LC_LANE_STATUS_IN_STEP l)).modLn l (fun n =>
      { n with replMode := s.rd (Fld.LC_LS_CFG_REPL l), egressOpen := true, cmdLink := true, testAt := none, testRun := none, testUndo := none, testStage := 0
               egress := [], withdrawal := none, haltNotice := false, handover := none })

/-- Whether a lane PLL is locked and within 1 % (R506). -/
def State.pllLocked (s : State) (l : Lane) : Bool := s.flag (lockFld l)

end Sys2Proof.Machine
end

