-- ==== Sys2Proof/Machine/Ring.lean ====
section
/-! DEFINITION. The ring in operation (chapter 08, with the expectation window of chapter 09): headers, slots, direct commands,
containers, trailers, and the frames that the module launches. -/

namespace Sys2Proof.Machine

/-! ### The state of a ring unit -/

/-- The ring states of R234 by their codes. -/
abbrev RSt.disabled : Nat := 0
abbrev RSt.listen : Nat := 1
abbrev RSt.claiming : Nat := 2
abbrev RSt.backoff : Nat := 3
abbrev RSt.leadCensus : Nat := 4
abbrev RSt.lead : Nat := 5
abbrev RSt.integrating : Nat := 6
abbrev RSt.sync : Nat := 7
abbrev RSt.unsync : Nat := 8
abbrev RSt.sleep : Nat := 9

/-- The state of a ring unit (R234). -/
def State.rst (s : State) (r : Ring) : Nat := s.rd (Fld.SX_CS_STATUS_STATE r)

/-- The enabled rings. -/
def State.enabledRings (s : State) : List Ring := rings.filter s.ringEn

/-- JC.MOD_STATUS.SYNC, TB.STATUS.NET_SRC and the junction PLL reference follow the ring states (R23, R31, R178): while the reference
changes, SYNT reads 0. -/
def State.showSync (s : State) : State :=
  let x := s.ringSync .X
  let y := s.ringSync .Y
  let lead := s.leads
  let src := if lead then 2 else if x then 0 else if y then 1 else 3
  let s1 := (s.wrB Fld.JC_MOD_STATUS_SYNC (x || y)).wr Fld.TB_STATUS_NET_SRC src
  if src = s.rd Fld.TB_STATUS_NET_SRC then s1
  else
    let s2 := s1.wr Fld.JC_CLK_STATUS_SYNT 0
    if 2 ≤ src then s2.wr Fld.JC_CLK_STATUS_RATE_CORR 0 else s2

/-- E_OPEN or W_OPEN. -/
def openFld (r : Ring) (east : Bool) : Field := if east then Fld.SX_CS_STATUS_E_OPEN r else Fld.SX_CS_STATUS_W_OPEN r

/-- E_FO_FRAME or W_RO_FRAME. -/
def outFld (r : Ring) (west : Bool) : Field := if west then Fld.SX_PORT_STATUS_W_RO_FRAME r else Fld.SX_PORT_STATUS_E_FO_FRAME r

/-- Whether the node is cut off: both ports are open (R251). -/
def State.cutOff (s : State) (r : Ring) : Bool := s.flag (openFld r true) && s.flag (openFld r false)

/-- Whether the unit takes a frame that arrives on E_RI, else on W_FI (R251, R252, R257): on W_FI while the west port is closed; on E_RI while
it is open, and after its healing until the first frame on W_FI. -/
def State.takes (s : State) (r : Ring) (onEast : Bool) : Bool :=
  !s.cutOff r && (if onEast then s.flag (openFld r false) || (s.rg r).tail else !s.flag (openFld r false))

/-- Whether a frame goes on W_RO, else on E_FO (R251, R252): a frame taken, when the east port is open; a frame in reverse passage. -/
def State.goesWest (s : State) (r : Ring) (onEast : Bool) : Bool := if s.takes r onEast then s.flag (openFld r true) else onEast

/-- The fold bits that this node sets in a frame that it takes (R251). -/
def State.foldBits (s : State) (r : Ring) (onEast : Bool) : Nat := b2n (s.flag (openFld r true)) + 2 * b2n onEast

/-- FLAGS of a frame as it leaves (R251): with this node's fold bits where the unit takes it. -/
def State.flagsOut (s : State) (r : Ring) (onEast : Bool) (flags : Nat) : Nat :=
  if s.takes r onEast then flags ||| s.foldBits r onEast else flags

/-- FOLDED (R232, R251, R257): one port is open and its fold engaged, or the west fold still takes frames; with both open the node is cut off
and forwards nothing. -/
def State.showFold (s : State) (r : Ring) : State :=
  s.wrB (Fld.SX_STATUS_FOLDED r)
    ((s.flag (openFld r true) != s.flag (openFld r false)) && (s.rg r).openAt.isNone || (s.rg r).tail && !s.cutOff r)

/-- Bytes followed by their check (R208). -/
def withCheck (body : List Byte) : List Byte := body ++ leBytes 4 (crc32 body).toNat

/-- A control frame leaves on E_FO, on W_RO, or on both (R235). -/
def State.sendOn (s : State) (r : Ring) (body : List Byte) (east west : Bool) : State :=
  let until_ := s.clk.uptime + 8 * (body.length + 6)
  s.modRg r (fun g => { g with
    ctrl := some { bytes := withCheck body, at_ := s.clk.uptime, east := east, west := west }
    outE := if east then until_ else g.outE, outW := if west then until_ else g.outW })

/-- A control frame that arrived on E_RI, else on W_FI, goes on; a node that is cut off forwards nothing (R251). -/
def State.forwardOn (s : State) (r : Ring) (onEast : Bool) (body : List Byte) : State :=
  if s.cutOff r then s else s.sendOn r body (!s.goesWest r onEast) (s.goesWest r onEast)

/-- FLAGS of a frame that the leader launches (R207, R251). -/
def State.launchFlags (s : State) (r : Ring) : Nat := b2n (s.flag (openFld r true)) + 4 * r.num

/-- The leader launches a control frame: on E_FO, or on W_RO while its east port is open (R251). -/
def State.launchOn (s : State) (r : Ring) (body : List Byte) : State :=
  s.sendOn r body (!s.flag (openFld r true)) (s.flag (openFld r true))

/-- An ordered set leaves on W_RO, else on E_FO (R236): its control character and its data character. -/
def State.sendSet (s : State) (r : Ring) (char data : Nat) (west : Bool) : State :=
  let x : SetOut := { char := char, data := data, west := west, at_ := s.clk.uptime }
  s.modRg r (fun g => { g with sets := x :: g.sets.filter (fun y => y.char != char || y.data != data || y.west != west) })

/-- /D/ on W_RO: the hop delay is measured (R236, R242). -/
def State.sendProbe (s : State) (r : Ring) : State := (s.modRg r (fun g => { g with probe := some s.clk.uptime })).sendSet r 0x3C 1 true

/-- Put a ring unit into a state; SYNC and LEADER of SX.STATUS follow. The rank clash record ends when it leaves LEAD or SYNC (R238). -/
def State.setRst (s : State) (r : Ring) (st : Nat) : State :=
  let was := s.rst r
  let s1 := ((s.wr (Fld.SX_CS_STATUS_STATE r) st).wrB (Fld.SX_STATUS_SYNC r) (st == RSt.sync)).wrB (Fld.SX_STATUS_LEADER r)
    (st == RSt.lead || st == RSt.leadCensus)
  let s2 := s1.modRg r (fun g =>
    { g with since := s.clk.uptime
             clash := g.clash && !((was == RSt.lead || was == RSt.sync) && st != was) })
  s2.showSync

/-- Entry to LISTEN (R234, R237, R242): the west hop is measured. -/
def State.enterListen (s : State) (r : Ring) : State :=
  ((s.setRst r RSt.listen).modRg r (fun g =>
    { g with withdrawn := false, first := none, last := none, missed := 0, sent := none, census := none })).sendProbe r

/-- A unit in SYNC becomes unsynchronised (R247): ring event 0x01. -/
def State.unsync (s : State) (r : Ring) : State :=
  if s.rst r = RSt.sync then ((s.setRst r RSt.unsync).modRg r (fun g => { g with last := none })).ringEvent r 1 else s

/-- RATE_CORR within ±200 ppm, in units of 0.01 ppm (R24, R245, R248). -/
def State.rateOk (s : State) : Bool :=
  let v := toSigned 16 (s.rd Fld.JC_CLK_STATUS_RATE_CORR)
  decide (-20000 ≤ v ∧ v ≤ 20000)

/-- The path delay in ns (R223). -/
def State.pathDelay (s : State) (r : Ring) : Nat := s.rd (Fld.SX_PATH_DELAY_VALUE r)

/-- t_exp of R246 for cycle k. -/
def State.tExp (s : State) (r : Ring) (k : Nat) : Nat := k * s.tCycle + 4 * s.rd Fld.SX_LAUNCH_JC + s.pathDelay r

/-- The cycle whose expected arrival lies nearest to now. -/
def State.nearestK (s : State) (r : Ring) : Nat := (s.clk.net + s.tCycle / 2 - 4 * s.rd Fld.SX_LAUNCH_JC - s.pathDelay r) / s.tCycle

/-- Load a plug schedule into the working set (R244). -/
def State.loadSched (s : State) (p : Sched) : State :=
  let s1 := ((((((({ s with sched := some p } : State).setReg Reg.SX_SCHED_ID p.id).wr Fld.SX_COUNTS_SLOTS p.slots).wr
    Fld.SX_COUNTS_CONTAINERS p.conts).wr Fld.SX_T_IN_JC p.tIn).wr Fld.SX_T_COM_JC p.tCom).wr Fld.SX_LAUNCH_JC p.launch).wr
    Fld.SX_LEN4_LEN4 p.len4
  let s2 := (List.range 256).foldl (fun t n => ((t.setReg (Reg.SX_SLOT_n_A n) 0).setReg (Reg.SX_SLOT_n_B n) 0).setReg (Reg.SX_SLOT_n_C n) 0) s1
  p.entries.foldl (fun t x =>
    ((t.setFields (Reg.SX_SLOT_n_A x.1) x.2.1).setFields (Reg.SX_SLOT_n_B x.1) x.2.2.1).setFields (Reg.SX_SLOT_n_C x.1) x.2.2.2) s2

/-- The plug schedule of an identity, with its number. -/
def State.findSched (s : State) (id : Word) : Option (Nat × Sched) :=
  match s.cfg.scheds.findIdx? (fun p => p.id == id) with
  | some n => (s.cfg.scheds[n]?).map (fun p => (n, p))
  | none => none

/-! ### Headers -/

/-- The leader is lost (R249): every enabled ring unit enters LISTEN. -/
def State.leaderLost (s : State) : State :=
  s.enabledRings.foldl (fun t r => ((t.unsync r).enterListen r).bump (Fld.SX_CS_COUNT_LEADER_LOST r)) s

/-- Whether a ring unit counts expected frames (R249). -/
def State.awaits (s : State) (r : Ring) : Bool := s.rst r == RSt.sync || s.rst r == RSt.unsync || s.rst r == RSt.integrating

/-- An expected frame brought no valid one (R249): after LOSS_CYCLES in a row on every ring that counts, the leader is lost. -/
def State.noFrame (s : State) (r : Ring) : State :=
  if s.awaits r then
    let s1 := s.modRg r (fun g => { g with missed := g.missed + 1 })
    if s1.enabledRings.all (fun x => !s1.awaits x || decide (s1.rd (Fld.SX_CS_CFG_LOSS_CYCLES x) ≤ (s1.rg x).missed)) then s1.leaderLost else s1
  else s

/-- A frame in passage whose trailer never came was cut (R253): it is not valid. -/
def State.endCut (s : State) (r : Ring) : State :=
  if (s.rg r).cur.isSome then (s.modRg r (fun g => { g with cur := none })).noFrame r else s

/-- Header bytes 0 to 27 with other FLAGS (R207). -/
def hdrBody (h : FrameHdr) (flags : Nat) : List Byte :=
  leBytes 1 h.type ++ leBytes 1 flags ++ leBytes 1 h.leader ++ leBytes 1 h.nodes ++ leBytes 4 h.cycle ++ leBytes 4 h.schedId.toNat ++
    leBytes 4 h.schedNext.toNat ++ leBytes 4 h.switchAt ++ sliceB h.counts 0 8

/-- The header as it leaves a node that sets these fold bits (R209, R251), none when it leaves as it came. -/
def hdrAltered (h : FrameHdr) (bits : Nat) : Option (List Byte) :=
  if h.flags ||| bits = h.flags then none else some (withCheck (hdrBody h (h.flags ||| bits)))

/-- A frame begins to pass (R184, R204, R219, R251): it is forwarded with this node's fold bits, and the containers seen in the frame of the
CYCLE before are those that count. The leader forwards nothing: the frame has returned. -/
def State.beginFrame (s : State) (r : Ring) (h : FrameHdr) (fate : FrameFate) (slots conts : Bool) : State :=
  let bits := s.foldBits r h.onEast
  let west := s.goesWest r h.onEast
  let rx := s.clk.net - h.age
  let f : FrameIn := { hdr := h, fold := (h.flags % 4) ||| bits, rx := rx, fate := fate, slots := slots, conts := conts }
  let s1 := s.modRg r (fun g =>
    { g with cur := some f, claimed := 0, claimOut := [], expK := s.nearestK r + 1
             seenPrev := if (g.seenOf + 1) % 2 ^ 32 = h.cycle then g.seen else [], seen := [], seenOf := h.cycle })
  if s.rst r = RSt.lead then s1
  else
    (s1.modRg r (fun g => { g with fwd := some { header := if fate = .bad then none else hdrAltered h bits, west := west, stamp := rx + 320,
                                                 trailer := [] } })).set1 (outFld r west)

/-- What a member with a pending copy does with an announcement in a valid frame (R228, R229): ring X's own switch counts. -/
def State.announced (s : State) (r : Ring) (h : FrameHdr) : State :=
  if bitOf h.flags 3 && s.flag Fld.SX_SCHED_CTRL_BASTE_PENDING && !s.leads then
    if h.schedNext = s.reg Reg.SX_SH_SCHED_ID then (if r = Ring.X then { s with annAt := some h.switchAt } else s)
    else if s.flag Fld.SX_SCHED_CTRL_ANN_DIFF then s
    else (s.set1 Fld.SX_SCHED_CTRL_ANN_DIFF).troubleAt Fld.SX_SCHED_CTRL_ANN_DIFF [h.schedNext.toNat]
  else s

/-- The cycle number nearest to this node's own that a CYCLE field names (R207). -/
def State.cycleOf (s : State) (c : Nat) : Int := (s.kNow : Int) + toSigned 32 ((c + 2 ^ 32 - s.kNow % 2 ^ 32) % 2 ^ 32)

/-- The re-anchor of R254 at a frame whose fold flags differ from those of the last valid one: the delay is measured anew at the header, as the
example of R259 has it; too large a change makes the unit unsynchronised instead. -/
def State.anchorAt (s : State) (r : Ring) (h : FrameHdr) : State :=
  let d : Int := ((s.clk.net - h.age : Nat) : Int) - (4 * s.rd Fld.SX_LAUNCH_JC : Nat) - s.cycleOf h.cycle * s.tCycle
  let diff := d - s.pathDelay r
  let f := s.shadowFig
  let lim : Int := (4 * (f.dFold - f.dRing) + 2000 : Nat)
  if d < 0 ∨ diff > lim ∨ diff < -lim then (s.unsync r).beginFrame r h .used true true
  else
    ((s.wr (Fld.SX_PATH_DELAY_VALUE r) d.toNat).modRg r (fun g => { g with anchored := true })).beginFrame r h
      (.anchor (s.pathDelay r) (s.rg r).anchored) true true

/-- A data frame's header with a valid check (R207, R210, R230, R246, R254). -/
def State.header (s : State) (r : Ring) (h : FrameHdr) : State :=
  let s1 := (((s.wr (Fld.SX_STATUS_NODES r) h.nodes).wr (Fld.SX_STATUS_LEADER_ADDR r) h.leader).wr (Fld.SX_SCHED_NEXT_VALUE r)
    h.schedNext.toNat).wr (Fld.SX_SWITCH_AT_VALUE r) h.switchAt
  let st := s.rst r
  let k := s.nearestK r
  if st = RSt.integrating then s1.beginFrame r h .used false false
  else if st ≠ RSt.sync ∧ st ≠ RSt.unsync ∧ st ≠ RSt.lead then s1.beginFrame r h .forward false false
  else if h.schedId ≠ s1.reg Reg.SX_SCHED_ID then s1.beginFrame r h .mismatch false false
  else if (h.flags % 4) ||| s.foldBits r h.onEast ≠ (s.rg r).fold then s1.anchorAt r h
  else if st ≠ RSt.sync ∨ (h.cycle = k % 2 ^ 32 ∧ within (s.clk.net - h.age) (s.tExp r k) 2000) then s1.beginFrame r h .used true true
  else ((s1.bump (Fld.SX_WIN_COUNT_OUTSIDE r)).unsync r).beginFrame r h .used true true

/-- Whether a header is treated as one with a failed check (R210, R235): a failed check, a reserved TYPE, the other ring's frame. -/
def hdrBad (h : FrameHdr) (r : Ring) : Bool :=
  !h.checkOk || decide (h.type = 0 ∨ 8 ≤ h.type) || bitOf h.flags 2 != (r == Ring.Y)

/-- FRAME_HEADER (R210, R251, R252): a frame on a pair that the unit does not take passes in reverse; a bad header is forwarded and counted;
control frames have rows of their own. -/
def execFrameHeader (r : Ring) (h : FrameHdr) (s : State) : Host.Outcome State Fault Refusal :=
  .next (if s.rst r = RSt.disabled ∨ s.rst r = RSt.sleep ∨ s.cutOff r then s
    else if !s.takes r h.onEast then (if h.onEast then s.set1 (outFld r true) else s)
    else
      let s1 := (if h.onEast then s else (s.modRg r (fun g => { g with tail := false })).showFold r).endCut r
      if hdrBad h r then ((s1.bump (Fld.SX_FRAME_ERR_HDR r)).wr (Fld.SX_STATUS_FRAME_OK r) 0).beginFrame r h .bad false false
      else if h.type ≠ 1 then s1
      else s1.header r h)

/-! ### Slots that the module reads -/

/-- The check of a slot (R208). -/
def slotCheck (cycle index : Nat) (data : List Byte) : Word := crc32 (leBytes 4 cycle ++ leBytes 2 index ++ data)

/-- The class of a received slot (R215): 0 fresh, 1 carried, 2 empty, 3 bad. -/
def slotClass (cycle index : Nat) (data : List Byte) (check : Word) : Nat :=
  if check = slotCheck cycle index data then 0
  else if check = slotCheck ((cycle + 2 ^ 32 - 1) % 2 ^ 32) index data then 1
  else if check = ~~~(slotCheck cycle index (List.replicate data.length 0)) then 2
  else 3

/-- Whether a ring brings read copies (R247): in SYNC, or at the leader. -/
def State.ringReads (s : State) (r : Ring) : Bool := s.rst r == RSt.sync || s.rst r == RSt.lead

/-- Whether the recomputed arrival of a direct slot falls in a band of R44 while the frame in passage is folded (R256). -/
def State.foldBand (s : State) (r : Ring) (n : Nat) : Bool :=
  let a := arrivalOf (s.rd Fld.SX_LAUNCH_JC) (s.pathDelay r) (s.entry n)
  (match (s.rg r).cur with
    | some f => f.fold != 0
    | none => false) &&
  (nearSpanEach s.tCycle a (4 * s.tIn) (4 * s.tRel) 2400 || nearSpanEach s.tCycle a (4 * s.tHand) (4 * s.tCom) 2400)

/-- The direct path of a copy (R46, R256): the first copy of a cycle that passes builds the frames; the data of a later one are compared with
those used. -/
def State.directCopy (s : State) (r : Ring) (n cycle : Nat) (data : List Byte) (pass : Bool) : State :=
  match s.directBuilt.find? (fun x => x.1 == n && x.2.1 == cycle) with
  | some (_, _, d) => if d = data then s else s.bump (Fld.SX_CLASH_COPY_DIFF .X)
  | none =>
    if s.foldBand r n || !pass then s
    else
      (s.directFrames n cycle data).foldl (fun t d => t.sendDirect d)
        { s with directBuilt := (n, cycle, data) :: s.directBuilt.filter (fun x => x.1 != n) }

/-- SLOT_ARRIVAL (R215, R234, R247, R271): a unit in SYNC or LEAD reads: the class is recorded and counted; a fresh or carried slot is staged 19 jc
after its arrival, with its safe message checked. -/
def execSlotArrival (r : Ring) (n : Fin 256) (data : List Byte) (check : Word) (s : State) : Host.Outcome State Fault Refusal :=
  .next (match (s.rg r).cur with
    | none => s
    | some f =>
      let e := s.entry n
      if !f.slots || !s.ringReads r || !entEn e || entWrite e then s
      else
        let cls := slotClass f.cycle (entIndex e) data check
        let s0 := if entDirect e then s.pulse 9 else s
        let s1 := if r = Ring.X then s0.wr (Fld.SX_SLOT_n_D_RESULT n) cls else s0
        if cls = 2 then s1.bump (Fld.SX_SLOT_ERR_EMPTY r)
        else if cls = 3 then s1.bump (Fld.SX_SLOT_ERR_BAD r)
        else
          let s2 := if r = Ring.X then s1.wr (Fld.SX_SLOT_n_D_CYCLE n) f.cycle else s1
          let c := if entSafe e then s2.checkSafe (entConn e) data s.netSpan else (s2, true)
          let s3 := c.1.modRg r (fun g =>
            { g with rx := { entry := n, cycle := f.cycle, data := data, pass := c.2, at_ := s.clk.uptime + 76 } ::
                             g.rx.filter (fun x => x.entry != n.val || (x.cycle != f.cycle && (x.cycle + 1) % 2 ^ 32 == f.cycle)) })
          if entDirect e then s3.directCopy r n f.cycle data c.2 else s3)

/-! ### Copies taken at t_in -/

/-- The cycle of the due frame of an entry on a ring at t_in of cycle k (R225, R255). -/
def State.dueCycle (s : State) (r : Ring) (e : Word × Word × Word) (k : Nat) : Nat :=
  let a := arrivalOf (s.rd Fld.SX_LAUNCH_JC) (s.pathDelay r) e
  let t := 4 * s.tIn
  if a < t ∧ ¬((s.rg r).anchored ∧ t ≤ a + 2000) then k else k - 1

/-- The copy of the due frame on a ring, when it qualifies (R225). -/
def State.dueCopy (s : State) (r : Ring) (n : Nat) (e : Word × Word × Word) (k : Nat) : Option SlotRx :=
  if s.ringReads r then
    (s.rg r).rx.find? (fun x => x.entry == n && x.cycle == s.dueCycle r e k % 2 ^ 32 && x.pass && decide (x.at_ ≤ s.clk.uptime))
  else none

/-- The copy taken for an entry (R225, R255), with the ring, and whether two qualifying copies of one frame differ. -/
def State.takeCopy (s : State) (n : Nat) (e : Word × Word × Word) (k : Nat) : Option (Ring × List Byte) × Bool :=
  match s.dueCopy .X n e k, s.dueCopy .Y n e k with
  | some x, some y =>
    if x.cycle = y.cycle then (some (.X, x.data), x.data != y.data)
    else if s.dueCycle .X e k < s.dueCycle .Y e k then (some (.Y, y.data), false)
    else (some (.X, x.data), false)
  | some x, none => (some (.X, x.data), false)
  | none, some y => (some (.Y, y.data), false)
  | none, none => (none, false)

/-- A read entry at t_in (R225): the copy taken, SLOT_OK of each ring, COPY_DIFF. -/
def State.takeEntry (s : State) (n : Nat) (e : Word × Word × Word) (k : Nat) : State × Option (List Byte) :=
  let c := s.takeCopy n e k
  let s1 := rings.foldl (fun t r => t.wrBit (Reg.SX_SLOT_OK_n r (n / 32)) (n % 32) (match c.1 with
    | some (x, _) => decide (x = r)
    | none => false)) s
  (if c.2 then s1.bump (Fld.SX_CLASH_COPY_DIFF .X) else s1, c.1.map (·.2))

/-- The read entries of cycle k (R225, R228): in the cycle of a switch an entry of the old table whose due frame lies before it is taken
under that table. -/
def State.dueEntries (s : State) (k : Nat) : List (Nat × (Word × Word × Word)) :=
  let new := ((List.range 256).map (fun n => (n, s.entry n))).filter (fun x => entEn x.2 && !entWrite x.2)
  match s.oldTab with
  | some (sw, old) =>
    if sw = k then
      (old.filter (fun x => entEn x.2 && !entWrite x.2 && decide (s.dueCycle .X x.2 k < k))) ++ new.filter (fun x => decide (s.dueCycle .X x.2 k = k))
    else new
  | none => new

/-! ### Slots that the module writes -/

/-- The 8 bytes of the heartbeat slot (R331). -/
def State.heartbeatSlot (s : State) : List Byte :=
  let flags := b2n (s.flag Fld.DX_STATUS_SF) + 2 * b2n (s.flag Fld.DX_STATUS_PRIMARY) + 4 * b2n (s.flag Fld.JC_MOD_STATUS_SYNC)
  leBytes 2 (s.rd Fld.DX_CLAIM_OWN) ++ leBytes 1 (s.rd Fld.DX_STATUS_STATE) ++ leBytes 1 flags ++ leBytes 4 (s.rd Fld.DX_HB_SEQ_SEQ)

/-- The voted image that was ready 4 jc ago (R38). -/
def State.readyImage (s : State) : Option Mem := if s.vote.readyAt + 16 ≤ s.clk.uptime then some s.vote.out else s.vote.prev

/-- The message of a sending connection that was ready 4 jc ago (R38). -/
def State.readyMsg (s : State) (n : Nat) : List Byte :=
  let c := s.conn n
  if c.at_ + 16 ≤ s.clk.uptime then c.msg else c.prev

/-- The data of an owned slot by its SOURCE (R38, R213, R247, R389), none for the empty mark: before the first vote, and in a SAFE entry of a
unit that is not synchronised. -/
def State.ownedData (s : State) (r : Ring) (e : Word × Word × Word) : Option (List Byte) :=
  let n := entLen e
  if entSafe e && s.rst r == RSt.unsync then none
  else match entSource e with
    | 0 => if s.vote.voted then s.readyImage.map (fun m => m.bytes (entImg e) n) else none
    | 1 => if s.vote.voted && s.readyImage.isSome then some ((s.readyMsg (entConn e)).take n) else none
    | 2 => some (sliceB s.heartbeatSlot 0 n)
    | _ => some (s.gTx.bytes (entImg e) n)

/-- A slot with its check for a CYCLE (R208, R213). -/
def freshSlot (entry index cycle : Nat) (data : List Byte) : SlotOut :=
  { entry := entry, cycle := cycle, empty := false, data := data, check := slotCheck cycle index data }

/-- The empty mark of a slot (R212, R213). -/
def emptySlot (entry index cycle len : Nat) : SlotOut :=
  { entry := entry, cycle := cycle, empty := true, data := List.replicate len 0, check := ~~~(slotCheck cycle index (List.replicate len 0)) }

/-- A write entry's outcome in a frame (R213, R344, R347): none when the unit forwards the slot unchanged, as a new active does with a pair entry
until 4 jc after its first voted image. -/
def State.slotOut (s : State) (r : Ring) (n cycle : Nat) (written : Bool) : Option SlotOut :=
  let e := s.entry n
  if entEn e && entWrite e && (entSource e == 2 || s.writesPair && decide (s.dx.pairAt ≤ s.clk.uptime)) then
    match (if written then none else s.ownedData r e) with
    | some d => some (freshSlot n (entIndex e) cycle d)
    | none => some (emptySlot n (entIndex e) cycle (entLen e))
  else none

/-- Record a written slot; SLOT_OK shows it (R232). -/
def State.putSlot (s : State) (r : Ring) (n : Nat) (o : Option SlotOut) : State :=
  let s1 := s.wrBit (Reg.SX_SLOT_OK_n r (n / 32)) (n % 32) o.isSome
  match o with
  | some x => s1.modRg r (fun g => { g with wrote := x :: g.wrote.filter (fun y => y.entry != n) })
  | none => s1

/-- The leader's own slot leaves in the frame launched last, with the data ready at that moment (R38, R212). -/
def State.launchSlot (s : State) (r : Ring) (n : Nat) : State :=
  match (s.rg r).sent with
  | some x =>
    match s.slotOut r n x.cycle false with
    | some o =>
      let i := entIndex (s.entry n)
      if x.header = [] then s
      else
        (s.putSlot r n (some o)).modRg r (fun g =>
          { g with sent := some { x with slots := x.slots.map (fun y => if y.entry = i then { o with entry := i } else y) } })
    | none => s
  | none => s

/-- OWNED_SLOT_PASSAGE (R38, R213, R214): the slot is written in full; one that arrives already written gets the empty mark, counted as a clash. At
the leader it is the slot's departure in the launched frame. -/
def execOwnedSlotPassage (r : Ring) (n : Fin 256) (written : Bool) (s : State) : Host.Outcome State Fault Refusal :=
  .next (if s.rst r = RSt.lead then s.launchSlot r n
    else match (s.rg r).cur with
      | none => s
      | some f =>
        if !f.slots then s
        else
          let o := s.slotOut r n f.cycle written
          let s1 := s.putSlot r n o
          if written && o.isSome then
            ((s1.bump (Fld.SX_CLASH_WRITE r)).set1 (Fld.SX_STATUS_CLASH r)).troubleAt (Fld.SX_STATUS_CLASH r) [entIndex (s.entry n)]
          else s1)

/-! ### Direct commands at an FQ8 -/

/-- The lanes counted for a direct command (R47): marked VOTING by the membership in force, command link open, frame present and good. -/
def State.directLanes (s : State) (q : Nat) (absent : Tri Bool) : List Lane :=
  match (getAt FqSt.none s.fq q).member with
  | some m => lanes.filter (fun l => m.get l && (s.ln l).cmdLink && !absent.get l)
  | none => []

/-- One channel of a direct command (R47, R109): applied on agreement, otherwise the channel keeps its state and the event is reported. A
channel in safe mode keeps its safe value. -/
def State.directChannel (s : State) (q : Nat) (ls : List Lane) (flip : Tri Byte) (ch : Nat) (b : Bool) : State :=
  let x := getAt FqSt.none s.fq q
  let mode := match x.msg with
    | some m => getAt 3 m.modes (ch % 8)
    | none => 3
  match reVote (ls.map (fun l => b != bitOf (flip.get l).toNat (ch % 8))) with
  | some v =>
    if mode = 3 then s
    else
      { s with fq := setAt s.fq q { x with cmd := setAt x.cmd (ch % 8) v }, vote := { s.vote with dHold := dropN s.vote.dHold ch } }
  | none =>
    let rep : FqReport := { ch := ch, counted := ofBits (lanes.map ls.contains), mismatch := false, direct := true }
    { s with fq := setAt s.fq q { x with reports := x.reports ++ [rep] } }

/-- The direct frames to FQ_q arrive and are re-voted (R47). -/
def State.applyDirect (s : State) (q : Nat) (absent : Tri Bool) (flip : Tri Byte) : State :=
  match s.directIn.find? (fun d => d.q == q) with
  | none => s
  | some d =>
    let s1 : State := { s with directIn := s.directIn.filter (fun x => x.q != q) }
    if (getAt FqSt.none s.fq q).lost || (getAt FqSt.none s.fq q).member.isNone then s1
    else d.bits.foldl (fun t x => t.directChannel q (s.directLanes q absent) flip x.1 x.2) s1

/-- DIRECT_FRAME_DEFERRED (R46): the oldest direct frame waiting for FQ_q starts once the one before it has ended. -/
def execDirectFrameDeferred (q : Fin 4) (s : State) : Host.Outcome State Fault Refusal :=
  .next (if s.directIn.any (fun x => x.q == q.val) then s
    else match s.directQ.find? (fun x => x.q == q.val) with
      | some d => { s with directIn := s.directIn ++ [d], directQ := s.directQ.erase d }
      | none => s)

/-! ### Containers -/

/-- Show the transmit queue length. -/
def State.showTx (s : State) (r : Ring) : State := s.wr (Fld.SX_TXC_STATUS_QUEUED r) (s.rg r).queued

/-- Show the head of the receive FIFO (R232). -/
def State.showRx (s : State) (r : Ring) : State :=
  match (s.rg r).rxq with
  | [] =>
    (List.range 13).foldl (fun t n => t.setReg (Reg.SX_RXC_DATA_n r n) 0) ((s.setReg (Reg.SX_RXC_HDR r) 0).setReg (Reg.SX_RXC_STATUS r) 0)
  | m :: ms =>
    let s1 := ((s.wr (Fld.SX_RXC_HDR_SOURCE r) m.source).wr (Fld.SX_RXC_HDR_LEN r) m.len).wr (Fld.SX_RXC_HDR_TAG r) m.tag
    let s2 := (((s1.set1 (Fld.SX_RXC_STATUS_VALID r)).wrB (Fld.SX_RXC_STATUS_BCAST r) m.bcast).wr (Fld.SX_RXC_STATUS_COUNT r)
      (ms.length + 1)).wr (Fld.SX_RXC_STATUS_KIND r) m.kind
    (List.range 13).foldl (fun t n => t.setReg (Reg.SX_RXC_DATA_n r n) (BitVec.ofNat 32 (leNat (sliceB m.data (4 * n) 4)))) s2

/-- A container is delivered (R219, R221): KIND 0x8000 to 0x80FF goes to the Gusset bridge, every other one to the receive FIFO. -/
def State.deliver (s : State) (r : Ring) (c : Container) : State :=
  let m : RxMsg := { source := c.source, bcast := c.dest == 255, len := c.len, tag := c.tag, kind := c.kind, data := c.payload.take c.len }
  if decide (0x8000 ≤ c.kind ∧ c.kind ≤ 0x80FF) then s.gussetTake r m
  else if 32 ≤ (s.rg r).rxq.length then s.set1 (Fld.SX_STATUS_RXC_OVF r)
  else (s.modRg r (fun g => { g with rxq := g.rxq ++ [m] })).showRx r

/-- The bytes of a container on the ring (R208, R216). -/
def contBytes (c : Container) (cycle : Nat) : List Byte :=
  let body := leBytes 1 c.mark ++ leBytes 1 c.source ++ leBytes 1 c.dest ++ leBytes 1 c.len ++ leBytes 2 c.tag ++ leBytes 2 c.kind ++
    sliceB c.payload 0 52
  body ++ leBytes 4 (crc32 (leBytes 4 cycle ++ leBytes 2 (0x8000 + c.index) ++ body)).toNat

/-- A free container (R216). -/
def freeContainer (j : Nat) : Container :=
  { index := j, checkOk := true, mark := 0, source := 0, dest := 0, len := 0, tag := 0, kind := 0, payload := [] }

/-- The container that a node writes when it claims one for a message (R217). -/
def TxMsg.claims (m : TxMsg) (j source : Nat) : Container :=
  { index := j, checkOk := true, mark := 0x5A, source := source, dest := m.dest, len := m.len, tag := m.tag, kind := m.kind,
    payload := m.data.take m.len }

/-- CONTAINER_PASSAGE (R217, R219): a free container is claimed for the head message; a container for this node is delivered at most
once. One with a failed check is forwarded unchanged. -/
def execContainerPassage (r : Ring) (c : Container) (s : State) : Host.Outcome State Fault Refusal :=
  .next (match (s.rg r).cur with
    | none => s
    | some f =>
      let g := s.rg r
      let own := s.rd (Fld.SX_CFG_ADDR r)
      let mine := (c.dest == own || c.dest == 255) && c.source != own
      if !f.conts || !c.checkOk then s
      else if c.mark = 0 then
        match g.txq with
        | m :: ms =>
          if g.claimed < s.rd (Fld.SX_CFG_CLAIM_MAX r) then
            ((s.modRg r (fun g => { g with txq := ms, claimed := g.claimed + 1, seen := c.index :: g.seen,
                                           claimOut := m.claims c.index own :: g.claimOut })).bumpW (Fld.SX_TXC_COUNT_SENT r)).showTx r
          else s
        | [] => s
      else if c.mark = 0x5A then
        let s1 := if mine then s.deliver r c else s
        s1.modRg r (fun g => { g with seen := c.index :: g.seen })
      else if c.mark = 0xA5 then (if mine && !g.seenPrev.contains c.index then s.deliver r c else s)
      else s)

/-- A message is queued or refused (R220): a full queue, KIND 0x8000 and above from software, or a LEN outside 1 to 52. -/
def State.submitTx (s : State) (r : Ring) : State :=
  let kind := s.rd (Fld.SX_TXC_CTRL_KIND r)
  let len := s.rd (Fld.SX_TXC_HDR_LEN r)
  if 16 ≤ (s.rg r).queued ∨ 0x8000 ≤ kind ∨ len = 0 ∨ 52 < len then s.set1 (Fld.SX_TXC_STATUS_REFUSED r)
  else
    let data := ((List.range 13).map (fun n => leBytes 4 (s.rd (Fld.SX_TXC_DATA_n_BYTES r n)))).flatten
    let m : TxMsg := { dest := s.rd (Fld.SX_TXC_HDR_DEST r), len := len, tag := s.rd (Fld.SX_TXC_HDR_TAG r), kind := kind,
                       data := data.take len, age := 0 }
    (s.modRg r (fun g => { g with txq := g.txq ++ [m] })).showTx r

/-- The effect of a write of SX.TXC_CTRL (R220). -/
def State.txCtl (s : State) (r : Ring) (w : Word) : State :=
  let s1 := if wbits w (Fld.SX_TXC_CTRL_FLUSH r) = 1 then (s.modRg r (fun g => { g with txq := [] })).showTx r else s
  if wbits w (Fld.SX_TXC_CTRL_SUBMIT r) = 1 then s1.submitTx r else s1

/-- TXC_SUBMIT (R220). -/
def execTxcSubmit (i : Initiator) (r : Ring) (w : Word) (s : State) : Host.Outcome State Fault Refusal :=
  .next (s.regCmd i (Reg.SX_TXC_CTRL r) w (fun t => t.txCtl r (w ||| 0x80000000)))

/-- TXC_FLUSH (R220). -/
def execTxcFlush (i : Initiator) (r : Ring) (w : Word) (s : State) : Host.Outcome State Fault Refusal :=
  .next (s.regCmd i (Reg.SX_TXC_CTRL r) w (fun t => t.txCtl r (w ||| 0x40000000)))

/-- The head container is removed (R221). -/
def State.popRx (s : State) (r : Ring) : State := (s.modRg r (fun g => { g with rxq := g.rxq.drop 1 })).showRx r

/-- RXC_POP (R221). -/
def execRxcPop (i : Initiator) (r : Ring) (w : Word) (s : State) : Host.Outcome State Fault Refusal :=
  .next (s.regCmd i (Reg.SX_RXC_CTRL r) w (fun t => t.popRx r))

/-! ### Trailers -/

/-- Messages still queued when the trailer passes (R220): counted, kept, and dropped after CONT_TTL frames. -/
def State.noRoom (s : State) (r : Ring) : State :=
  if (s.rg r).txq = [] then s
  else
    let aged := (s.rg r).txq.map (fun m => { m with age := m.age + 1 })
    let keep := aged.filter (fun m => decide (m.age < s.rd (Fld.SX_CFG_CONT_TTL r)))
    let lost := aged.filter (fun m => decide (s.rd (Fld.SX_CFG_CONT_TTL r) ≤ m.age))
    let s1 := ((((s.bump (Fld.SX_TXC_COUNT_NO_ROOM r)).set1 (Fld.SX_STATUS_NO_ROOM r)).modRg r (fun g => { g with txq := keep })).bumpBy
      (Fld.SX_TXC_STATUS_EXPIRED r) lost.length).showTx r
    lost.foldl (fun t m => t.carriedLost m 9) s1

/-- The wall offset taken from the ring (R509): a first offset, or one that moved by more than 700 ppm of the time since, is a step. -/
def State.takeOffset (s : State) (ofs : Int) : State :=
  let s1 : State := { s with clk := { s.clk with ringOfs := some (ofs, s.clk.net) } }
  let small : Bool := match s.clk.ringOfs with
    | some (o, t) =>
      let lim : Int := (ceilDiv (700 * (s.clk.net - t)) 1000000 : Nat)
      s.flag Fld.TB_STATUS_WALL_VALID && decide (-lim ≤ ofs - o ∧ ofs - o ≤ lim)
    | none => false
  if small then { s1 with clk := { s1.clk with ofs := wrapOfs ofs } } else s1.wallStep (ofs - s.clk.ofs) 3

/-- The time record of a valid frame at each state (R223, R245, R248): the phase error, the integration, the re-acquisition. -/
def State.phaseRecord (s : State) (r : Ring) (f : FrameIn) (launch : Nat) : State :=
  let st := s.rst r
  let e : Int := ((launch + s.pathDelay r : Nat) : Int) - f.rx
  let late := s.clk.net - f.rx
  if st = RSt.sync then ({ s with clk := { s.clk with corr := e } } : State).wr (Fld.SX_PHASE_ERR_VALUE r) (ofSigned 32 e)
  else if st = RSt.integrating then
    match (s.rg r).first with
    | some (c, rx) =>
      if f.cycle = (c + 1) % 2 ^ 32 ∧ within f.rx (rx + s.tCycle) 2000 ∧ s.rateOk ∧ s.flag (Fld.SX_CS_STATUS_DELAY_VALID r) then
        ((s.adoptTime (launch + s.pathDelay r + late)).setRst r RSt.sync).modRg r (fun g => { g with first := none, anchored := false })
      else s.modRg r (fun g => { g with first := some (f.cycle, f.rx) })
    | none => s.modRg r (fun g => { g with first := some (f.cycle, f.rx) })
  else if st = RSt.unsync then
    match (s.rg r).last with
    | some (c, _, e0) =>
      if f.cycle = (c + 1) % 2 ^ 32 ∧ -2000 ≤ e - e0 ∧ e - e0 ≤ 2000 ∧ s.rateOk then
        (((s.adoptTime (launch + s.pathDelay r + late)).setRst r RSt.sync).modRg r (fun g => { g with last := none })).ringEvent r 2
      else s.modRg r (fun g => { g with last := some (f.cycle, f.rx, e) })
    | none => s.modRg r (fun g => { g with last := some (f.cycle, f.rx, e) })
  else s

/-- The time record of a valid frame (R186, R509): after the network time, a member with WALL_SRC ring takes the leader's wall offset. -/
def State.timeRecord (s : State) (r : Ring) (f : FrameIn) (launch : Nat) (ofs : Int) (tflags : Nat) : State :=
  let s1 := s.phaseRecord r f launch
  if s.awaits r && decide (s.rd Fld.TB_CFG_WALL_SRC = 0 ∧ tflags % 2 = 1) then s1.takeOffset ofs else s1

/-- The leader sees its first unfolded frame on a ring that was folded (R257). -/
def State.leaderHeal (s : State) (r : Ring) (f : FrameIn) : State :=
  if s.rst r = RSt.lead ∧ (s.rg r).fold ≠ 0 ∧ f.fold = 0 then s.modRg r (fun g => { g with healing := true }) else s

/-- An integrating unit selects the plug schedule of the header's SCHED_ID (R244), none without one. -/
def State.selectSched (s : State) (r : Ring) (id : Word) : Option State :=
  let now : Bool := decide (id = s.reg Reg.SX_SCHED_ID) && s.sched.isSome
  match s.findSched id with
  | some (n, p) => some (((if now then s else s.loadSched p).wr (Fld.SX_INAUG_STATUS_SEL r) n).wr (Fld.SX_CS_STATUS_NO_SCHED r) 0)
  | none => if now then some (s.wr (Fld.SX_CS_STATUS_NO_SCHED r) 0) else none

/-- A frame in SYNC, UNSYNC, LEAD or INTEGRATING proved valid (R211, R223, R230, R244, R245, R248, R254, R257). -/
def State.useFrame (s : State) (r : Ring) (f : FrameIn) (launch : Nat) (ofs : Int) (tflags : Nat) : State :=
  let s1 := match f.fate with
    | .anchor .. => s.bump (Fld.SX_HEM_COUNT_REANCHOR r)
    | _ => s
  let s2 := (if f.fold ≠ (s.rg r).fold ∧ f.fold ≠ 0 then s1.ringEvent r 3 else s1).wr (Fld.SX_STATUS_SCHED_MISMATCH r) 0
  ((s2.leaderHeal r f).timeRecord r f launch ofs tflags).modRg r (fun g => { g with fold := f.fold })

/-- A valid data frame has passed (R211, R228 to R230, R244, R249): it is counted, no ring lacks a frame, and an announcement in it is taken. -/
def State.validFrame (s : State) (r : Ring) (f : FrameIn) (launch : Nat) (ofs : Int) (tflags : Nat) : State :=
  let s1 := (((s.bumpW (Fld.SX_FRAME_COUNT_COUNT r)).set1 (Fld.SX_STATUS_FRAME_OK r)).wr (Fld.SX_RX_SPAN_VALUE r) (spanOf f.rx)).ringEvent r 0
  let s2 := (rings.foldl (fun t x => t.modRg x (fun g => { g with missed := 0 })) s1).announced r f.hdr
  match f.fate with
  | .mismatch => (s2.set1 (Fld.SX_STATUS_SCHED_MISMATCH r)).unsync r
  | .forward => s2.modRg r (fun g => { g with fold := f.fold })
  | _ =>
    if s2.rst r = RSt.integrating then
      match s2.selectSched r f.hdr.schedId with
      | some t => t.useFrame r f launch ofs tflags
      | none => s2.set1 (Fld.SX_CS_STATUS_NO_SCHED r)
    else s2.useFrame r f launch ofs tflags

/-- Trailer bytes 0 to 27 (R222). -/
def trailerBody (launch : Nat) (ofs : Int) (tflags : Nat) : List Byte :=
  leBytes 6 (launch / giga) ++ leBytes 4 (launch % giga) ++ leBytes 8 (ofSigned 64 ofs) ++ leBytes 1 tflags ++ List.replicate 9 0

/-- The frame in passage ends (R211, R220, R222): messages still queued have found no room; the frame leaves with its trailer as it came and
FRAME_CHECK regenerated. One that is not valid leaves its time record unused, and a re-anchor made at its header is taken back. -/
def State.endFrame (s : State) (r : Ring) (f : FrameIn) (checkOk : Bool) (launch : Nat) (ofs : Int) (tflags : Nat) : State :=
  let west := match (s.rg r).fwd with
    | some x => x.west
    | none => s.goesWest r f.hdr.onEast
  let s1 := ((s.noRoom r).modRg r (fun g => { g with
      cur := none, fwd := g.fwd.map (fun x => { x with trailer := trailerBody launch ofs tflags }) })).wr (outFld r west) 0
  let back (t : State) : State := match f.fate with
    | .anchor d a => (t.wr (Fld.SX_PATH_DELAY_VALUE r) d).modRg r (fun g => { g with anchored := a })
    | _ => t
  if !checkOk then (back ((s1.bump (Fld.SX_FRAME_ERR_FCS r)).wr (Fld.SX_STATUS_FRAME_OK r) 0)).noFrame r
  else if f.fate = .bad then s1.noFrame r
  else s1.validFrame r f launch ofs tflags

/-- The bad characters of an incoming pair are counted (R203). -/
def State.countBad (s : State) (r : Ring) (onEast : Bool) (n : Nat) : State :=
  if n = 0 then s else s.bumpBy (if onEast then Fld.SX_CODE_ERR_E_RI r else Fld.SX_CODE_ERR_W_FI r) n

/-- FRAME_TRAILER (R203, R211, R219, R220, R222, R223): the frame that began on this pair ends; one that passed in reverse has left W_RO. -/
def execFrameTrailer (r : Ring) (e : TrailerIn) (launch : Nat) (ofs : Int) (tflags : Fin 4) (s0 : State) :
    Host.Outcome State Fault Refusal :=
  let s := s0.countBad r e.onEast e.bad
  .next (if s0.rst r = RSt.disabled ∨ s0.rst r = RSt.sleep then s0
    else match (s.rg r).cur with
      | some f =>
        if f.hdr.onEast = e.onEast then s.endFrame r f e.checkOk launch ofs tflags.val
        else if e.onEast then s.wr (outFld r true) 0 else s
      | none => if e.onEast then s.wr (outFld r true) 0 else s)

/-! ### Launch and loss -/

/-- The header of a launched frame (R207, R251). -/
def State.launchHeader (s : State) (r : Ring) (k : Nat) : List Byte :=
  let ann := s.annAt.isSome
  withCheck (leBytes 1 1 ++ leBytes 1 (s.launchFlags r + 8 * b2n ann) ++ leBytes 1 (s.rd (Fld.SX_CFG_ADDR r)) ++
    leBytes 1 ((s.sched.map (fun p => p.order.length + 1)).getD 1) ++ leBytes 4 k ++ leBytes 4 (s.rd Fld.SX_SCHED_ID_VALUE) ++
    leBytes 4 (if ann then s.rd Fld.SX_SH_SCHED_ID_ID else 0) ++ leBytes 4 (s.annAt.getD 0) ++
    leBytes 2 (s.rd (Fld.SX_CFG_T_UNITS .X)) ++ leBytes 2 (s.rd Fld.SX_COUNTS_SLOTS) ++ leBytes 2 (s.rd Fld.SX_COUNTS_CONTAINERS) ++
    leBytes 2 (s.rd Fld.SX_LEN4_LEN4))

/-- The slots of a launched frame by their index (R212): owned slots fresh, others carried with their own check when it passed, else the empty
mark; the first frame after a census carries none. -/
def State.launchSlots (s : State) (r : Ring) (k : Nat) (ret : List RetSlot) : List SlotOut :=
  let own := (List.range 256).filterMap (fun n => (s.slotOut r n k false).map (fun o => { o with entry := entIndex (s.entry n) }))
  let others := ret.filter (fun x => !own.any (fun o => o.entry == x.index))
  own ++ others.map (fun x =>
    if x.ok && !(s.rg r).fresh then freshSlot x.index x.index ((k + 2 ^ 32 - 1) % 2 ^ 32) x.data
    else emptySlot x.index x.index k x.data.length)

/-- The containers carried in a launched frame (R217, R218): those that returned fresh, and those that the leader itself claimed in the
returning frame. -/
def State.launchConts (s : State) (r : Ring) (ret : List Container) : List Container :=
  if (s.rg r).fresh then []
  else
    let own := (s.rg r).claimOut
    ((own ++ (ret.filter (fun c => c.checkOk && c.mark == 0x5A && !own.any (fun o => o.index == c.index))))).map (fun c => { c with mark := 0xA5 })

/-- The time record of a launched frame (R185, R222, R233): the departure at SX.LAUNCH after the cycle start; both rings send the same one. -/
def State.launchRecord (s : State) (r : Ring) (k : Nat) : List Byte :=
  match (s.rg r.other).sent with
  | some x => if x.cycle = k ∧ x.record ≠ [] then x.record else trailerBody (k * s.tCycle + 4 * s.rd Fld.SX_LAUNCH_JC) s.clk.ofs s.timeFlags
  | none => trailerBody (k * s.tCycle + 4 * s.rd Fld.SX_LAUNCH_JC) s.clk.ofs s.timeFlags

/-- Every byte of a launched frame in its order (R206), FRAME_CHECK included. -/
def Launched.bytes (x : Launched) : List Byte :=
  let slots := ((List.range 4096).filterMap (fun i => x.slots.find? (fun o => o.entry == i))).map (fun o => o.data ++ leBytes 4 o.check.toNat)
  let conts := (List.range x.count).map (fun j => contBytes ((x.conts.find? (fun c => c.index == j)).getD (freeContainer j)) x.cycle)
  withCheck (x.header ++ slots.flatten ++ conts.flatten ++ x.record)

/-- The body of a CENSUS (R235). -/
def censusBody (flags leader count acc : Nat) (list : List Byte) : List Byte :=
  leBytes 1 3 ++ leBytes 1 flags ++ leBytes 1 leader ++ leBytes 1 count ++ leBytes 4 acc ++ sliceB list 0 254 ++ leBytes 6 0

/-- The leader sends a census (R243, R257). -/
def State.sendCensus (s : State) (r : Ring) : State :=
  (s.launchOn r (censusBody (s.launchFlags r) (s.rd (Fld.SX_CFG_ADDR r)) 0 0 [])).modRg r
    (fun g => { g with census := some s.clk.uptime })

/-- FRAME_MISSED (R246, R249): the frame expected next has not come by t_exp + 500 jc. A frame cut before its trailer was none either (R253). -/
def execFrameMissed (r : Ring) (s0 : State) : Host.Outcome State Fault Refusal :=
  .next (if s0.awaits r ∧ s0.tExp r (s0.rg r).expK + 2000 ≤ s0.clk.net then
      let s := s0.endCut r
      let s1 := if s.rst r = RSt.sync then s.bump (Fld.SX_WIN_COUNT_MISSED r) else s
      (s1.modRg r (fun g => { g with expK := g.expK + 1 })).noFrame r
    else s0)

end Sys2Proof.Machine
end

