-- ==== Sys2Proof/Machine/Inaug.lean ====
section
/-! DEFINITION. The rings outside operation (chapter 09, with R23 and R24): the election of a leader, the hop delay, the census and the
selection of a schedule, open ports, folds and healing. -/

namespace Sys2Proof.Machine

/-! ### Election -/

/-- The body of a CLAIM or a WAKE (R235). -/
def claimBody (type flags source rank nonce : Nat) : List Byte :=
  leBytes 1 type ++ leBytes 1 flags ++ leBytes 1 source ++ leBytes 1 rank ++ leBytes 4 nonce ++ leBytes 4 0

/-- t_L in ns (R237). -/
def listenNs (rank : Nat) : Nat := 200000 + 50000 * rank

/-- The back-off time in ns (R237). -/
def backoffNs (rank addr : Nat) : Nat := 37000 * rank + 1000 * addr

/-- A claim goes out on both pairs of every enabled ring, and every enabled unit in one of these states enters CLAIMING (R233, R237). -/
def State.sendClaims (s : State) (sts : List Nat) : State :=
  let nonce := s.clk.uptime % 2 ^ 32
  s.enabledRings.foldl (fun t r =>
    let t1 := if sts.contains (t.rst r) then t.setRst r RSt.claiming else t
    (t1.modRg r (fun g => { g with nonce := some nonce })).sendOn r
      (claimBody 2 (4 * r.num) (t.rd (Fld.SX_CFG_ADDR r)) (t.rd (Fld.SX_CS_CFG_RANK r)) nonce) true true) s

/-- Whether some unit has recorded a shared address (R241). -/
def State.addrClash (s : State) : Bool := rings.any (fun r => s.flag (Fld.SX_CS_STATUS_ADDR_CLASH r))

/-- LISTEN_TIME_END (R237). -/
def execListenTimeEnd (r : Ring) (s : State) : Host.Outcome State Fault Refusal :=
  let rank := s.rd (Fld.SX_CS_CFG_RANK r)
  .next (if s.rst r == RSt.listen && decide ((s.rg r).since + listenNs rank ≤ s.clk.uptime) && rank != 0
      && !(s.enabledRings.any (fun x => (s.rg x).withdrawn)) && s.flag (Fld.SX_CS_STATUS_DELAY_VALID r) && !s.addrClash
    then s.sendClaims [RSt.listen] else s)

/-- BACKOFF_END (R240). -/
def execBackoffEnd (s : State) : Host.Outcome State Fault Refusal :=
  .next (if s.enabledRings.any (fun r => s.rst r == RSt.backoff
      && decide ((s.rg r).since + backoffNs (s.rd (Fld.SX_CS_CFG_RANK r)) (s.rd (Fld.SX_CFG_ADDR r)) ≤ s.clk.uptime)) && !s.addrClash
    then s.sendClaims [RSt.backoff] else s)

/-- CLAIM_TIMEOUT (R239). -/
def execClaimTimeout (s : State) : Host.Outcome State Fault Refusal :=
  .next (s.enabledRings.foldl (fun t r =>
    if s.rst r = RSt.claiming ∧ (s.rg r).since + 1000000 ≤ s.clk.uptime then t.enterListen r else t) s)

/-- The contending units withdraw for this cold start (R238). -/
def State.withdrawClaims (s : State) : State :=
  s.enabledRings.foldl (fun t r =>
    let t1 := if t.rst r = RSt.claiming then t.setRst r RSt.listen else t
    if t1.rst r = RSt.listen then t1.modRg r (fun g => { g with withdrawn := true }) else t1) s

/-- A rank clash (R240). -/
def State.rankClash (s : State) (r : Ring) (c : ClaimFrm) : State :=
  let s1 := ((s.set1 (Fld.SX_CS_STATUS_RANK_CLASH r)).bump (Fld.SX_CS_COUNT_CLASHES r)).troubleAt (Fld.SX_CS_STATUS_RANK_CLASH r) [c.source]
  s1.enabledRings.foldl (fun t x =>
    if t.rst x = RSt.claiming ∨ t.rst x = RSt.listen then (t.setRst x RSt.backoff).modRg x (fun g => { g with clash := true }) else t) s1

/-- Election (R180, R234, R239): the module leads every enabled ring. -/
def State.elect (s : State) : State :=
  let s1 := s.enabledRings.foldl (fun t r => (t.setRst r RSt.leadCensus).bump (Fld.SX_CS_COUNT_ELECTED r)) s
  s1.adoptTime (if s1.flag Fld.TB_STATUS_WALL_VALID then ceilDiv s1.wall giga * giga else s1.clk.net)

/-- A claim with this unit's SOURCE and another NONCE (R241). -/
def State.sharedAddress (s : State) (r : Ring) : State :=
  if s.flag (Fld.SX_CS_STATUS_ADDR_CLASH r) then s
  else (s.set1 (Fld.SX_CS_STATUS_ADDR_CLASH r)).troubleAt (Fld.SX_CS_STATUS_ADDR_CLASH r) [s.rd (Fld.SX_CFG_ADDR r)]

/-- Whether a claim is better than the unit's own (R238). -/
def State.better (s : State) (r : Ring) (c : ClaimFrm) : Bool :=
  let rank := s.rd (Fld.SX_CS_CFG_RANK r)
  decide (c.rank < rank) || ((s.rg r).clash && c.rank == rank && decide (c.source < s.rd (Fld.SX_CFG_ADDR r)))

/-- The claim goes on (R238). -/
def State.forwardClaim (s : State) (r : Ring) (c : ClaimFrm) : State := 
  s.forwardOn r c.onEast (claimBody 2 (s.flagsOut r c.onEast c.flags) c.source c.rank c.nonce)

/-- CLAIM_RECEIVED (R238 to R241). -/
def execClaimReceived (r : Ring) (c : ClaimFrm) (s : State) : Host.Outcome State Fault Refusal :=
  let st := s.rst r
  let rank := s.rd (Fld.SX_CS_CFG_RANK r)
  let g := s.rg r
  .next (if !c.checkOk ∨ st = RSt.disabled then s
    else if c.source = s.rd (Fld.SX_CFG_ADDR r) then
      if g.nonce = some c.nonce then (if st = RSt.claiming then s.elect else s) else s.sharedAddress r
    else if st = RSt.leadCensus ∨ st = RSt.lead ∨ st = RSt.sync ∨ st = RSt.unsync ∨ st = RSt.sleep then s.bump (Fld.SX_CS_COUNT_CLAIMS_SEEN r)
    else if st = RSt.backoff ∨ st = RSt.integrating ∨ (st = RSt.listen ∧ (rank = 0 ∨ g.withdrawn = true)) then s.forwardClaim r c
    else if s.better r c then (s.forwardClaim r c).withdrawClaims
    else if c.rank = rank ∧ g.clash = false then s.rankClash r c
    else s)

/-! ### Hop delay -/

/-- HOP_DELAY_REQUEST (R242). -/
def execHopDelayRequest (r : Ring) (s : State) : Host.Outcome State Fault Refusal :=
  .next (if s.rst r = RSt.disabled then s else s.modRg r (fun g => { g with answer := some (s.clk.uptime + 160) }))

/-- Whether W_RO, else E_FO, carries a frame: one that passes, or one that the module sends (R232). -/
def State.carries (s : State) (r : Ring) (west : Bool) : Bool :=
  s.flag (outFld r west) || decide (s.clk.uptime < (if west then (s.rg r).outW else (s.rg r).outE))

/-- HOP_DELAY_ANSWER_SEND (R242): not sent while E_FO carries a frame. -/
def execHopDelayAnswerSend (r : Ring) (s : State) : Host.Outcome State Fault Refusal :=
  .next (match (s.rg r).answer with
    | some t =>
      if t ≤ s.clk.uptime then
        let s1 := s.modRg r (fun g => { g with answer := none })
        if s.carries r false then s1 else s1.sendSet r 0x3C 2 false
      else s
    | none => s)

/-- HOP_DELAY_ANSWER (R242): c_W; an answer later than 10 µs answers nothing. -/
def execHopDelayAnswer (r : Ring) (s : State) : Host.Outcome State Fault Refusal :=
  .next (match (s.rg r).probe with
    | some t =>
      if s.clk.uptime - t ≤ 10000 then
        ((s.modRg r (fun g => { g with probe := none })).wr (Fld.SX_HOP_DELAY_NS r) ((s.clk.uptime - t - 160) / 2)).set1
          (Fld.SX_CS_STATUS_DELAY_VALID r)
      else s
    | none => s)

/-- HOP_PROBE_RETRY (R242). -/
def execHopProbeRetry (r : Ring) (s : State) : Host.Outcome State Fault Refusal :=
  .next (match (s.rg r).probe with
    | some t =>
      if t + 100000 ≤ s.clk.uptime then s.sendProbe r else s
    | none => s)

/-! ### Census -/

/-- CENSUS_SEND (R243). -/
def execCensusSend (s : State) : Host.Outcome State Fault Refusal :=
  .next (s.enabledRings.foldl (fun t r =>
    if s.rst r == RSt.leadCensus && (s.rg r).census.isNone && decide ((s.rg r).since + 100000 ≤ s.clk.uptime) then t.sendCensus r else t) s)

/-- CENSUS_REPEAT (R244). -/
def execCensusRepeat (s : State) : Host.Outcome State Fault Refusal :=
  .next (s.enabledRings.foldl (fun t r =>
    match (s.rg r).census with
    | some at_ => if s.rst r = RSt.leadCensus ∧ at_ + 100000000 ≤ s.clk.uptime then t.sendCensus r else t
    | none => t) s)

/-- The composition digest (R244). -/
def compDigest (count : Nat) (list : List Byte) : Word := crc32 (list.take count)

/-- A census processed by a member (R243, R244): its place, its path delay, the digest; it integrates when it is not synchronised. The census
came in place of a frame, which therefore is not missed (R246, R257). -/
def State.takeCensus (s : State) (r : Ring) (c : CensusFrm) : State :=
  let cw := s.rd (Fld.SX_HOP_DELAY_NS r)
  let d := if c.onEast then c.acc + 32 else c.acc + cw
  let east := s.flag (Fld.SX_CS_STATUS_E_OPEN r)
  let acc := if east then d + 352 + cw else d + 320
  let list := spliceB (sliceB c.list 0 254) c.count (leBytes 1 (s.rd (Fld.SX_CFG_ADDR r)))
  let s1 := ((((s.wr (Fld.SX_PATH_DELAY_VALUE r) d).wr (Fld.SX_INAUG_STATUS_POS r) c.count).wr (Fld.SX_INAUG_STATUS_COUNT r) 0).wr
    (Fld.SX_COMP_DIGEST_VALUE r) (compDigest (c.count + 1) list).toNat).forwardOn r c.onEast
      (censusBody (s.flagsOut r c.onEast c.flags) c.leader (c.count + 1) acc list)
  let s2 := s1.modRg r (fun g => { g with expK := s1.nearestK r + 1 })
  if s.rst r = RSt.listen ∨ s.rst r = RSt.unsync ∨ s.rst r = RSt.integrating then
    (s2.setRst r RSt.integrating).modRg r (fun g => { g with first := none, missed := 0 })
  else s2

/-- CENSUS_RECEIVED (R243): processed on the pair that the unit takes; else it passes in reverse, its ACC alone updated. A unit without a valid
hop delay, or one that is cut off, does not process it (R242, R251). -/
def execCensusReceived (r : Ring) (c : CensusFrm) (s : State) : Host.Outcome State Fault Refusal :=
  let st := s.rst r
  .next (if !c.checkOk ∨ st = RSt.disabled ∨ st = RSt.sleep then s
    else if !s.takes r c.onEast then
      (if c.onEast then s.forwardOn r c.onEast (censusBody c.flags c.leader c.count (c.acc + 320 + s.rd (Fld.SX_HOP_DELAY_NS r)) c.list) else s)
    else if st = RSt.leadCensus ∨ st = RSt.lead then s
    else if s.flag (Fld.SX_CS_STATUS_DELAY_VALID r) = false then s.forwardOn r c.onEast (censusBody c.flags c.leader c.count c.acc c.list)
    else s.takeCensus r c)

/-- The first cycle start at or after a network time. -/
def State.cycleFrom (s : State) (t : Nat) : Nat := ceilDiv t s.tCycle * s.tCycle

/-- The leader starts to launch (R212, R244); a ring whose census is still out goes on waiting for it. -/
def State.startLead (s : State) (ring : Ring) (n : Nat) (p : Sched) : State :=
  let s1 := s.loadSched p
  s1.enabledRings.foldl (fun t r =>
    ((((t.setRst r RSt.lead).wr (Fld.SX_INAUG_STATUS_SEL r) n).wr (Fld.SX_CS_STATUS_NO_SCHED r) 0).wr (Fld.SX_CS_STATUS_DELAY_ERR r) 0).modRg r
      (fun g => { g with
        launchFrom := some (s1.cycleFrom (s1.clk.net + 1000000)), fresh := true, fold := 0, sent := none
        census := if r = ring then none else g.census })) s1

/-- A plug schedule goes into the shadow set, for the announcement of R228 (R258). -/
def State.shadowSched (s : State) (p : Sched) : State :=
  let s1 := (((((s.setReg Reg.SX_SH_SCHED_ID p.id).wr Fld.SX_SH_COUNTS_SLOTS p.slots).wr Fld.SX_SH_COUNTS_CONTAINERS p.conts).wr
    Fld.SX_SH_T_IN_JC p.tIn).wr Fld.SX_SH_T_COM_JC p.tCom).wr Fld.SX_SH_LAUNCH_JC p.launch
  let s2 := (List.range 256).foldl (fun t n =>
    ((t.setReg (Reg.SX_SH_SLOT_n_A n) 0).setReg (Reg.SX_SH_SLOT_n_B n) 0).setReg (Reg.SX_SH_SLOT_n_C n) 0) (s1.wr Fld.SX_SH_LEN4_LEN4 p.len4)
  let s3 := p.entries.foldl (fun t x =>
    ((t.setFields (Reg.SX_SH_SLOT_n_A x.1) x.2.1).setFields (Reg.SX_SH_SLOT_n_B x.1) x.2.2.1).setFields (Reg.SX_SH_SLOT_n_C x.1) x.2.2.2) s2
  ({ s3 with annAt := none } : State).set1 Fld.SX_SCHED_CTRL_BASTE_PENDING

/-- The plug schedule of a composition digest, with its number (R244). -/
def State.schedOfComp (s : State) (d : Word) : Option (Nat × Sched) :=
  match s.cfg.scheds.findIdx? (fun p => p.comp == d) with
  | some n => (s.cfg.scheds[n]?).map (fun p => (n, p))
  | none => none

/-- The leader uses the returned census (R243, R244, R258). The ring delay is the path delay of the returning frame, from which the leader's
expected arrivals follow (DEDUCED, log 90). -/
def State.censusBack (s : State) (r : Ring) (c : CensusFrm) : State :=
  let delay := if c.onEast then c.acc else c.acc + s.rd (Fld.SX_HOP_DELAY_NS r)
  let digest := compDigest c.count c.list
  let s1 := (((s.wr (Fld.SX_RING_DELAY_VALUE r) delay).wr (Fld.SX_PATH_DELAY_VALUE r) delay).wr (Fld.SX_INAUG_STATUS_COUNT r) c.count).wr (Fld.SX_COMP_DIGEST_VALUE r) digest.toNat
  match s1.schedOfComp digest with
  | none => s1.set1 (Fld.SX_CS_STATUS_NO_SCHED r)
  | some (n, p) =>
    let s2 := s1.wr (Fld.SX_CS_STATUS_NO_SCHED r) 0
    if 4 * (planFig p).dRing + 2000 < delay then s2.set1 (Fld.SX_CS_STATUS_DELAY_ERR r)
    else if s.rst r = RSt.leadCensus then s2.startLead r n p
    else
      let s3 := (s2.wr (Fld.SX_CS_STATUS_DELAY_ERR r) 0).modRg r (fun g => { g with census := none })
      if p.id = s3.reg Reg.SX_SCHED_ID ∨ s3.flag Fld.SX_SCHED_CTRL_BASTE_PENDING = true then s3
      else (s3.wr (Fld.SX_INAUG_STATUS_SEL r) n).shadowSched p

/-- CENSUS_RETURN (R243, R244, R252): on W_FI, or on E_RI while the leader's west port is open. -/
def execCensusReturn (r : Ring) (c : CensusFrm) (s : State) : Host.Outcome State Fault Refusal :=
  .next (if (s.rst r == RSt.leadCensus || s.rst r == RSt.lead) && (s.rg r).census.isSome && c.checkOk
      && s.takes r c.onEast then s.censusBack r c else s)

/-! ### Breaks, folds and healing -/

/-- E_RI_CODE or W_FI_CODE. -/
def codeFld (r : Ring) (east : Bool) : Field := if east then Fld.SX_PORT_STATUS_E_RI_CODE r else Fld.SX_PORT_STATUS_W_FI_CODE r

/-- A port opens (R251); with both open the node is cut off and unsynchronised. -/
def State.openPort (s : State) (r : Ring) (east : Bool) : State :=
  let s1 := if s.flag (openFld r east) then s else (s.set1 (openFld r east)).modRg r (fun g => { g with openAt := some s.clk.uptime })
  if s1.flag (Fld.SX_CS_STATUS_E_OPEN r) && s1.flag (Fld.SX_CS_STATUS_W_OPEN r) then s1.unsync r else s1

/-- LINE_CODE_LOSS (R203, R250, R251): /F/ goes out on the port's outgoing pair and the port is open. -/
def execLineCodeLoss (r : Ring) (e : LineLoss) (s : State) : Host.Outcome State Fault Refusal :=
  .next (if s.rst r = RSt.disabled then s.wr (codeFld r e.east) 0
    else ((((s.countBad r e.east e.bad).wr (codeFld r e.east) 0).modRg r
      (fun g => if e.east then { g with eLoss := true } else { g with wLoss := true })).sendSet r 0x1C 1 (!e.east)).openPort r e.east)

/-- F_SET_RECEIVED (R251). -/
def execFSetReceived (r : Ring) (east : Bool) (s : State) : Host.Outcome State Fault Refusal :=
  .next (if s.rst r = RSt.disabled then s
    else (s.modRg r (fun g => if east then { g with eF := true } else { g with wF := true })).openPort r east)

/-- The leader address that a unit sends in /H/ (R236): its own at the leader, that of the leader it follows, else 0. -/
def State.healAddr (s : State) (r : Ring) : Nat :=
  let st := s.rst r
  if st = RSt.lead ∨ st = RSt.leadCensus then s.rd (Fld.SX_CFG_ADDR r)
  else if st = RSt.sync ∨ st = RSt.unsync ∨ st = RSt.integrating then s.rd (Fld.SX_STATUS_LEADER_ADDR r)
  else 0

/-- LINE_CODE_RETURN (R250, R257): at an open port the hop delay is measured again, from the end that has the hop to its west, and /H/ goes out on
the port's outgoing pair. -/
def execLineCodeReturn (r : Ring) (east : Bool) (s : State) : Host.Outcome State Fault Refusal :=
  let s1 := (s.set1 (codeFld r east)).modRg r (fun g => if east then { g with eLoss := false } else { g with wLoss := false })
  .next (if s1.rst r ≠ RSt.disabled ∧ s1.flag (openFld r east) = true then
      (if east then s1 else s1.sendProbe r).sendSet r 0xFC (s1.healAddr r) (!east)
    else s1)

/-- FOLD_ENGAGE (R251, R253): the fold engages 8 jc after the port opened. The frame in passage is not folded: at the east port the rest of it is
discarded, at the west port, or with both open, no more of it arrives. -/
def execFoldEngage (r : Ring) (s : State) : Host.Outcome State Fault Refusal :=
  .next (match (s.rg r).openAt with
    | some t =>
      if t + 32 ≤ s.clk.uptime then
        let s1 := (((s.bump (Fld.SX_HEM_COUNT_FOLDS r)).modRg r (fun g => { g with openAt := none, fwd := none })).wr (outFld r false) 0).showFold r
        if s1.flag (Fld.SX_CS_STATUS_W_OPEN r) then s1.endCut r else s1
      else s
    | none => s)

/-- HEAL_EXCHANGE (R257, R258): frames on E_RI are still taken until the first on W_FI. Equal leader addresses, or one of 0x00, release the fold; two different ones leave it with FOREIGN. -/
def execHealExchange (r : Ring) (east : Bool) (addr : Byte) (s : State) : Host.Outcome State Fault Refusal :=
  let own := s.healAddr r
  let g := s.rg r
  .next (if s.flag (openFld r east) && !(if east then g.eLoss else g.wLoss) then
      if own = addr.toNat ∨ own = 0 ∨ addr = 0 then
        ((((s.wr (openFld r east) 0).wr (Fld.SX_CS_STATUS_FOREIGN r) 0).wr (Fld.SX_CS_STATUS_FOREIGN_LEADER r) 0).modRg r
          (fun x => if east then { x with eF := false, openAt := none } else { x with wF := false, openAt := none, tail := true })).showFold r
      else (s.set1 (Fld.SX_CS_STATUS_FOREIGN r)).wr (Fld.SX_CS_STATUS_FOREIGN_LEADER r) addr.toNat
    else s)

/-- REINAUG (R258): a leader stops launching; its units enter LISTEN together. -/
def State.reinaug (s : State) (r : Ring) : State :=
  if s.flag (Fld.SX_STATUS_LEADER r) then s.enabledRings.foldl (fun t x => t.enterListen x) s else s

/-- REINAUG (R258). -/
def execReinaug (i : Initiator) (r : Ring) (w : Word) (s : State) : Host.Outcome State Fault Refusal :=
  .next (s.regCmd i (Reg.SX_INAUG_CTRL r) w (fun t => t.reinaug r))

/-! ### The junction PLL -/

/-- RATE_CORR_EXCEEDED (R24): the offset measured against the ring reference; beyond ±200 ppm the module is unsynchronised on every ring. -/
def execRateCorrExceeded (ppm : BitVec 16) (s : State) : Host.Outcome State Fault Refusal :=
  .next (if s.rd Fld.TB_STATUS_NET_SRC < 2 then
      let s1 := s.wr Fld.JC_CLK_STATUS_RATE_CORR ppm.toNat
      if s1.rateOk then s1 else rings.foldl (fun t r => t.unsync r) s1
    else s)

/-- REF_SWITCH_DONE (R23): SYNT shows whether the PLL now follows a ring, SYNT_RING which. -/
def execRefSwitchDone (s : State) : Host.Outcome State Fault Refusal :=
  let src := s.rd Fld.TB_STATUS_NET_SRC
  .next (if src < 2 then (s.set1 Fld.JC_CLK_STATUS_SYNT).wr Fld.JC_CLK_STATUS_SYNT_RING src else s.wr Fld.JC_CLK_STATUS_SYNT 0)

end Sys2Proof.Machine
end

