-- ==== Sys2Proof/Machine/DxBase.lean ====
section
/-! DEFINITION. The duplex unit's states, role and heartbeat, and the self-fault report (R330, R334, R340). -/

namespace Sys2Proof.Machine

/-- The duplex states of R340 by their codes. -/
abbrev DSt.single : Nat := 0
abbrev DSt.listen : Nat := 1
abbrev DSt.active : Nat := 2
abbrev DSt.syncing : Nat := 3
abbrev DSt.ready : Nat := 4
abbrev DSt.detached : Nat := 5
abbrev DSt.incompatible : Nat := 6
abbrev DSt.faulted : Nat := 7

/-- The state of the duplex unit (R340). -/
def State.dst (s : State) : Nat := s.rd Fld.DX_STATUS_STATE

/-- Whether the module is asleep on the ring or as a whole (R482). -/
def State.asleep (s : State) : Bool := s.flag Fld.JC_MOD_STATUS_SLEEP || rings.any (fun r => s.rst r == RSt.sleep)

/-- Show the role (R340), with the host alert of R380 when it changes: FAULTED keeps the active's role while it holds its claim. -/
def State.showRole (s : State) : State :=
  let st := s.dst
  let role := if st = DSt.single then 0 else if st = DSt.listen then 3 else if st = DSt.active then 1
    else if st = DSt.faulted then (if s.rd Fld.DX_CLAIM_OWN = 0 then 2 else 1) else 2
  let s1 := (s.wr Fld.DX_STATUS_ROLE role).wr Fld.JC_MOD_STATUS_ROLE role
  if role = s.rd Fld.DX_STATUS_ROLE then s1 else s1.set1 Fld.JC_HOST_ALERT_ROLE

/-- The hot-state transfer starts over (R345). -/
def State.startTransfer (s : State) : State :=
  ({ s with dx := { s.dx with xferAt := some s.clk.uptime, xferMem := [], xferTrd := [], xferApply := false } } : State).setReg Reg.DX_SYNC_STATUS
    (s.reg Reg.DX_SYNC_STATUS &&& 0x000FFFFF ||| 0x10000000)

/-- The hot-state transfer and the comparison stop. -/
def State.stopTransfer (s : State) : State :=
  ({ s with dx := { s.dx with xferAt := none, xferMem := [], xferTrd := [], xferApply := false } } : State).setReg Reg.DX_SYNC_STATUS
    (s.reg Reg.DX_SYNC_STATUS &&& 0x000FFFFF)

/-- The duplex unit enters a state (R340), with the counts of R352. -/
def State.setDst (s : State) (st : Nat) : State :=
  let was := s.dst
  let s1 := ({ s with dx := { s.dx with drill := s.dx.drill && st == DSt.active } } : State).wr Fld.DX_STATUS_STATE st
  let s2 := if st = DSt.syncing then (if was = DSt.active then s1.bump Fld.DX_COUNT_DEMOTIONS else s1).startTransfer
    else if st = DSt.ready then s1.bump Fld.DX_COUNT_SYNCS
    else (if st = DSt.detached then s1.bump Fld.DX_COUNT_LINK_LOSSES else s1).stopTransfer
  s2.showRole

/-- The lane image identity that the module runs (R330, R472): that of the first lane with an image. -/
def State.imageId (s : State) : Nat :=
  match lanes.findSome? (fun l => (s.ln l).img) with
  | some g => g.id
  | none => 0

/-- FLAGS of a heartbeat (R330). -/
def State.hbFlags (s : State) : Nat :=
  b2n (s.flag Fld.DX_STATUS_SF) + 2 * b2n (s.flag Fld.DX_STATUS_PRIMARY) + 4 * b2n (s.flag Fld.JC_MOD_STATUS_SYNC) + 8 * b2n s.dx.drill

/-- A heartbeat goes out (R330): HB_SEQ counts and the 64 bytes are sent. A faulted EJ2 sends none (R22). -/
def State.sendHeartbeat (s : State) : State :=
  if s.ej2Down then s
  else
  let s1 := (s.pulse 10).bumpW Fld.DX_HB_SEQ_SEQ
  let body := leBytes 4 (s1.rd Fld.DX_HB_SEQ_SEQ) ++ leBytes 4 s.netSpan ++ leBytes 2 (s.rd Fld.DX_CLAIM_OWN) ++ leBytes 1 s.dst
    ++ leBytes 1 s.hbFlags ++ leBytes 1 (s.rd Fld.DX_STATUS_SF_CAUSE) ++ leBytes 3 0 ++ leBytes 4 s.imageId ++ sliceB s.cfg.pairDigest 0 32
    ++ leBytes 8 0
  { s1 with dx := { s1.dx with hbOut := body ++ leBytes 4 (crc32 body).toNat } }

/-- The number of the 50 µs instant that counts as sent at a network time, so that the next heartbeat is due at the next instant, this one
included (R330). -/
def hbArmed (net : Nat) : Nat := if net % 50000 = 0 then net / 50000 + 1 else net / 50000

/-- A self-fault report (R334): the first cause stays; an unscheduled heartbeat goes out at once; ACTIVE becomes FAULTED. An FQ8 fault
counts only with DX.CFG.SF_FQ8. -/
def State.selfFault (s : State) (cause : Nat) : State :=
  if s.flag Fld.DX_STATUS_SF || (cause == 3 && !s.flag Fld.DX_CFG_SF_FQ8) then s
  else
    let s1 := (s.set1 Fld.DX_STATUS_SF).wr Fld.DX_STATUS_SF_CAUSE cause
    let s2 := if s1.isSealed then s1.sendHeartbeat else s1
    if s2.dst = DSt.active then s2.setDst DSt.faulted else s2

end Sys2Proof.Machine
end

