-- ==== Sys2Proof/Machine/Gusset.lean ====
section
/-! DEFINITION. The Gusset bridge (chapter 15): map entries and the transmit buffer's banks, carried writes and signals. -/

namespace Sys2Proof.Machine

/-! ### Bit fields -/

/-- Bits BIT to BIT + WIDTH − 1 of an area, bit b being bit (b mod 8) of byte floor(b ÷ 8) (R385). -/
def fieldBits (bs : List Byte) (bit width : Nat) : Nat :=
  leNat (sliceB bs (bit / 8) ((bit + width + 7) / 8 - bit / 8)) / 2 ^ (bit % 8) % 2 ^ width

/-- The memory with a bit field replaced (R385). -/
def Mem.putField (m : Mem) (bit width v : Nat) : Mem :=
  let n := (bit + width + 7) / 8 - bit / 8
  m.putNum (bit / 8) n (putBits (m.num (bit / 8) n) (bit % 8 + width - 1) (bit % 8) v)

/-- The field with its bytes reversed, for ORDER = 1 (R385). -/
def swapField (width v : Nat) : Nat := beNat (leBytes (width / 8) v)

/-! ### Map entries -/

/-- y of R386 before saturation, and its bounds. -/
def mapValue (a x b : Int) : Int := (a * x) / 65536 + b

/-- The range of a destination field (R386). -/
def dstRange (dsigned : Bool) (dwidth : Nat) : Int × Int :=
  if dsigned then (-((2 ^ (dwidth - 1) : Nat) : Int), ((2 ^ (dwidth - 1) : Nat) : Int) - 1) else (0, ((2 ^ dwidth : Nat) : Int) - 1)

/-- One map entry on a source's data (R386, R387): a message too short is skipped and counted. -/
def State.mapEntry (s : State) (data : List Byte) (e : Nat) : State :=
  let w := s.rd (Fld.GB_MAP_e_SRC_WIDTH e) + 1
  let bit := s.rd (Fld.GB_MAP_e_SRC_BIT e)
  let kind := s.rd (Fld.GB_MAP_e_SRC_KIND e)
  if (kind = 3 ∨ kind = 4) ∧ 8 * data.length < bit + w then s.bump Fld.GB_MSG_COUNT_SHORT
  else
    let v := fieldBits data bit w
    let f := if s.flag (Fld.GB_MAP_e_SRC_ORDER e) then swapField w v else v
    let x : Int := if s.flag (Fld.GB_MAP_e_SRC_SIGNED e) then toSigned w f else f
    let dw := s.rd (Fld.GB_MAP_e_DST_DWIDTH e) + 1
    let y0 := mapValue (toSigned 32 (s.rd (Fld.GB_MAP_e_A_VALUE e))) x (toSigned 32 (s.rd (Fld.GB_MAP_e_B_VALUE e)))
    let lo := (dstRange (s.flag (Fld.GB_MAP_e_DST_DSIGNED e)) dw).1
    let hi := (dstRange (s.flag (Fld.GB_MAP_e_DST_DSIGNED e)) dw).2
    let y := if y0 < lo then lo else if hi < y0 then hi else y0
    let s1 := if y = y0 then s
      else (((s.bump Fld.GB_COUNT_SATURATED).set1 Fld.GB_STATUS_SAT_SEEN).set1 Fld.GB_SAT_LAST_VALID).wr Fld.GB_SAT_LAST_ENTRY e
    let db := s.rd (Fld.GB_MAP_e_DST_DBIT e)
    if s.flag (Fld.GB_MAP_e_DST_DKIND e) then s1.modGus (fun g => { g with work := g.work.putField db dw (ofSigned dw y) })
    else { s1 with stage := s1.stage.putField (32 * s.rd Fld.GB_IN_SECT_OFS4 + db) dw (ofSigned dw y) }

/-- The entries of a source, in configuration order (R57, R384). -/
def State.mapsOf (s : State) (kind index : Nat) : List Nat :=
  (List.range 768).filter (fun e => s.flag (Fld.GB_MAP_e_SRC_EN e) && s.rd (Fld.GB_MAP_e_SRC_KIND e) == kind
    && (kind == 0 || s.rd (Fld.GB_MAP_e_SIDX_INDEX e) == index))

/-- The pipeline serves a source: its entries run on the snapshot, and the pipeline is busy for 10 jc and one more per further entry
(R57, R387, R388). R57 gives the first entry 9 to 10 jc; the model takes 10 (DESIGN CHOICE, log 83). -/
def State.mapSource (s : State) (m : GMsg) : State :=
  let es := s.mapsOf m.kind m.index
  (es.foldl (fun t e => t.mapEntry m.data e) s).modGus (fun g => { g with busy := if es = [] then g.busy else s.clk.uptime + 4 * (9 + es.length) })

/-- A source message has completed (R384). -/
def State.gusSource (s : State) (kind index : Nat) (data : List Byte) : State :=
  s.modGus (fun g => { g with done := g.done ++ [{ kind := kind, index := index, data := data, at_ := s.clk.uptime }] })

/-- Whether message a is served before b (R387): the earlier jc, then KIND, then INDEX. -/
def GMsg.before (a b : GMsg) : Bool :=
  decide (a.at_ < b.at_ ∨ (a.at_ = b.at_ ∧ (a.kind < b.kind ∨ (a.kind = b.kind ∧ a.index < b.index))))

/-- The message that is served first. -/
def firstMsg : List GMsg → Option GMsg
  | [] => none
  | m :: ms => match firstMsg ms with
    | some x => if x.before m then some x else some m
    | none => some m

/-- The list without the first entry equal to `m`. -/
def dropMsg (m : GMsg) : List GMsg → List GMsg
  | [] => []
  | x :: xs => if x = m then xs else x :: dropMsg m xs

/-- Hold a message pending; a newer message of its source replaces it, counted (R387). -/
def State.holdMsg (s : State) (m : GMsg) : State :=
  if s.gus.pend.any (fun x => x.kind == m.kind && x.index == m.index) then
    (s.modGus (fun g => { g with pend := g.pend.map (fun x => if x.kind = m.kind ∧ x.index = m.index then { m with at_ := x.at_ } else x) })).bump
      Fld.GB_COUNT_REPLACED
  else s.modGus (fun g => { g with pend := g.pend ++ [m] })

/-- GUSSET_SOURCE_COMPLETE (R387): the first completed source is mapped when the pipeline is free and nothing is pending, else it is held
pending. -/
def execGussetSourceComplete (s : State) : Host.Outcome State Fault Refusal :=
  .next (match firstMsg s.gus.done with
    | none => s
    | some m =>
      let s1 := s.modGus (fun g => { g with done := dropMsg m g.done })
      if s.gus.busy ≤ s.clk.uptime ∧ s.gus.pend = [] then s1.mapSource m else s1.holdMsg m)

/-- GUSSET_PENDING_SERVE (R387): the pipeline is free and serves the first pending source. -/
def execGussetPendingServe (s : State) : Host.Outcome State Fault Refusal :=
  .next (match firstMsg s.gus.pend with
    | none => s
    | some m =>
      if s.gus.busy ≤ s.clk.uptime then (s.modGus (fun g => { g with pend := dropMsg m g.pend })).mapSource m else s)

/-- The banks swap at t_vr (R389); the new working bank continues from the front bank. The voted image is then a completed source (R390). -/
def State.gusSwap (s : State) : State :=
  ({ s with gTx := s.gus.work } : State).gusSource 0 0 (s.vote.out.bytes 0 s.cfg.sOut)

/-! ### Sending carried writes -/

/-- The window whose aperture holds word w (R392). -/
def State.winOf (s : State) (w : Nat) : Option Nat :=
  (List.range 16).find? (fun n => s.flag (Fld.GB_WIN_n_CFG_EN n) && decide (s.rd (Fld.GB_WIN_n_CFG_APT_BASE n) ≤ w
    ∧ w < s.rd (Fld.GB_WIN_n_CFG_APT_BASE n) + s.rd (Fld.GB_WIN_n_SIZE_WORDS n)))

/-- The initiator code of R393. -/
def gbInit : Initiator → Nat
  | .host => 0
  | .shuttle _ => 1
  | _ => 2

/-- Whether window n is HALTED (R399). -/
def State.halted (s : State) (n : Nat) : Bool := s.regBit Reg.GB_STATUS n

/-- The ring of a window. -/
def State.winRing (s : State) (n : Nat) : Ring := if s.flag (Fld.GB_WIN_n_CFG_RING n) then .Y else .X

/-- The 14 payload bytes of a carried message (R393). -/
def carriedBytes (win b1 seq word data : Nat) : List Byte :=
  leBytes 1 win ++ leBytes 1 b1 ++ leBytes 2 seq ++ leBytes 4 word ++ leBytes 4 data ++ leBytes 2 0

/-- A window submits a message with its next SEQ (R394): HALTED discards it, a full queue refuses it. -/
def State.winSend (s : State) (n kind b1 init word data : Nat) (np : Bool) : State :=
  let seq := s.rd (Fld.GB_WIN_n_STAT_SEQ n)
  let tag := s.rd (Fld.GB_WIN_n_CTRL_TAG n)
  let r := s.winRing n
  let s1 := s.bumpW (Fld.GB_WIN_n_STAT_SEQ n)
  let s2 := if np then
      ((((s1.set1 (Fld.GB_CPL_i_PENDING init)).wr (Fld.GB_CPL_i_RESULT init) 0).wr (Fld.GB_CPL_i_WIN init) n).wr (Fld.GB_CPL_i_SEQ init) seq).modGus
        (fun g => { g with npAt := setN g.npAt init s.clk.uptime })
    else s1
  if s.halted n then (if np then s2.cplEnd init 0xB else s2.bump (Fld.GB_WIN_n_STAT_DROPPED n))
  else if 16 ≤ (s.rg r).queued then
    let s3 := s2.set1 (Fld.SX_TXC_STATUS_REFUSED r)
    if np then s3.cplEnd init 8
    else s3.pefPush { cause := 8, init := init, win := n, node := s.rd (Fld.SX_CFG_ADDR r), addr := word, seq := seq, tag := tag }
  else
    let m : TxMsg := { dest := s.rd (Fld.GB_WIN_n_CFG_DEST n), len := 14, tag := tag, kind := kind,
                       data := carriedBytes n b1 seq word data, age := 0, init := init }
    (s2.modRg r (fun g => { g with txq := g.txq ++ [m] })).showTx r

/-- A write of aperture word w (R392, R395), none when it ends in an access fault. -/
def State.aptWrite (s : State) (i : Initiator) (w : Nat) (d : Word) : Option State :=
  match s.winOf w with
  | none => some s
  | some n =>
    let np := s.flag (Fld.GB_WIN_n_CFG_NP n)
    let init := gbInit i
    if np && s.flag (Fld.GB_CPL_i_PENDING init) then none
    else
      let addr := (s.rd (Fld.GB_WIN_n_REMOTE_REMOTE n) + 4 * (w - s.rd (Fld.GB_WIN_n_CFG_APT_BASE n))) % 2 ^ 32
      some (s.winSend n 0x8001 (b2n np + 2 * init) init addr d.toNat np)

/-- APERTURE_WRITE (R392 to R395). -/
def execApertureWrite (i : Initiator) (w : Fin 8192) (d : Word) (s : State) : Host.Outcome State Fault Refusal :=
  .next (if s.mayWrite i (Reg.GB_APT_w w) then
      match s.aptWrite i w d with
      | some t => t.respond i .done
      | none => s.respond i .fault
    else s.deny i (Reg.GB_APT_w w))

/-- A write of GB.WIN_n_SIG (R400): the signal goes behind earlier writes. -/
def State.winSig (s : State) (i : Initiator) (n : Nat) (w : Word) : State :=
  if s.flag (Fld.GB_WIN_n_CFG_EN n) then s.winSend n 0x8004 0 (gbInit i) w.toNat 0 false else s

/-- WIN_SIG (R400). -/
def execWinSig (i : Initiator) (n : Fin 16) (w : Word) (s : State) : Host.Outcome State Fault Refusal :=
  .next (s.regCmdRaw i (Reg.GB_WIN_n_SIG n) (fun t => t.winSig i n w))

/-- A write of GB.WIN_n_CTRL (R399, R404): TAG, and RESUME leaves HALTED. -/
def State.winCtl (s : State) (n : Nat) (w : Word) : State :=
  if wbits w (Fld.GB_WIN_n_CTRL_RESUME n) = 1 then s.wrBit Reg.GB_STATUS n false else s

/-- WIN_RESUME (R399). -/
def execWinResume (i : Initiator) (n : Fin 16) (w : Word) (s : State) : Host.Outcome State Fault Refusal :=
  .next (s.regCmd i (Reg.GB_WIN_n_CTRL n) w (fun t => t.winCtl n (w ||| 0x80000000)))

/-- The head of the posted-error FIFO is removed (R404). -/
def State.pefPop (s : State) : State := (s.modGus (fun g => { g with pef := g.pef.drop 1 })).showPef

/-- PEF_POP (R398). -/
def execPefPop (i : Initiator) (w : Word) (s : State) : Host.Outcome State Fault Refusal :=
  .next (s.regCmd i Reg.GB_PEF_CTRL w (fun t => t.pefPop))

/-- NP_TIMEOUT (R395): NP_TMO × 100 µs without a completion. -/
def execNpTimeout (n : Fin 3) (s : State) : Host.Outcome State Fault Refusal :=
  .next (match lookupN s.gus.npAt n with
    | some t => if t + 100000 * s.rd Fld.GB_CFG_NP_TMO ≤ s.clk.uptime then s.cplEnd n 0xA else s
    | none => s)

/-! ### Receiving -/

/-- The oldest received message when it has the KIND, and the state without it. -/
def State.gusIn (s : State) (kind : Nat) : Option (Ring × RxMsg × State) :=
  match s.gus.inq with
  | (r, m) :: q => if m.kind = kind then some (r, m, s.modGus (fun g => { g with inq := q })) else none
  | [] => none

/-- The lowest enabled inbound window that names the source and, for a write, holds the address (R396, R400). -/
def State.inWin (s : State) (src : Nat) (addr : Option Nat) : Option Nat :=
  (List.range 8).find? (fun n => s.flag (Fld.GB_IN_n_CFG_EN n) && s.rd (Fld.GB_IN_n_CFG_SRC n) == src &&
    (match addr with
     | some a => decide (s.rd (Fld.GB_IN_n_BASE_BASE n) ≤ a ∧ a < s.rd (Fld.GB_IN_n_BASE_BASE n) + 4096 * s.rd (Fld.GB_IN_n_PAGES_PAGES n))
     | none => true))

/-- The answer to a write or signal (R396, R393): a completion for a non-posted write, a report for a posted one that failed. -/
def State.gusAnswer (s : State) (x : GLand) (code : Nat) : State :=
  let np := !x.signal && x.flags % 2 == 1
  if np then
    s.sendUrgent x.ring { dest := x.src, len := 14, tag := x.tag, kind := 0x8002, data := carriedBytes x.win (if code = 0 then 1 else code) x.seq x.addr 0, age := 0 }
  else if code = 0 then s
  else s.sendUrgent x.ring { dest := x.src, len := 14, tag := x.tag, kind := 0x8003, data := carriedBytes x.win code x.seq x.addr x.flags, age := 0 }

/-- The sequence check of a sender window (R396): whether the message leaves a gap, and the next expectation. -/
def State.seqCheck (s : State) (src win seq : Nat) : Bool × State :=
  ((match lookupN s.gus.exp (256 * src + win) with
    | some e => e != seq
    | none => false),
   s.modGus (fun g => { g with exp := setN g.exp (256 * src + win) ((seq + 1) % 65536) }))

/-- The carried message of a container (R393). -/
def landOf (r : Ring) (m : RxMsg) (signal : Bool) : GLand :=
  { ring := r, src := m.source, win := leNat (sliceB m.data 0 1), seq := leNat (sliceB m.data 2 2), tag := m.tag,
    flags := leNat (sliceB m.data 1 1), addr := leNat (sliceB m.data 4 4), data := leNat (sliceB m.data 8 4), signal := signal,
    inWin := 0, cause := 0 }

/-- CARRIED_WRITE_RECEIVED (R396): the checks; a write that passes waits to land, a refused one is answered. -/
def execCarriedWriteReceived (s : State) : Host.Outcome State Fault Refusal :=
  .next (match s.gusIn 0x8001 with
    | none => s
    | some (r, m, s1) =>
      let x := landOf r m false
      let s2 := (s1.seqCheck x.src x.win x.seq).2
      match s2.inWin x.src (some x.addr) with
      | none => s2.gusAnswer x 2
      | some n =>
        if s2.writesPair then
          s2.modGus (fun g => { g with land := g.land ++ [{ x with inWin := n, cause := if (s1.seqCheck x.src x.win x.seq).1 then 4 else 0 }] })
        else (s2.bump (Fld.GB_IN_n_STAT_REFUSED n)).gusAnswer x 3)

/-- COMPLETION_RECEIVED (R395): the pending completion register of the write takes the result; one that no register awaits is late. -/
def execCompletionReceived (s : State) : Host.Outcome State Fault Refusal :=
  .next (match s.gusIn 0x8002 with
    | none => s
    | some (_, m, s1) =>
      let win := leNat (sliceB m.data 0 1)
      let seq := leNat (sliceB m.data 2 2)
      match (List.range 3).find? (fun i => s1.flag (Fld.GB_CPL_i_PENDING i) && s1.rd (Fld.GB_CPL_i_WIN i) == win && s1.rd (Fld.GB_CPL_i_SEQ i) == seq) with
      | some i => s1.cplEnd i (leNat (sliceB m.data 1 1))
      | none => s1.bump Fld.GB_MSG_COUNT_LATE_CPL)

/-- POSTED_ERROR_REPORT (R398). -/
def execPostedErrorReport (s : State) : Host.Outcome State Fault Refusal :=
  .next (match s.gusIn 0x8003 with
    | none => s
    | some (_, m, s1) =>
      s1.pefPush { cause := leNat (sliceB m.data 1 1), init := leNat (sliceB m.data 8 1) / 2 % 8, win := leNat (sliceB m.data 0 1) % 16,
                   node := m.source, addr := leNat (sliceB m.data 4 4), seq := leNat (sliceB m.data 2 2), tag := m.tag })

/-- CARRIED_SIGNAL_RECEIVED (R400): the signal waits behind the earlier writes of its sender window. -/
def execCarriedSignalReceived (s : State) : Host.Outcome State Fault Refusal :=
  .next (match s.gusIn 0x8004 with
    | none => s
    | some (r, m, s1) =>
      let x := { landOf r m true with flags := 0 }
      let s2 := (s1.seqCheck x.src x.win x.seq).2
      match s2.inWin x.src none with
      | none => s2.gusAnswer x 2
      | some n => s2.modGus (fun g => { g with land := g.land ++ [{ x with inWin := n, cause := if (s1.seqCheck x.src x.win x.seq).1 then 4 else 0 }] }))

/-- The first signal that no earlier message of its sender window precedes. -/
def readySignal : List GLand → List GLand → Option GLand
  | _, [] => none
  | seen, x :: xs =>
    if x.signal && !seen.any (fun y => y.src == x.src && y.win == x.win) then some x else readySignal (x :: seen) xs

/-- SIGNAL_POST (R400): once every earlier write has landed the CODE is posted; a refused post is reported. -/
def execSignalPost (s : State) : Host.Outcome State Fault Refusal :=
  .next (match readySignal [] s.gus.land with
    | none => s
    | some x =>
      let s1 := s.modGus (fun g => { g with land := g.land.erase x })
      let p := s1.eyPost 20 (s1.rd (Fld.GB_IN_n_CFG_EY x.inWin)) (BitVec.ofNat 32 x.addr)
      p.1.gusAnswer x (if p.2 then x.cause else 5))

end Sys2Proof.Machine
end

