-- ==== Sys2Proof/Machine/Ether.lean ====
section
/-! DEFINITION. The consist Ethernet switch (chapter 14): learning, filtering, queues, process-data entries, the software rings and
the time of PTP messages. -/

namespace Sys2Proof.Machine

/-! ### Frames -/

/-- An Ethernet address register pair as the six bytes sent first to last (R381). -/
def State.macBytes (s : State) (m : Nat) : List Byte := leBytes 4 (s.reg (Reg.ETH_MAC_m_LO m)).toNat ++ leBytes 2 (s.reg (Reg.ETH_MAC_m_HI m)).toNat

/-- Whether a frame carries a C-tag (R354). -/
def tagged (f : List Byte) : Bool := beNat (sliceB f 12 2) == 0x8100

/-- The VID of a tagged frame. -/
def vidOf (f : List Byte) : Nat := beNat (sliceB f 14 2) % 4096

/-- The PCP of a tagged frame. -/
def pcpOf (f : List Byte) : Nat := beNat (sliceB f 14 2) / 8192

/-- The EtherType behind the tag, where there is one. -/
def etypeOf (f : List Byte) : Nat := beNat (sliceB f (if tagged f then 16 else 12) 2)

/-- The payload, behind the EtherType. -/
def payloadOf (f : List Byte) : List Byte := f.drop (if tagged f then 18 else 14)

/-- The frame with this tag. -/
def withTag (f : List Byte) (pcp vid : Nat) : List Byte :=
  f.take 12 ++ [0x81, 0x00] ++ beBytes 2 (pcp * 8192 + vid) ++ (if tagged f then f.drop 16 else f.drop 12)

/-- The frame without its tag. -/
def noTag (f : List Byte) : List Byte := if tagged f then f.take 12 ++ f.drop 16 else f

/-- Whether an address is a group address. -/
def isGroup (a : List Byte) : Bool := bitOf (leNat (a.take 1)) 0

/-- The VLAN entry of a VID (R354, R381). -/
def State.vlanOf (s : State) (vid : Nat) : Option Nat :=
  (List.range 64).find? (fun v => s.flag (Fld.ETH_VLAN_v_EN v) && s.rd (Fld.ETH_VLAN_v_VID v) == vid)

/-- Whether a port is a member of a VID. -/
def State.vlanMember (s : State) (vid p : Nat) : Bool :=
  match s.vlanOf vid with
  | some v => bitOf (s.rd (Fld.ETH_VLAN_v_MEMBER v)) p
  | none => false

/-- Whether a port passes frames: enabled, not blocked, with link (R356). -/
def State.portOpen (s : State) (p : Nat) : Bool :=
  s.flag (Fld.ETH_PORT_p_CFG_EN p) && !s.flag (Fld.ETH_PORT_p_CFG_BLOCK p) && s.flag (Fld.ETH_PORT_p_STAT_LINK p)

/-- Change the switch's hidden state. -/
def State.modEth (s : State) (g : EthSt → EthSt) : State := { s with eth := g s.eth }

/-! ### Queues -/

/-- Octets of a frame on the line, with its FCS. -/
def frameLen (f : List Byte) : Nat := f.length + 4

/-- Bytes waiting in a queue of a port. -/
def EthSt.queueLen (e : EthSt) (p q : Nat) : Nat :=
  ((e.out.filter (fun x => x.port == p && x.queue == q)).map (fun x => frameLen x.bytes)).sum

/-- Bytes that the frames waiting hold in the shared buffer, each frame once. -/
def bufferLen : List Nat → List EthOut → Nat
  | _, [] => 0
  | seen, x :: xs => if seen.contains x.fid then bufferLen seen xs else frameLen x.bytes + bufferLen (x.fid :: seen) xs

/-- A frame joins its queue at a port, or is dropped whole at the tail and counted (R358). -/
def State.ethEnqueue (s : State) (x : EthOut) : State :=
  let lim := 1024 * s.rd (Fld.ETH_QLIM_q_KB x.queue)
  let held := if s.eth.out.any (fun y => y.fid == x.fid) then 0 else frameLen x.bytes
  if s.portOpen x.port = false then s
  else if lim < s.eth.queueLen x.port x.queue + frameLen x.bytes ∨ 512 * 1024 < bufferLen [] s.eth.out + held then
    s.bump (if x.queue % 2 = 1 then Fld.ETH_PORT_p_QDROP_j_Q_ODD x.port (x.queue / 2) else Fld.ETH_PORT_p_QDROP_j_Q_EVEN x.port (x.queue / 2))
  else s.modEth (fun e => { e with out := e.out ++ [x] })

/-- Whether a learned address has been seen within 300 s (R356). -/
def State.young (s : State) (m : Nat × List Byte × Nat × Nat) : Bool := decide (s.clk.uptime < m.2.2.2 + 300 * giga)

/-- The port a unicast address was learned at (R356). -/
def State.learnedAt (s : State) (vid : Nat) (a : List Byte) : Option Nat :=
  (s.eth.macs.find? (fun m => m.1 == vid && m.2.1 == a && s.young m)).map (fun m => m.2.2.1)

/-- A source address is learned or seen again; a full table learns no more (R356). -/
def State.learn (s : State) (vid p : Nat) (a : List Byte) : State :=
  if isGroup a then s
  else
    let rest := s.eth.macs.filter (fun m => !(m.1 == vid && m.2.1 == a) && s.young m)
    if 2048 ≤ rest.length then s else s.modEth (fun e => { e with macs := (vid, a, p, s.clk.uptime) :: rest })

/-- The external ports that a tagged frame goes to (R356): the learned one, or every member of its VLAN but the ingress. -/
def State.ethPorts (s : State) (f : List Byte) (ingress : Option Nat) : List Nat :=
  let vid := vidOf f
  let flood := (List.range 8).filter (fun p => s.vlanMember vid p && ingress != some p)
  if isGroup (f.take 6) then flood
  else if f.take 6 = s.macBytes 0 then []
  else match s.learnedAt vid (f.take 6) with
    | some p => if s.vlanMember vid p ∧ ingress ≠ some p then [p] else []
    | none => flood

/-- Whether a frame reaches port 8: addressed to the module or flooded (R356, R364). -/
def State.toPort8 (s : State) (f : List Byte) : Bool :=
  isGroup (f.take 6) || f.take 6 == s.macBytes 0 || (s.learnedAt (vidOf f) (f.take 6)).isNone

/-- A tagged frame is switched to its external ports. -/
def State.ethForward (s : State) (f : List Byte) (ingress : Option Nat) (pd desc : Option Nat) (oneStep : Bool) : State :=
  let id := s.eth.fid
  (s.ethPorts f ingress).foldl (fun t p =>
    t.ethEnqueue { port := p, queue := pcpOf f, bytes := f, fid := id, rx := (if ingress.isSome then some s.clk.uptime else none),
                   pd := pd, desc := desc, oneStep := oneStep })
    (s.modEth (fun e => { e with fid := e.fid + 1 }))

/-! ### Receiving -/

/-- The receive entry that takes a frame (R360): the lowest that matches VID and STREAM. -/
def State.pdMatch (s : State) (f : List Byte) : Option Nat :=
  if etypeOf f = s.rd Fld.ETH_CFG_PD_ETYPE then
    (List.range 256).find? (fun n => s.flag (Fld.ETH_PD_n_A_EN n) && !s.flag (Fld.ETH_PD_n_A_DIR n) && s.rd (Fld.ETH_PD_n_A_VID n) == vidOf f
      && s.rd (Fld.ETH_PD_n_B_STREAM n) == leNat ((payloadOf f).take 2))
  else none

/-- A receive entry takes a frame's data, whole or not at all, to the place that SEL names (R360); the Gusset bridge also takes a shorter
message (R387). -/
def State.pdReceive (s : State) (n : Nat) (f : List Byte) : State :=
  let len := 4 * s.rd (Fld.ETH_PD_n_A_LEN4 n)
  let data := ((payloadOf f).drop 4).take len
  let sel := s.rd (Fld.ETH_PD_n_A_SEL n)
  let at_ := s.rd (Fld.ETH_PD_n_B_IMG4_CONN n)
  if data.length < len ∧ sel ≠ 2 then s
  else
    let s1 := (s.set1 (Fld.ETH_PD_n_STAT_FRESH n)).bumpW (Fld.ETH_PD_n_STAT_FRAMES n)
    match sel with
    | 0 => { s1 with stage := s1.stage.putBytes (4 * at_) data }
    | 1 =>
      if s1.flag (Fld.SX_CONN_n_CFG_MAC at_) then
        { s1 with macQ := s1.macQ ++ [{ conn := at_, msg := data, rx := s1.netSpan, since := s1.clk.uptime }] }
      else (s1.checkSafe at_ data s1.netSpan).1
    | _ => s1.gusSource 4 n data

/-- A frame enters the software receive ring, or is dropped where no descriptor is free (R364) or its descriptor gives an error response
(R155; DESIGN CHOICE, log 87). -/
def State.ringReceive (s : State) (p : Nat) (f : List Byte) : State :=
  let prod := s.rd Fld.ETH_RXR_IDX_PROD
  if (prod + 1) % 1024 = s.rd Fld.ETH_RXR_IDX_CONS then s.bump (Fld.ETH_PORT_p_RX_DROP_NO_BUF p)
  else
    let d := 0x40004000 + 16 * prod
    match s.junctionRead 4 d 4 with
    | (t, none) => t
    | (t, some bs) =>
    let buf := leNat bs
    let s1 := if decide (0x40000000 ≤ buf ∧ buf + f.length ≤ 0x80000000) then t.ddrPut .junction buf f else t
    (s1.ddrPut .junction (d + 4) (leBytes 2 f.length ++ leBytes 1 p ++ leBytes 1 3 ++ leBytes 4 s.netSpan ++ leBytes 4 (s.wall % giga))).wr
      Fld.ETH_RXR_IDX_PROD ((prod + 1) % 1024)

/-- ETH_FRAME_RECEIVED (R354, R356, R358, R360, R364): `f` is the frame without FCS. -/
def execEthFrameReceived (p : Fin 8) (f : List Byte) (fcsOk : Bool) (s : State) : Host.Outcome State Fault Refusal :=
  .next (if s.portOpen p && !s.asleep && !s.ej2Down then
      let two := tagged f && beNat (sliceB f 16 2) == 0x8100
      if !fcsOk || two || decide (frameLen f < 64) || decide (1522 < frameLen f) then s.bump (Fld.ETH_PORT_p_RX_ERR_FCS_LEN p)
      else if etypeOf f = 0x8808 ∧ beNat ((payloadOf f).take 2) = 1 then s.bump (Fld.ETH_PORT_p_RX_ERR_PAUSE p)
      else
        let vid := if tagged f && vidOf f != 0 then vidOf f else s.rd (Fld.ETH_PORT_p_CFG_PVID p)
        let pcp := if tagged f then pcpOf f else s.rd (Fld.ETH_PORT_p_CFG_DEF_PCP p)
        if s.vlanMember vid p then
          let g := withTag f pcp vid
          let s1 := if s.flag (Fld.ETH_PORT_p_CFG_LEARN p) then s.learn vid p ((f.drop 6).take 6) else s
          let s2 := s1.ethForward g (some p) none none false
          match s1.pdMatch g with
          | some n => s2.pdReceive n g
          | none => if s1.toPort8 g then s2.ringReceive p f else s2
        else s.bump (Fld.ETH_PORT_p_RX_DROP_VLAN p)
    else s)

/-! ### Sending -/

/-- The offset of a PTP event message in a frame (R354): annex E, or annex C over UDP and IPv4. -/
def ptpAt (f : List Byte) : Option Nat :=
  let h := if tagged f then 18 else 14
  if etypeOf f = 0x88F7 then some h
  else if etypeOf f = 0x0800 then
    let ip := h + 4 * (leNat (sliceB f h 1) % 16)
    if leNat (sliceB f (h + 9) 1) = 17 ∧ beNat (sliceB f (ip + 2) 2) = 319 then some (ip + 8) else none
  else none

/-- The message type of a PTP message: 0 Sync, 1 Delay_Req. -/
def ptpType (f : List Byte) (o : Nat) : Nat := leNat (sliceB f o 1) % 16

/-- The residence time is added to correctionField; under annex C the UDP checksum is set to zero (R362). -/
def correct (f : List Byte) (o ns : Nat) : List Byte :=
  let c := beNat (sliceB f (o + 8) 8)
  let g := spliceB f (o + 8) (beBytes 8 ((c + ns * 65536) % 2 ^ 64))
  if etypeOf f = 0x0800 then spliceB g (o - 2) [0, 0] else g

/-- The frame as it leaves a port (R354, R362, R363): untagged where the VLAN says so, with the residence time in it or, in a one-step Sync of the
ordinary clock (annex E), the wall time, and filled to 64 bytes with its FCS. -/
def State.ethLine (s : State) (x : EthOut) : List Byte :=
  let f0 := match ptpAt x.bytes with
    | some o =>
      if x.oneStep && s.flag Fld.ETH_CFG_OC_EN && etypeOf x.bytes == 0x88F7 && ptpType x.bytes o == 0 then spliceB x.bytes (o + 34) (beBytes 6 (s.wall / giga) ++ beBytes 4 (s.wall % giga))
      else match x.rx with
        | some t => if s.flag Fld.ETH_CFG_TC_EN ∧ ptpType x.bytes o ≤ 1 then correct x.bytes o (s.clk.uptime - t) else x.bytes
        | none => x.bytes
    | none => x.bytes
  let un := match s.vlanOf (vidOf f0) with
    | some v => tagged f0 && bitOf (s.rd (Fld.ETH_VLAN_v_UNTAG v)) x.port
    | none => false
  let f1 := if un then noTag f0 else f0
  f1 ++ List.replicate (60 - f1.length) 0

/-- The frame that a port sends next: the oldest of its highest queue that holds one (R358). -/
def EthSt.head (e : EthSt) (p : Nat) : Option EthOut :=
  ((List.range 8).reverse.map (fun q => e.out.find? (fun x => x.port == p && x.queue == q))).findSome? id

/-- The list without the first frame with this number at this port. -/
def dropOut (p fid : Nat) : List EthOut → List EthOut
  | [] => []
  | x :: xs => if x.port = p ∧ x.fid = fid then xs else x :: dropOut p fid xs

/-- ETH_FRAME_TRANSMIT (R358, R362 to R364): a frame of the software ring gets its timestamp in its descriptor. -/
def execEthFrameTransmit (p : Fin 8) (s : State) : Host.Outcome State Fault Refusal :=
  .next (if s.portOpen p && !s.asleep && !s.ej2Down then
      match s.eth.head p with
      | none => s
      | some x =>
        let s1 := s.modEth (fun e => { e with out := dropOut p x.fid e.out, sent := setN e.sent p (s.ethLine x) })
        match x.desc with
        | some i =>
          let d := 0x40000000 + 16 * i
          (match s1.junctionRead 4 (d + 7) 1 with
          | (t, some bs) => t.ddrPut .junction (d + 7) (leBytes 1 (putBits (leNat bs) 1 0 3) ++ leBytes 4 s.netSpan ++ leBytes 4 (s.wall % giga))
          | (t, none) => t)
        | none => s1
    else s)

/-- MAC_AGE_OUT (R356): addresses not seen for 300 s are forgotten. -/
def execMacAgeOut (s : State) : Host.Outcome State Fault Refusal :=
  .next (s.modEth (fun e => { e with macs := e.macs.filter s.young }))

/-- LINK_UP (R354, R355): the speed agreed, 1 to 3 for 10, 100 and 1000 Mbit/s, or a partner with half duplex only. Outside RECOVERY the
port is one that is enabled; asleep every link stays down. -/
def execLinkUp (p : Fin 8) (half : Bool) (rate : Fin 4) (s : State) : Host.Outcome State Fault Refusal :=
  let on := (s.flag (Fld.ETH_PORT_p_CFG_EN p) || (s.phase == Phase.recovery && p.val == 0)) && !s.asleep && !s.ej2Down
  let sp := s.rd (Fld.ETH_PORT_p_CFG_SPEED p)
  .next (if !on then s
    else if half then s.set1 (Fld.ETH_PORT_p_STAT_DUPLEX_ERR p)
    else if rate.val ≠ 0 ∧ (sp = 0 ∨ sp = rate.val) then (s.set1 (Fld.ETH_PORT_p_STAT_LINK p)).wr (Fld.ETH_PORT_p_STAT_RATE p) rate
    else s)

/-- A port loses its link (R381); the frames waiting at it stay in their queues. -/
def State.linkDown (s : State) (p : Nat) : State :=
  if s.flag (Fld.ETH_PORT_p_STAT_LINK p) then
    ((s.wr (Fld.ETH_PORT_p_STAT_LINK p) 0).wr (Fld.ETH_PORT_p_STAT_RATE p) 0).bump (Fld.ETH_PORT_p_STAT_LINK_DOWNS p)
  else s

/-- LINK_DOWN (R355, R381). -/
def execLinkDown (p : Fin 8) (s : State) : Host.Outcome State Fault Refusal := .next (s.linkDown p)

/-! ### Process data -/

/-- The transmit entries in use, in entry order (R361). -/
def State.pdOut (s : State) : List Nat := (List.range 256).filter (fun n => s.flag (Fld.ETH_PD_n_A_EN n) && s.flag (Fld.ETH_PD_n_A_DIR n))

/-- The data of a transmit entry (R361): the voted image, the safe message of its connection, or the Gusset transmit buffer. -/
def State.pdData (s : State) (n : Nat) : List Byte :=
  let len := 4 * s.rd (Fld.ETH_PD_n_A_LEN4 n)
  let at_ := s.rd (Fld.ETH_PD_n_B_IMG4_CONN n)
  match s.rd (Fld.ETH_PD_n_A_SEL n) with
  | 0 => s.vote.out.bytes (4 * at_) len
  | 1 => (s.conn at_).msg.take len
  | _ => s.gTx.bytes (4 * at_) len

/-- A process-data frame (R359), padded to 64 bytes with its FCS. -/
def State.pdFrame (s : State) (n : Nat) : List Byte :=
  let f := s.macBytes (s.rd (Fld.ETH_PD_n_A_MAC n)) ++ s.macBytes 0 ++ beBytes 2 (s.rd Fld.ETH_CFG_PD_ETYPE) ++
    leBytes 2 (s.rd (Fld.ETH_PD_n_B_STREAM n)) ++ leBytes 2 0 ++ s.pdData n
  let g := withTag f (s.rd (Fld.ETH_PD_n_A_PCP n)) (s.rd (Fld.ETH_PD_n_A_VID n))
  g ++ List.replicate (60 - g.length) 0

/-- At t_vr the frames of the cycle before that are still queued leave their queues, each entry counted once (R361). -/
def State.pdLate (s : State) : State :=
  let late := (List.range 256).filter (fun n => s.eth.out.any (fun x => x.pd == some n))
  late.foldl (fun t n => t.bump (Fld.ETH_PD_n_STAT_LATE n)) (s.modEth (fun e => { e with out := e.out.filter (fun x => x.pd.isNone) }))

/-- PD_TRANSMIT (R361, R353, R269, R270): the frame of the cycle is queued from t_vr + 8 jc on, in entry order. A safe message is built at this point, none before the first vote (R103); one held back for
want of synchronisation is counted. -/
def execPdTransmit (n : Fin 256) (s : State) : Host.Outcome State Fault Refusal :=
  let k := s.cyc.k
  let done (m : Nat) : Bool := lookupN s.eth.pdK m == some k
  .next (if s.pdOut.contains n.val && s.cyc.vrDone && s.reached (s.tVr + 8) && s.writesPair && !s.asleep
      && (s.vote.voted || s.rd (Fld.ETH_PD_n_A_SEL n) != 1) && !done n
      && (s.pdOut.filter (fun m => decide (m < n.val) && (s.vote.voted || s.rd (Fld.ETH_PD_n_A_SEL m) != 1))).all done then
      let s1 := s.modEth (fun e => { e with pdK := setN e.pdK n k })
      let safe := s.rd (Fld.ETH_PD_n_A_SEL n) == 1
      if safe && !s.flag Fld.JC_MOD_STATUS_SYNC && !s.leads then s1.bump Fld.SX_SAFE_COUNT_TX_HELD
      else
        let s2 := if safe then s1.buildSafe (s.rd (Fld.ETH_PD_n_B_IMG4_CONN n)) (4 * (lookupN s.cfg.ethSafe n).getD 0) else s1
        (s2.ethForward (s2.pdFrame n) none (some n) none false).bumpW (Fld.ETH_PD_n_STAT_FRAMES n)
    else s)

/-- The Ethernet section (R360): bit n is FRESH of entry n. -/
def State.ethSection (s : State) : List Byte :=
  leBytes 32 (ofBits ((List.range 256).map (fun n => s.flag (Fld.ETH_PD_n_STAT_FRESH n))))

/-- The input instant ends the interval of FRESH (R381). -/
def State.ethClearFresh (s : State) : State :=
  (List.range 256).foldl (fun t n => if t.flag (Fld.ETH_PD_n_STAT_FRESH n) then t.wr (Fld.ETH_PD_n_STAT_FRESH n) 0 else t) s

/-! ### Software rings -/

/-- The switch takes the transmit descriptors up to PROD (R364): each frame goes to its port or is switched by address; one whose descriptor or
buffer gives an error response is not sent (R155; DESIGN CHOICE, log 87). -/
def State.txRing : Nat → State → State
  | 0, s => s
  | fuel + 1, s =>
    let i := s.rd Fld.ETH_TXR_IDX_CONS
    if i = s.rd Fld.ETH_TXR_IDX_PROD then s
    else
      let r := s.junctionRead 4 (0x40000000 + 16 * i) 16
      let d := r.2.getD []
      let buf := leNat (sliceB d 0 4)
      let len := leNat (sliceB d 4 2)
      let port := leNat (sliceB d 6 1)
      let one := bitOf (leNat (sliceB d 7 1)) 2
      let good := decide (14 ≤ len ∧ len ≤ 1518 ∧ 0x40000000 ≤ buf ∧ buf + len ≤ 0x80000000)
      let q := if good then r.1.junctionRead 4 buf len else (r.1, none)
      let s1 := q.1.wr Fld.ETH_TXR_IDX_CONS ((i + 1) % 1024)
      let s2 := match q.2 with
        | some f =>
          if port < 8 then
            (s1.ethEnqueue { port := port, queue := (if tagged f then pcpOf f else 0), bytes := f, fid := s.eth.fid, rx := none, pd := none,
                             desc := some i, oneStep := one }).modEth (fun e => { e with fid := e.fid + 1 })
          else s1.ethForward (if tagged f then f else withTag f 0 0) none none (some i) one
        | none => s1
      txRing fuel s2

/-- TXR_IDX (R364). -/
def execTxrIdx (i : Initiator) (w : Word) (s : State) : Host.Outcome State Fault Refusal :=
  .next (s.regCmd i Reg.ETH_TXR_IDX w (fun t => t.txRing 1024))

/-- RXR_IDX (R364): the descriptors up to CONS are free again. -/
def execRxrIdx (i : Initiator) (w : Word) (s : State) : Host.Outcome State Fault Refusal :=
  .next (s.regCmd i Reg.ETH_RXR_IDX w id)

/-- Request lines 9 and 10 of R418: the receive ring holds a frame; the transmit ring has a free descriptor. -/
def State.ethLine9 (s : State) : Bool := s.rd Fld.ETH_RXR_IDX_PROD != s.rd Fld.ETH_RXR_IDX_CONS
def State.ethLine10 (s : State) : Bool := (s.rd Fld.ETH_TXR_IDX_PROD + 1) % 1024 != s.rd Fld.ETH_TXR_IDX_CONS

end Sys2Proof.Machine
end

