-- ==== Sys2Proof/Machine/Records.lean ====
section
/-! DEFINITION. The Welt recorder and the trouble log (chapter 18). -/

namespace Sys2Proof.Machine

/-- TOTAL (R453, R454). -/
def State.wTotal (s : State) : Nat := s.rd64 Reg.WL_TOTAL_HI Reg.WL_TOTAL_LO

/-- CIRC_N = 2^CIRC_LOG2 (R454). -/
def State.circN (s : State) : Nat := 2 ^ s.rd Fld.WL_CFG_CIRC_LOG2

/-- The address of the record with total index t (R454). -/
def State.recAddr (s : State) (t : Nat) : Nat :=
  let keep := s.rd Fld.WL_CFG_KEEP_N
  if t < keep then 0x70000000 + 32 * t else 0x60000000 + 32 * ((t - keep) % s.circN)

/-- The total index of the record at FLUSH_SEQ: the newest index not above TOTAL with that SEQ (R453). -/
def State.flushIdx (s : State) : Nat :=
  s.wTotal - (s.wTotal + 2 ^ 32 - s.rd Fld.WL_FLUSH_SEQ_SEQ) % 2 ^ 32

/-- The 32 bytes of a record (R451). -/
def recBytes (seq : Nat) (e : WEvent) (rep : Nat) : List Byte :=
  leBytes 4 seq ++ leBytes 6 e.sec ++ leBytes 1 e.flags ++ leBytes 1 0 ++ leBytes 4 e.ns ++ leBytes 2 e.src ++ leBytes 2 e.code ++
    leBytes 4 rep ++ leBytes 8 e.data

/-- Whether an event folds into the last record (R455). -/
def State.repeats (s : State) (e : WEvent) : Option WLast :=
  match s.welt.last with
  | none => none
  | some l =>
    if l.src = e.src ∧ l.code = e.code ∧ l.data = e.data ∧ ¬(l.code = 0x30 ∨ l.code = 0x31 ∨ l.code = 0xF0 ∨ l.code = 0xF2)
      ∧ (s.wTotal ≤ s.rd Fld.WL_CFG_KEEP_N ∨ s.flushIdx < s.wTotal) then some l
    else none

/-- The registers that follow TOTAL: KEEP_FULL, WRAPPED, OLDEST and the flush pointer, which skips the keep area and moves on when
its record is overwritten (R454, R458, R462). -/
def State.afterRecord (s : State) : State :=
  let total := s.wTotal
  let keep := s.rd Fld.WL_CFG_KEEP_N
  let wrapped := decide (keep + s.circN < total)
  let oldest := if wrapped then total - s.circN else if keep < total then keep else 0
  let s1 := (s.wrB Fld.WL_STATUS_KEEP_FULL (decide (keep ≤ total))).wr Fld.WL_OLDEST_SEQ oldest
  let s2 := if wrapped then s1.set1 Fld.WL_STATUS_WRAPPED else s1
  let idx := s.flushIdx
  if total ≤ keep then s2.wr Fld.WL_FLUSH_SEQ_SEQ total
  else if idx < oldest then
    let s3 := (s2.wr Fld.WL_FLUSH_SEQ_SEQ oldest).bumpBy Fld.WL_FLUSH_CNT_LOST (oldest - max idx keep)
    { s3 with welt := { s3.welt with flushWord := 0 } }
  else s2

/-- Write one event: a repeat of the last record, or a new record with the next SEQ (R453 to R455). -/
def State.writeRecord (s : State) (e : WEvent) : State :=
  match s.repeats e with
  | some l =>
    match s.junctionRead 4 (l.addr + 20) 4 with
    | (t, some bs) => t.ddrPut .junction (l.addr + 20) (leBytes 4 (satAdd (2 ^ 32 - 1) (leNat bs) 1))
    | (t, none) => t
  | none =>
    let t := s.wTotal
    let a := s.recAddr t
    let s1 := (s.ddrPut .junction a (recBytes (t % 2 ^ 32) e 0)).wr64 Reg.WL_TOTAL_HI Reg.WL_TOTAL_LO (t + 1)
    let w : WLast := { src := e.src, code := e.code, data := e.data, addr := a, seq := t % 2 ^ 32 }
    ({ s1 with welt := { s1.welt with last := some w } } : State).afterRecord

/-- WELT_RECORD_WRITE (R453, R507, R456, R460): the next queued event is written, once every event of its jc has entered, unless the recorder
is frozen or junction DDR4 is in self-refresh; the events of a start wait for its start record. -/
def execWeltRecordWrite (s : State) : Host.Outcome State Fault Refusal :=
  if s.frozen || s.jddrRefresh || !s.st.recorded then .next s
  else match s.welt.queue with
    | [] => .next s
    | e :: q =>
      .next (if s.clk.uptime ≤ e.at_ then s else ((({ s with welt := { s.welt with queue := q } } : State).wr Fld.WL_STATUS_QUEUED q.length).writeRecord e))

/-- Begin a freeze (R456). -/
def State.beginFreeze (s : State) : State :=
  if s.frozen then s
  else ({ s with welt := { s.welt with frozenAt := some s.clk.uptime, held := [], lostSteps := 0 } } : State).set1 Fld.WL_STATUS_FROZEN

/-- End a freeze (R457): the held time-step records come first, then the freeze-end record; FROZEN_EVENTS returns to 0. -/
def State.endFreeze (s : State) (byLimit : Bool) : State :=
  if s.frozen then
    let e := s.mkEvent 13 0xF0 (s.rd Fld.WL_FROZEN_EVENTS_COUNT + 2 ^ 32 * b2n byLimit + 2 ^ 40 * min s.welt.lostSteps 255)
    let q := s.welt.held ++ [e] ++ s.welt.queue
    ((({ s with welt := { s.welt with queue := q, held := [], lostSteps := 0, frozenAt := none } } : State).wr
      Fld.WL_STATUS_FROZEN 0).wr Fld.WL_FROZEN_EVENTS_COUNT 0).wr Fld.WL_STATUS_QUEUED q.length
  else s

/-- The effect of a write of WL.CTRL (R456, R457): when both bits are set THAW wins. -/
def State.freezeCtl (s : State) (w : Word) : State :=
  if wbits w Fld.WL_CTRL_THAW = 1 then s.endFreeze false
  else if wbits w Fld.WL_CTRL_FREEZE = 1 then s.beginFreeze else s

/-- FREEZE (R456). -/
def execFreeze (i : Initiator) (w : Word) (s : State) : Host.Outcome State Fault Refusal :=
  .next (s.regCmd i Reg.WL_CTRL w (fun t => t.freezeCtl (w ||| 0x80000000)))

/-- THAW (R457). -/
def execThaw (i : Initiator) (w : Word) (s : State) : Host.Outcome State Fault Refusal :=
  .next (s.regCmd i Reg.WL_CTRL w (fun t => t.freezeCtl (w ||| 0x40000000)))

/-- FREEZE_TIMEOUT (R457): a freeze ends after 60 s. -/
def execFreezeTimeout (s : State) : Host.Outcome State Fault Refusal :=
  .next (match s.welt.frozenAt with
    | some t => if t + 60 * giga ≤ s.clk.uptime then s.endFreeze true else s
    | none => s)

/-- The next word of the flush stream and the state after it (R458, R459); a word that gives an error response (R155) is a free value (log 87). -/
def State.flushNext (s : State) : Word × State :=
  let idx := s.flushIdx
  if s.wTotal ≤ idx ∨ s.wTotal ≤ s.rd Fld.WL_CFG_KEEP_N then (0xFFFFFFFF, s.bump Fld.WL_FLUSH_CNT_UNDER)
  else
    let r := s.junctionRead 4 (s.recAddr idx + 4 * s.welt.flushWord) 4
    let q : Word × State := match r.2 with
      | some bs => (BitVec.ofNat 32 (leNat bs), r.1)
      | none => (r.1.takeFree.1.setWidth 32, r.1.takeFree.2)
    let t := q.2
    if t.welt.flushWord = 7 then
      (q.1, ({ t with welt := { t.welt with flushWord := 0 } } : State).wr Fld.WL_FLUSH_SEQ_SEQ (idx + 1))
    else (q.1, { t with welt := { t.welt with flushWord := t.welt.flushWord + 1 } })

/-- FLUSH_READ (R458): whatever the address, the next word of the stream. -/
def execFlushRead (i : Initiator) (n : Fin 16) (s : State) : Host.Outcome State Fault Refusal :=
  .next (if s.mayRead i (Reg.WL_FLUSH_w n) then (s.flushNext.2).respond i (.data s.flushNext.1) else s.deny i (Reg.WL_FLUSH_w n))

/-- Whether request line 8 of the Shuttle is asserted (R458). -/
def State.flushRequest (s : State) : Bool := decide (s.rd Fld.WL_FLUSH_CFG_THRESH ≤ s.wTotal - s.flushIdx)

/-- The 64 bytes of a trouble-log entry (R461). -/
def entryBytes (tseq : Nat) (c : TCause) : List Byte :=
  let head := leBytes 4 tseq ++ leBytes 4 c.starts ++ leBytes 8 c.uptime ++ leBytes 6 c.sec ++ leBytes 1 c.flags ++ leBytes 1 0 ++
    leBytes 4 c.ns ++ leBytes 2 c.src ++ leBytes 2 c.code ++ leBytes 2 c.off ++ leBytes 1 c.bit ++ leBytes 1 0
  let items := ((c.detail.take 7).map (leBytes 4)).flatten
  head ++ items ++ List.replicate (28 - items.length) 0

/-- Write the oldest waiting entry (R461): it takes its TSEQ and sets JC.HOST_ALERT.TROUBLE. -/
def State.writeEntry (s : State) : State :=
  match s.tWait with
  | [] => s
  | c :: cs =>
    let tseq := s.rd Fld.TL_STATUS_TSEQ
    (({ s with tWait := cs, tLog := s.tLog.putBytes (64 * (tseq % 1024)) (entryBytes tseq c), tLast := some s.clk.uptime } : State).bumpW
      Fld.TL_STATUS_TSEQ).set1 Fld.JC_HOST_ALERT_TROUBLE

/-- Whether the oldest waiting cause arose in an earlier jc and no entry was written in this one (R461). -/
def State.entryDue (s : State) : Bool :=
  (s.tWait.take 1).all (fun c => decide (c.at_ < s.clk.uptime)) && decide (s.tLast ≠ some s.clk.uptime)

/-- TROUBLE_ENTRY_WRITE (R461): in the jc after the cause, one entry in each jc. -/
def execTroubleEntryWrite (s : State) : Host.Outcome State Fault Refusal := .next (if s.entryDue then s.writeEntry else s)

/-- The word TL.ENTRY_w shows: of the entry in slot READ_IDX (R463). -/
def State.entryWord (s : State) (w : Nat) : Word := s.tLog.word (64 * s.rd Fld.TL_READ_IDX_IDX + 4 * w)

end Sys2Proof.Machine
end

