-- ==== Sys2Proof/Machine/Shuttle.lean ====
section
/-! DEFINITION. The Shuttle's channels and programs (chapter 16): control, the instructions, waits, errors and the shadow hand-over. Its
bursts stand in Burst. -/

namespace Sys2Proof.Machine

/-! ### Channels -/

/-- The channel states of R416 by their codes. -/
abbrev Sh.idle : Nat := 0
abbrev Sh.run : Nat := 1
abbrev Sh.wait : Nat := 2
abbrev Sh.error : Nat := 3

/-- A channel beside its registers. -/
def State.shq (s : State) (c : Nat) : ShSt := getAt ShSt.none s.shc c

/-- Change a channel. -/
def State.modSh (s : State) (c : Nat) (g : ShSt → ShSt) : State := { s with shc := setAt s.shc c (g (s.shq c)) }

/-- The state of a channel. -/
def State.shState (s : State) (c : Nat) : Nat := s.rd (Fld.SH_CH_c_STAT_STATE c)

/-- Put a channel into a state; SH.STATUS follows (R430). -/
def State.setShState (s : State) (c st : Nat) : State :=
  ((s.wr (Fld.SH_CH_c_STAT_STATE c) st).wrBit Reg.SH_STATUS (16 + c) (st == 3)).wrBit Reg.SH_STATUS c (st == 1 || st == 2)

/-- The PC of a channel. -/
def State.shPc (s : State) (c : Nat) : Nat := s.rd (Fld.SH_CH_c_PC_PC c)

/-- An error ends the instruction (R420). -/
def State.shError (s : State) (c code : Nat) : State :=
  let s1 := ((s.modSh c (fun _ => ShSt.none)).setShState c Sh.error).wr (Fld.SH_CH_c_STAT_STOP_PEND c) 0
  (((s1.wr (Fld.SH_CH_c_STAT_ERR c) code).wr (Fld.SH_CH_c_STAT_ERR_PC c) (s.shPc c)).thAuto (16 + c)).troubleAt
    (Fld.SH_CH_c_STAT_ERR c) [c, code, s.shPc c]

/-- The copy of the shadow set (R15, R421): WEIGHT (0 as 1), IRQ and ENTRY, and PC when JUMP is 1. -/
def State.shCopy (s : State) (c : Nat) : State :=
  if s.basteDue (Fld.SH_CH_c_CTRL_BASTE_PENDING c) then
    let e := s.rd (Fld.SH_SH_CH_c_PC_ENTRY c)
    let w := s.rd (Fld.SH_SH_CH_c_CFG_WEIGHT c)
    let s1 := ((((s.wr (Fld.SH_CH_c_CFG_WEIGHT c) (if w = 0 then 1 else w)).wr (Fld.SH_CH_c_CFG_IRQ c) (s.rd (Fld.SH_SH_CH_c_CFG_IRQ c))).wr
      (Fld.SH_CH_c_PC_ENTRY c) e).wr (Fld.SH_CH_c_CTRL_BASTE_PENDING c) 0)
    if s.flag (Fld.SH_SH_CH_c_PC_JUMP c) then (s1.wr (Fld.SH_CH_c_PC_PC c) e).modSh c (fun x => { x with jumped := x.wait.isSome }) else s1
  else s

/-- A stop request is honoured at a boundary (R417). -/
def State.shStop (s : State) (c : Nat) : State :=
  if s.flag (Fld.SH_CH_c_STAT_STOP_PEND c) then
    ((s.modSh c (fun _ => ShSt.none)).setShState c Sh.idle).wr (Fld.SH_CH_c_STAT_STOP_PEND c) 0
  else s

/-- The channel continues at a slot, past a descriptor boundary: the copy first, then a stop (R417, R421). A PC that passes slot 511 is error
0x9. -/
def State.shNext (s : State) (c pc : Nat) : State :=
  if 511 < pc ∧ !(s.basteDue (Fld.SH_CH_c_CTRL_BASTE_PENDING c) && s.flag (Fld.SH_SH_CH_c_PC_JUMP c)) ∧ !s.flag (Fld.SH_CH_c_STAT_STOP_PEND c) then
    s.shError c 9
  else ((((s.modSh c (fun x => { x with waited := none })).wr (Fld.SH_CH_c_PC_PC c) pc)).shCopy c).shStop c

/-! ### Requests -/

/-- Whether a peripheral request line is asserted (R418). -/
def State.shLine (s : State) (n : Nat) : Bool :=
  if n < 8 then decide (s.rd (Fld.MC_CH_n_FIFO_CFG_THRESH n) ≤ s.rd (Fld.MC_CH_n_STAT_LEVEL n)) && s.flag (Fld.MC_CH_n_CFG_EN n)
  else match n with
    | 8 => s.flushRequest
    | 9 => s.ethLine9
    | 10 => s.ethLine10
    | _ => false

/-- A stop request in the jc in which a WAIT completed ends the channel at the WAIT: the message it took stays in its Eyelet channel and the
Thimble it acquired is free (R417). -/
def State.unwait (s : State) (c : Nat) : State :=
  match (s.shq c).waited with
  | some x =>
    if x.at_ = s.clk.uptime then
      let s1 := s.wr (Fld.SH_CH_c_PC_PC c) x.pc
      if x.cond = 1 ∧ !s.eyHolds x.index then (s1.eyPut x.index (some (s.reg (Reg.SH_CH_c_MSG c)))).setReg (Reg.SH_CH_c_MSG c) x.msg
      else if x.cond = 2 ∧ x.got then s1.thFree x.index
      else s1
    else s
  | none => s

/-- The effect of a write of CH_c_CTRL (R416, R417, R421): CLEAR, START, STOP and COMMIT. -/
def State.shCtl (s : State) (c : Nat) (w : Word) : State :=
  let st := s.shState c
  let s1 := if wbits w (Fld.SH_CH_c_CTRL_COMMIT c) = 1 then s.basteCommit (Fld.SH_CH_c_CTRL_BASTE_PENDING c) else s
  let s2 := if wbits w (Fld.SH_CH_c_CTRL_CLEAR c) = 1 ∧ st = Sh.error then (s1.setShState c Sh.idle).wr (Fld.SH_CH_c_STAT_ERR c) 0 else s1
  if wbits w (Fld.SH_CH_c_CTRL_START c) = 1 ∧ (st = Sh.idle ∨ st = Sh.error) then
    ((((((s2.setShState c Sh.run).wr (Fld.SH_CH_c_STAT_ERR c) 0).wr (Fld.SH_CH_c_PC_PC c) (s2.rd (Fld.SH_CH_c_PC_ENTRY c))).setReg
      (Reg.SH_CH_c_SOFS c) 0).setReg (Reg.SH_CH_c_DOFS c) 0).setReg (Reg.SH_CH_c_LOOP c) 0).modSh c (fun _ => ShSt.none)
  else if wbits w (Fld.SH_CH_c_CTRL_STOP c) = 1 ∧ (st = Sh.run ∨ st = Sh.wait) then
    let s3 := (s2.unwait c).set1 (Fld.SH_CH_c_STAT_STOP_PEND c)
    if (s.shq c).xfer.isNone then (s3.shCopy c).shStop c else s3
  else s2

/-- SHUTTLE_START (R416). -/
def execShuttleStart (i : Initiator) (c : Fin 16) (w : Word) (s : State) : Host.Outcome State Fault Refusal :=
  .next (s.regCmd i (Reg.SH_CH_c_CTRL c) w (fun t => t.shCtl c (w ||| 0x80000000)))

/-- SHUTTLE_STOP_REQUEST (R417). -/
def execShuttleStopRequest (i : Initiator) (c : Fin 16) (w : Word) (s : State) : Host.Outcome State Fault Refusal :=
  .next (s.regCmd i (Reg.SH_CH_c_CTRL c) w (fun t => t.shCtl c (w ||| 0x40000000)))

/-- SHUTTLE_COMMIT (R421). -/
def execShuttleCommit (i : Initiator) (c : Fin 16) (w : Word) (s : State) : Host.Outcome State Fault Refusal :=
  .next (s.regCmd i (Reg.SH_CH_c_CTRL c) w (fun t => t.shCtl c (w ||| 0x20000000)))

/-- SHUTTLE_CLEAR (R416). -/
def execShuttleClear (i : Initiator) (c : Fin 16) (w : Word) (s : State) : Host.Outcome State Fault Refusal :=
  .next (s.regCmd i (Reg.SH_CH_c_CTRL c) w (fun t => t.shCtl c (w ||| 0x08000000)))

/-- SHUTTLE_SHADOW_COPY (R421): at the channel's boundary; the channel is not inside a transfer. -/
def execShuttleShadowCopy (c : Fin 16) (s : State) : Host.Outcome State Fault Refusal :=
  .next (if (s.shq c).xfer.isNone then s.shCopy c else s)

/-! ### Instructions -/

/-- Word w of the instruction at slot p (R410, R415). -/
def State.shWord (s : State) (p w : Nat) : Nat := (s.reg (Reg.SH_PROG_w (4 * p + w))).toNat

/-- The instruction that a channel in RUN fetches next, as its slot and w0; none inside a transfer and in another state. -/
def State.shFetch (s : State) (c : Nat) : Option (Nat × Nat) :=
  if s.shState c = Sh.run ∧ (s.shq c).xfer.isNone then some (s.shPc c, s.shWord (s.shPc c) 0) else none

/-- Run the next instruction of a channel when it has this OP; a reserved OP is error 0x4 whatever instruction was expected (R410). -/
def State.shRun (s : State) (c op : Nat) (eff : Nat → Nat → State) : State :=
  match s.shFetch c with
  | none => s
  | some (p, w0) =>
    let o := w0 / 2 ^ 28
    if 6 ≤ o ∧ o ≤ 14 then s.shError c 4
    else if o = op then eff p w0
    else s

/-- Whether only these bits of a word are set. -/
def onlyBits (w mask : Nat) : Bool := w &&& mask == w

/-- NOP (R410). -/
def execNop (c : Fin 16) (s : State) : Host.Outcome State Fault Refusal :=
  .next (s.shRun c 0 (fun p w0 =>
    if w0 % 2 ^ 28 = 0 ∧ s.shWord p 1 = 0 ∧ s.shWord p 2 = 0 ∧ s.shWord p 3 = 0 then s.shNext c (p + 1) else s.shError c 4))

/-- The fields of w0 that MOVE and MOVE2D share (R410). -/
def moveMask : Nat := 0xFFBF0000

/-- Whether an address lies in the junction unit blocks (R405). -/
def inUnits (a : Nat) : Bool := decide (a < 0x130000)

/-- The address of byte j of a transfer's source or destination, modulo 2^32 (R411). -/
def lineAddr (base : Nat) (stride : Int) (len j : Nat) : Nat :=
  (((base : Int) + stride * (j / len : Nat) + (j % len : Nat)) % (2 ^ 32 : Int)).toNat

/-- A side-effect part that is not word-aligned or not a multiple of 4 bytes (R408). -/
def badSide (se : Bool) (a len stride lines : Nat) : Bool :=
  se && (List.range lines).any (fun l =>
    let b := lineAddr a (toSigned 32 stride) len (l * len)
    inUnits b && (b % 4 != 0 || len % 4 != 0))

/-- A transfer begins (R411). -/
def State.shBegin (s : State) (c w0 : Nat) (src dst sLen sLines dLen dLines : Nat) (sStride dStride : Nat) (two : Bool) : State :=
  let a := (src + s.rd (Fld.SH_CH_c_SOFS_VALUE c)) % 2 ^ 32
  let b := (dst + s.rd (Fld.SH_CH_c_DOFS_VALUE c)) % 2 ^ 32
  if badSide (bitOf w0 27) a sLen sStride sLines || badSide (bitOf w0 26) b dLen dStride dLines then s.shError c 3
  else
    let y : ShXfer :=
      { src := a, sStride := toSigned 32 sStride, sLen := sLen, dst := b, dStride := toSigned 32 dStride, dLen := dLen, done := 0,
        total := sLen * sLines, seSrc := bitOf w0 27, seDst := bitOf w0 26, pace := bitOf w0 25, req := bitsOf w0 21 16,
        advS := bitOf w0 24, advD := bitOf w0 23, two := two, carry := [] }
    s.modSh c (fun x => { x with xfer := some y })

/-- MOVE (R410, R411). -/
def execMove (c : Fin 16) (s : State) : Host.Outcome State Fault Refusal :=
  .next (s.shRun c 1 (fun p w0 =>
    let n := s.shWord p 3
    if !onlyBits w0 (moveMask) || decide (10 < bitsOf w0 21 16) || decide (n = 0 ∨ 2 ^ 24 ≤ n) then s.shError c 4
    else s.shBegin c w0 (s.shWord p 1) (s.shWord p 2) n 1 n 1 0 0 false))

/-- MOVE2D (R410, R411): it occupies two slots, so slot 511 is error 0x9. -/
def execMove2d (c : Fin 16) (s : State) : Host.Outcome State Fault Refusal :=
  .next (s.shRun c 2 (fun p w0 =>
    let a := s.shWord p 3
    let b := s.shWord p 4
    if 511 ≤ p then s.shError c 9
    else if !onlyBits w0 moveMask || decide (10 < bitsOf w0 21 16) || decide (s.shWord p 7 ≠ 0) then s.shError c 4
    else if (a / 65536) * (a % 65536) ≠ (b / 65536) * (b % 65536) ∨ a / 65536 = 0 ∨ a % 65536 = 0 ∨ b / 65536 = 0 ∨ b % 65536 = 0 then s.shError c 5
    else s.shBegin c w0 (s.shWord p 1) (s.shWord p 2) (a / 65536) (a % 65536) (b / 65536) (b % 65536) (s.shWord p 5) (s.shWord p 6) true))

/-- LOOP (R412). -/
def execLoop (c : Fin 16) (s : State) : Host.Outcome State Fault Refusal :=
  .next (s.shRun c 3 (fun p w0 =>
    let target := bitsOf w0 24 16
    let count := w0 % 65536
    let f : Field := if bitOf w0 27 then ⟨Reg.SH_CH_c_LOOP c, 31, 16⟩ else ⟨Reg.SH_CH_c_LOOP c, 15, 0⟩
    if bitsOf w0 26 25 ≠ 0 ∨ p ≤ target ∨ s.shWord p 1 ≠ 0 ∨ s.shWord p 2 ≠ 0 ∨ s.shWord p 3 ≠ 0 then s.shError c 4
    else if count = 0 then s.shNext c target
    else
      let v := (if s.rd f = 0 then count else s.rd f) - 1
      (s.wr f v).shNext c (if v ≠ 0 then target else p + 1)))

/-- The error of a WAIT's fields (R413, R418, R420), none when they are good. -/
def State.waitError (s : State) (c cond index : Nat) : Option Nat :=
  match cond with
  | 0 => if 10 < index then some 4 else none
  | 1 =>
    if 31 < index ∨ s.eyRcv index ≠ 3 then some 4
    else if index < 16 ∧ !s.flag (Fld.SH_CH_c_CFG_SECURE c) then some 7 else none
  | 2 => none
  | 3 => if 15 < index then some 4 else none
  | 4 | 5 => if index ≠ 0 then some 4 else none
  | _ => some 4

/-- WAIT (R413). -/
def execWait (c : Fin 16) (s : State) : Host.Outcome State Fault Refusal :=
  .next (s.shRun c 4 (fun p w0 =>
    let cond := bitsOf w0 27 24
    let index := bitsOf w0 21 16
    if bitsOf w0 23 22 ≠ 0 ∨ s.shWord p 1 ≠ 0 ∨ s.shWord p 2 ≠ 0 ∨ s.shWord p 3 ≠ 0 then s.shError c 4
    else match s.waitError c cond index with
      | some e => s.shError c e
      | none =>
        let s1 := (s.setShState c Sh.wait).modSh c (fun _ => { ShSt.none with wait := some (cond, index, w0 % 65536, s.clk.uptime) })
        (s1.shCopy c).shStop c))

/-- Whether the condition of a channel's WAIT holds; a full Eyelet goes to the lowest channel that waits for it (R413). -/
def State.waitHolds (s : State) (c : Nat) : Bool :=
  match (s.shq c).wait with
  | some (0, n, _) => s.shLine n
  | some (1, n, _) => s.eyReady n && !(List.range c).any (fun d => match (s.shq d).wait with
      | some (1, m, _) => m == n
      | _ => false)
  | some (2, n, _) => s.thOwner n == 16 + c || s.thWins (.shuttle (Fin.ofNat 16 c)) n
  | some _ => (s.shq c).event
  | none => false

/-- The channel leaves WAIT and continues at the next slot, or where a copy with JUMP set PC (R413, R421). -/
def State.waitDone (s : State) (c : Nat) : State :=
  let pc := if (s.shq c).jumped then s.shPc c else s.shPc c + 1
  ((s.modSh c (fun _ => ShSt.none)).setShState c Sh.run).shNext c pc

/-- The completion is noted for a stop request of the same jc (R417). -/
def State.noteWait (s t : State) (c cond index : Nat) : State :=
  if t.shState c = Sh.run then
    t.modSh c (fun x => { x with waited := some { at_ := s.clk.uptime, cond := cond, index := index, msg := s.reg (Reg.SH_CH_c_MSG c), pc := s.shPc c,
                                                   got := s.thOwner index != 16 + c } })
  else t

/-- WAIT_COMPLETE (R413). -/
def execWaitComplete (c : Fin 16) (s : State) : Host.Outcome State Fault Refusal :=
  .next (if s.shState c = Sh.wait ∧ s.waitHolds c then
      match (s.shq c).wait with
      | some (1, n, _) => s.noteWait (((s.setReg (Reg.SH_CH_c_MSG c) (s.reg (Reg.EY_CH_n_MSG n))).eyTake n).waitDone c) c 1 n
      | some (2, n, _) => s.noteWait ((s.thRead (.shuttle c) n).1.waitDone c) c 2 n
      | some (d, n, _) => s.noteWait (s.waitDone c) c d n
      | none => s
    else s)

/-- WAIT_TIMEOUT (R413): TIMEOUT µs without the condition. -/
def execWaitTimeout (c : Fin 16) (s : State) : Host.Outcome State Fault Refusal :=
  .next (match (s.shq c).wait with
    | some (_, _, t, since) =>
      if s.shState c = Sh.wait ∧ t ≠ 0 ∧ since + 1000 * t ≤ s.clk.uptime ∧ !s.waitHolds c then s.shError c 8 else s
    | none => s)

/-- Set a bit of SH.IRQ; the SH interrupt of HART_1 is raised in every lane (R414). -/
def State.shIrq (s : State) (c : Nat) : State := (s.wrBit Reg.SH_IRQ c true).raiseService

/-- SIGNAL (R414). -/
def execSignal (c : Fin 16) (s : State) : Host.Outcome State Fault Refusal :=
  .next (s.shRun c 5 (fun p w0 =>
    let act := bitsOf w0 27 24
    let n := bitsOf w0 21 16
    if bitsOf w0 23 22 ≠ 0 ∨ w0 % 65536 ≠ 0 ∨ s.shWord p 2 ≠ 0 ∨ s.shWord p 3 ≠ 0 then s.shError c 4
    else match act with
      | 0 =>
        if 31 < n then s.shError c 4
        else if n < 16 ∧ !s.flag (Fld.SH_CH_c_CFG_SECURE c) then s.shError c 7
        else ((s.eyPost (4 + c) n (BitVec.ofNat 32 (s.shWord p 1))).1).shNext c (p + 1)
      | 1 => (s.thWrite (.shuttle c) n (BitVec.ofNat 32 (16 + c))).shNext c (p + 1)
      | 2 => (s.shIrq c).shNext c (p + 1)
      | _ => s.shError c 4))

/-- STOP (R414): DONE, and the IRQ bit when the instruction and CH_c_CFG both ask for it. A copy that is pending is applied at this boundary. -/
def execStop (c : Fin 16) (s : State) : Host.Outcome State Fault Refusal :=
  .next (s.shRun c 15 (fun p w0 =>
    if w0 % 2 ^ 27 ≠ 0 ∨ s.shWord p 1 ≠ 0 ∨ s.shWord p 2 ≠ 0 ∨ s.shWord p 3 ≠ 0 then s.shError c 4
    else
      let s1 := ((s.setShState c Sh.idle).set1 (Fld.SH_CH_c_STAT_DONE c)).wr (Fld.SH_CH_c_STAT_STOP_PEND c) 0
      let s2 := if bitOf w0 27 && s.flag (Fld.SH_CH_c_CFG_IRQ c) then s1.shIrq c else s1
      s2.shCopy c))

/-! ### Arbitration -/

/-- Whether a class 3 requester, 16 for the Gusset bridge, has a burst ready (R418, R419). -/
def State.shReady (s : State) (r : Nat) : Bool :=
  if r = 16 then s.gus.land.any (fun x => !x.signal)
  else match (s.shq r).xfer with
    | some x => !x.pace || s.shLine x.req
    | none => false

/-- The weight of a class 3 requester; 0 counts as 1 (R419, R430). -/
def State.shWeight (s : State) (r : Nat) : Nat := max 1 (if r = 16 then s.rd Fld.SH_CFG_GB_WEIGHT else s.rd (Fld.SH_CH_c_CFG_WEIGHT r))

/-- Whether a requester still has grants left in the round (R419). -/
def State.hasTurn (s : State) (r : Nat) : Bool := decide (s.arb.round.count r < s.shWeight r)

/-- Whether a requester may be granted a burst: within its weight of the round, or in the next round once no other requester with a burst
ready has grants left (R419). -/
def State.mayGrant (s : State) (r : Nat) : Bool :=
  s.hasTurn r || !(List.range 17).any (fun q => decide (q ≠ r) && s.shReady q && s.hasTurn q)

/-- A requester is granted a burst (R419). -/
def State.grant (s : State) (r : Nat) : State :=
  { s with arb := { granted := r :: s.arb.granted, round := if s.hasTurn r then r :: s.arb.round else [r] } }

/-- One jc passes for the class 3 requesters (R419): each with a burst ready that was not granted counts it. -/
def State.stallTick (s : State) : State :=
  let waits (r : Nat) : Bool := s.shReady r && !s.arb.granted.contains r
  let s1 := (List.range 16).foldl (fun t c => if waits c then t.bump (Fld.SH_CH_c_STALL_JC c) else t) s
  let s2 := if waits 16 then s1.bump Fld.SH_GB_STALL_JC else s1
  { s2 with arb := { s2.arb with granted := [] } }

end Sys2Proof.Machine
end

