-- ==== Sys2Proof/Machine/Buses.lean ====
section
/-! DEFINITION. The Multifunction Vehicle Bus attachment and the CAN FD controllers (chapter 14). -/

namespace Sys2Proof.Machine

/-! ### MVB -/

/-- Change the attachment's hidden state. -/
def State.modMvb (s : State) (g : MvbSt → MvbSt) : State := { s with mvb := g s.mvb }

/-- Data bytes of an F-code (R391). -/
def fcodeLen (f : Nat) : Nat := 2 ^ (f + 1)

/-- Whether the attachment works: enabled, powered, from seal on. -/
def State.mvbOn (s : State) : Bool := s.flag Fld.MVB_CFG_EN && !s.asleep && !s.ej2Down

/-- Whether the attachment may send (R353, R497): in RUN with permits, in a unit that writes pair entries. -/
def State.mvbSends (s : State) : Bool := s.mvbOn && s.flag Fld.JC_MOD_STATUS_PERMITS && s.writesPair

/-- Whether the module sends master frames (R366, R367). -/
def State.mvbAdmin (s : State) : Bool := s.mvbSends && s.flag Fld.MVB_CFG_BA && !s.mvb.stopped

/-- The own source port that a poll names (R365). -/
def State.mvbSource (s : State) (fcode addr : Nat) : Option Nat :=
  (List.range 1024).find? (fun n => s.flag (Fld.MVB_PORT_n_CFG_EN n) && s.flag (Fld.MVB_PORT_n_CFG_DIR n)
    && s.rd (Fld.MVB_PORT_n_CFG_FCODE n) == fcode && s.rd (Fld.MVB_PORT_n_CFG_ADDR n) == addr)

/-- The own sink port that a slave frame updates. -/
def State.mvbSink (s : State) (fcode addr : Nat) : Option Nat :=
  (List.range 1024).find? (fun n => s.flag (Fld.MVB_PORT_n_CFG_EN n) && !s.flag (Fld.MVB_PORT_n_CFG_DIR n)
    && s.rd (Fld.MVB_PORT_n_CFG_FCODE n) == fcode && s.rd (Fld.MVB_PORT_n_CFG_ADDR n) == addr)

/-- The data of a source port (R369, R389): the voted image, or the front bank of the Gusset transmit buffer. -/
def State.mvbData (s : State) (n : Nat) : List Byte :=
  let len := fcodeLen (s.rd (Fld.MVB_PORT_n_CFG_FCODE n))
  let o := 4 * s.rd (Fld.MVB_PORT_n_CFG_IMG4 n)
  if s.flag (Fld.MVB_PORT_n_CFG_GUSSET n) then s.gTx.bytes o len else s.vote.out.bytes o len

/-- A sink port is updated (R369): staging or the Gusset bridge, AGE and FRESH. -/
def State.mvbUpdate (s : State) (n : Nat) (data : List Byte) : State :=
  let d := sliceB data 0 (fcodeLen (s.rd (Fld.MVB_PORT_n_CFG_FCODE n)))
  let s1 := (s.wr (Fld.MVB_PORT_n_STAT_AGE n) 0).set1 (Fld.MVB_PORT_n_STAT_FRESH n)
  if s.flag (Fld.MVB_PORT_n_CFG_GUSSET n) then s1.gusSource 2 n d
  else { s1 with stage := s1.stage.putBytes (4 * s.rd (Fld.MVB_PORT_n_CFG_IMG4 n)) d }

/-- The module answers a poll of an own source port; its own sink port takes the frame too (R366). -/
def State.mvbAnswer (s : State) (fcode addr : Nat) : State :=
  match s.mvbSource fcode addr with
  | some n =>
    let d := s.mvbData n
    let s1 := s.modMvb (fun m => { m with answer := some (addr, d) })
    match s1.mvbSink fcode addr with
    | some k => s1.mvbUpdate k d
    | none => s1
  | none => s

/-- The basic period in ns (R366). -/
def State.mvbPeriod (s : State) : Nat := if s.flag Fld.MVB_CFG_BP then 2000000 else 1000000

/-- The poll entries due in basic period `c` (R366). -/
def State.mvbDue (s : State) (c : Nat) : List (Nat × Nat) :=
  ((List.range 1024).filter (fun j => s.flag (Fld.MVB_POLL_j_EN j)
    && ((c + 2 ^ 10 * 1024 - s.rd (Fld.MVB_POLL_j_PHASE j)) % 2 ^ s.rd (Fld.MVB_POLL_j_EXP j) == 0))).map
    (fun j => (s.rd (Fld.MVB_POLL_j_FCODE j), s.rd (Fld.MVB_POLL_j_ADDR j)))

/-- The ages of the sink ports advance by one basic period (R369). -/
def State.mvbAges (s : State) : State :=
  (List.range 1024).foldl (fun t n =>
    if t.flag (Fld.MVB_PORT_n_CFG_EN n) && !t.flag (Fld.MVB_PORT_n_CFG_DIR n) then
      let t1 := t.bump (Fld.MVB_PORT_n_STAT_AGE n)
      t1.wrB (Fld.MVB_PORT_n_STAT_FRESH n) (decide (t1.rd (Fld.MVB_PORT_n_STAT_AGE n) ≤ t1.rd (Fld.MVB_PORT_n_STAT_LIMIT n)))
    else t) s

/-- MVB_BASIC_PERIOD (R366, R369): the boundary of a basic period. The administrator sends the due master frames and answers those for its
own source ports. -/
def execMvbBasicPeriod (s : State) : Host.Outcome State Fault Refusal :=
  .next (if s.mvbOn && decide (s.mvb.at_ + s.mvbPeriod ≤ s.clk.uptime) then
      let c := s.mvb.count + 1
      let on := s.mvbAdmin
      let polls := if on then s.mvbDue c else []
      let at_ := s.mvb.at_ + s.mvbPeriod * ((s.clk.uptime - s.mvb.at_) / s.mvbPeriod)
      let s1 := ((s.modMvb (fun m => { m with count := c, at_ := at_, polls := polls })).wrB Fld.MVB_STATUS_BA_ACTIVE on).mvbAges
      polls.foldl (fun t x => t.mvbAnswer x.1 x.2) s1
    else s)

/-- The trusted line after a frame that arrived good or bad on lines A and B (R368), the errors counted, and whether a valid frame is taken. -/
def State.mvbLines (s : State) (okA okB : Bool) : State × Bool :=
  let s1 := if okA then s else s.bump Fld.MVB_LINE_ERR_LINE_A
  let s2 := if okB then s1 else s1.bump Fld.MVB_LINE_ERR_LINE_B
  let b := s.flag Fld.MVB_STATUS_TRUSTED
  let sw := if b then !okB && okA else !okA && okB
  (if sw then s2.wrB Fld.MVB_STATUS_TRUSTED (!b) else s2, okA || okB)

/-- SLAVE_FRAME (R368, R369). -/
def execSlaveFrame (fcode : Fin 5) (addr : BitVec 12) (okA okB : Bool) (data : List Byte) (s : State) : Host.Outcome State Fault Refusal :=
  .next (if s.mvbOn then
      let r := s.mvbLines okA okB
      if r.2 then
        match r.1.mvbSink fcode addr.toNat with
        | some n => r.1.mvbUpdate n data
        | none => r.1
      else r.1
    else s)

/-- The administrator has received a master frame that it did not send (R367): it stops sending master frames and reports it. -/
def State.mvbClash (s : State) : State :=
  if s.mvbAdmin then
    (((s.modMvb (fun m => { m with stopped := true })).wr Fld.MVB_STATUS_BA_ACTIVE 0).set1 Fld.MVB_STATUS_MASTER_CLASH).troubleAt
      Fld.MVB_STATUS_MASTER_CLASH []
  else s

/-- MASTER_CLASH (R367). -/
def execMasterClash (s : State) : Host.Outcome State Fault Refusal := .next s.mvbClash

/-- MASTER_FRAME (R365, R367, R369): a poll of an own source port, or of the device status (F-code 15), whose content the spec does not
give: a free value. Other F-codes are not answered. At the administrator it is a clash, and served as by a device. -/
def execMasterFrame (fcode : Fin 16) (addr : BitVec 12) (s : State) : Host.Outcome State Fault Refusal :=
  .next (if s.mvbSends then
      let s1 := s.mvbClash
      if fcode.val ≤ 4 then s1.mvbAnswer fcode addr.toNat
      else if fcode.val = 15 ∧ addr.toNat = s.rd Fld.MVB_CFG_DEV_ADDR then
        (s1.takeFree.2).modMvb (fun m => { m with answer := some (addr.toNat, leBytes 2 s1.takeFree.1.toNat) })
      else s1
    else s)

/-- A write of MVB.STATUS: BA_RESUME resumes the administration (R367). -/
def State.mvbCtl (s : State) (w : Word) : State :=
  if wbits w Fld.MVB_STATUS_BA_RESUME = 1 then
    let s1 := s.modMvb (fun m => { m with stopped := false })
    s1.wrB Fld.MVB_STATUS_BA_ACTIVE s1.mvbAdmin
  else s

/-- BA_RESUME (R367). -/
def execBaResume (i : Initiator) (w : Word) (s : State) : Host.Outcome State Fault Refusal :=
  .next (s.regCmd i Reg.MVB_STATUS w (fun t => t.mvbCtl (w ||| 0x20000000)))

/-- The MVB section (R369): bit n is FRESH of port n. -/
def State.mvbSection (s : State) : List Byte :=
  leBytes 128 (ofBits ((List.range 1024).map (fun n => s.flag (Fld.MVB_PORT_n_STAT_FRESH n))))

/-! ### CAN FD -/

/-- Change the controllers' hidden state. -/
def State.modCan (s : State) (g : CanSt → CanSt) : State := { s with can := g s.can }

/-- Data bytes of a length code; a classical frame carries at most 8 (ISO 11898-1). -/
def dlcLen (fdf : Bool) (dlc : Nat) : Nat :=
  if dlc ≤ 8 then dlc else if fdf then getAt 64 [12, 16, 20, 24, 32, 48, 64] (dlc - 9) else 8

/-- Whether a controller works. -/
def State.canOn (s : State) (c : Nat) : Bool := s.flag (Fld.CAN_CTL_c_CFG_EN c) && !s.asleep && !s.ej2Down

/-- Whether a controller is in bus monitoring mode (R353, R497): by MON, in a unit that writes no pair entries, or before permits. -/
def State.canListens (s : State) (c : Nat) : Bool :=
  s.flag (Fld.CAN_CTL_c_CFG_MON c) || !s.writesPair || !s.flag Fld.JC_MOD_STATUS_PERMITS

/-- The controller's error states by their codes. -/
abbrev Can.active : Nat := 0
abbrev Can.passive : Nat := 1
abbrev Can.busOff : Nat := 2
abbrev Can.recovering : Nat := 3

/-- The state of a controller. -/
def State.canState (s : State) (c : Nat) : Nat := s.rd (Fld.CAN_CTL_c_STATUS_STATE c)

/-- A mailbox's data bytes. -/
def State.mbData (s : State) (c m n : Nat) : List Byte :=
  (((List.range 16).map (fun w => leBytes 4 (s.reg (Reg.CAN_CTL_c_MB_m_DATA_w c m w)).toNat)).flatten).take n

/-- Write data bytes into a mailbox. -/
def State.putMbData (s : State) (c m : Nat) (data : List Byte) : State :=
  (List.range 16).foldl (fun t w => t.setReg (Reg.CAN_CTL_c_MB_m_DATA_w c m w) (BitVec.ofNat 32 (leNat (sliceB data (4 * w) 4)))) s

/-- The length of a mailbox's frame. -/
def State.mbLen (s : State) (c m : Nat) : Nat := dlcLen (s.flag (Fld.CAN_CTL_c_MB_m_CTRL_FDF c m)) (s.rd (Fld.CAN_CTL_c_MB_m_CTRL_DLC c m))

/-- The first receive mailbox that an identifier matches under its MASK (R371). -/
def State.canMatch (s : State) (c : Nat) (xtd : Bool) (ident : Nat) : Option Nat :=
  (List.range 64).find? (fun m => s.rd (Fld.CAN_CTL_c_MB_m_CTRL_KIND c m) == 3 && s.flag (Fld.CAN_CTL_c_MB_m_ID_XTD c m) == xtd
    && ((s.rd (Fld.CAN_CTL_c_MB_m_ID_ID c m) ^^^ ident) &&& s.rd (Fld.CAN_CTL_c_MB_m_MASK_ID c m)) == 0)

/-- The counters' state after a change (ISO 11898-1): passive from 128 on. -/
def State.canErrState (s : State) (c : Nat) : State :=
  if s.canState c ≥ 2 then s
  else s.wr (Fld.CAN_CTL_c_STATUS_STATE c)
    (if 128 ≤ s.rd (Fld.CAN_CTL_c_STATUS_TEC c) ∨ 128 ≤ s.rd (Fld.CAN_CTL_c_STATUS_REC c) then Can.passive else Can.active)

/-- CAN_FRAME_RECEIVED (R371): `ident` stands in [28:0], an 11-bit identifier in [28:18]; a remote frame is discarded and counted. -/
def execCanFrameReceived (c : Fin 4) (xtd : Bool) (ident : BitVec 29) (fdf rtr : Bool) (dlc : Fin 16) (data : List Byte) (s : State) :
    Host.Outcome State Fault Refusal :=
  .next (if s.canOn c && decide (s.canState c < 2) && (!fdf || s.flag (Fld.CAN_CTL_c_CFG_FD c)) then
      if rtr then s.bump (Fld.CAN_CTL_c_ERR_RTR c)
      else
        let rec0 := s.rd (Fld.CAN_CTL_c_STATUS_REC c)
        let s0 := if s.canListens c then s
          else (s.wr (Fld.CAN_CTL_c_STATUS_REC c) (if 127 < rec0 then 127 else rec0 - 1)).canErrState c
        match s0.canMatch c xtd ident.toNat with
        | none => s0
        | some m =>
          let d := sliceB data 0 (dlcLen fdf dlc)
          let ovr := s0.flag (Fld.CAN_CTL_c_MB_m_STAT_NEW c m)
          let s1 := ((s0.set1 (Fld.CAN_CTL_c_MB_m_STAT_NEW c m)).wr (Fld.CAN_CTL_c_MB_m_CTRL_DLC c m) dlc).putMbData c m d
          let s2 := if ovr then s1.set1 (Fld.CAN_CTL_c_MB_m_STAT_OVR c m) else s1
          let s3 := s2.modCan (fun x => { x with took := insertNat (64 * c + m) x.took })
          if s3.flag (Fld.CAN_CTL_c_MB_m_CTRL_SOFT c m) then s3
          else if s3.flag (Fld.CAN_CTL_c_MB_m_CTRL_GUSSET c m) then s3.gusSource 3 (64 * c + m) d
          else { s3 with stage := s3.stage.putBytes (4 * s3.rd (Fld.CAN_CTL_c_MB_m_CTRL_IMG4 c m)) d }
    else s)

/-- A write of MB_m_CTRL: SEND queues the frame of an event mailbox (R371). -/
def State.mbCtl (s : State) (c m : Nat) (w : Word) : State :=
  if wbits w (Fld.CAN_CTL_c_MB_m_CTRL_SEND c m) = 1 ∧ s.rd (Fld.CAN_CTL_c_MB_m_CTRL_KIND c m) = 2 then
    s.set1 (Fld.CAN_CTL_c_MB_m_STAT_PEND c m)
  else s

/-- CAN_SEND (R371). -/
def execCanSend (i : Initiator) (c : Fin 4) (m : Fin 64) (w : Word) (s : State) : Host.Outcome State Fault Refusal :=
  .next (s.regCmd i (Reg.CAN_CTL_c_MB_m_CTRL c m) w (fun t => t.mbCtl c m (w ||| 0x80000000)))

/-- The arbitration field of a mailbox as a number that is lower for the frame that wins (R372). -/
def State.mbKey (s : State) (c m : Nat) : Nat :=
  let id := s.rd (Fld.CAN_CTL_c_MB_m_ID_ID c m)
  if s.flag (Fld.CAN_CTL_c_MB_m_ID_XTD c m) then id / 2 ^ 18 * 2 ^ 20 + 2 ^ 19 + id % 2 ^ 18 else id / 2 ^ 18 * 2 ^ 20

/-- The pending mailbox that a controller offers first (R372). -/
def State.canOffer (s : State) (c : Nat) : Option Nat :=
  (List.range 64).foldl (fun best m =>
    if s.flag (Fld.CAN_CTL_c_MB_m_STAT_PEND c m) then
      match best with
      | some b => if s.mbKey c m < s.mbKey c b then some m else some b
      | none => some m
    else best) none

/-- CAN_FRAME_SENT (R372, R353): the frame offered first has won arbitration and is complete. -/
def execCanFrameSent (c : Fin 4) (s : State) : Host.Outcome State Fault Refusal :=
  .next (if s.canOn c && decide (s.canState c < 2) && !s.canListens c && !s.flag (Fld.CAN_CTL_c_CFG_REST c) then
      match s.canOffer c with
      | none => s
      | some m =>
        let s1 := (s.wr (Fld.CAN_CTL_c_MB_m_STAT_PEND c m) 0).wr (Fld.CAN_CTL_c_STATUS_TEC c) (s.rd (Fld.CAN_CTL_c_STATUS_TEC c) - 1)
        (s1.canErrState c).modCan (fun x => { x with sent := setN x.sent c (m, s.mbData c m (s.mbLen c m)) })
    else s)

/-- Entry to bus-off (R373). -/
def State.canBusOff (s : State) (c : Nat) : State :=
  (((s.wr (Fld.CAN_CTL_c_STATUS_STATE c) Can.busOff).set1 (Fld.CAN_CTL_c_STATUS_BUSOFF_SEEN c)).bump (Fld.CAN_CTL_c_ERR_BUSOFFS c)).weltEvent
    0xC 0x80 c

/-- CAN_BUS_ERROR (R373): an error of kind 0x1 to 0x6 in a frame that the controller sends or receives; the counters follow ISO 11898-1. -/
def execCanBusError (c : Fin 4) (sending : Bool) (kind : Fin 7) (s : State) : Host.Outcome State Fault Refusal :=
  .next (if s.canOn c && decide (s.canState c < 2) then
      let s1 := s.wr (Fld.CAN_CTL_c_ERR_LAST_ERR c) kind
      if s.canListens c then s1
      else if sending then
        if kind.val = 3 ∧ s.canState c = Can.passive then s1
        else if 255 < s.rd (Fld.CAN_CTL_c_STATUS_TEC c) + 8 then (s1.wr (Fld.CAN_CTL_c_STATUS_TEC c) 0xFF).canBusOff c
        else (s1.bumpBy (Fld.CAN_CTL_c_STATUS_TEC c) 8).canErrState c
      else (s1.bump (Fld.CAN_CTL_c_STATUS_REC c)).canErrState c
    else s)

/-- CAN_AUTO_RECOVERY (R373): 128 occurrences of 11 recessive bits end the bus-off, by itself with AUTO_REC or after RECOVER. -/
def execCanAutoRecovery (c : Fin 4) (s : State) : Host.Outcome State Fault Refusal :=
  .next (if (s.canState c == Can.busOff && s.flag (Fld.CAN_CTL_c_CFG_AUTO_REC c)) || s.canState c == Can.recovering then
      ((s.wr (Fld.CAN_CTL_c_STATUS_STATE c) Can.active).wr (Fld.CAN_CTL_c_STATUS_TEC c) 0).wr (Fld.CAN_CTL_c_STATUS_REC c) 0
    else s)

/-- A write of CTL_c_ERR: RECOVER starts recovery from bus-off (R373). -/
def State.canErrCtl (s : State) (c : Nat) (w : Word) : State :=
  if wbits w (Fld.CAN_CTL_c_ERR_RECOVER c) = 1 ∧ s.canState c = Can.busOff then s.wr (Fld.CAN_CTL_c_STATUS_STATE c) Can.recovering else s

/-- CAN_RECOVER (R373). -/
def execCanRecover (i : Initiator) (c : Fin 4) (w : Word) (s : State) : Host.Outcome State Fault Refusal :=
  .next (s.regCmd i (Reg.CAN_CTL_c_ERR c) w (fun t => t.canErrCtl c (w ||| 0x80000000)))

/-- The cyclic mailboxes are loaded at t_vr (R371): a frame still pending is replaced and counted. A unit that writes no pair entries loads
none (R353). -/
def State.canLoad (s : State) : State :=
  if s.writesPair then
    (List.range 4).foldl (fun t c =>
      if t.flag (Fld.CAN_CTL_c_CFG_EN c) then
        (List.range 64).foldl (fun u m =>
          if u.rd (Fld.CAN_CTL_c_MB_m_CTRL_KIND c m) = 1 then
            let u1 := if u.flag (Fld.CAN_CTL_c_MB_m_STAT_PEND c m) then u.bump (Fld.CAN_CTL_c_MB_m_STAT_LATE c m) else u
            let o := 4 * u.rd (Fld.CAN_CTL_c_MB_m_CTRL_IMG4 c m)
            let src := if u.flag (Fld.CAN_CTL_c_MB_m_CTRL_GUSSET c m) then u.gTx else u.vote.out
            (u1.putMbData c m (src.bytes o (u.mbLen c m))).set1 (Fld.CAN_CTL_c_MB_m_STAT_PEND c m)
          else u) t
      else t) s
  else s

/-- The CAN section (R371): bit 64 c + m is 1 when the mailbox took a frame since the previous input instant. -/
def State.canSection (s : State) : List Byte := leBytes 32 (ofBits ((List.range 256).map (fun n => s.can.took.contains n)))

end Sys2Proof.Machine
end

