-- ==== Sys2Proof/Machine/FieldIO.lean ====
section
/-! DEFINITION. Field channels (chapter 11): the filter tick, edge timers and capture buffers, the output stages and their protection,
supply groups, calibration and the commit of the field configuration. -/

namespace Sys2Proof.Machine

/-! ### Channels and stages -/

/-- The states of R293 and R297 by their codes. -/
abbrev OSt.off : Nat := 0
abbrev OSt.on : Nat := 1
abbrev OSt.limit : Nat := 2
abbrev OSt.tripped : Nat := 3
abbrev OSt.cut : Nat := 4
abbrev GSt.normal : Nat := 0
abbrev GSt.sag : Nat := 1
abbrev GSt.cut : Nat := 2

/-- The supply group of a channel (R277). -/
def groupOf (n : Nat) : Nat := if n < 16 then 0 else if n < 24 then 1 else 2

/-- The FQ8s that measure a group (R296). -/
def groupFqs (m : Nat) : List Nat := if m = 0 then [0, 1] else [m + 1]

/-- A field channel's hidden state. -/
def State.fch (s : State) (n : Nat) : FieldCh := getAt FieldCh.idle s.fld.chs n

/-- Change a field channel's hidden state. -/
def State.modFch (s : State) (n : Nat) (g : FieldCh → FieldCh) : State :=
  { s with fld := { s.fld with chs := setAt s.fld.chs n (g (s.fch n)) } }

/-- The supply monitor of an FQ8. -/
def State.sup (s : State) (q : Nat) : SupSt := getAt SupSt.start s.fld.sups q

/-- Replace the supply monitor of an FQ8. -/
def State.setSup (s : State) (q : Nat) (x : SupSt) : State := { s with fld := { s.fld with sups := setAt s.fld.sups q x } }

/-- An FQ8. -/
def State.fqAt (s : State) (q : Nat) : FqSt := getAt FqSt.none s.fq q

/-- The state of a group (R297, R298). -/
def State.groupState (s : State) (m : Nat) : Nat :=
  let l := (groupFqs m).map (fun q => (s.sup q).st)
  if l.contains GSt.cut then GSt.cut else if l.contains GSt.sag then GSt.sag else GSt.normal

/-- Whether a channel is set as input. -/
def State.isInput (s : State) (n : Nat) : Bool := s.rd (Fld.FIO_CH_n_CFG_DIR n) == 1

/-- The protection state of a stage (R293). -/
def State.ost (s : State) (n : Nat) : Nat := s.rd (Fld.FIO_CH_n_STAT_OSTATE n)

/-- Whether a stage conducts. -/
def State.conducts (s : State) (n : Nat) : Bool := s.flag (Fld.FIO_CH_n_STAT_CONDUCT n)

/-- Driven (R107, R108, R293): commanded on with drive, claim and, where required, permit. -/
def State.driven (s : State) (n : Nat) : Bool :=
  let q := s.fqAt (n / 8)
  let c := s.fch n
  s.isOutput n && getAt false q.cmd (n % 8) && q.drive && q.claimValid && !c.waitOut
    && (!s.flag (Fld.FIO_CH_n_CFG_PERMIT_REQ n) || c.permit)

/-- Whether a stage's gate is open in a protection state. -/
def gateOpen (st : Nat) : Bool := st == OSt.on || st == OSt.limit

/-- A stage enters a protection state (R293): opening the gate starts the boost, closing it the discharge (R42, R49). -/
def State.stageTo (s : State) (n st : Nat) : State :=
  let was := s.ost n
  let s1 := (s.wr (Fld.FIO_CH_n_STAT_OSTATE n) st).wrB (Fld.FIO_CH_n_STAT_LIMIT n) (st == OSt.limit)
  let s2 := s1.modFch n (fun c => { c with limitAt := if st = OSt.limit then (if was = OSt.limit then c.limitAt else some s.clk.uptime) else none })
  if gateOpen st && !gateOpen was then s2.modFch n (fun c => { c with boostAt := some (s.clk.uptime + 684) })
  else if !gateOpen st && gateOpen was then
    s2.modFch n (fun c => { c with boostAt := none, dischAt := if s.conducts n then some (s.clk.uptime + 200) else c.dischAt })
  else s2

/-- A stage follows its command (R293). -/
def State.stageUpdate (s : State) (n : Nat) : State :=
  let st := s.ost n
  if st = OSt.off ∧ s.driven n = true then s.stageTo n OSt.on
  else if gateOpen st = true ∧ s.driven n = false then s.stageTo n OSt.off
  else s

/-- Every stage follows its command. -/
def State.stagesUpdate (s : State) : State := (List.range 32).foldl (fun t n => t.stageUpdate n) s

/-- A stage trips (R293): TRIP_SEEN, a Welt record with the cause. -/
def State.trip (s : State) (n cause : Nat) : State :=
  ((((s.stageTo n OSt.tripped).set1 (Fld.FIO_CH_n_STAT_TRIPPED n)).wr (Fld.FIO_CH_n_STAT_TRIP_CAUSE n) cause).set1
    Fld.FIO_STATUS_TRIP_SEEN).modFch n (fun c => { c with tripAt := some s.clk.uptime }) |>.weltEvent 5 0x50 (n + 256 * cause)

/-- A stage leaves TRIPPED: OFF, and ON in the same jc if driven (R294). -/
def State.untrip (s : State) (n : Nat) : State :=
  (((s.wr (Fld.FIO_CH_n_STAT_TRIPPED n) 0).modFch n (fun c => { c with tripAt := none })).stageTo n OSt.off).stageUpdate n

/-- CURRENT_LIMIT (R293). -/
def execCurrentLimit (n : Fin 32) (s : State) : Host.Outcome State Fault Refusal :=
  .next (if s.ost n = OSt.on then s.stageTo n OSt.limit else s)

/-- CURRENT_BELOW_LIMIT (R293). -/
def execCurrentBelowLimit (n : Fin 32) (s : State) : Host.Outcome State Fault Refusal :=
  .next (if s.ost n = OSt.limit then s.stageTo n OSt.on else s)

/-- LIMIT_TRIP (R293). -/
def execLimitTrip (n : Fin 32) (s : State) : Host.Outcome State Fault Refusal :=
  .next (match (s.fch n).limitAt with
    | some t => if s.ost n = OSt.limit ∧ t + 10000000 ≤ s.clk.uptime then s.trip n 1 else s
    | none => s)

/-- THERMAL_SHUTDOWN (R293): a stage in ON or LIMIT trips. -/
def execThermalShutdown (n : Fin 32) (s : State) : Host.Outcome State Fault Refusal :=
  let s1 := s.modFch n (fun c => { c with hot := true })
  .next (if gateOpen (s.ost n) then s1.trip n 0 else s1)

/-- An auto-retry stage whose 100 ms have passed leaves TRIPPED while its die is cool (R294). -/
def State.retry (s : State) (n : Nat) : State :=
  match (s.fch n).tripAt with
  | some t =>
    if s.ost n = OSt.tripped ∧ s.flag (Fld.FIO_CH_n_FLT_RETRY n) = true ∧ (s.fch n).hot = false ∧ t + 100000000 ≤ s.clk.uptime
    then (s.untrip n).bump (Fld.FIO_CH_n_CNT_RETRIES n) else s
  | none => s

/-- DIE_COOLED (R294). -/
def execDieCooled (n : Fin 32) (s : State) : Host.Outcome State Fault Refusal :=
  .next ((s.modFch n (fun c => { c with hot := false })).retry n)

/-- AUTO_RETRY (R294). -/
def execAutoRetry (n : Fin 32) (s : State) : Host.Outcome State Fault Refusal := .next (s.retry n)

/-- The effect of CLEAR (R294): ignored in auto-retry mode and while the die is hot. -/
def State.clearTrip (s : State) (n : Nat) : State :=
  if s.ost n = OSt.tripped ∧ s.flag (Fld.FIO_CH_n_FLT_RETRY n) = false ∧ (s.fch n).hot = false then s.untrip n else s

/-- GATE_BOOST_END (R42, R49): the stage conducts. -/
def execGateBoostEnd (n : Fin 32) (s : State) : Host.Outcome State Fault Refusal :=
  .next (match (s.fch n).boostAt with
    | some t =>
      if t ≤ s.clk.uptime then (s.modFch n (fun c => { c with boostAt := none })).set1 (Fld.FIO_CH_n_STAT_CONDUCT n) else s
    | none => s)

/-- GATE_DISCHARGE_END (R21, R49): the stage stops conducting. -/
def execGateDischargeEnd (n : Fin 32) (s : State) : Host.Outcome State Fault Refusal :=
  .next (match (s.fch n).dischAt with
    | some t =>
      if t ≤ s.clk.uptime then
        (s.modFch n (fun c => { c with dischAt := none, stopAt := some s.clk.uptime })).wr (Fld.FIO_CH_n_STAT_CONDUCT n) 0
      else s
    | none => s)

/-! ### Validity and external drive -/

/-- VALID of a channel (R291). -/
def State.chValid (s : State) (n : Nat) : Bool :=
  s.isInput n && s.groupState (groupOf n) == GSt.normal && !(s.fqAt (n / 8)).lost && !getAt false s.fld.gap (n / 8)

/-- Whether the detection of external drive is suspended (R295, R339). -/
def State.extSuspended (s : State) (n : Nat) : Bool :=
  s.groupState (groupOf n) != GSt.normal || !(s.fqAt (n / 8)).claimValid

/-- Show VALID, and clear EXT_DRIVE and its counts where the detection is suspended (R291, R295). -/
def State.showValid (s : State) : State :=
  (List.range 32).foldl (fun t n =>
    let t1 := t.wrB (Fld.FIO_CH_n_STAT_VALID n) (t.chValid n)
    if t1.extSuspended n then (t1.wr (Fld.FIO_CH_n_STAT_EXT_DRIVE n) 0).modFch n (fun c => { c with run1 := 0, run0 := 0 }) else t1) s

/-- The external-drive detection of an output at a tick (R295): a tick counts that reads 1 while the stage is OFF and has not conducted for
1 ms. -/
def State.extTick (s : State) (n : Nat) (raw : Bool) : State :=
  if s.extSuspended n then s
  else
    let rested := match (s.fch n).stopAt with
      | some t => decide (t + 1000000 ≤ s.clk.uptime)
      | none => true
    let counts := raw && s.ost n == OSt.off && rested && !s.conducts n
    let s1 := s.modFch n (fun c => { c with run1 := if counts then c.run1 + 1 else 0, run0 := if raw then 0 else c.run0 + 1 })
    let c := s1.fch n
    if s1.flag (Fld.FIO_CH_n_STAT_EXT_DRIVE n) then (if 4 ≤ c.run0 then s1.wr (Fld.FIO_CH_n_STAT_EXT_DRIVE n) 0 else s1)
    else if 4 ≤ c.run1 then
      ((((s1.set1 (Fld.FIO_CH_n_STAT_EXT_DRIVE n)).set1 (Fld.FIO_CH_n_STAT_EXT_SEEN n)).set1 Fld.FIO_STATUS_EXT_SEEN).bump
        (Fld.FIO_CH_n_CNT_EXT_EVENTS n)).weltEvent 5 0x51 n
    else s1

/-! ### The filter tick -/

/-- The filter step of R287: counter and filtered state. -/
def filterStep (n : Nat) (raw : Bool) (c : Nat) (f : Bool) : Nat × Bool :=
  let top := max n 1
  let c1 := if raw then min (c + 1) top else c - 1
  (c1, if c1 = top then true else if c1 = 0 then false else f)

/-- The rail of a filtered state (R288). -/
def railOf (n : Nat) (f : Bool) : Nat := if f then max n 1 else 0

/-- One channel at a tick (R286 to R288, R295). -/
def State.tickCh (s : State) (raw : Word) (n : Nat) : State :=
  let b := bitOf raw.toNat n
  if (s.fqAt (n / 8)).lost then s
  else if s.isInput n then
    let top := s.rd (Fld.FIO_CH_n_FLT_N n)
    let r := if s.fld.first then (railOf top b, b)
      else filterStep top b (s.rd (Fld.FIO_CH_n_STAT_COUNT n)) (s.flag (Fld.FIO_CH_n_STAT_FILT n))
    ((s.wrB (Fld.FIO_CH_n_STAT_RAW n) b).wr (Fld.FIO_CH_n_STAT_COUNT n) r.1).wrB (Fld.FIO_CH_n_STAT_FILT n) r.2
  else if s.isOutput n then (s.wrB (Fld.FIO_CH_n_STAT_RAW n) b).extTick n b
  else s

/-- The instant of the latest tick due: ticks keep the grid of τ from their last instant (R286). -/
def State.tickInstant (s : State) : Nat :=
  let tau := 1000 * s.rd Fld.FIO_TICK_US
  s.fld.tickAt + tau * ((s.clk.uptime - s.fld.tickAt) / tau)

/-- A filtered rising edge at an enabled timer (R289): the count and the period in µs, a multiple of τ. -/
def State.timerEdge (s : State) (m : Nat) : State :=
  let s1 := s.bumpW (Fld.FIO_TMR_m_COUNT_VALUE m)
  let s2 := match getAt none s.fld.edgeAt m with
    | some t => s1.wr (Fld.FIO_TMR_m_PERIOD_VALUE m) (min ((s.tickInstant - t) / 1000) 0xFFFFFFFF)
    | none => s1
  { s2 with fld := { s2.fld with edgeAt := setAt s2.fld.edgeAt m (some s.tickInstant) } }

/-- A filtered edge (R125, R287, R289): its event tasks and edge timers. -/
def State.filteredEdge (s : State) (n : Nat) (f : Bool) : State :=
  let s1 := s.notify 0 n (if f then 1 else 2) s.clk.net (BitVec.ofNat 32 (2 ^ 31 * b2n f + n))
  if f then
    (List.range 8).foldl (fun t m =>
      if t.flag (Fld.FIO_TMR_m_CFG_EN m) && t.rd (Fld.FIO_TMR_m_CFG_CH m) == n then t.timerEdge m else t) s1
  else s1

/-- A capture buffer at a tick (R289). -/
def State.captureTick (s : State) (raw : Word) (m : Nat) : State :=
  if s.flag (Fld.FIO_CAP_m_STAT_BUSY m) && !(s.fqAt m).lost then
    let p := getAt 0 s.fld.capPos m
    let s1 := s.wrBit (Reg.FIO_CAP_m_DATA_w m (p / 32)) (p % 32) (bitOf raw.toNat (8 * m + getAt 0 s.fld.capCh m))
    let s2 : State := { s1 with fld := { s1.fld with capPos := setAt s1.fld.capPos m (p + 1) } }
    if p + 1 = 512 then (s2.wr (Fld.FIO_CAP_m_STAT_BUSY m) 0).set1 (Fld.FIO_CAP_m_STAT_DONE m) else s2
  else s

/-- The state word of R290. -/
def State.stateWord (s : State) : Word :=
  BitVec.ofNat 32 (ofBits ((List.range 32).map (fun n =>
    if s.isInput n then s.flag (Fld.FIO_CH_n_STAT_FILT n) else s.isOutput n && s.flag (Fld.FIO_CH_n_STAT_RAW n))))

/-- A filter tick (R286 to R289, R295): samples, filters, edges, timers, captures; the states are in staging 12 jc later. -/
def State.filterTick (s0 : State) (raw : Word) : State :=
  let s := s0.pulse 8
  let s1 := (List.range 32).foldl (fun t n => t.tickCh raw n) s
  let s2 := (List.range 32).foldl (fun t n =>
    let f := t.flag (Fld.FIO_CH_n_STAT_FILT n)
    if s.isInput n && !s.fld.first && f != s.flag (Fld.FIO_CH_n_STAT_FILT n) then t.filteredEdge n f else t) s1
  let s3 := (List.range 4).foldl (fun t m => t.captureTick raw m) s2
  let gap := (List.range 4).map (fun q => getAt false s3.fld.gap q || (s3.fqAt q).lost)
  let f := s3.fld
  ({ s3 with fld := { f with
      gap := gap, first := false, lastTick := s.clk.uptime, tickAt := s.tickInstant + 1000 * s.rd Fld.FIO_TICK_US
      ticked := s.basteDue Fld.FIO_CTRL_BASTE_PENDING
      staged := (match f.pend with
        | some (_, x) => x
        | none => f.staged)
      pend := some (s.clk.uptime + 48, s3.stateWord) } } : State).showValid

/-- FILTER_TICK (R286): ticks follow every τ on the junction clock. -/
def execFilterTick (raw : Word) (s : State) : Host.Outcome State Fault Refusal :=
  .next (if s.isSealed && !s.ej2Down && decide (s.fld.tickAt ≤ s.clk.uptime) then s.filterTick raw else s)

/-! ### Ownership -/

/-- A write to a resource that its writer, field I/O, does not own (R285). -/
def State.ownConflict (s : State) (kind index holder : Nat) : State :=
  let s1 := (((((s.set1 Fld.FIO_STATUS_OWN_CONFLICT).set1 Fld.FIO_OWN_RUN_VALID).wr Fld.FIO_OWN_RUN_KIND kind).wr
    Fld.FIO_OWN_RUN_CLAIMANT 3).wr Fld.FIO_OWN_RUN_HOLDER holder).wr Fld.FIO_OWN_RUN_INDEX index
  s1.troubleAt Fld.FIO_STATUS_OWN_CONFLICT [kind, 3, holder, index]

/-- The resource that a write would configure without owning it (R285, R302): kind, number and owner. -/
def State.fioForeign (s : State) (k : Nat) : Option (Nat × Nat × Nat) :=
  let o := k - 0x50000
  if k / 0x10000 ≠ 5 then none
  else if 0x800 ≤ o ∧ o < 0x880 then
    let n := (o - 0x800) / 4
    if s.rd (Fld.FIO_CH_n_CFG_OWNER n) = 1 then some (1, n, 1) else none
  else if 0x600 ≤ o ∧ o < 0x800 ∧ 8 ≤ o % 16 then
    let n := (o - 0x600) / 16
    if s.rd (Fld.FIO_CH_n_CFG_OWNER n) = 1 then some (1, n, 1) else none
  else if 0xA0 ≤ o ∧ o < 0xB0 then
    let m := (o - 0xA0) / 4
    let own := s.rd (Fld.FIO_CAP_m_CTRL_OWNER m)
    if own = 3 then none else some (3, m, own)
  else none

/-- The effect of ARM (R289): the capture of the channel that CH names starts at the next tick. -/
def State.armCap (s : State) (m : Nat) : State :=
  (({ s with fld := { s.fld with capPos := setAt s.fld.capPos m 0, capCh := setAt s.fld.capCh m (s.rd (Fld.FIO_CAP_m_CTRL_CH m)) } } : State).wr (Fld.FIO_CAP_m_STAT_DONE m) 0).set1
    (Fld.FIO_CAP_m_STAT_BUSY m)

/-- CAP_ARM (R285, R289): ignored with a conflict where field I/O does not own the buffer. -/
def execCapArm (i : Initiator) (m : Fin 4) (w : Word) (s : State) : Host.Outcome State Fault Refusal :=
  let k := Reg.FIO_CAP_m_CTRL m
  .next (s.regCmdRaw i k (fun t => match t.fioForeign k with
    | some (kind, n, h) => (t.noteSealed k w).ownConflict kind n h
    | none => (t.merge k w).armCap m))

/-- The effect of CLEAR (R285, R294): a conflict at a terminal that field I/O does not own. -/
def State.clearCmd (s : State) (n : Nat) : State :=
  let own := s.rd (Fld.FIO_CH_n_CFG_OWNER n)
  if own = 1 then s.ownConflict 1 n own else s.clearTrip n

/-- CLEAR (R294). -/
def execClear (i : Initiator) (n : Fin 32) (w : Word) (s : State) : Host.Outcome State Fault Refusal :=
  .next (s.regCmd i (Reg.FIO_CH_n_CTRL n) w (fun t => t.clearCmd n))

/-! ### Supply groups -/

/-- U_sag and U_cut of a group in 10 mV (R296). -/
def State.uSag (s : State) (m : Nat) : Nat := match s.rd (Fld.FIO_GRP_m_CFG_NOMINAL m) with
  | 0 => 1920
  | 1 => 5760
  | _ => 8800
def State.uCut (s : State) (m : Nat) : Nat := match s.rd (Fld.FIO_GRP_m_CFG_NOMINAL m) with
  | 0 => 1500
  | 1 => 4500
  | _ => 6875

/-- The group of an FQ8's supply (R296). -/
def fqGroup (q : Nat) : Nat := if q < 2 then 0 else q - 1

/-- A calibrated value (R300), saturated to the field's range. -/
def calibrate (cal : Word) (raw lo hi : Int) : Int :=
  let v := (raw * (bitsOf cal.toNat 31 16 : Nat)) / 32768 + toSigned 16 (bitsOf cal.toNat 15 0)
  if v < lo then lo else if hi < v then hi else v

/-- Whether a wide-range channel is an output (R279). -/
def State.wideOutput (s : State) : Bool := (List.range 8).any (fun j => s.isOutput (24 + j))

/-- Show a group's state, READY and VOLT (R297, R304). -/
def State.showGroup (s : State) (m : Nat) : State :=
  let st := s.groupState m
  let qs := groupFqs m
  let v := qs.foldl (fun a q => min a (s.rd (Fld.FIO_SUP_q_MEAS_VOLT q))) 0xFFFF
  let s1 := ((s.wr ⟨Reg.FIO_STATUS, 2 * m + 1, 2 * m⟩ st).wr (Fld.FIO_GRP_m_STAT_STATE m) st).wr (Fld.FIO_GRP_m_STAT_VOLT m) v
  s1.wrB (Fld.FIO_GRP_m_STAT_READY m) (st == GSt.cut && qs.all (fun q => (s.sup q).st == GSt.cut && (s.sup q).ready))

/-- The output channels of an FQ8 enter CUT (R293). -/
def State.cutChannels (s : State) (q : Nat) : State :=
  (fqChannels q).foldl (fun t n => if t.isOutput n then t.stageTo n OSt.cut else t) s

/-- An FQ8 decides a cut, or is told one (R297, R298); the group counts and records it once. -/
def State.cutFq (s : State) (q cause : Nat) : State :=
  let m := fqGroup q
  let fresh := s.groupState m != GSt.cut
  let s1 := (s.setSup q { s.sup q with st := GSt.cut, ok := 0, ready := false, cause := cause }).cutChannels q
  if fresh then
    ((s1.bump (Fld.FIO_GRP_m_STAT_CUTS m)).wr (Fld.FIO_GRP_m_STAT_CAUSE m) cause).weltEvent 5 0x52 (m + 256 * cause)
  else s1

/-- A supply monitor takes a sample (R297, R299). -/
def State.takeSample (s : State) (q : Nat) (v : Nat) : State :=
  let m := fqGroup q
  let x := s.sup q
  let ovr := q == 3 && decide (3000 < v) && s.wideOutput
  let low := if v < s.uCut m then x.low + 1 else 0
  let good := decide (s.uSag m ≤ v)
  if x.st = GSt.cut then
    let ok := if good && (x.cause != 2 || decide (v ≤ 3000)) then x.ok + 1 else 0
    s.setSup q { x with low := low, ok := ok, ready := decide (500 ≤ ok) }
  else if ovr then (s.setSup q { x with low := low }).cutFq q 2
  else if x.st = GSt.sag ∧ 21 ≤ low then (s.setSup q { x with low := low }).cutFq q 1
  else if x.st = GSt.normal then
    if good then s.setSup q { x with low := low } else s.setSup q { x with st := GSt.sag, low := low, ok := 0 }
  else
    let ok := if good then x.ok + 1 else 0
    s.setSup q (if 10 ≤ ok then { x with st := GSt.normal, low := low, ok := 0 } else { x with low := low, ok := ok })

/-- SUPPLY_SAMPLE (R296, R297, R300): at each whole multiple of 100 µs of uptime. -/
def execSupplySample (v0 v1 v2 v3 : BitVec 16) (s : State) : Host.Outcome State Fault Refusal :=
  let n := s.clk.uptime / 100000
  .next (if s.isSealed && decide (s.fld.supN < n) then
      let s0 : State := { s with fld := { s.fld with supN := n } }
      let s1 := [(0, v0), (1, v1), (2, v2), (3, v3)].foldl (fun t x =>
        if (t.fqAt x.1).lost then t
        else
          let v := (calibrate (t.reg (Reg.FIO_SUP_q_CAL x.1)) (x.2.toNat : Nat) 0 65535).toNat
          (t.wr (Fld.FIO_SUP_q_MEAS_VOLT x.1) v).takeSample x.1 v) s0
      ((List.range 3).foldl (fun t m => t.showGroup m) s1).showValid
    else s)

/-- G0_CUT_FORWARD (R298). -/
def execG0CutForward (s : State) : Host.Outcome State Fault Refusal :=
  let a := s.sup 0
  let b := s.sup 1
  .next (if a.st = GSt.cut ∧ b.st ≠ GSt.cut then ((s.cutFq 1 a.cause).showGroup 0).showValid
    else if b.st = GSt.cut ∧ a.st ≠ GSt.cut then ((s.cutFq 0 b.cause).showGroup 0).showValid
    else s)

/-- A READY group is released (R293, R299): stages return to TRIPPED where a trip is kept, else to OFF until the next t_out. -/
def State.releaseGroup (s : State) (m : Nat) : State :=
  if s.flag (Fld.FIO_GRP_m_STAT_READY m) then
    let s1 := (groupFqs m).foldl (fun t q => t.setSup q { t.sup q with st := GSt.normal, low := 0, ok := 0, ready := false }) s
    let s2 := (List.range 32).foldl (fun t n =>
      if groupOf n = m ∧ t.ost n = OSt.cut then
        if t.flag (Fld.FIO_CH_n_STAT_TRIPPED n) then
          (t.stageTo n OSt.tripped).modFch n (fun c => { c with tripAt := some t.clk.uptime, waitOut := true })
        else (t.stageTo n OSt.off).modFch n (fun c => { c with waitOut := true })
      else t) s1
    (s2.showGroup m).showValid
  else s

/-- The effect of FIO.GRP_ACK (R299). -/
def State.ackGroups (s : State) (w : Word) : State := (List.range 3).foldl (fun t m => if bitOf w.toNat m then t.releaseGroup m else t) s

/-- GRP_ACK (R299). -/
def execGrpAck (i : Initiator) (w : Word) (s : State) : Host.Outcome State Fault Refusal :=
  .next (s.regCmd i Reg.FIO_GRP_ACK w (fun t => t.ackGroups w))

/-- CHANNEL_MEASUREMENT (R300): once per millisecond. -/
def execChannelMeasurement (volt curr : List (BitVec 16)) (s : State) : Host.Outcome State Fault Refusal :=
  let n := s.clk.uptime / 1000000
  .next (if s.isSealed && decide (s.fld.measN < n) then
      (List.range 32).foldl (fun t c =>
        if (t.fqAt (c / 8)).lost then t
        else
          let v := calibrate (t.reg (Reg.FIO_CH_n_CALV c)) (getAt (0 : BitVec 16) volt c).toInt (-32768) 32767
          let a := calibrate (t.reg (Reg.FIO_CH_n_CALI c)) ((getAt (0 : BitVec 16) curr c).toNat : Nat) 0 65535
          (t.wr (Fld.FIO_CH_n_MEAS_VOLT c) (ofSigned 16 v)).wr (Fld.FIO_CH_n_MEAS_CURR c) a.toNat)
        { s with fld := { s.fld with measN := n } }
    else s)

/-! ### Committing the configuration -/

/-- A calibration within its limits (R301). -/
def calOk (w : Word) (lo hi : Nat) (ofs : Int) : Bool :=
  let o := toSigned 16 (bitsOf w.toNat 15 0)
  decide (lo ≤ bitsOf w.toNat 31 16) && decide (bitsOf w.toNat 31 16 ≤ hi) && decide (-ofs ≤ o) && decide (o ≤ ofs)

/-- Whether the TYPE of a channel fails the checks 0x3 and 0x4 of R303. -/
def State.typeBad (s : State) (n t : Nat) : Bool :=
  (s.isInput n && (if n < 24 then decide (1 < t) else decide (t < 2 ∨ 4 < t))) || (s.isOutput n && t != 0)

/-- The first failing check of R303 on a set: the calibrations, τ, and the TYPE of each channel. -/
def State.fioCheck (s : State) (cals sups : List Word) (tau : Nat) (types : List Nat) : Option Nat :=
  if !(cals.all (fun w => calOk w 31130 34406 50) && sups.all (fun w => calOk w 32113 33423 20)) then some 1
  else if tau < 2 ∨ 1000 < tau then some 2
  else if (List.range 32).any (fun n => s.isInput n && s.typeBad n (getAt 0 types n)) then some 3
  else if (List.range 32).any (fun n => s.typeBad n (getAt 0 types n)) then some 4
  else none

/-- The check of the shadow set (R303). -/
def State.fioShadowCheck (s : State) : Option Nat :=
  s.fioCheck ((List.range 32).map (fun n => s.reg (Reg.FIO_SH_CH_n_CALV n)) ++ (List.range 32).map (fun n => s.reg (Reg.FIO_SH_CH_n_CALI n)))
    ((List.range 4).map (fun q => s.reg (Reg.FIO_SH_SUP_q_CAL q))) (s.rd Fld.FIO_SH_TICK_US)
    ((List.range 32).map (fun n => s.rd (Fld.FIO_SH_CH_n_FLT_TYPE n)))

/-- A refused field configuration (R303). -/
def State.fioRefuse (s : State) (code : Nat) : State :=
  ((s.set1 Fld.FIO_CTRL_CFG_ERR).wr Fld.FIO_CTRL_ERR_CODE code).troubleAt Fld.FIO_CTRL_CFG_ERR [code]

/-- The effect of COMMIT (R303). -/
def State.fioCommitCmd (s : State) : State :=
  match s.fioShadowCheck with
  | some c => s.fioRefuse c
  | none =>
    s.basteCommit Fld.FIO_CTRL_BASTE_PENDING

/-- FIO_COMMIT (R303). -/
def execFioCommit (i : Initiator) (w : Word) (s : State) : Host.Outcome State Fault Refusal :=
  .next (s.regCmd i Reg.FIO_CTRL w (fun t => t.fioCommitCmd))

/-- One channel of the copy (R288, R302): a changed N puts the counter on the rail of the filtered state. -/
def State.copyCh (s : State) (n : Nat) : State :=
  let s1 := (s.setReg (Reg.FIO_CH_n_CALV n) (s.reg (Reg.FIO_SH_CH_n_CALV n))).setReg (Reg.FIO_CH_n_CALI n) (s.reg (Reg.FIO_SH_CH_n_CALI n))
  let old := s.rd (Fld.FIO_CH_n_FLT_N n)
  let s2 := s1.setReg (Reg.FIO_CH_n_FLT n) (s.reg (Reg.FIO_SH_CH_n_FLT n))
  let new := s2.rd (Fld.FIO_CH_n_FLT_N n)
  if s.isInput n && new != old then s2.wr (Fld.FIO_CH_n_STAT_COUNT n) (railOf new (s.flag (Fld.FIO_CH_n_STAT_FILT n))) else s2

/-- The field configuration copy (R302, R303). -/
def State.fioCopy (s : State) : State :=
  let s0 := ({ s with fld := { s.fld with ticked := false } } : State).wr Fld.FIO_CTRL_BASTE_PENDING 0
  match s.fioShadowCheck with
  | some c => s0.fioRefuse c
  | none =>
    let s1 := (List.range 32).foldl (fun t n => t.copyCh n) (s0.wr Fld.FIO_TICK_US (s.rd Fld.FIO_SH_TICK_US))
    let s2 := (List.range 4).foldl (fun t q => t.setReg (Reg.FIO_SUP_q_CAL q) (t.reg (Reg.FIO_SH_SUP_q_CAL q))) s1
    ({ s2 with fld := { s2.fld with tickAt := s.fld.tickAt - 1000 * s.rd Fld.FIO_TICK_US + 1000 * s.rd Fld.FIO_SH_TICK_US } } : State).weltEvent 5 0x53 0

/-- FIO_SHADOW_COPY (R14 to R16, R302): in the jc of a tick that found a commit of an earlier jc, so that no later shadow write joins. -/
def execFioShadowCopy (s : State) : Host.Outcome State Fault Refusal :=
  .next (if s.flag Fld.FIO_CTRL_BASTE_PENDING && s.fld.ticked && decide (s.fld.lastTick = s.clk.uptime) then s.fioCopy else s)

/-! ### The field section of the input image -/

/-- Stage the states of the last tick that has arrived (R35, R286). -/
def State.fieldArrive (s : State) : State :=
  match s.fld.pend with
  | some (t, w) => if t ≤ s.clk.uptime then { s with fld := { s.fld with pend := none, staged := w } } else s
  | none => s

/-- A word of per-channel bits. -/
def chBits (f : Nat → Bool) : Nat := ofBits ((List.range 32).map f)

/-- The 96 bytes of R290. -/
def State.fieldSection (s : State) : List Byte :=
  let g (m : Nat) : Nat := s.groupState m
  let rdy (m : Nat) : Nat := s.rd (Fld.FIO_GRP_m_STAT_READY m)
  let v (m : Nat) : Nat := s.rd (Fld.FIO_GRP_m_STAT_VOLT m)
  leBytes 4 s.fld.staged.toNat ++ leBytes 4 (chBits s.chValid) ++ leBytes 4 (chBits s.conducts)
    ++ leBytes 4 (chBits (fun n => s.ost n == OSt.tripped || s.flag (Fld.FIO_CH_n_STAT_EXT_DRIVE n)))
    ++ leBytes 4 (g 0 + 4 * g 1 + 16 * g 2 + 64 * rdy 0 + 128 * rdy 1 + 256 * rdy 2)
    ++ leBytes 4 (v 0 + 65536 * v 1) ++ leBytes 4 (v 2) ++ leBytes 4 0
    ++ ((List.range 8).map (fun m =>
        if s.flag (Fld.FIO_TMR_m_CFG_EN m) && s.rd (Fld.FIO_TMR_m_CFG_OWNER m) == 3 then
          leBytes 4 (s.rd (Fld.FIO_TMR_m_COUNT_VALUE m)) ++ leBytes 4 (s.rd (Fld.FIO_TMR_m_PERIOD_VALUE m))
        else leBytes 8 0)).flatten

/-! ### Loss of an FQ8 or of the EJ2 -/

/-- An FQ8 removes drive from its eight stages and serves no command until the next start (R21, R40); a self-fault where DX.CFG.SF_FQ8
counts it (R334). -/
def State.dropFq (s : State) (q : Nat) : State :=
  let s1 : State := { s with fq := setAt s.fq q { s.fqAt q with lost := true, drive := false } }
  (((fqChannels q).foldl (fun t n => t.stageUpdate n) s1).showFaultDev.showValid).selfFault 3

/-- FQ8_CLOCK_LOSS (R21). -/
def execFq8ClockLoss (q : Fin 4) (s : State) : Host.Outcome State Fault Refusal := .next (s.dropFq q)

/-- FQ8_LINK_SILENT (R21). -/
def execFq8LinkSilent (q : Fin 4) (s : State) : Host.Outcome State Fault Refusal := .next (s.dropFq q)

/-- EJ2_SELF_FAULT (R22). -/
def execEj2SelfFault (s : State) : Host.Outcome State Fault Refusal := .next s.ej2Fault

/-- JUNCTION_CLOCK_LOSS (R22). -/
def execJunctionClockLoss (s : State) : Host.Outcome State Fault Refusal := .next s.ej2Fault

/-- DIRECT_COMMAND_FRAME (R47): the re-voted bits reach the stages at once. -/
def execDirectCommandFrame (q : Fin 4) (absent : Tri Bool) (flip : Tri Byte) (s : State) : Host.Outcome State Fault Refusal :=
  .next ((fqChannels q).foldl (fun t n => t.stageUpdate n) (s.applyDirect q absent flip))

end Sys2Proof.Machine
end

