-- ==== Sys2Proof/Machine/Plane.lean ====
section
/-! DEFINITION. The reflex plane (chapter 12): its table, the evaluation with sense filters, supervisors and cells, the faults that end
in SAFE, the status link and the AX mirror. -/

namespace Sys2Proof.Machine

/-! ### The table -/

/-- The plane states of R307 by their codes. -/
abbrev PSt.off : Nat := 0
abbrev PSt.selftest : Nat := 1
abbrev PSt.load : Nat := 2
abbrev PSt.hold : Nat := 3
abbrev PSt.run : Nat := 4
abbrev PSt.safe : Nat := 5

/-- A little-endian word of the table. -/
def tabWord (t : List Byte) (o : Nat) : Nat := leNat (sliceB t o 4)

/-- The records of the table (R316). -/
def cellHi (t : List Byte) (m : Nat) : Nat := tabWord t (64 + 8 * m)
def cellLo (t : List Byte) (m : Nat) : Nat := tabWord t (68 + 8 * m)
def supCfg (t : List Byte) (n : Nat) : Nat := tabWord t (4160 + 8 * n)
def senseCfg (t : List Byte) (n : Nat) : Nat := tabWord t (4416 + 4 * n)
def permitSrc (t : List Byte) (n : Nat) : Nat := tabWord t (4544 + 4 * n)

/-- Fields of the records (R326). -/
def cellType (t : List Byte) (m : Nat) : Nat := bitsOf (cellHi t m) 31 29
def cellTime (t : List Byte) (m : Nat) : Nat := bitsOf (cellLo t m) 15 0
def cellSpan (t : List Byte) (m : Nat) : Nat := cellTime t m * (if bitOf (cellHi t m) 28 then 1000 else 1)
def supEn (t : List Byte) (n : Nat) : Bool := bitOf (supCfg t n) 31
def supD (t : List Byte) (n : Nat) : Nat := bitsOf (supCfg t n) 15 0
def supA (t : List Byte) (n : Nat) : Nat := bitsOf (supCfg t n) 25 21
def supB (t : List Byte) (n : Nat) : Nat := bitsOf (supCfg t n) 20 16
def planeOwns (t : List Byte) (n : Nat) : Bool := bitOf (senseCfg t n) 31

/-- The signals that a cell uses (R315): none unused; three of AND and OR; A of NOT and the timed cells; A and B of the latch. -/
def cellInputs (t : List Byte) (m : Nat) : List Nat :=
  let a := bitsOf (cellHi t m) 19 10
  let b := bitsOf (cellHi t m) 9 0
  let c := bitsOf (cellLo t m) 25 16
  match cellType t m with
  | 0 => []
  | 1 | 2 => [a, b, c]
  | 4 => [a, b]
  | _ => [a]

/-- Whether an index names a signal (R314). -/
def signalOk (i : Nat) : Bool := decide (i < 0x62 ∨ (0x200 ≤ i ∧ i < 0x400))

/-- The check of R316 on the table's content. -/
def tableOk (t : List Byte) : Bool :=
  t.length == 4672 &&
  (List.range 512).all (fun m =>
    bitsOf (cellHi t m) 24 20 == 0 && bitsOf (cellLo t m) 31 26 == 0 &&
    (cellInputs t m).all (fun i => signalOk i && (decide (0x20 ≤ i) || planeOwns t i)) &&
    (decide (cellType t m < 5) || cellTime t m != 0)) &&
  (List.range 32).all (fun n =>
    bitsOf (supCfg t n) 28 26 == 0 && tabWord t (4164 + 8 * n) == 0 &&
    (!supEn t n || (supD t n != 0 && supA t n != supB t n && planeOwns t (supA t n) && planeOwns t (supB t n)))) &&
  (List.range 32).all (fun n =>
    bitsOf (senseCfg t n) 30 27 == 0 && bitsOf (senseCfg t n) 15 8 == 0 && decide (bitsOf (senseCfg t n) 26 24 < 5)) &&
  (List.range 32).all (fun n => bitsOf (permitSrc t n) 31 10 == 0 && signalOk (permitSrc t n))

/-- AX shows the table's values (R326). -/
def State.showTable (s : State) (t : List Byte) : State :=
  let w : Nat → Word := BitVec.ofNat 32
  let s1 := (List.range 512).foldl (fun x m => (x.setReg (Reg.AX_CELL_m_HI m) (w (cellHi t m))).setReg (Reg.AX_CELL_m_LO m) (w (cellLo t m))) s
  (List.range 32).foldl (fun x n =>
    ((x.setReg (Reg.AX_SUP_n_CFG n) (w (supCfg t n))).setReg (Reg.AX_SENSE_n_CFG n) (w (senseCfg t n))).setReg (Reg.AX_PERMIT_n_SRC n)
      (w (permitSrc t n))) s1

/-- The digest shown in AX.DIGEST_n (R316, R326). -/
def State.showDigest (s : State) (d : List Byte) : State :=
  (List.range 8).foldl (fun x n => x.setReg (Reg.AX_DIGEST_n n) (BitVec.ofNat 32 (leNat (sliceB d (4 * n) 4)))) s

/-- Entry to HOLD (R307, R309, R315, R322). -/
def PlaneSt.enterHold (p : PlaneSt) (t : List Byte) : PlaneSt :=
  { p with
    st := PSt.hold, table := t, evals := 0, sense := List.replicate 32 (0, false), sups := List.replicate 32 ⟨0, 0, 0⟩
    outs := List.replicate 512 false
    cells := (List.range 512).map (fun m => { cnt := if cellType t m = 6 then cellSpan t m + 1 else 0, prev := false })
    reg := 0, lines := 0, bad := 0, sent := false, faulted := [] }

/-- The plane takes a table in LOAD (R307, R316, R326): HOLD, from which on its evaluations are watched (R319) and the digest's age counts
(R317), or SAFE with cause 0x02; AX shows what was received. -/
def State.planeLoad (s : State) (t : List Byte) (lengthOk : Bool) : State :=
  if s.plane.st = PSt.load then
    let s1 := (s.showTable t).showDigest (sha256 t)
    if lengthOk && tableOk t then
      ({ s1 with plane := { s.plane.enterHold t with heardAt := s.clk.uptime, digestAt := some s.clk.uptime } } : State).wr Fld.AX_STATUS_STATE PSt.hold
    else (((s1.planeSafe 2).wr Fld.AX_STATUS_STATE PSt.safe).wr Fld.AX_STATUS_CAUSE 2).showFaultDev
  else s

/-! ### The evaluation -/

/-- A sense filter's step (R312); the first evaluation takes the raw sample, as R288 for the field filter. -/
def senseStep (t : List Byte) (first : Bool) (raw : Word) (n : Nat) (x : Nat × Bool) : Nat × Bool :=
  let np := bitsOf (senseCfg t n) 7 0
  let b := bitOf raw.toNat n
  if !planeOwns t n then (0, false)
  else if first then (railOf np b, b)
  else filterStep np b x.1 x.2

/-- The supervisor states of R322 by their codes. -/
abbrev VSt.init : Nat := 0
abbrev VSt.safe : Nat := 1
abbrev VSt.up : Nat := 2
abbrev VSt.active : Nat := 3
abbrev VSt.down : Nat := 4
abbrev VSt.fault : Nat := 5

/-- A supervisor enters FAULT (R322): the count shown is D. -/
def SupvSt.fail (x : SupvSt) (d : Nat) : SupvSt := { st := VSt.fault, cnt := d, faults := satAdd 0xFF x.faults 1 }

/-- A supervisor's step in an evaluation (R320 to R322). -/
def SupvSt.step (x : SupvSt) (antivalent startSafe first tick a b : Bool) (d : Nat) : SupvSt :=
  let safe := !a && b == antivalent
  let act := a && b != antivalent
  let go (st cnt : Nat) : SupvSt := { x with st := st, cnt := cnt }
  let n := if tick then x.cnt + 1 else x.cnt
  if first then (if startSafe then go VSt.init 0 else if safe then go VSt.safe 0 else if act then go VSt.active 0 else go VSt.up 0)
  else match x.st with
    | 0 => if safe then go VSt.safe 0 else x
    | 1 => if act then go VSt.active 0 else if safe then x else go VSt.up 0
    | 2 => if d ≤ n then x.fail d else if act then go VSt.active n else if safe then go VSt.safe 0 else go VSt.up n
    | 3 => if safe then go VSt.safe 0 else if act then x else go VSt.down 0
    | 4 => if d ≤ n then x.fail d else if safe then go VSt.safe 0 else go VSt.down n
    | _ => if safe then go VSt.safe 0 else x

/-- Whether a channel's filtered sense state is 1. -/
def PlaneSt.senseBit (p : PlaneSt) (n : Nat) : Bool := (getAt (0, false) p.sense n).2

/-- A supervisor's state. -/
def PlaneSt.sup (p : PlaneSt) (n : Nat) : SupvSt := getAt ⟨0, 0, 0⟩ p.sups n

/-- Q_n and F_n: 0 where the supervisor is not in use (R322, R326). -/
def PlaneSt.q (p : PlaneSt) (n : Nat) : Bool := supEn p.table n && (p.sup n).st == VSt.active
def PlaneSt.f (p : PlaneSt) (n : Nat) : Bool := supEn p.table n && (p.sup n).st == VSt.fault

/-- The value of a signal (R314), with the cell outputs so far. -/
def PlaneSt.signal (p : PlaneSt) (outs : List Bool) (i : Nat) : Bool :=
  if i < 0x20 then p.senseBit i
  else if i < 0x40 then p.q (i - 0x20)
  else if i < 0x60 then p.f (i - 0x40)
  else if i < 0x200 then i == 0x61
  else getAt false outs (i - 0x200)

/-- A cell's output and memory (R315). -/
def cellStep (type span : Nat) (a b c old : Bool) (x : CellSt) : Bool × CellSt :=
  match type with
  | 0 => (false, x)
  | 1 => (a && b && c, x)
  | 2 => (a || b || c, x)
  | 3 => (!a, x)
  | 4 => (!b && (a || old), x)
  | 5 =>
    let n := if a then min (x.cnt + 1) (span + 1) else 0
    (decide (span < n), { x with cnt := n })
  | 6 =>
    if a then (true, { x with cnt := 0 })
    else (decide (x.cnt ≤ span), { x with cnt := min (x.cnt + 1) (span + 1) })
  | _ =>
    let n := if a && !x.prev && x.cnt == 0 then span else x.cnt
    (decide (0 < n), { cnt := n - 1, prev := a })

/-- The cells in ascending index (R309): lower outputs of this evaluation, its own and higher ones of the one before. -/
def PlaneSt.runCells (p : PlaneSt) : PlaneSt :=
  (List.range 512).foldl (fun p m =>
    let hi := cellHi p.table m
    let sig (i inv : Nat) : Bool := p.signal p.outs i != bitOf hi inv
    let r := cellStep (cellType p.table m) (cellSpan p.table m) (sig (bitsOf hi 19 10) 25) (sig (bitsOf hi 9 0) 26)
      (sig (bitsOf (cellLo p.table m) 25 16) 27) (getAt false p.outs m) (getAt ⟨0, false⟩ p.cells m)
    { p with outs := setAt p.outs m r.1, cells := setAt p.cells m r.2 }) p

/-- Whether the permit drivers are enabled: in RUN, with the oscillator in range (R307, R311). -/
def PlaneSt.drives (p : PlaneSt) : Bool := p.st == PSt.run && p.osc

/-- One evaluation (R309, R318): registered permits reach the lines, then filters, supervisors, cells and permits. -/
def PlaneSt.evaluate (p : PlaneSt) (raw readBad : Word) : PlaneSt :=
  let first := p.evals == 0
  let tick := p.evals % 100 == 0
  let lines := if p.drives then p.reg else 0
  let wrong := (p.st == PSt.hold || p.st == PSt.run) && (readBad &&& p.bad) != 0
  let p1 := if wrong then { p with st := PSt.safe, cause := 6, lines := 0 } else { p with lines := lines }
  let p2 := { p1 with sense := (List.range 32).map (fun n => senseStep p.table first raw n (getAt (0, false) p.sense n)) }
  let sups := (List.range 32).map (fun n =>
    let x := p.sup n
    if supEn p.table n then
      x.step (bitOf (supCfg p.table n) 30) (bitOf (supCfg p.table n) 29) first tick (p2.senseBit (supA p.table n)) (p2.senseBit (supB p.table n))
        (supD p.table n)
    else x)
  let newly := (List.range 32).filter (fun n => (getAt ⟨0, 0, 0⟩ sups n).st == VSt.fault && (p.sup n).st != VSt.fault)
  let p3 := { p2 with sups := sups, faulted := p.faulted ++ newly }.runCells
  { p3 with
    evals := p.evals + 1, bad := readBad, sent := true
    reg := BitVec.ofNat 32 (chBits (fun n => p3.signal p3.outs (bitsOf (permitSrc p.table n) 9 0))) }

/-- PLANE_EVALUATION (R309): in HOLD, RUN and SAFE, while the plane's clock runs and a table is loaded. -/
def execPlaneEvaluation (sense readBad : Word) (s : State) : Host.Outcome State Fault Refusal :=
  .next (if decide (PSt.hold ≤ s.plane.st) && s.plane.osc && s.plane.table != [] then
      { s with plane := s.plane.evaluate sense readBad } else s)

/-- DIGEST_PASS_END (R317). -/
def execDigestPassEnd (same : Bool) (s : State) : Host.Outcome State Fault Refusal :=
  .next (if s.plane.st = PSt.hold ∨ s.plane.st = PSt.run then
      let s1 := ({ s with plane := { s.plane with digestAt := some s.clk.uptime } } : State).wrB Fld.AX_STATUS_DIGEST_OK same
      if same then s1 else s1.planeSafe 3
    else s)

/-- PLANE_OSC_FAULT (R311): all permit drivers disabled. -/
def execPlaneOscFault (s : State) : Host.Outcome State Fault Refusal :=
  .next (({ s with plane := { s.plane with osc := false, lines := 0 } } : State).wr Fld.AX_STATUS_OSC_OK 0)

/-- PLANE_CLOCK_RESUME (R311): SAFE with cause 0x04. -/
def execPlaneClockResume (s : State) : Host.Outcome State Fault Refusal :=
  .next (if !s.plane.osc && decide (PSt.selftest ≤ s.plane.st) then
      ({ s with plane := { s.plane with osc := true } } : State).planeSafe 4 |>.set1 Fld.AX_STATUS_OSC_OK
    else s)

/-- TRIPLE_WORD_FAILED (R157): device 0 EJ2, 1 to 3 lanes, 4 AX1, 5 to 8 FQ8s. -/
def State.tripleFailed (s : State) (d : Nat) : State :=
  if d = 0 then s.ej2Fault
  else match Lane.ofNat? (d - 1) with
    | some l => s.laneFault l 0x0A 0
    | none => if d = 4 then s.planeSafe 5 else s.dropFq (d - 5)

/-- TRIPLE_WORD_FAILED (R157). -/
def execTripleWordFailed (d : Fin 9) (s : State) : Host.Outcome State Fault Refusal :=
  .next (((s.set1 (Fld.JC_TW_n_STATUS_FAILED d)).tripleFailed d).showFaultDev)

/-! ### The status link and the permit lines -/

/-- The words of an evaluation that AX shows. -/
def PlaneSt.permitsWord (p : PlaneSt) : Word := if p.drives then p.reg else 0

/-- PLANE_STATUS_RECEIVED (R318, R319, R322, R325): the mirror takes the last evaluation's results; a cause already told stands; each new
supervisor FAULT is recorded. -/
def execPlaneStatusReceived (s : State) : Host.Outcome State Fault Refusal :=
  .next (if s.plane.sent then
      let p := s.plane
      let w : Nat → Word := BitVec.ofNat 32
      let s1 := ((((s.setReg Reg.AX_EVAL_COUNT (w p.evals)).setReg Reg.AX_PERMITS p.permitsWord).setReg Reg.AX_SENSE (w (chBits p.senseBit))).setReg
        Reg.AX_SUP_Q (w (chBits p.q))).setReg Reg.AX_SUP_F (w (chBits p.f))
      let s2 := (List.range 16).foldl (fun t k =>
        t.setReg (Reg.AX_CELL_OUT_w k) (w (chBits (fun b => getAt false p.outs (32 * k + b))))) s1
      let s3 := (List.range 32).foldl (fun t n =>
        let x := p.sup n
        ((((t.wr (Fld.AX_SUP_n_STAT_STATE n) x.st).wrB (Fld.AX_SUP_n_STAT_F n) (p.f n)).wrB (Fld.AX_SUP_n_STAT_Q n) (p.q n)).wr
          (Fld.AX_SUP_n_STAT_FAULTS n) x.faults).wr (Fld.AX_SUP_n_STAT_COUNT n) x.cnt) s2
      let cause := if p.told then s.rd Fld.AX_STATUS_CAUSE else p.cause
      let s4 := (((s3.wr Fld.AX_STATUS_STATE p.st).wr Fld.AX_STATUS_CAUSE cause).wrB Fld.AX_STATUS_LINK_OK
        (s.reg Reg.AX_EVAL_COUNT != w p.evals)).showFaultDev
      let s5 := p.faulted.foldl (fun t n => t.weltEvent 0x12 0x61 n) s4
      { s5 with plane := { p with sent := false, faulted := [], heardAt := s.clk.uptime } }
    else s)

/-- Whether the junction finds the plane failed (R319). -/
def State.planeLost (s : State) : Bool :=
  decide (PSt.hold ≤ s.rd Fld.AX_STATUS_STATE) && !s.plane.told &&
    (s.rd Fld.AX_STATUS_STATE == PSt.safe || decide (s.plane.heardAt + 10000 ≤ s.clk.uptime))

/-- What the junction does then (R319): the fault summary, a cause where the plane reported none, a Welt record; safe mode follows from the next t_out. -/
def State.planeTold (s : State) : State :=
  let silent := s.rd Fld.AX_STATUS_STATE != PSt.safe
  let s1 := if silent then s.wr Fld.AX_STATUS_LINK_OK 0 else s
  let s2 := if s1.rd Fld.AX_STATUS_CAUSE = 0 then s1.wr Fld.AX_STATUS_CAUSE 7 else s1
  (({ s2 with plane := { s2.plane with told := true } } : State).showFaultDev).weltEvent 0x12 0x60 (s2.rd Fld.AX_STATUS_CAUSE)

/-- PERMIT_LINE_CHANGE (R108, R306). -/
def execPermitLineChange (n : Fin 32) (s : State) : Host.Outcome State Fault Refusal :=
  let b := bitOf s.plane.lines.toNat n
  .next (if (s.fch n).permit = b then s else (s.modFch n (fun c => { c with permit := b })).stageUpdate n)

/-- A read of AX.EVAL_COUNT (R326). -/
def State.readEval (s : State) (i : Initiator) : State :=
  let ks := [Reg.AX_PERMITS, Reg.AX_SENSE, Reg.AX_SUP_Q, Reg.AX_SUP_F] ++ (List.range 16).map (fun w => Reg.AX_CELL_OUT_w w)
  (ks.foldl (fun t k => t.capture i k (t.reg k)) s).respond i (.data (s.reg Reg.AX_EVAL_COUNT))

/-- EVAL_COUNT_READ (R326). -/
def execEvalCountRead (i : Initiator) (s : State) : Host.Outcome State Fault Refusal :=
  .next (if s.mayRead i Reg.AX_EVAL_COUNT then s.readEval i else s.deny i Reg.AX_EVAL_COUNT)

/-- The 32 bytes of R325. -/
def State.planeSection (s : State) : List Byte :=
  leBytes 4 (s.rd Fld.AX_EVAL_COUNT_VALUE) ++ leBytes 4 (s.rd Fld.AX_PERMITS_VALUE) ++ leBytes 4 (s.rd Fld.AX_SENSE_VALUE)
    ++ leBytes 4 (s.rd Fld.AX_SUP_Q_VALUE) ++ leBytes 4 (s.rd Fld.AX_SUP_F_VALUE)
    ++ leBytes 4 (s.rd Fld.AX_STATUS_STATE + 256 * s.rd Fld.AX_STATUS_CAUSE) ++ leBytes 8 0

end Sys2Proof.Machine
end

