-- ==== Sys2Proof/Machine/Readmit.lean ====
section
/-! DEFINITION. Readmission (R112 to R118): refusals, the transfer from the donor, the quiet point and the rejoin, and hardware fills of a
receiver. -/

namespace Sys2Proof.Machine

/-- The page limit of R115, from C_f = (T − t_com − 64 jc) × 8 bytes. -/
def State.pageLimit (s : State) : Nat := ((s.tCycle / 4 - s.tCom - 64) * 8 - s.cfg.sOut - 4096) / 4096

/-- The RESULT with which a start is refused, none when it is accepted (R112). Where several refusals hold, the first in the order quorum,
LOCKED, state, capacity is given (DESIGN CHOICE, log 82). -/
def State.readmitRefusal (s : State) (l : Option Lane) : Option Nat :=
  match l with
  | none => some 8
  | some x =>
    if s.numVoting < 2 then some 2
    else if s.member x = Mbr.locked then some 7
    else if s.st.act.isSome ∨ s.vote.readmit.isSome ∨ ¬(s.member x = Mbr.excluded ∨ s.member x = Mbr.halted ∧ s.ex x = Exec.splitRun) then some 8
    else if s.pageLimit < 1 then some 0xA
    else none

/-- The donor: the first VOTING lane that is not the service master (R113). -/
def State.pickDonor (s : State) : Lane := (lanes.find? (fun l => s.votes l && decide (s.svcMaster ≠ some l))).getD .A

/-- A lane's free slot no longer holds a checked image (R474). -/
def State.unstage (s : State) (l : Lane) : State :=
  let s1 := ({ s with st := { s.st with stagedImg := s.st.stagedImg.put l none } } : State).wrBit Reg.UPD_FLASH_STATUS (28 + l.num) false
  s1.wr Fld.UPD_IMG_ID_STAGED_VERSION (match lanes.findSome? (fun x => s1.st.stagedImg.get x) with
    | some g => g.id % 65536
    | none => 0)

/-- A readmission begins (R112 to R114): TRANSFER and RECEIVING, the fault record and DEBUG_SPLIT cleared, the fill started; without lane
PLL lock it fails at once (R506). -/
def State.beginReadmit (s0 : State) (l : Lane) : State :=
  let s := s0.unstage l
  let d := s.pickDonor
  let r : Readmit := { receiver := l, donor := d, start := s.clk.uptime, dirty := [], passPages := [], quiet := none }
  let s1 := ((({ s with vote := { s.vote with readmit := some r, autoAt := s.vote.autoAt.put l none } } : State).setMember l
    Mbr.transfer).stopLane l).wr (Fld.LC_LANE_STATUS_EXEC l) Exec.receiving
  let s2 := ((((s1.setReg (Reg.LC_FAULT_CAUSE l) 0).setReg (Reg.LC_FAULT_TIME_HI l) 0).setReg (Reg.LC_FAULT_TIME_LO l) 0).wr
    (Fld.LC_LANE_STATUS_DEBUG_SPLIT l) 0).showFaultDev
  let s3 := ((((s2.wr Fld.VT_READMIT_STATUS_RESULT 0).wr Fld.VT_READMIT_STATUS_PHASE 1).wr Fld.VT_READMIT_STATUS_PASS 0).wr
    Fld.VT_READMIT_STATUS_RECEIVER l.num).wr Fld.VT_READMIT_STATUS_DIRTY 0
  let s4 := ((s3.wr Fld.VT_STATUS_DONOR d.num).set1 Fld.VT_STATUS_READMIT_BUSY).beginFill (.lane l)
  if s.pllLocked l then s4 else s4.failReadmit 4

/-- A start of readmission (R112). -/
def State.startReadmit (s : State) (l : Option Lane) : State :=
  match s.readmitRefusal l, l with
  | some c, _ => s.wr Fld.VT_READMIT_STATUS_RESULT c
  | none, some x => s.beginReadmit x
  | none, none => s

/-- The effect of a write of VT.READMIT (R112, R117); with ABORT and START in one write the abort comes first (DESIGN CHOICE, log 82). -/
def State.readmitCtl (s : State) (w : Word) : State :=
  let s1 := if wbits w Fld.VT_READMIT_ABORT = 1 then s.failReadmit 5 else s
  if wbits w Fld.VT_READMIT_START = 1 then s1.startReadmit (Lane.ofNat? (wbits w Fld.VT_READMIT_LANE)) else s1

/-- READMIT_START (R112). -/
def execReadmitStart (i : Initiator) (w : Word) (s : State) : Host.Outcome State Fault Refusal :=
  .next (s.regCmd i Reg.VT_READMIT w (fun t => t.readmitCtl (w ||| 1)))

/-- READMIT_ABORT (R117). -/
def execReadmitAbort (i : Initiator) (w : Word) (s : State) : Host.Outcome State Fault Refusal :=
  .next (s.regCmd i Reg.VT_READMIT w (fun t => t.readmitCtl (w ||| 8)))

/-- AUTO_READMIT (R112): with VT.CFG.AUTO_READMIT, at the first cycle boundary after the exclusion. -/
def execAutoReadmit (l : Lane) (s : State) : Host.Outcome State Fault Refusal :=
  .next (match s.vote.autoAt.get l with
    | some k =>
      if s.flag Fld.VT_CFG_AUTO_READMIT ∧ k < s.cyc.k ∧ s.st.act = none then
        ({ s with vote := { s.vote with autoAt := s.vote.autoAt.put l none } } : State).startReadmit (some l)
      else s
    | none => s)

/-- The phase of the readmission (R114). -/
def State.readmitPhase (s : State) : Nat := s.rd Fld.VT_READMIT_STATUS_PHASE

/-- READMIT_FILL_DONE (R114, R163): the fill is complete and pass 1 of BULK begins. -/
def execReadmitFillDone (s : State) : Host.Outcome State Fault Refusal :=
  .next (match s.vote.readmit with
    | some r =>
      if s.readmitPhase = 1 then
        ((s.endFill (.lane r.receiver)).wr Fld.VT_READMIT_STATUS_PHASE 2).wr Fld.VT_READMIT_STATUS_PASS 1
      else s
    | none => s)

/-- The first address of a lane image slot (R485). -/
def State.slotBase (s : State) (slot : Nat) : Nat := 4096 * s.rd (if slot = 0 then Fld.UPD_SLOT_A_PAGES else Fld.UPD_SLOT_B_PAGES)

/-- Every page of voted state (R119). -/
def State.votedPages (s : State) : List Nat :=
  ((List.range 16).map (fun n => (List.range (16 * s.rd (Fld.VT_VS_n_SIZE_SIZE n))).map (fun j => 16 * s.rd (Fld.VT_VS_n_BASE_BASE n) + j))).flatten

/-- Copy pages from donor to receiver (R113). -/
def State.copyPages (s : State) (src dst : Lane) (ps : List Nat) : State :=
  ps.foldl (fun t p => t.laneCopy dst (4096 * p) (s.laneBytes src (4096 * p) 4096)) s

/-- The image region of the donor is copied with what its header declares (R113). -/
def State.copyImage (s : State) (src dst : Lane) : State :=
  match (s.ln src).img with
  | some g =>
    (s.laneCopy dst (s.slotBase g.slot) (s.laneBytes src (s.slotBase g.slot) g.size)).modLn dst (fun n => { n with img := some g })
  | none => s

/-- The pages that a transfer reads in the donor are checked (R154): an uncorrectable error faults it, and nothing is copied. -/
def State.checkPages (s : State) (src : Lane) (ps : List Nat) : State × Bool :=
  ps.foldl (fun (r : State × Bool) p =>
    let q := r.1.checkRange (.lane src) 4 (4096 * p) 4096
    (q.1, r.2 && q.2)) (s, true)

/-- BULK_PASS_END (R114, R115): the pages of the pass are in the receiver. With at most the page limit dirty the phase is FINAL, otherwise
the next pass takes the dirty pages. -/
def execBulkPassEnd (s : State) : Host.Outcome State Fault Refusal :=
  .next (match s.vote.readmit with
    | some r =>
      if s.readmitPhase = 2 then
        let first := s.rd Fld.VT_READMIT_STATUS_PASS = 1
        let img := match (s.ln r.donor).img with
          | some g => if first then s.checkRange (.lane r.donor) 4 (s.slotBase g.slot) g.size else (s, true)
          | none => (s, true)
        let ok := img.1.checkPages r.donor (if first then s.votedPages else r.passPages)
        if !(img.2 && ok.2) then ok.1
        else
        let s0 := ok.1
        let s1 := if first then (s0.copyImage r.donor r.receiver).copyPages r.donor r.receiver s.votedPages
          else s0.copyPages r.donor r.receiver r.passPages
        let n := r.dirty.length
        let s2 := s1.wr Fld.VT_READMIT_STATUS_DIRTY (min 0xFFFF n)
        if n ≤ s.pageLimit then s2.wr Fld.VT_READMIT_STATUS_PHASE 3
        else
          ({ s2 with vote := { s2.vote with readmit := some { r with passPages := r.dirty, dirty := [] } } } : State).bump
            Fld.VT_READMIT_STATUS_PASS
      else s
    | none => s)

/-- The TRD registers of one lane copied to another (R114). -/
def State.copyTreadle (s : State) (src dst : Lane) : State :=
  let lo (l : Lane) : Nat := laneKey l + 0x20000
  let keep := s.regs.filter (fun e => !(decide (lo dst ≤ e.1 ∧ e.1 < lo dst + 0x10000)))
  let src' := s.regs.filter (fun e => decide (lo src ≤ e.1 ∧ e.1 < lo src + 0x10000))
  let s1 := src'.foldl (fun t e => t.setReg (e.1 - lo src + lo dst) e.2) { s with regs := keep }
  s1.modLn dst (fun n =>
    let d := s.ln src
    { n with tasks := d.tasks, notices := d.notices, curTask := d.curTask, staged := d.staged, work := d.work, pub := d.pub })

/-- A quiet point of the donor (R116): no task running, preempted or released, and HART_0 waiting in WFI. The final pass copies the
donor as it is: the dirty pages, the output image, the Treadle state and HART_0. -/
def State.quietPoint (s : State) : State :=
  match s.vote.readmit with
  | some r =>
    if s.readmitPhase = 3 ∧ r.quiet.isNone ∧ s.quiet r.donor ∧ (s.ln r.donor).h0.gated then
      let ok := s.checkPages r.donor r.dirty
      if !ok.2 then ok.1
      else
      let s1 := ((ok.1.copyPages r.donor r.receiver r.dirty).copyTreadle r.donor r.receiver).modLn r.receiver
        (fun n => { n with h0 := { (s.ln r.donor).h0 with triggers := n.h0.triggers, resetHalt := n.h0.resetHalt } })
      { s1 with vote := { s1.vote with readmit := some { r with quiet := some s.cyc.k, passPages := r.dirty, dirty := [] } } }
    else s
  | none => s

/-- READMIT_REJOIN (R110, R114, R116): at the boundary of cycle j + 1 the receiver's harts are released, HART_0 in the copied state and HART_1
at the service entry point; with PROBATION = 0 the lane votes at once. -/
def execReadmitRejoin (s : State) : Host.Outcome State Fault Refusal :=
  .next (match s.vote.readmit with
    | some r =>
      match r.quiet with
      | some j =>
        if s.readmitPhase = 3 ∧ s.cyc.k = j + 1 then
          let x := r.receiver
          let entry := match (s.ln x).img with
            | some g => s.slotBase g.slot + g.entry1
            | none => 0
          let s1 := ((s.releaseHarts x).wr (Fld.LC_LANE_STATUS_EXEC x) Exec.running).startHart x .h1 entry
          let s2 : State := { s1 with vote := { s1.vote with agree := s1.vote.agree.put x 0, readmit := some { r with quiet := none } } }
          if s.rd Fld.VT_CFG_PROBATION = 0 then (s2.enterVoting x true).endReadmit 1
          else (s2.setMember x Mbr.probation).wr Fld.VT_READMIT_STATUS_PHASE 4
        else s
      | none => s
    | none => s)

/-- READMIT_TIMEOUT (R117): no rejoin within 2 s of START. -/
def execReadmitTimeout (s : State) : Host.Outcome State Fault Refusal :=
  .next (match s.vote.readmit with
    | some r =>
      if r.start + 2 * giga ≤ s.clk.uptime ∧ s.readmitPhase ≠ 4 then s.failReadmit 6 else s
    | none => s)

end Sys2Proof.Machine
end

