-- ==== Sys2Proof/Machine/Duplex.lean ====
section
/-! DEFINITION. Duplex operation (chapter 13): heartbeats, claims and the gate at the FQ8s, roles and takeover, the hot class at the
standby, checkpoints and the cold restore. -/

namespace Sys2Proof.Machine

/-! ### Claims -/

/-- Claim a beats claim b (R335). -/
def beats (a b : Nat) : Bool :=
  (a != 0 && b == 0) || (a != 0 && b != 0 && decide (1 ≤ (a + 65536 - b) % 65536 ∧ (a + 65536 - b) % 65536 ≤ 32767))

/-- Two claims tie (R335). -/
def ties (a b : Nat) : Bool := a != 0 && b != 0 && !beats a b && !beats b a

/-- claim_valid of R337. -/
def claimGate (duplex primary : Bool) (own cls partner : Nat) : Bool :=
  if !duplex then own != 0
  else if cls = 0 then beats own partner || (ties own partner && primary)
  else if cls = 1 then own != 0
  else own != 0 && primary

/-- An FQ8's class of the claim wire and the partner claim it read (R336). -/
def State.wireAt (s : State) (q : Nat) : Nat × Nat := getAt (1, 0) s.dx.wire q

/-- Each FQ8 evaluates its gate (R337, R339); DX.STATUS shows the worst class, and CLAIM_VALID when every FQ8 finds it valid. -/
def State.updateClaims (s : State) : State :=
  let own := s.rd Fld.DX_CLAIM_OWN
  let fq := (List.range 4).map (fun q =>
    let w := s.wireAt q
    { s.fqAt q with claimValid := claimGate (s.flag Fld.DX_CFG_DUPLEX) (s.flag Fld.DX_STATUS_PRIMARY) own w.1 w.2 })
  let worst := (List.range 4).foldl (fun a q => max a (s.wireAt q).1) 0
  (((({ s with fq := fq } : State).wr Fld.DX_STATUS_CLAIM_LINE worst).wrB Fld.DX_STATUS_CLAIM_VALID (fq.all (fun x => x.claimValid))).stagesUpdate).showValid

/-- The unit's own claim changes (R335). -/
def State.setClaim (s : State) (c : Nat) : State := (((s.wr Fld.DX_CLAIM_OWN c).wr Fld.JC_MOD_STATUS_CLAIM c).showRole).updateClaims

/-- P + 1 without 0x0000 (R335). -/
def raiseClaim (p : Nat) : Nat := if (p + 1) % 65536 = 0 then 1 else (p + 1) % 65536

/-- LISTEN becomes ACTIVE with a claim (R341); a unit with a self-fault never raises its claim (R334). -/
def State.activate (s : State) (c : Nat) : State := if s.flag Fld.DX_STATUS_SF then s else (s.setDst DSt.active).setClaim c

/-- An active whose claim is beaten (R340, R350): SYNCING, or DETACHED without a link. -/
def State.demote (s : State) : State := (s.setDst (if s.flag Fld.DX_STATUS_LINK_OK then DSt.syncing else DSt.detached)).setClaim 0

/-- What a unit does when it learns of the partner's claim (R340). -/
def State.seeClaim (s : State) (c : Nat) (primary : Bool) : State :=
  let own := s.rd Fld.DX_CLAIM_OWN
  if s.dst = DSt.active ∧ (beats c own || (ties c own && primary)) = true then s.demote
  else if s.dst = DSt.faulted ∧ beats c own = true then s.setClaim 0
  else s

/-- The word that the unit sends over and over on its claim wire (R336), none while it holds the wire low. -/
def State.claimWord (s : State) : Option (List Byte) :=
  if s.rd Fld.DX_CLAIM_OWN = 0 then none
  else
    let body := leBytes 2 (s.rd Fld.DX_CLAIM_OWN) ++ leBytes 1 (b2n (s.flag Fld.DX_STATUS_PRIMARY) + 2 * b2n (s.flag Fld.DX_STATUS_SF))
    some (0xA5#8 :: body ++ [crc8Run 0x07 0 body])

/-- CLAIM_WORD (R335 to R337, R340). -/
def execClaimWord (q : Fin 4) (claim : BitVec 16) (primary : Bool) (s : State) : Host.Outcome State Fault Refusal :=
  .next (((({ s with dx := { s.dx with wire := setAt s.dx.wire q (0, claim.toNat) } } : State).wr Fld.DX_CLAIM_PARTNER claim.toNat).updateClaims).seeClaim
    claim.toNat primary)

/-- CLAIM_LINE_RELEASED (R336). -/
def execClaimLineReleased (q : Fin 4) (s : State) : Host.Outcome State Fault Refusal :=
  .next (({ s with dx := { s.dx with wire := setAt s.dx.wire q (1, 0) } } : State).updateClaims)

/-- CLAIM_LINE_ABSENT (R336). -/
def execClaimLineAbsent (q : Fin 4) (s : State) : Host.Outcome State Fault Refusal :=
  .next (({ s with dx := { s.dx with wire := setAt s.dx.wire q (2, 0) } } : State).updateClaims)

/-! ### Takeover -/

/-- Whether a word is owned by a hot task (R342). -/
def State.hotWord (s : State) (w : Nat) : Bool :=
  match s.owner w with
  | some t => s.cfg.hot.contains t
  | none => false

/-- What each channel takes at a takeover (R347 step 2, R350): the last voted command in preset mode where it is hot, else safe mode. -/
def State.takeoverHold (s : State) (cold : Bool) (until_ : Nat) : DxHold :=
  let hot (n : Nat) : Bool := !cold && s.dx.lastVoted.isSome && s.hotWord (s.rd (Fld.FIO_CH_n_MAP_WORD n))
  { until_ := until_, modes := (List.range 32).map (fun n => if hot n then 2 else 3)
    presets := (List.range 32).map (fun n => hot n && s.chBit (s.dx.lastVoted.getD []) n) }

/-- The FQ8s apply a takeover's message at once (R347). -/
def State.applyHold (s : State) (h : DxHold) : State :=
  (List.range 32).foldl (fun t n =>
    let x := t.fqAt (n / 8)
    if t.isOutput n && !x.lost then
      { t with fq := setAt t.fq (n / 8) { x with cmd := setAt x.cmd (n % 8) (if getAt 3 h.modes n = 2 then getAt false h.presets n else t.safeBit n) } }
    else t) s

/-- The published images take the active's last voted value of every word that no hot task owns (R347 step 4). -/
def State.loadPublished (s : State) : State :=
  match s.dx.lastVoted with
  | some v =>
    let ws := (List.range (s.cfg.sOut / 4)).filter (fun w => !s.hotWord w)
    lanes.foldl (fun t l => t.modLn l (fun n => { n with pub := ws.foldl (fun m w => m.putWord (4 * w) (v.word (4 * w))) n.pub })) s
  | none => s

/-- The sending connections go on from the last received SEQ (R349): the next message, of cycle `k`, carries S + (k − k_s). -/
def State.resumeSeqs (s : State) (k : Nat) : State :=
  match s.dx.lastSeqs with
  | some (ks, l) => l.foldl (fun t x => t.putConn x.1 { t.conn x.1 with seq := (x.2 + (k - ks) + (2 ^ 32 - 1)) % 2 ^ 32, any := true }) s
  | none => s

/-- The first image that the unit votes as active (R347 step 3, R349): its messages go on from the last received SEQ, and pair entries are
written from 4 jc later. -/
def State.firstVoted (s : State) : State :=
  match s.dx.pairWait with
  | some k0 =>
    if k0 ≤ s.cyc.k then
      let s1 := s.resumeSeqs s.cyc.k
      { s1 with dx := { s1.dx with pairWait := none, pairAt := s.clk.uptime + 16 } }
    else s
  | none => s

/-- The checkpoint regions as lane addresses (R352). -/
def State.ckRegions (s : State) : List (Nat × Nat) :=
  (List.range 8).map (fun n => (65536 * s.rd (Fld.DX_CKPT_n_BASE_BASE n), 65536 * s.rd (Fld.DX_CKPT_n_SIZE_SIZE n)))

/-- The CRC-32C over a checkpoint copy's header and content (R148, R346): save sequence and CYCLE, filled with zeros to 60 bytes, the regions
and the tables (DESIGN CHOICE, log 88). -/
def State.ckCheck (s : State) (c : Ckpt) : Word :=
  crc32c (leBytes 4 c.seq ++ leBytes 4 c.cycle ++ List.replicate 52 0 ++ (s.ckRegions.map (fun r => c.mem.bytes r.1 r.2)).flatten ++
    (c.tables.map (fun e => leBytes 4 e.1 ++ leBytes 4 e.2.toNat)).flatten)

/-- The checkpoint copy of a restore (R348): the higher save sequence among those whose check passes. -/
def State.bestCkpt (s : State) : Option Ckpt :=
  let ok (c : Ckpt) : Bool := c.valid && c.crc == s.ckCheck c
  match ok s.dx.ckA, ok s.dx.ckB with
  | true, true => some (if s.dx.ckA.seq < s.dx.ckB.seq then s.dx.ckB else s.dx.ckA)
  | true, false => some s.dx.ckA
  | false, true => some s.dx.ckB
  | false, false => none

/-- HART_1 of the lanes starts at the image's service entry point (R348). -/
def State.startService (s : State) : State :=
  lanes.foldl (fun t l => match (t.ln l).img with
    | some g => t.startHart l .h1 (t.slotBase g.slot + g.entry1)
    | none => t) s

/-- A takeover (R335, R347 to R350). -/
def State.takeOver (s : State) (reason : Nat) : State :=
  let cold := s.dst != DSt.ready
  let k := s.cyc.k
  let ownK := if s.cyc.inDone then k + 1 else k
  let voteK := if s.cyc.comDone then k + 1 else k
  let h := s.takeoverHold cold ownK
  let gap := match s.dx.lastUsed with
    | some u => min 0xFFFF (ownK - 1 - u)
    | none => 0
  let init := s.bestCkpt.isNone
  let s1 := (s.applyHold h).loadPublished
  let s2 : State := { s1 with dx := { s1.dx with hold := some h, tookAt := some s.clk.uptime, pairWait := some voteK, restoring := !init } }
  let s3 := (((((s2.bump Fld.DX_COUNT_TAKEOVERS).wr Fld.DX_TAKEOVER_REASON reason).wrB Fld.DX_TAKEOVER_COLD cold).wrB
    Fld.DX_TAKEOVER_COLD_INIT init).wr Fld.DX_TAKEOVER_GAP gap).weltEvent 0xE 0x90 (reason + 256 * (b2n cold + 2 * b2n init) + 65536 * gap)
  let s4 := if init then s3.startService else s3
  (s4.setDst DSt.active).setClaim (raiseClaim (s.rd Fld.DX_CLAIM_PARTNER))

/-- A declaration of partner failure or its like (R332, R334, R340): from READY, SYNCING or DETACHED, by a unit without a self-fault. -/
def State.declare (s : State) (reason : Nat) : State :=
  if (s.dst == DSt.ready || s.dst == DSt.syncing || s.dst == DSt.detached) && !s.flag Fld.DX_STATUS_SF then s.takeOver reason else s

/-! ### Heartbeats -/

/-- HEARTBEAT_SEND (R330): at each whole multiple of 50 µs of network time, from seal on, not in sleep (R482). -/
def execHeartbeatSend (s : State) : Host.Outcome State Fault Refusal :=
  let n := s.clk.net / 50000
  .next (if s.isSealed && s.dx.hbN != n && !s.ej2Down && !s.asleep then
      ({ s with dx := { s.dx with hbN := n } } : State).sendHeartbeat else s)

/-- The role is decided in LISTEN, once permits are released (R341). -/
def State.decideRole (s : State) (pst claim : Nat) : State :=
  if !s.flag Fld.JC_MOD_STATUS_PERMITS then s
  else if pst = DSt.active ∨ pst = DSt.faulted then s.setDst DSt.syncing
  else if pst = DSt.listen then (if s.flag Fld.DX_STATUS_PRIMARY then s.activate 1 else s)
  else if pst = DSt.single then s
  else s.activate (raiseClaim claim)

/-- What a valid heartbeat means for the state (R328, R332, R340, R341, R351); a self-fault report in the jc of a takeover governs its REASON
(R350). -/
def State.actOn (s : State) (h : Heartbeat) (compat onRing : Bool) : State :=
  let st := s.dst
  let standby := st == DSt.syncing || st == DSt.ready || st == DSt.detached
  if !compat && (st == DSt.listen || standby) then (s.setDst DSt.incompatible).setClaim 0
  else
    let s1 := if st = DSt.detached ∧ onRing = false then s.setDst DSt.syncing else s
    if st = DSt.listen then s1.decideRole h.state h.claim
    else if standby then
      if bitOf h.flags 0 then s1.declare 2 else if bitOf h.flags 3 && !onRing then s1.declare 3 else s1
    else if st = DSt.active ∧ s.dx.tookAt = some s.clk.uptime ∧ bitOf h.flags 0 = true then s1.wr Fld.DX_TAKEOVER_REASON 2
    else s1.seeClaim h.claim (bitOf h.flags 1)

/-- For 8 cycles from k_a a difference of IMAGE_ID counts for nothing (R478). -/
def State.activating (s : State) : Bool :=
  match s.st.lastKa with
  | some k => decide (k ≤ s.cyc.k ∧ s.cyc.k < k + 8)
  | none => false

/-- HEARTBEAT_RECEIVED (R328, R332 to R334, R340, R341). Link heartbeats are due every 50 µs from the last one on, or from the first slot seen
on the ring where none came. -/
def execHeartbeatReceived (onRing : Bool) (h : Heartbeat) (s : State) : Host.Outcome State Fault Refusal :=
  .next (if h.checkOk && s.isSealed && s.flag Fld.DX_CFG_DUPLEX && !s.asleep then
      let d := s.dx
      let ahead := match d.linkSeq with
        | some q => decide (1 ≤ (h.seq + 2 ^ 32 - q) % 2 ^ 32 ∧ (h.seq + 2 ^ 32 - q) % 2 ^ 32 < 2 ^ 31)
        | none => true
      let s1 := (((s.wr Fld.DX_CLAIM_PARTNER h.claim).wr Fld.DX_PARTNER_STATE h.state).wrB Fld.DX_PARTNER_PRIMARY (bitOf h.flags 1)).wrB
        Fld.DX_PARTNER_SF (bitOf h.flags 0)
      if onRing then
        let d1 := { d with seen := true, dueAt := some (d.dueAt.getD (s.clk.uptime + 50000)) }
        let s2 := if ahead then
            ({ s1 with dx := { d1 with lifeSince := true, lifeAt := some s.clk.uptime } } : State).set1 Fld.DX_STATUS_RING_LIFE
          else { s1 with dx := d1 }
        s2.actOn h true true
      else
        let compat := (h.image == s.imageId || s.activating) && h.digest == s.cfg.pairDigest
        let s2 : State := { s1 with dx := { d with
          seen := true, linkSeq := some h.seq, lifeSince := false, missRun := 0, dueAt := some (s.clk.uptime + 50000) } }
        ((((s2.pulse 11).set1 Fld.DX_STATUS_LINK_OK).wr Fld.DX_PARTNER_SF_CAUSE h.sfCause).wrB Fld.DX_PARTNER_COMPAT compat).actOn h compat false
    else s)

/-- HEARTBEAT_MISSED (R332): the fourth miss in a row, or a later one, is a partner failure, or DETACHED where the ring has shown life. -/
def execHeartbeatMissed (s : State) : Host.Outcome State Fault Refusal :=
  .next (match s.dx.dueAt with
    | some t =>
      if t + 2000 ≤ s.clk.uptime ∧ s.asleep = false then
        let n := s.dx.missRun + 1
        let s1 := (({ s with dx := { s.dx with missRun := n, dueAt := some (t + 50000) } } : State).wr Fld.DX_STATUS_LINK_OK 0).bump
          Fld.DX_PARTNER_MISSES
        if 4 ≤ n ∧ (s.dst = DSt.ready ∨ s.dst = DSt.syncing) then
          (if s.dx.lifeSince then s1.setDst DSt.detached else s1.declare 1)
        else s1
      else s
    | none => s)

/-- RING_LIFE_TIMEOUT (R332): no slot showing life for 2 × T + 2 µs. -/
def execRingLifeTimeout (s : State) : Host.Outcome State Fault Refusal :=
  .next (match s.dx.lifeAt with
    | some t =>
      if t + 2 * s.tCycle + 2000 ≤ s.clk.uptime ∧ s.asleep = false then
        let s1 := ({ s with dx := { s.dx with lifeAt := none } } : State).wr Fld.DX_STATUS_RING_LIFE 0
        if s.dst = DSt.detached then s1.declare 4 else s1
      else s
    | none => s)

/-- LISTEN_TIMEOUT (R341): no valid heartbeat for 20 ms after permit release makes the primary active. -/
def execListenTimeout (s : State) : Host.Outcome State Fault Refusal :=
  .next (match s.dx.listenAt with
    | some t =>
      if s.dst = DSt.listen ∧ s.dx.seen = false ∧ t + 20000000 ≤ s.clk.uptime ∧ s.flag Fld.DX_STATUS_PRIMARY = true then s.activate 1 else s
    | none => s)

/-- SECONDARY_WAIT_END (R341): 10 ms later the secondary becomes active. -/
def execSecondaryWaitEnd (s : State) : Host.Outcome State Fault Refusal :=
  .next (match s.dx.listenAt with
    | some t => if s.dst = DSt.listen ∧ s.dx.seen = false ∧ t + 30000000 ≤ s.clk.uptime then s.activate 1 else s
    | none => s)

/-- PLANE_LINK_SILENT (R319, R334): the plane is found silent or in SAFE; a self-fault of cause 0x02. -/
def execPlaneLinkSilent (s : State) : Host.Outcome State Fault Refusal :=
  .next (if s.planeLost then s.planeTold.selfFault 2 else s)

/-! ### The active's stream -/

/-- The active streams the input image of the cycle (R329). -/
def State.streamIn (s : State) (m : Mem) : State :=
  if s.dst = DSt.active then { s with dx := { s.dx with imgTx := some (s.cyc.k, m) } } else s

/-- The active streams the voted image with the SEQ of every enabled sending connection (R329). -/
def State.streamVoted (s : State) : State :=
  if s.dst = DSt.active then
    let sends := (List.range 1024).filter (fun n => s.flag (Fld.SX_CONN_n_CFG_EN n) && s.flag (Fld.SX_CONN_n_CFG_DIR n))
    { s with dx := { s.dx with votedTx := some (s.cyc.k, s.vote.out, sends.map (fun n => (n, (s.conn n).seq))) } }
  else s

/-! ### The standby -/

/-- Whether the unit follows the active's images (R342). -/
def State.follows (s : State) : Bool := s.dst == DSt.syncing || s.dst == DSt.ready

/-- PARTNER_IMAGE (R329, R342): an image that arrives incomplete or fails its check is no image. -/
def execPartnerImage (voted : Bool) (k : Nat) (ok : Bool) (img : List (Nat × Byte)) (seqs : List (Nat × Nat)) (s : State) :
    Host.Outcome State Fault Refusal :=
  .next (if ok && s.follows then
      let m : Mem := img.foldl (fun m c => m.wb c.1 c.2) []
      if voted then
        { s with dx := { s.dx with outImgs := setN (s.dx.outImgs.filter (fun x => decide (k ≤ x.1 + 4))) k m, lastVoted := some m
                                   lastSeqs := some (k, seqs) } }
      else { s with dx := { s.dx with inImgs := setN (s.dx.inImgs.filter (fun x => decide (k ≤ x.1 + 4))) k m } }
    else s)

/-- The hot comparison at t_vr (R342, R343): hot-owned words against the active's voted image of the cycle before. -/
def State.compareHot (s : State) : State :=
  if s.follows then
    match lookupN s.dx.outImgs (s.cyc.k - 1) with
    | some v =>
      let differ := (List.range (s.cfg.sOut / 4)).any (fun w => s.hotWord w && v.word (4 * w) != s.vote.out.word (4 * w))
      if differ then
        let s1 := ((s.bump Fld.DX_SYNC_STATUS_MISMATCH).bump Fld.DX_SYNC_STATUS_RUN).wr Fld.DX_SYNC_STATUS_AGREE 0
        if s.dst = DSt.ready ∧ s1.rd Fld.DX_CFG_MISMATCH_MAX ≤ s1.rd Fld.DX_SYNC_STATUS_RUN then s1.setDst DSt.syncing else s1
      else
        let s1 := s.wr Fld.DX_SYNC_STATUS_RUN 0
        if s.rd Fld.DX_SYNC_STATUS_PHASE = 3 then
          let n := min 8 (s.rd Fld.DX_SYNC_STATUS_AGREE + 1)
          let s2 := s1.wr Fld.DX_SYNC_STATUS_AGREE n
          if s.dst = DSt.syncing ∧ n = 8 then s2.setDst DSt.ready else s2
        else s1
    | none => s
  else s

/-- HOT_TRANSFER_PASS_END (R345): what the pass copied is kept; after the final pass it is applied at the next cycle boundary. -/
def execHotTransferPassEnd (final last : Bool) (mem : List (Nat × Byte)) (trd : List (Nat × Word)) (s : State) :
    Host.Outcome State Fault Refusal :=
  let ph := s.rd Fld.DX_SYNC_STATUS_PHASE
  .next (if s.dst = DSt.syncing ∧ (ph = 1 ∨ ph = 2) then
      let m : Mem := mem.foldl (fun m c => Store.insert m c.1 c.2) s.dx.xferMem
      let s1 : State := { s with dx := { s.dx with xferMem := m, xferTrd := trd ++ s.dx.xferTrd } }
      if final then { s1 with dx := { s1.dx with xferApply := true } }
      else s1.wr Fld.DX_SYNC_STATUS_PHASE (if last then 2 else 1)
    else s)

/-- The final copy is applied at the cycle boundary (R345): the voted-state regions and the hot tasks' Treadle registers of every lane. -/
def State.applyTransfer (s : State) : State :=
  if s.dx.xferApply then
    let s1 := lanes.foldl (fun t l =>
      let t1 := t.dx.xferMem.foldl (fun u c => if u.inVoted c.1 then u.laneCopy l c.1 [c.2] else u) t
      t.dx.xferTrd.foldl (fun u c => if c.1 < 0x10000 then u.setReg (laneKey l + 0x20000 + c.1) c.2 else u) t1) s
    ({ s1 with dx := { s1.dx with xferApply := false, xferMem := [], xferTrd := [], xferAt := none } } : State).wr Fld.DX_SYNC_STATUS_PHASE 3
  else s

/-- HOT_TRANSFER_TIMEOUT (R345): a transfer not finished within 10 s restarts. -/
def execHotTransferTimeout (s : State) : Host.Outcome State Fault Refusal :=
  .next (match s.dx.xferAt with
    | some t => if s.dst = DSt.syncing ∧ t + 10 * giga ≤ s.clk.uptime then s.startTransfer else s
    | none => s)

/-! ### Checkpoints -/

/-- The Gusset tables of a checkpoint (R402): every window's SEQ and HALTED under the register's key, the working bank from key 0x4000_0000
on by word, the expected SEQ values from key 0x5000_0000 on. -/
def State.gussetTables (s : State) : List (Nat × Word) :=
  (List.range 16).map (fun n => (Reg.GB_WIN_n_STAT n, s.reg (Reg.GB_WIN_n_STAT n))) ++ [(Reg.GB_STATUS, s.reg Reg.GB_STATUS)] ++
    ((List.range 4096).filter (fun w => s.gus.work.word (4 * w) != 0)).map (fun w => (0x40000000 + w, s.gus.work.word (4 * w))) ++
    s.gus.exp.map (fun e => (0x50000000 + e.1, BitVec.ofNat 32 e.2))

/-- The junction's tables that a checkpoint holds (R346): the Gusset tables and the sink settings of WL. -/
def State.junctionTables (s : State) : List (Nat × Word) :=
  s.gussetTables ++ s.regs.filter (fun e => e.1 / 0x10000 == 0xD
    && (match regAt e.1 with
        | some d => d.fields.any (fun f => f.acc == .rw || f.acc == .rws)
        | none => false))

/-- One item of the junction's tables is restored (R348, R402). -/
def State.putTable (s : State) (k : Nat) (w : Word) : State :=
  if 0x50000000 ≤ k then { s with gus := { s.gus with exp := setN s.gus.exp (k - 0x50000000) (w.toNat % 65536) } }
  else if 0x40000000 ≤ k then { s with gus := { s.gus with work := s.gus.work.putWord (4 * (k - 0x40000000)) w } }
  else if k = Reg.GB_STATUS then s.wr Fld.GB_STATUS_HALTED (wbits w Fld.GB_STATUS_HALTED)
  else if k / 0x10000 = 7 then s.wr ⟨k, 15, 0⟩ (w.toNat % 65536)
  else s.setReg k w

/-- What a lane holds in the checkpoint regions. -/
def State.ckMem (s : State) (l : Lane) : Mem :=
  s.ckRegions.foldl (fun m r => (Mem.copyRange m (s.ln l).ddr r.1 (r.1 + r.2)).copyRange (s.ln l).scratch
    (max r.1 0x08000000) (min (r.1 + r.2) 0x08100000)) []

/-- A checkpoint is taken from the service master and streamed to the standby (R346). -/
def State.takeCkpt (s : State) : State :=
  match s.svcMaster with
  | some l =>
    let c : Ckpt := { valid := true, seq := 0, cycle := s.rd (Fld.TRD_CYCLE_CYCLE l), crc := 0, mem := s.ckMem l, tables := s.junctionTables }
    { s with dx := { s.dx with ckDefer := none, ckForce := false, ckOut := some c, ckAt := some s.clk.uptime } }
  | none => s

/-- A due checkpoint at a commit instant (R149, R346): once CKPT_DEFER is 0 or the wait ended, by a QUIET service master, and never while a
readmission is in FINAL. -/
def State.checkpointAtCommit (s : State) : State :=
  if s.dx.ckDefer.isSome && s.dst == DSt.active && (!s.flag Fld.DX_CTRL_CKPT_DEFER || s.dx.ckForce) && s.rd Fld.VT_READMIT_STATUS_PHASE != 3 &&
      s.svcMaster.any (fun l => s.quiet l) then s.takeCkpt
  else s

/-- CHECKPOINT_DUE (R346): every 100 ms at the active; the capture follows at a commit instant. -/
def execCheckpointDue (s : State) : Host.Outcome State Fault Refusal :=
  let n := s.clk.uptime / 100000000
  .next (if s.dst = DSt.active ∧ s.dx.ckN < n ∧ s.ej2Down = false then
      { s with dx := { s.dx with ckN := n, ckDefer := some s.clk.uptime, ckForce := false } }
    else s)

/-- CHECKPOINT_DEFER_END (R346): a capture that has waited 20 ms heeds CKPT_DEFER no more. -/
def execCheckpointDeferEnd (s : State) : Host.Outcome State Fault Refusal :=
  .next (match s.dx.ckDefer with
    | some t => if s.dst = DSt.active ∧ t + 20000000 ≤ s.clk.uptime then { s with dx := { s.dx with ckForce := true } } else s
    | none => s)

/-- CHECKPOINT_RECEIVED (R346): the standby writes copy A or copy B, alternately. -/
def execCheckpointReceived (ok : Bool) (cycle : Nat) (mem : List (Nat × Byte)) (tables : List (Nat × Word)) (s : State) :
    Host.Outcome State Fault Refusal :=
  .next (if s.follows then
      let d := s.dx
      let c0 : Ckpt := { valid := ok, seq := max d.ckA.seq d.ckB.seq + 1, cycle := cycle, crc := 0, mem := mem.foldl (fun m c => m.wb c.1 c.2) []
                         tables := tables }
      let c := { c0 with crc := s.ckCheck c0 }
      let toB := !s.flag Fld.DX_CKPT_STATUS_COPY
      let s1 : State := { s with dx := if toB then { d with ckB := c, ckAt := some s.clk.uptime } else { d with ckA := c, ckAt := some s.clk.uptime } }
      (s1.wrB Fld.DX_CKPT_STATUS_COPY toB).wrB Fld.DX_CKPT_STATUS_VALID s1.bestCkpt.isSome
    else s)

/-- COLD_RESTORE_DONE (R348): the checkpoint is in the service master lane, the tables are back, HART_1 starts and RESTORED is set. -/
def execColdRestoreDone (s : State) : Host.Outcome State Fault Refusal :=
  .next (if s.dx.restoring then
      let s0 : State := { s with dx := { s.dx with restoring := false } }
      match s.bestCkpt with
      | some c =>
        let s1 := match s.svcMaster with
          | some l => c.mem.foldl (fun (t : State) e => t.laneCopy l e.1 [e.2]) s0
          | none => s0
        let s2 := c.tables.foldl (fun (t : State) e => t.putTable e.1 e.2) s1
        (s2.startService).set1 Fld.DX_CKPT_STATUS_RESTORED
      | none => s0.startService
    else s)

/-- AGE_MS of DX.CKPT_STATUS at a read (R352). -/
def State.ckAge (s : State) : Nat :=
  match s.dx.ckAt with
  | some t => min 0xFFFF ((s.clk.uptime - t) / 1000000)
  | none => 0xFFFF

/-! ### Commands -/

/-- The effect of a write of DX.CTRL (R340, R351). -/
def State.dxCtrl (s : State) (w : Word) : State :=
  let s1 := if wbits w Fld.DX_CTRL_DRILL = 1 then
      if s.dst = DSt.active ∧ s.rd Fld.DX_PARTNER_STATE = DSt.ready then { s with dx := { s.dx with drill := true } }
      else s.set1 Fld.DX_STATUS_DRILL_REFUSED
    else s
  if wbits w Fld.DX_CTRL_RESYNC = 1 ∧ (s1.dst = DSt.ready ∨ s1.dst = DSt.detached) then s1.setDst DSt.syncing else s1

/-- DRILL (R351). -/
def execDrill (i : Initiator) (w : Word) (s : State) : Host.Outcome State Fault Refusal :=
  .next (s.regCmd i Reg.DX_CTRL w (fun t => t.dxCtrl (w ||| 0x80000000)))

/-- RESYNC (R340). -/
def execResync (i : Initiator) (w : Word) (s : State) : Host.Outcome State Fault Refusal :=
  .next (s.regCmd i Reg.DX_CTRL w (fun t => t.dxCtrl (w ||| 0x40000000)))

end Sys2Proof.Machine
end

