-- ==== Sys2Proof/Machine/Seal.lean ====
section
/-! DEFINITION. The checks of configuration seal (chapter 19): each is a test on the registers and tables that the plug filled, with the
unit and offset that UPD.LAST_DETAIL names (R510). -/

namespace Sys2Proof.Machine

/-- A check: whether it fails, and the SOURCE and OFFSET of R510. -/
structure SealCheck where
  bad : Bool
  source : Nat
  offset : Nat
  deriving DecidableEq, Repr

/-- A check of a register's value. -/
def checkReg (k : Nat) (bad : Bool) : SealCheck := { bad := bad, source := sourceOf k, offset := k % 0x10000 }

/-- A check of a value that no register holds (R510). -/
def checkVal (source : Nat) (bad : Bool) : SealCheck := { bad := bad, source := source, offset := 0xFFFF }

/-- One check for each number below `n`. -/
def checksOf (n : Nat) (f : Nat → SealCheck) : List SealCheck := (List.range n).map f

/-! ### Sections of the input image -/

/-- The P bytes or s_i bytes that a read entry places (R138). -/
def State.entBytes (s : State) (e : Word × Word × Word) : Nat := if entSafe e then s.connP (entConn e) else entLen e

/-- A section: the register that places it, its offset and its length. -/
abbrev Sect := Nat × Nat × Nat

/-- A section placed by a 4-byte offset register; 0, which lies in the status section, places none. -/
def sectAt (k ofs4 len : Nat) : List Sect := if ofs4 = 0 then [] else [(k, 4 * ofs4, len)]

/-- The sections that the plug places in the input image (R137). -/
def State.sections (s : State) : List Sect :=
  ((List.range 256).flatMap (fun n =>
    let e := s.entry n
    if entEn e && !entWrite e then [(Reg.SX_SLOT_n_C n, entImg e, s.entBytes e)] else [])) ++
  sectAt Reg.FIO_IN_BASE (s.rd Fld.FIO_IN_BASE_OFS4) 96 ++ sectAt Reg.MC_IN_BASE (s.rd Fld.MC_IN_BASE_OFS4) 320 ++
  (if s.rd Fld.GB_IN_SECT_SIZE4 = 0 then [] else sectAt Reg.GB_IN_SECT (s.rd Fld.GB_IN_SECT_OFS4) (4 * s.rd Fld.GB_IN_SECT_SIZE4)) ++
  sectAt Reg.ETH_IN_BASE (s.rd Fld.ETH_IN_BASE_OFS4) 32 ++
  ((List.range 256).flatMap (fun n =>
    if s.flag (Fld.ETH_PD_n_A_EN n) && !s.flag (Fld.ETH_PD_n_A_DIR n) && s.rd (Fld.ETH_PD_n_A_SEL n) == 0 then
      [(Reg.ETH_PD_n_B n, 4 * s.rd (Fld.ETH_PD_n_B_IMG4_CONN n), 4 * s.rd (Fld.ETH_PD_n_A_LEN4 n))] else [])) ++
  sectAt Reg.MVB_IN_BASE (s.rd Fld.MVB_IN_BASE_OFS4) s.mvbSection.length ++
  ((List.range 1024).flatMap (fun n =>
    if s.flag (Fld.MVB_PORT_n_CFG_EN n) && !s.flag (Fld.MVB_PORT_n_CFG_DIR n) && !s.flag (Fld.MVB_PORT_n_CFG_GUSSET n) then
      [(Reg.MVB_PORT_n_CFG n, 4 * s.rd (Fld.MVB_PORT_n_CFG_IMG4 n), fcodeLen (s.rd (Fld.MVB_PORT_n_CFG_FCODE n)))] else [])) ++
  sectAt Reg.CAN_IN_BASE (s.rd Fld.CAN_IN_BASE_OFS4) 32 ++
  ((List.range 256).flatMap (fun n =>
    let c := n / 64
    let m := n % 64
    if s.rd (Fld.CAN_CTL_c_MB_m_CTRL_KIND c m) = 3 ∧ !s.flag (Fld.CAN_CTL_c_MB_m_CTRL_SOFT c m) ∧ !s.flag (Fld.CAN_CTL_c_MB_m_CTRL_GUSSET c m) then
      [(Reg.CAN_CTL_c_MB_m_CTRL c m, 4 * s.rd (Fld.CAN_CTL_c_MB_m_CTRL_IMG4 c m), 64)] else [])) ++
  sectAt Reg.AX_IN_BASE (s.rd Fld.AX_IN_BASE_OFS4) 32

/-- Whether two byte ranges overlap. -/
def overlaps (a la b lb : Nat) : Bool := decide (a < b + lb) && decide (b < a + la) && la != 0 && lb != 0

/-- The sections of a unit: each from 0x0040 to S_in − 1, none overlapping one placed before it (R137). -/
def State.sectChecks (s : State) (source : Nat) : List SealCheck :=
  let all := s.sections
  let rec go : List Sect → List Sect → List SealCheck
    | [], _ => []
    | x :: xs, seen =>
      (if sourceOf x.1 = source then
        [checkReg x.1 (decide (x.2.1 < 0x40 ∨ s.cfg.sIn < x.2.1 + x.2.2) || seen.any (fun y => overlaps x.2.1 x.2.2 y.2.1 y.2.2))]
       else []) ++ go xs (x :: seen)
  go all []

/-! ### Memory ranges in pages -/

/-- Whether pages `lo` to `lo + n − 1` lie in lane DDR4. -/
def pagesInDdr (lo n : Nat) : Bool := decide (0x80000 ≤ lo ∧ lo + n ≤ 0x180000)

/-- Whether pages lie in lane scratch. -/
def pagesInScratch (lo n : Nat) : Bool := decide (0x8000 ≤ lo ∧ lo + n ≤ 0x8100)

/-- The voted-state regions in pages (R119). -/
def State.vsPages (s : State) : List (Nat × Nat) :=
  (List.range 16).map (fun n => (16 * s.rd (Fld.VT_VS_n_BASE_BASE n), 16 * s.rd (Fld.VT_VS_n_SIZE_SIZE n)))

/-- The image slots in pages (R485). -/
def State.slotPages (s : State) : List (Nat × Nat) :=
  [(s.rd Fld.UPD_SLOT_A_PAGES, s.rd Fld.UPD_SLOT_SIZE_PAGES), (s.rd Fld.UPD_SLOT_B_PAGES, s.rd Fld.UPD_SLOT_SIZE_PAGES)]

/-- The spare pool in pages (R168). -/
def State.sparePages (s : State) : Nat × Nat := (s.poolPage (.lane .A), 128)

/-- The lane window in pages (R407). -/
def State.lwPages (s : State) : Nat × Nat := (s.rd Fld.SH_LW_BASE_PAGES, s.rd Fld.SH_LW_SIZE_PAGES)

/-- Whether two page ranges overlap. -/
def pagesMeet (a b : Nat × Nat) : Bool := overlaps a.1 a.2 b.1 b.2

/-! ### The checks unit by unit -/

/-- SX and SY (R137, R138, R231, R233, R237, R249, R265 to R268). -/
def State.ringChecks (s : State) : List SealCheck :=
  let conn (n : Nat) : List SealCheck :=
    let en := s.flag (Fld.SX_CONN_n_CFG_EN n)
    let rcv := en && !s.flag (Fld.SX_CONN_n_CFG_DIR n)
    let ring := !s.flag (Fld.SX_CONN_n_CFG_MEDIUM n)
    let id := s.reg (Reg.SX_CONN_n_ID n)
    let age := 1000 * s.rd (Fld.SX_CONN_n_AGE_MAX_AGE n)
    if !en then []
    else
      [checkReg (Reg.SX_CONN_n_ID n) (id == 0 || id == 0xFFFFFFFF || (!rcv && (List.range n).any (fun m =>
          s.flag (Fld.SX_CONN_n_CFG_EN m) && s.flag (Fld.SX_CONN_n_CFG_DIR m) && s.reg (Reg.SX_CONN_n_ID m) == id))),
       checkReg (Reg.SX_CONN_n_CFG n) ((ring && s.flag (Fld.SX_CONN_n_CFG_MAC n)) || decide (s.connP n < 4 ∨ 1012 < s.connP n)
          || s.rd (Fld.SX_CONN_n_CFG_REVIVE n) == 0 || s.rd (Fld.SX_CONN_n_CFG_SEQ_WIN n) == 0
          || (rcv && ring && decide (s.rd (Fld.SX_CONN_n_CFG_SEQ_WIN n) < ceilDiv age s.tCycle + 1))),
       checkReg (Reg.SX_CONN_n_AGE n) (decide (age = 0 ∨ 1000000000 < age)
          || (rcv && ring && (decide (age ≤ s.tCycle) || decide (s.rd (Fld.SX_CONN_n_AGE_FUT_TOL n) < 2))))]
  let slot (n : Nat) : SealCheck :=
    let e := s.entry n
    let c := entConn e
    checkReg (Reg.SX_SLOT_n_C n) (entEn e && ((entSafe e && (!s.flag (Fld.SX_CONN_n_CFG_EN c) || s.flag (Fld.SX_CONN_n_CFG_DIR c) != entWrite e
      || s.flag (Fld.SX_CONN_n_CFG_MEDIUM c) || s.connP c + 12 != entLen e))
      || (entWrite e && decide (entSource e ≤ 1) && decide (s.cfg.sOut < entImg e + s.entBytes e))))
  let station (x : StationCfg) : SealCheck :=
    let es := (List.range 256).filter (fun n => entEn (s.entry n) && !entWrite (s.entry n) && entStation (s.entry n) == x.id)
    checkVal 2 ((x.subst != [] && x.subst.length != sumN (es.map (fun n => s.entBytes (s.entry n)))) || decide (255 < x.hold)
      || x.revive == 0 || decide (15 < x.revive))
  let inaug (r : Ring) : SealCheck :=
    checkReg (Reg.SX_CS_CFG r) (s.ringEn r && (decide (s.rd (Fld.SX_CS_CFG_LOSS_CYCLES r) < 2) || decide (4 < s.rd (Fld.SX_CS_CFG_RANK r))))
  [checkReg (Reg.SX_CFG .X) (let a := s.rd (Fld.SX_CFG_ADDR .X); a == 0 || a == 255 || s.rd (Fld.SX_CFG_T_UNITS .X) == 0
      || decide (800 < s.rd (Fld.SX_CFG_T_UNITS .X)) || (s.flag (Fld.SX_CFG_LOOP .X) && s.cfg.scheds.any (fun p => p.order != []))),
   checkReg (Reg.SX_CS_CFG .X) (!s.ringEn .X), inaug .X, checkReg (Reg.SX_CFG .Y) (s.flag (Fld.SX_CFG_LOOP .Y)), inaug .Y] ++
  s.cfg.stations.map station ++ [checkVal 2 (decide (128 < s.cfg.stations.length)),
    checkVal 2 (s.cfg.direct.any (fun d => let e := s.entry d.entry
      !s.isOutput d.ch || !entEn e || entWrite e || !entDirect e || decide (8 * entLen e ≤ d.bit)))] ++
  s.sectChecks 2 ++ checksOf 256 (fun n => checkReg (Reg.SX_SLOT_n_A n) (entEn (s.entry n) && !entWrite (s.entry n) && entSource (s.entry n) != 0)) ++
  checksOf 256 slot ++ (List.range 1024).flatMap conn

/-- VT (R32, R120, R137, R149). -/
def State.voteChecks (s : State) : List SealCheck :=
  let size (n : Nat) : Bool := n % 64 == 0 && decide (64 ≤ n ∧ n ≤ 65536)
  let vs := s.vsPages
  let region (n : Nat) : SealCheck :=
    let x := getAt (0, 0) vs n
    checkReg (Reg.VT_VS_n_BASE n) (x.2 != 0 && (!(pagesInDdr x.1 x.2 || pagesInScratch x.1 x.2)
      || (List.range n).any (fun m => pagesMeet x (getAt (0, 0) vs m))))
  [checkVal 4 (!(size s.cfg.sIn && size s.cfg.sOut)),
   checkVal 4 (s.cfg.safety.any (fun w => decide (s.cfg.sOut ≤ 4 * w)) || s.cfg.safeImg.any (fun x => decide (s.cfg.sOut ≤ x.1))),
   checkReg Reg.VT_CFG (decide (4 < s.safeHold) || s.rd Fld.VT_CFG_SVC_LIMIT == 0 || decide (8 < s.rd Fld.VT_CFG_PROBATION))] ++
  checksOf 16 region ++
  [checkReg (Reg.VT_VS_n_SIZE 0) (decide (16384 < sumN (vs.map (·.2)))),
   checkVal 4 (decide (s.tCycle / 4 + s.tRel < ceilDiv s.cfg.retSize 8 + 6 + s.tCom + 64))]

/-- Whether the plane claims the terminal of a channel that is no input (R284). -/
def State.planeConflict (s : State) (n : Nat) : Bool := planeOwns s.cfg.planeTable n && !s.isInput n

/-- FIO (R137, R278, R279, R284, R289, R303). -/
def State.fieldChecks (s : State) : List SealCheck :=
  let cal (k : Nat) : SealCheck := checkReg k (!calOk (s.reg k) 31130 34406 50)
  checksOf 32 (fun n => checkReg (Reg.FIO_CH_n_CFG n) (s.planeConflict n)) ++
  checksOf 32 (fun n => checkReg (Reg.FIO_CH_n_CFG n) (s.rd (Fld.FIO_CH_n_CFG_DIR n) == 3 ||
    (s.isOutput n && ((s.cfg.safety.contains (s.chWord n) && !s.flag (Fld.FIO_CH_n_CFG_PERMIT_REQ n))
      || (decide (24 ≤ n) && s.rd (Fld.FIO_GRP_m_CFG_NOMINAL 2) != 0))))) ++
  checksOf 32 (fun n => checkReg (Reg.FIO_CH_n_MAP n) (s.isOutput n && decide (s.cfg.sOut ≤ 4 * s.chWord n))) ++
  checksOf 3 (fun m => checkReg (Reg.FIO_GRP_m_CFG m) (let v := s.rd (Fld.FIO_GRP_m_CFG_NOMINAL m); v == 3 || (m != 2 && v != 0))) ++
  checksOf 8 (fun m => checkReg (Reg.FIO_TMR_m_CFG m) (s.flag (Fld.FIO_TMR_m_CFG_EN m) && !s.isInput (s.rd (Fld.FIO_TMR_m_CFG_CH m)))) ++
  checksOf 32 (fun n => cal (Reg.FIO_CH_n_CALV n)) ++ checksOf 32 (fun n => cal (Reg.FIO_CH_n_CALI n)) ++
  checksOf 4 (fun q => checkReg (Reg.FIO_SUP_q_CAL q) (!calOk (s.reg (Reg.FIO_SUP_q_CAL q)) 32113 33423 20)) ++
  [checkReg Reg.FIO_TICK (decide (s.rd Fld.FIO_TICK_US < 2 ∨ 1000 < s.rd Fld.FIO_TICK_US))] ++
  checksOf 32 (fun n => checkReg (Reg.FIO_CH_n_FLT n) (s.typeBad n (s.rd (Fld.FIO_CH_n_FLT_TYPE n)))) ++ s.sectChecks 5

/-- MC (R433, R449). -/
def State.measureChecks (s : State) : List SealCheck :=
  checksOf 8 (fun n =>
    let en := s.flag (Fld.MC_CH_n_CFG_EN n)
    checkReg (Reg.MC_CH_n_CFG n) (en && decide (s.mcR n < 16 ∨ 256 < s.mcR n ∨ s.mcD n < 2 ∨ 8 < s.mcD n))) ++
  checksOf 8 (fun n => checkReg (Reg.MC_CH_n_ALIGN n) (s.flag (Fld.MC_CH_n_CFG_EN n)
    && decide ((if s.flag Fld.MC_CFG_MCLK then 25 else 50) ≤ s.rd (Fld.MC_CH_n_ALIGN_SAMPLE n)))) ++
  checksOf 8 (fun n => checkReg (Reg.MC_CH_n_FIFO_CFG n) (s.flag (Fld.MC_CH_n_CFG_EN n)
    && decide (s.rd (Fld.MC_CH_n_FIFO_CFG_THRESH n) = 0 ∨ 32 < s.rd (Fld.MC_CH_n_FIFO_CFG_THRESH n)))) ++ s.sectChecks 6

/-- The bits of a mapped source, none where its index is not routed to the bridge (R384, R391). -/
def State.mapSourceBits (s : State) (kind i : Nat) : Option Nat :=
  match kind with
  | 0 => some (8 * s.cfg.sOut)
  | 1 => if entEn (s.entry i) && !entWrite (s.entry i) then some (8 * s.entBytes (s.entry i)) else none
  | 2 =>
    if s.flag (Fld.MVB_PORT_n_CFG_EN i) && !s.flag (Fld.MVB_PORT_n_CFG_DIR i) && s.flag (Fld.MVB_PORT_n_CFG_GUSSET i) then
      some (8 * fcodeLen (s.rd (Fld.MVB_PORT_n_CFG_FCODE i))) else none
  | 3 =>
    if s.rd (Fld.CAN_CTL_c_MB_m_CTRL_KIND (i / 64) (i % 64)) = 3 ∧ s.flag (Fld.CAN_CTL_c_MB_m_CTRL_GUSSET (i / 64) (i % 64)) ∧ i < 256 then
      some 512 else none
  | 4 =>
    if decide (i < 256) && s.flag (Fld.ETH_PD_n_A_EN i) && !s.flag (Fld.ETH_PD_n_A_DIR i) && s.rd (Fld.ETH_PD_n_A_SEL i) == 2 then
      some (32 * s.rd (Fld.ETH_PD_n_A_LEN4 i)) else none
  | _ => none

/-- The transmit buffer areas that transmitters read (R389): their end, by the register that places them. -/
def State.bufferEnds (s : State) : List (Nat × Nat) :=
  ((List.range 256).flatMap (fun n => let e := s.entry n
    if entEn e && entWrite e && entSource e == 3 then [(Reg.SX_SLOT_n_C n, entImg e + entLen e)] else [])) ++
  ((List.range 1024).flatMap (fun n =>
    if s.flag (Fld.MVB_PORT_n_CFG_EN n) && s.flag (Fld.MVB_PORT_n_CFG_DIR n) && s.flag (Fld.MVB_PORT_n_CFG_GUSSET n) then
      [(Reg.MVB_PORT_n_CFG n, 4 * s.rd (Fld.MVB_PORT_n_CFG_IMG4 n) + fcodeLen (s.rd (Fld.MVB_PORT_n_CFG_FCODE n)))] else [])) ++
  ((List.range 256).flatMap (fun n => let c := n / 64; let m := n % 64
    if s.rd (Fld.CAN_CTL_c_MB_m_CTRL_KIND c m) = 1 ∧ s.flag (Fld.CAN_CTL_c_MB_m_CTRL_GUSSET c m) then
      [(Reg.CAN_CTL_c_MB_m_CTRL c m, 4 * s.rd (Fld.CAN_CTL_c_MB_m_CTRL_IMG4 c m) + s.mbLen c m)] else [])) ++
  ((List.range 256).flatMap (fun n =>
    if s.flag (Fld.ETH_PD_n_A_EN n) && s.flag (Fld.ETH_PD_n_A_DIR n) && s.rd (Fld.ETH_PD_n_A_SEL n) == 2 then
      [(Reg.ETH_PD_n_B n, 4 * s.rd (Fld.ETH_PD_n_B_IMG4_CONN n) + 4 * s.rd (Fld.ETH_PD_n_A_LEN4 n))] else []))

/-- GB (R391, R403, R454, R471). -/
def State.gussetChecks (s : State) : List SealCheck :=
  let dst (e : Nat) : Nat × Nat × Nat :=
    (b2n (s.flag (Fld.GB_MAP_e_DST_DKIND e)), s.rd (Fld.GB_MAP_e_DST_DBIT e), s.rd (Fld.GB_MAP_e_DST_DWIDTH e) + 1)
  let entry (e : Nat) : List SealCheck :=
    if !s.flag (Fld.GB_MAP_e_SRC_EN e) then []
    else
      let kind := s.rd (Fld.GB_MAP_e_SRC_KIND e)
      let w := s.rd (Fld.GB_MAP_e_SRC_WIDTH e) + 1
      let bit := s.rd (Fld.GB_MAP_e_SRC_BIT e)
      let d := dst e
      let room := if d.1 = 1 then 8 * 16384 else 32 * s.rd Fld.GB_IN_SECT_SIZE4
      [checkReg (Reg.GB_MAP_e_SRC e) (decide (4 < kind) || (s.flag (Fld.GB_MAP_e_SRC_ORDER e) && (w % 8 != 0 || bit % 8 != 0)) ||
          (match s.mapSourceBits kind (s.rd (Fld.GB_MAP_e_SIDX_INDEX e)) with
           | some n => decide (n < bit + w)
           | none => false)),
       checkReg (Reg.GB_MAP_e_SIDX e) (decide (kind ≤ 4) && (s.mapSourceBits kind (s.rd (Fld.GB_MAP_e_SIDX_INDEX e))).isNone),
       checkReg (Reg.GB_MAP_e_DST e) ((decide (kind < 2) && d.1 == 0) || decide (room < d.2.1 + d.2.2) ||
          (List.range e).any (fun f => s.flag (Fld.GB_MAP_e_SRC_EN f) && (dst f).1 == d.1 && overlaps d.2.1 d.2.2 (dst f).2.1 (dst f).2.2))]
  let win (n : Nat) : List SealCheck :=
    if !s.flag (Fld.GB_WIN_n_CFG_EN n) then []
    else
      let b := s.rd (Fld.GB_WIN_n_CFG_APT_BASE n)
      let z := s.rd (Fld.GB_WIN_n_SIZE_WORDS n)
      [checkReg (Reg.GB_WIN_n_SIZE n) (z == 0 || decide (8192 < b + z)),
       checkReg (Reg.GB_WIN_n_CFG n) (s.rd (Fld.GB_WIN_n_CFG_DEST n) == s.rd (Fld.SX_CFG_ADDR .X) || (List.range n).any (fun m =>
          s.flag (Fld.GB_WIN_n_CFG_EN m) && overlaps b z (s.rd (Fld.GB_WIN_n_CFG_APT_BASE m)) (s.rd (Fld.GB_WIN_n_SIZE_WORDS m))))]
  let inw (n : Nat) : List SealCheck :=
    if !s.flag (Fld.GB_IN_n_CFG_EN n) then []
    else
      let b := s.rd (Fld.GB_IN_n_BASE_BASE n)
      let z := 4096 * s.rd (Fld.GB_IN_n_PAGES_PAGES n)
      [checkReg (Reg.GB_IN_n_PAGES n) (z == 0 || decide (4096 * 262136 < z)),
       checkReg (Reg.GB_IN_n_BASE n) (decide (b < 0x40000000 ∨ 0x80000000 < b + z) || overlaps b z 0x40000000 0x8000
          || overlaps b z 0x50000000 0x4000000 || overlaps b z 0x60000000 0x10200000)]
  [checkReg Reg.GB_CFG (s.rd Fld.GB_CFG_NP_TMO == 0)] ++ (List.range 768).flatMap entry ++ (List.range 16).flatMap win ++
    (List.range 16).flatMap inw ++ s.bufferEnds.map (fun x => checkReg x.1 (decide (16384 < x.2))) ++ s.sectChecks 7

/-- SH and EY (R407, R423). -/
def State.mailChecks (s : State) : List SealCheck :=
  let named (n : Nat) : Bool := (List.range 16).any (fun e => s.flag (Fld.TRD_ET_n_CFG_EN .A e) && s.rd (Fld.TRD_ET_n_CFG_SRC .A e) == 2
    && s.rd (Fld.TRD_ET_n_CFG_SEL .A e) == n)
  let lw := s.lwPages
  [checkReg Reg.SH_CFG (s.rd Fld.SH_CFG_GB_WEIGHT == 0),
   checkReg Reg.SH_LW_BASE (lw.2 != 0 && (!pagesInDdr lw.1 lw.2 || pagesMeet lw s.sparePages))] ++
  checksOf 32 (fun n =>
    let r := s.eyRcv n
    checkReg (Reg.EY_CH_n_CFG n) (decide (3 < r) || (decide (n < 16) && r == 1) || (r == 2 && !named n)))

/-- ETH, MVB and CAN (R137, R360, R366). -/
def State.netChecks (s : State) : List SealCheck :=
  checksOf 256 (fun n =>
    let c := s.rd (Fld.ETH_PD_n_B_IMG4_CONN n)
    checkReg (Reg.ETH_PD_n_A n) (s.flag (Fld.ETH_PD_n_A_EN n) && (s.rd (Fld.ETH_PD_n_A_SEL n) == 3 ||
      (s.rd (Fld.ETH_PD_n_A_SEL n) == 1 && 4 * s.rd (Fld.ETH_PD_n_A_LEN4 n) != s.connP c + (if s.flag (Fld.SX_CONN_n_CFG_MAC c) then 20 else 12))))) ++
  s.sectChecks 10 ++ [checkReg Reg.MVB_STATUS (decide (750 < s.rd Fld.MVB_STATUS_LOAD))] ++ s.sectChecks 11 ++ s.sectChecks 12

/-- WL, DX and UPD (R329, R343, R346, R454, R473). -/
def State.unitChecks (s : State) : List SealCheck :=
  let sends := ((List.range 1024).filter (fun n => s.flag (Fld.SX_CONN_n_CFG_EN n) && s.flag (Fld.SX_CONN_n_CFG_DIR n))).length
  let slots := s.slotPages
  let a := getAt (0, 0) slots 0
  let b := getAt (0, 0) slots 1
  let badSlot (x : Nat × Nat) : Bool :=
    !pagesInDdr x.1 x.2 || pagesMeet x s.sparePages || s.vsPages.any (pagesMeet x) || pagesMeet x s.lwPages
  [checkReg Reg.WL_CFG (decide (s.rd Fld.WL_CFG_CIRC_LOG2 < 10 ∨ 23 < s.rd Fld.WL_CFG_CIRC_LOG2 ∨ 65536 < s.rd Fld.WL_CFG_KEEP_N)),
   checkReg Reg.DX_CFG (s.rd Fld.DX_CFG_MISMATCH_MAX == 0 || (s.flag Fld.DX_CFG_DUPLEX &&
     decide (s.tCycle / 8 < ceilDiv (s.cfg.sIn + s.cfg.sOut + 4 * sends + 64) 2 + 1000))),
   checkReg (Reg.DX_CKPT_n_SIZE 0) (decide (16 < sumN (s.ckRegions.map (·.2)) / 65536)),
   checkReg Reg.UPD_SLOT_A (badSlot a), checkReg Reg.UPD_SLOT_B (badSlot b || pagesMeet a b)]

/-- The lanes: the spare pool (R168) and the Treadle (R123, R133, R190, R423). -/
def State.laneChecks (s : State) : List SealCheck :=
  let sp := s.sparePages
  let ret := (s.cfg.retBase / 4096, ceilDiv (s.cfg.retBase % 4096 + s.cfg.retSize) 4096)
  let prio (t : Nat) : SealCheck := checkReg (taskCfg .A t) (s.taskEn .A t && (List.range t).any (fun u =>
    s.taskEn .A u && s.taskPrio .A u == s.taskPrio .A t))
  let cyc (t : Nat) : SealCheck := checkReg (Reg.TRD_CT_n_CFG .A t) (s.taskEn .A t && decide
    (s.rd (Fld.TRD_CT_n_CFG_PERIOD .A t) < s.rd (Fld.TRD_CT_n_CFG_PHASE .A t)))
  let ev (n : Nat) : SealCheck :=
    let src := s.rd (Fld.TRD_ET_n_CFG_SRC .A n)
    let sel := s.rd (Fld.TRD_ET_n_CFG_SEL .A n)
    checkReg (Reg.TRD_ET_n_CFG .A n) (s.flag (Fld.TRD_ET_n_CFG_EN .A n) && (decide (3 < src) || (src == 0 && !s.isInput sel)
      || (src == 1 && s.flag (Fld.TB_CMP_n_CFG_SCALE sel)) || (src == 2 && s.eyRcv sel != 2)))
  [{ bad := sp.2 != 0 && (!pagesInDdr sp.1 sp.2 || sp.1 % 128 != 0 || s.slotPages.any (pagesMeet sp) || s.vsPages.any (pagesMeet sp)
      || pagesMeet sp ret), source := 0x20, offset := Reg.MEM_SPARE_BASE (.lane .A) % 0x10000 }] ++
  checksOf 24 prio ++ checksOf 8 cyc ++ checksOf 16 ev ++
  [checkVal 0x30 (s.cfg.owner.any (fun x => decide (s.cfg.sOut ≤ 4 * x.1 ∨ 24 ≤ x.2)))]

/-- The first conflict, units in ascending SOURCE (R510). -/
def State.sealConflict (s : State) : Option SealCheck :=
  (([checkReg Reg.TB_CFG (s.rd Fld.TB_CFG_WALL_SRC == 3)] ++ s.ringChecks ++ s.voteChecks ++ s.fieldChecks ++ s.measureChecks ++
    s.gussetChecks ++ s.mailChecks ++ s.netChecks ++ s.unitChecks ++ s.sectChecks 0x12 ++ s.laneChecks).find? (fun c => c.bad))

/-- The first schedule check that fails on a plug schedule, by its ERR_CODE (R226, R505): a schedule that does not name this module counts
as the frame limits. -/
def State.schedConflict (s : State) : Option Nat :=
  let addr := s.rd (Fld.SX_CFG_ADDR .X)
  s.cfg.scheds.findSome? (fun p =>
    if p.leader ≠ addr ∧ ¬ p.order.contains addr then some 3
    else (planFig p).failure s.cfg addr s.chWord (s.flag (Fld.SX_CFG_LOOP .X)) (s.ringEn .Y) none)

/-- The load of the MVB (R366): the largest basic period in ‰, by the standard's poll times, which the spec does not repeat. -/
def State.mvbLoad (s : State) : Nat :=
  let polls := (List.range 1024).filter (fun j => s.flag (Fld.MVB_POLL_j_EN j))
  (List.range 1024).foldl (fun x c =>
    max x (sumN ((polls.filter (fun j =>
      (c + 1024 - s.rd (Fld.MVB_POLL_j_PHASE j)) % 2 ^ s.rd (Fld.MVB_POLL_j_EXP j) = 0)).map
        (fun j => Config.mvbPollTime (s.rd (Fld.MVB_POLL_j_FCODE j)))) * 1000 / s.mvbPeriod)) 0

end Sys2Proof.Machine
end

