-- ==== Sys2Proof/Machine/Start.lean ====
section
/-! DEFINITION. The module start (chapter 19): power-on, the reset contact, restarts, the phases of R465, the identity plug, lane images,
digest agreement, permit release and entry to the recovery state. -/

namespace Sys2Proof.Machine

/-- Change the start unit. -/
def State.modSt (s : State) (g : StartSt → StartSt) : State := { s with st := g s.st }

/-- Enter a start phase (R465). -/
def State.setPhase (s : State) (p : Nat) : State := (s.modSt (fun x => { x with phaseAt := s.clk.uptime })).wr Fld.UPD_START_STATUS_PHASE p

/-- Whether a device has executed EXTEST, CLAMP or HIGHZ: the module then stays in its phase until the reset contact or power-off (R499). -/
def State.testMode (s : State) : Bool := s.st.tapLock.any id

/-! ### What a reset keeps -/

/-- Registers that a module reset leaves as they are: the trouble log, the Welt's figures (R460), step counts and validity of time (R178),
retired pages (R168), the clock and supply status. -/
def keptKey (k : Nat) : Bool :=
  k / 0x10000 == 16 ||
  decide (k ∈ [Reg.WL_STATUS, Reg.WL_TOTAL_HI, Reg.WL_TOTAL_LO, Reg.WL_OLDEST, Reg.WL_LOST, Reg.WL_FROZEN_EVENTS, Reg.WL_FLUSH_SEQ,
    Reg.WL_FLUSH_CNT, Reg.TB_LAST_STEP_HI, Reg.TB_LAST_STEP_LO, Reg.TB_STEP_COUNT, Reg.TB_STATUS, Reg.JC_CLK_STATUS, Reg.JC_PWR_STATUS,
    Reg.JC_PWR_MEAS, Reg.UPD_START_STATUS]) ||
  (match regAt k with
   | some d => d.name == "MEM.RT_n"
   | none => false)

/-- A lane at a module reset: its flash and its SRAM stay (R147, R162); everything else is as at power-on. -/
def LaneSt.afterReset (n : LaneSt) (flash : Mem) : LaneSt := { LaneSt.fresh with flash := flash, scratch := n.scratch }

/-- A lane's memory controller at a module reset (R162, R170): a retirement copy goes on, a lap begins. -/
def MemCtl.afterReset (c : MemCtl) (uptime : Nat) : MemCtl := { MemCtl.fresh with copying := c.copying, lapStart := uptime }

/-- A lane's flash after a reset or a power loss: a write that runs leaves it incomplete (R474). -/
def State.flashKept (s : State) (l : Lane) : Mem := if s.st.flashOp = some (l, true) then [] else (s.ln l).flash

/-- The maintenance strap shown where the harts and the taps read it (R496, R500). -/
def State.showStrap (s : State) : State :=
  let b := s.flag Fld.JC_PWR_STATUS_MAINT_STRAP
  lanes.foldl (fun t l => t.wrB (Fld.LC_DBG_STATUS_STRAP l) b) (s.wrB Fld.TT_STATUS_ENABLED b)

/-- The figures of the memory controllers that follow from what a reset keeps: valid blocks and active retirements (R168). -/
def State.showMem (s : State) : State :=
  let used (m : MemSel) : Nat := ((List.range 128).filter (fun n => s.flag (Fld.MEM_RT_n_ACTIVE m n))).length
  [MemSel.lane .A, .lane .B, .lane .C, .junction].foldl (fun t m =>
    ((t.wr (Fld.MEM_STATUS_RT_USED m) (used m)).wrB (Fld.MEM_STATUS_RETIRE_BUSY m) (s.mctl m).copying.isSome).wr (Fld.MEM_SCRUB_VALID_BLOCKS m)
      (s.mctl m).valid.length) s

/-- All devices are held in reset (R162, R460, R464): what the supply holds stays, everything else is as at power-on. A freeze of the Welt ends
as at a thaw (R457). -/
def State.moduleReset (s0 : State) (kind : Option Bool) (recover : Bool) : State :=
  let s := s0.endFreeze false
  let keep := s.regs.filter (fun e => keptKey e.1)
  let x : StartSt := { StartSt.fresh with
    fromPower := false, kind := kind, recover := recover, contact := s.st.contact, overvolt := s.st.overvolt, lowAt := s.st.lowAt,
    copyA := s.st.copyA, copyB := s.st.copyB, primary := s.st.primary, phaseAt := s.clk.uptime, startAt := s.clk.uptime }
  let r : State := { State.reset with
    pending := s.pending, resp := s.resp, free := s.free, regs := keep
    clk := { s.clk with corr := 0, drift := 0, slew := 0, slewRate := 100, slewAcc := 0, stepPend := none, targets := [] }
    welt := s.welt, tWait := s.tWait, tLog := s.tLog, tLast := s.tLast
    lane := ⟨s.lane.a.afterReset (s.flashKept .A), s.lane.b.afterReset (s.flashKept .B), s.lane.c.afterReset (s.flashKept .C)⟩
    jmem := { s.jmem with inval := none, elog := [], hold := none, diagBusy := false, fillStart := none, lapStart := s.clk.uptime, scrub := 0 }
    memc := ⟨s.memc.a.afterReset s.clk.uptime, s.memc.b.afterReset s.clk.uptime, s.memc.c.afterReset s.clk.uptime⟩
    jddr := s.jddr, mramA := s.mramA, mramB := s.mramB, chg := { ChgSt.fresh with saveSeq := max s.mramA.seq s.mramB.seq }
    dx := { DxSt.fresh with ckA := s.dx.ckA, ckB := s.dx.ckB }, st := x }
  let r1 := ((((r.setReg Reg.TB_STATUS (regReset Reg.TB_STATUS)).wrB Fld.TB_STATUS_WALL_VALID
    (s.flag Fld.TB_STATUS_WALL_VALID)).wrB Fld.TB_STATUS_NET_VALID (s.flag Fld.TB_STATUS_NET_VALID)).wr Fld.JC_PWR_STATUS_PF_WARN 0).wr
    Fld.JC_CLK_STATUS_SYNT 0
  (((r1.wr Fld.JC_CLK_STATUS_RATE_CORR 0).setReg Reg.UPD_START_STATUS 0).wr Fld.UPD_START_STATUS_STARTS
    (s.rd Fld.UPD_START_STATUS_STARTS)).showMem.showStrap

/-- A module start begins (R464): it is counted. -/
def State.countStart (s : State) : State := s.bump Fld.UPD_START_STATUS_STARTS

/-- The state that power-on finds (R464): nothing kept but flash, MRAM and the contacts. -/
def State.atPowerOn (s : State) : State :=
  let x : StartSt := { StartSt.fresh with
    contact := s.st.contact, copyA := s.st.copyA, copyB := s.st.copyB, primary := s.st.primary }
  let r : State := { State.reset with
    pending := s.pending, resp := s.resp, free := s.free, mramA := s.mramA, mramB := s.mramB
    lane := ⟨{ LaneSt.fresh with flash := s.flashKept .A }, { LaneSt.fresh with flash := s.flashKept .B }, { LaneSt.fresh with flash := s.flashKept .C }⟩
    chg := { ChgSt.fresh with saveSeq := max s.mramA.seq s.mramB.seq }
    dx := { DxSt.fresh with ckA := s.dx.ckA, ckB := s.dx.ckB }, st := x }
  (r.wr Fld.JC_PWR_STATUS_MAINT_STRAP (s.rd Fld.JC_PWR_STATUS_MAINT_STRAP)).showStrap

/-- POWER_ON (R464): a start in RESET. -/
def execPowerOn (s : State) : Host.Outcome State Fault Refusal := .next s.atPowerOn.countStart

/-- RESET_CONTACT_CLOSE (R496): the module is held in RESET. -/
def execResetContactClose (s : State) : Host.Outcome State Fault Refusal :=
  .next ((s.moduleReset none false).modSt (fun x => { x with contact := true }))

/-- RESET_RELEASE (R464, R496): the opening of the contact begins a start. -/
def execResetRelease (s : State) : Host.Outcome State Fault Refusal :=
  .next (if s.st.contact then (s.modSt (fun x => { x with contact := false, startAt := s.clk.uptime })).countStart else s)

/-- The retained region goes into MRAM before a commanded warm restart (R148, R481). -/
def State.saveRetained (s : State) : State :=
  let s1 := (lanes.filter s.votes).foldl (fun t l => t.captureRet l false)
    { s with chg := { s.chg with capture := Tri.all none, capIncomplete := false } }
  s1.saveCopies

/-- The effect of a write of UPD.RESTART (R481). -/
def State.restartCtl (s : State) (w : Word) : State :=
  if wbits w Fld.UPD_RESTART_KEY = 0xA55A ∧ s.testMode = false then
    (match wbits w Fld.UPD_RESTART_KIND with
     | 1 => (s.moduleReset (some false) false).countStart
     | 2 => (s.saveRetained.moduleReset (some true) false).countStart
     | 3 => (s.moduleReset (some false) true).countStart
     | _ => s)
  else s

/-- RESTART_COLD (R481). -/
def execRestartCold (i : Initiator) (w : Word) (s : State) : Host.Outcome State Fault Refusal :=
  .next (s.regCmdRaw i Reg.UPD_RESTART (fun t => t.restartCtl (w &&& 0xFFFC ||| 0xA55A0001)))

/-- RESTART_WARM (R481). -/
def execRestartWarm (i : Initiator) (w : Word) (s : State) : Host.Outcome State Fault Refusal :=
  .next (s.regCmdRaw i Reg.UPD_RESTART (fun t => t.restartCtl (w &&& 0xFFFC ||| 0xA55A0002)))

/-- RESTART_RECOVERY (R481). -/
def execRestartRecovery (i : Initiator) (w : Word) (s : State) : Host.Outcome State Fault Refusal :=
  .next (s.regCmdRaw i Reg.UPD_RESTART (fun t => t.restartCtl (w &&& 0xFFFC ||| 0xA55A0003)))

/-! ### RESET and JUNCTION -/

/-- RESET_EXIT (R465, R488): with the supplies in range, the hold-up charged and the junction PLL locked the start enters JUNCTION; the plane
runs its self-test and at power-on the junction memory is filled. -/
def execResetExit (s : State) : Host.Outcome State Fault Refusal :=
  .next (if s.st.powered && s.phase == Phase.reset && !s.st.contact && !s.st.overvolt && !s.testMode then
      let s1 := (((s.setPhase Phase.junction).set1 Fld.JC_PWR_STATUS_HOLDUP_OK).set1 Fld.JC_CLK_STATUS_JPLL_LOCK).wrB
        Fld.DX_STATUS_PRIMARY s.st.primary
      let s2 := ({ s1 with plane := { PlaneSt.off with st := PSt.selftest, heardAt := s.clk.uptime } } : State).wr Fld.AX_STATUS_STATE PSt.selftest
      let s3 := s2.wrB Fld.JC_PWR_STATUS_PRI_STRAP s.st.primary
      if s.st.fromPower then s3.beginFill .junction else s3
    else s)

/-- The start record of R460 goes ahead of every event of this start, not of the end of a freeze that the reset brought (R457); from now on the
recorder writes. -/
def State.startRecord (s : State) : State :=
  if s.st.recorded then s
  else
    let e := s.mkEvent 13 0xF2 s.chg.restart
    let before (x : WEvent) : Bool := decide (x.at_ < s.st.startAt) || (decide (x.at_ = s.st.startAt) && x.code == 0xF0)
    let old := s.welt.queue.filter before
    let new := s.welt.queue.filter (fun x => !before x)
    let q := old ++ [e] ++ new
    (({ s with welt := { s.welt with queue := q } } : State).modSt (fun x => { x with recorded := true })).wr Fld.WL_STATUS_QUEUED q.length

/-- Entry to the recovery state with its code and detail (R470, R510); ring ports forward, DX holds claim 0. -/
def State.enterRecovery (s : State) (code source offset : Nat) : State :=
  if s.phase = Phase.recovery ∨ s.testMode then s
  else
    let s1 := (((s.setPhase Phase.recovery).wr Fld.UPD_START_STATUS_LAST_CODE code).wr Fld.UPD_LAST_DETAIL_SOURCE source).wr
      Fld.UPD_LAST_DETAIL_OFFSET offset
    (rings.foldl (fun t r => t.wr (Fld.SX_CS_STATUS_STATE r) 0) s1).startRecord

/-- The junction image that Last loads (R480): the valid copy of higher version, copy A of two alike; its number. -/
def State.junctionCopy (s : State) : Option Nat :=
  match s.st.copyA.valid, s.st.copyB.valid with
  | true, true => some (if s.st.copyA.version < s.st.copyB.version then 1 else 0)
  | true, false => some 0
  | false, true => some 1
  | false, false => none

/-- JUNCTION_IMAGE_LOADED (R465, R480). -/
def execJunctionImageLoaded (s : State) : Host.Outcome State Fault Refusal :=
  .next (if s.phase = Phase.junction ∧ s.jmem.fillStart = none ∧ s.testMode = false then
      match s.junctionCopy with
      | none => s.enterRecovery 8 0 0
      | some c => if s.st.recover then (s.wr Fld.UPD_JFLASH_LOADED c).enterRecovery 0xD 0 0 else (s.wr Fld.UPD_JFLASH_LOADED c).setPhase Phase.plug
    else s)

/-! ### SEAL -/

/-- Whether the plug loads the read-only fields of a register: the working field, threshold and filter settings. -/
def plugRo (d : RegDesc) : Bool :=
  decide (d.name ∈ ["FIO.TICK", "FIO.CH_n_FLT", "FIO.CH_n_CALV", "FIO.CH_n_CALI", "FIO.SUP_q_CAL", "AX.IN_BASE", "MC.CH_n_COEF_i"])

/-- A register word with the fields that the plug loads (R10). -/
def plugMerge (ro : Bool) (w : Nat) : List RField → Nat → Nat
  | [], n => n
  | f :: fs, n =>
    plugMerge ro w fs (if f.acc == .rws || (ro && f.acc == .ro) then putBits n f.hi f.lo (bitsOf w f.hi f.lo) else n)

/-- The directory of the plug (R469): TYPE, the bytes and the SHA-256 of each section. -/
def plugDir (b : List Byte) : List (Nat × List Byte × List Byte) :=
  (List.range (leNat (sliceB b 6 2))).map (fun i =>
    let e := sliceB b (0x140 + 48 * i) 48
    (leNat (sliceB e 0 4), (b.drop (leNat (sliceB e 4 4))).take (leNat (sliceB e 8 4)), sliceB e 16 32))

/-- Whether the header of the plug is well-formed (R468, R469). -/
def plugHeaderOk (b : List Byte) : Bool :=
  let n := leNat (sliceB b 6 2)
  decide (0x140 + 48 * n ≤ b.length) && sliceB b 0 4 == [0x54, 0x56, 0x33, 0x38] && leNat (sliceB b 4 2) == 1 && decide (1 ≤ n ∧ n ≤ 64)
    && leNat (sliceB b 8 4) == b.length && (sliceB b 12 52).all (fun x => x == 0)

/-- The recovery code of a plug, 0 where it is verified (R468 to R470). -/
def plugCode (p : PlugRead) : Nat :=
  if !plugHeaderOk p.bytes then 1
  else if !p.signed then 2
  else if (plugDir p.bytes).any (fun x => sha256 x.2.1 != x.2.2) then 3
  else 0

/-- The SHA-256 of the sections of the plug that a test keeps, in directory order (R327, R469). -/
def plugDigest (b : List Byte) (keep : Nat → Bool) : List Byte :=
  sha256 (((plugDir b).filter (fun x => keep x.1)).map (fun x => x.2.1)).flatten

/-- The configuration that no register shows, with the plane table of section 0x02 and the pair digest (R316, R327, R469). -/
def plugCfg (p : PlugRead) : Cfg :=
  { p.cfg with
    pairDigest := plugDigest p.bytes (fun t => t != 3)
    planeTable := (((plugDir p.bytes).find? (fun x => x.1 == 2)).map (fun x => x.2.1)).getD [] }

/-- One word of the plug's configuration (R469); a Treadle, memory or lane register is common to the three lanes (R123). -/
def State.loadWord (s : State) (k : Nat) (w : Word) : State :=
  let put (t : State) (k : Nat) : State := match regAt k with
    | some d => t.setReg k (BitVec.ofNat 32 (plugMerge (plugRo d) w.toNat d.fields (t.reg k).toNat))
    | none => t
  if k < 0x1000000 then put s k else lanes.foldl (fun t l => put t (laneKey l + k % 0x10000000)) s

/-- TYPE and N of the plane-owned channels are those of the plane's table (R283, R312). -/
def State.planeTypes (s : State) : State :=
  (List.range 32).foldl (fun t n =>
    if planeOwns s.cfg.planeTable n then
      (t.wr (Fld.FIO_CH_n_FLT_TYPE n) (bitsOf (senseCfg s.cfg.planeTable n) 26 24)).wr (Fld.FIO_CH_n_FLT_N n)
        (bitsOf (senseCfg s.cfg.planeTable n) 23 16)
    else t) s

/-- The owners of the terminals (R284) and the shadow set of the field I/O equal to the working set (R302). -/
def State.sealField (s0 : State) : State :=
  let s := s0.planeTypes
  let s1 := (List.range 32).foldl (fun t n =>
    (((((t.wr (Fld.FIO_CH_n_CFG_OWNER n) (if planeOwns s.cfg.planeTable n then 1 else 3)).wrB (Fld.FIO_CH_n_CFG_DIRECT n)
      (s.cfg.direct.any (fun d => d.ch == n))).setReg (Reg.FIO_SH_CH_n_FLT n)
      (s.reg (Reg.FIO_CH_n_FLT n))).setReg (Reg.FIO_SH_CH_n_CALV n) (s.reg (Reg.FIO_CH_n_CALV n))).setReg (Reg.FIO_SH_CH_n_CALI n)
      (s.reg (Reg.FIO_CH_n_CALI n)))) s
  ((List.range 4).foldl (fun t q => t.setReg (Reg.FIO_SH_SUP_q_CAL q) (s.reg (Reg.FIO_SUP_q_CAL q))) s1).setReg Reg.FIO_SH_TICK
    (s.reg Reg.FIO_TICK)

/-- The plug's contents are loaded (R465, R469). -/
def State.loadPlug (s : State) (p : PlugRead) : State :=
  let s1 := p.regs.foldl (fun t x => t.loadWord x.1 x.2) ({ s with cfg := plugCfg p } : State)
  let s2 := match p.cfg.scheds with
    | x :: _ => s1.loadSched x
    | [] => s1
  let s3 := (List.range 4).foldl (fun t n => match p.cfg.scheds[n]? with
    | some x => rings.foldl (fun u r => (u.setReg (Reg.SX_SCHED_ID_n r n) x.id).setReg (Reg.SX_SCHED_COMP_n r n) x.comp) t
    | none => t) s2
  (s3.wr Fld.MVB_STATUS_LOAD s3.mvbLoad).sealField

/-- The kind of this start (R147, R464): a restart command's, else UPD.START_CFG.WARM. -/
def State.startsWarm (s : State) : Bool := s.st.kind.getD (s.flag Fld.UPD_START_CFG_WARM)

/-- Whether one ring cycle covers the partner within 152 µs (R332). -/
def State.ringCovers (s : State) : Bool :=
  match s.sched with
  | some p => decide (s.tCycle + 4 * (planFig p).dRing ≤ 152000)
  | none => false

/-- Configuration seal (R31, R103, R465): SEALED, the safe image in force, the digest, the connections in WAIT, the stations, DX in its start state, the measurement chain
and the ring units in LISTEN. -/
def State.sealNow (s : State) (p : PlugRead) : State :=
  let s1 := (List.range 8).foldl (fun t n => t.setReg (Reg.JC_DIGEST_n n) (BitVec.ofNat 32 (leNat (sliceB (plugDigest p.bytes (fun _ => true)) (4 * n) 4))))
    (s.set1 Fld.JC_MOD_STATUS_SEALED)
  let s2 := (List.range 1024).foldl (fun t n => if t.receives n then t.setConnState n 1 else t) s1
  let s3 : State := { s2 with
    stations := p.cfg.stations.map (fun c => { id := c.id, mode := 0, missed := 0, good := 0, started := false })
    fld := { FieldSt.fresh with tickAt := s.clk.uptime, lastTick := s.clk.uptime }
    chg := { s2.chg with restart := if s.startsWarm then 3 else 1 }
    vote := { s2.vote with out := s2.cfg.safeImg } }
  let s4 := ((({ s3 with dx := { s3.dx with hbN := hbArmed s.clk.net } } : State).setDst (if s3.flag Fld.DX_CFG_DUPLEX then 1 else 0)).wrB Fld.DX_STATUS_RING_COVERS s3.ringCovers).wrB
    Fld.UPD_START_STATUS_WARM s.startsWarm
  rings.foldl (fun t r => if t.ringEn r then t.enterListen r else t) s4.mcStart

/-- PLUG_READ_DONE (R465, R468 to R470, R510): the plug is verified and the configuration sealed, or the start enters the recovery state. -/
def execPlugReadDone (p : PlugRead) (s : State) : Host.Outcome State Fault Refusal :=
  .next (if s.phase = Phase.plug ∧ s.testMode = false then
      if plugCode p ≠ 0 then s.enterRecovery (plugCode p) 0 0
      else
        let s1 := (((s.setPhase Phase.seal).modSt (fun x => { x with plugOk := true, recAddr := p.recAddr })).loadPlug p)
        match s1.sealConflict, s1.schedConflict with
        | some c, _ =>
          let s2 := match (List.range 32).find? s1.planeConflict with
            | some n => ((((s1.set1 Fld.FIO_OWN_SEAL_VALID).wr Fld.FIO_OWN_SEAL_KIND 1).wr Fld.FIO_OWN_SEAL_CLAIMANT 1).wr
                Fld.FIO_OWN_SEAL_HOLDER 0).wr Fld.FIO_OWN_SEAL_INDEX n
            | none => s1
          s2.enterRecovery 4 c.source c.offset
        | none, some e => s1.enterRecovery 5 2 (0xFFF0 + e)
        | none, none => (s1.sealNow p).modSt (fun x => { x with tableSent := true })
    else s)

/-! ### FILL and LOAD -/

/-- LOAD begins (R83, R465, R506): the harts of every lane whose PLL is locked are released; the Treadle configuration is that of the plug. -/
def State.beginLoad (s : State) : State :=
  lanes.foldl (fun t l =>
    if t.pllLocked l then
      (((t.releaseHarts l).wr (Fld.LC_LANE_STATUS_EXEC l) Exec.loading).clearForces l).startHart l .h0 0 |>.startHart l .h1 0
    else t) (s.setPhase Phase.load)

/-- The plane has accepted the table (R465): FILL for a cold start, LOAD for a warm one. -/
def State.afterTable (s : State) : State :=
  if s.testMode then s else if s.startsWarm then s.beginLoad else lanes.foldl (fun t l => t.beginFill (.lane l)) (s.setPhase Phase.fill)

/-! ### Lane images -/

/-- A reader of an image: the bytes from an offset on. -/
abbrev ImgRd := Nat → Nat → List Byte

/-- What the header of an image declares (R472). -/
def imageOf (rd : ImgRd) (vars : List VarDecl) (sOut : Nat) : LaneImage :=
  let init := leNat (rd 48 4)
  let size := leNat (rd 12 4)
  { id := leNat (rd 4 4), slot := leNat (rd 8 1), size := size, entry0 := leNat (rd 16 4), entry1 := leNat (rd 20 4),
    retBase := 64 * leNat (rd 24 4), retSize := leNat (rd 28 4), retVersion := leNat (rd 32 4), budget := leNat (rd 36 2), vars := vars,
    init := if init = 0 ∨ size < init + sOut then [] else rd init sOut }

/-- The checks of R473 on an image. -/
def State.imageOk (s : State) (rd : ImgRd) : Bool :=
  let g := imageOf rd s.cfg.vars s.cfg.sOut
  let room := 4096 * s.rd Fld.UPD_SLOT_SIZE_PAGES
  let init := leNat (rd 48 4)
  let digest := rd 64 32
  let inRange (lo hi : Nat) : Bool := decide (lo ≤ g.retBase ∧ g.retBase + g.retSize ≤ hi)
  decide (leNat (rd 0 4) = 0x454E414C) && decide (256 ≤ g.size ∧ g.size ≤ room) &&
  (sha256 (rd 0 64 ++ rd 256 (g.size - 256)) == digest) && Config.verifies s.cfg.imageKey (sha256 (rd 0 96)) (rd 96 64) &&
  decide (g.id / 65536 = s.rd Fld.UPD_IMG_POLICY_FAMILY) && decide (s.rd Fld.UPD_IMG_POLICY_MIN_VERSION ≤ g.id % 65536) &&
  decide (g.slot ≤ 1) && (inRange 0x08000000 0x08100000 || inRange 0x80000000 0x180000000) &&
  !overlaps g.retBase g.retSize (s.slotBase 0) room && !overlaps g.retBase g.retSize (s.slotBase 1) room &&
  (init == 0 || decide (init + s.cfg.sOut ≤ g.size))

/-- A lane's flash as a reader. -/
def State.flashRd (s : State) (l : Lane) : ImgRd := fun o n => (s.ln l).flash.bytes o n

/-- A slot of a lane as a reader. -/
def State.slotRd (s : State) (l : Lane) (slot : Nat) : ImgRd := fun o n => s.laneBytes l (s.slotBase slot + o) n

/-- The loaded image of a lane and the initial published and working images (R147, R472). -/
def State.useImage (s : State) (l : Lane) (g : LaneImage) : State :=
  let m : Mem := Mem.putBytes [] 0 g.init
  let s1 := s.modLn l (fun n => { n with img := some g, work := m, pub := m })
  ({ s1 with cfg := { s1.cfg with retBase := g.retBase, retSize := g.retSize } } : State).wr Fld.UPD_IMG_ID_RUN_VERSION (g.id % 65536)

/-- Awl loads the lane flash image into its slot (R473). -/
def State.loadImage (s : State) (l : Lane) : State × Bool :=
  if s.imageOk (s.flashRd l) then
    let g := imageOf (s.flashRd l) s.cfg.vars s.cfg.sOut
    ((s.laneCopy l (s.slotBase g.slot) ((s.ln l).flash.bytes 0 g.size)).useImage l g, true)
  else (s, false)

/-- The retained region of a warm start (R150, R477): restored from the better copy, with the migration flag when its version differs and
RET_VERSION written there; the rest of the conversion is the start routine's. -/
def State.restoreRet (s : State) (l : Lane) : State :=
  match (s.ln l).img, s.bestRetained with
  | some g, some c =>
    let s1 := s.laneCopy l g.retBase c.data
    let s2 := if leNat (c.data.take 4) = g.retVersion then s1 else s1.laneCopy l g.retBase (leBytes 4 g.retVersion)
    { s2 with chg := { s2.chg with restart := 2, retSaved := c.cycle, retIncomplete := c.incomplete,
                                   migrate := decide (leNat (c.data.take 4) ≠ g.retVersion) } }
  | _, _ => s

/-! ### AGREE and RUN -/

/-- Whether lanes are loading: LOAD, or a resume from sleep (R465, R484). -/
def State.loading (s : State) : Bool := s.phase == Phase.load || s.st.resuming

/-- Whether a lane has reported or failed. -/
def State.laneDone (s : State) (l : Lane) : Bool :=
  ((s.st.reports.get l).isSome || s.st.noticed.get l || s.ex l != Exec.loading) && (s.ln l).withdrawal.isNone

/-- JC.DIGEST as bytes. -/
def State.digestBytes (s : State) : List Byte := ((List.range 8).map (fun n => leBytes 4 (s.rd (Fld.JC_DIGEST_n_DIGEST n)))).flatten

/-- Whether a lane agrees (R466). -/
def State.laneAgrees (s : State) (l : Lane) : Bool :=
  match s.st.reports.get l with
  | some r => r.loaded && r.digest == s.digestBytes && r.planeOk && !s.st.noticed.get l && s.ex l == Exec.loading
  | none => false

/-- Whether the plane digests equal that of the plug's table (R466). -/
def State.planeAgrees (s : State) : Bool :=
  s.plane.st == PSt.hold &&
  ((List.range 8).map (fun n => leBytes 4 (s.reg (Reg.AX_DIGEST_n n)).toNat)).flatten == sha256 s.cfg.planeTable

/-- One FQ8 at permit release (R467): drive is restored and every output channel takes its safe value. -/
def State.releaseFq (s : State) (q : Nat) : State :=
  let x := getAt FqSt.none s.fq q
  if x.lost then s
  else
    let m : FqMsg := { member := s.toldMember, only := false, cmds := List.replicate 8 false, modes := List.replicate 8 3,
                       presets := List.replicate 8 false }
    let y := (List.range 8).foldl (fun y j =>
      if s.isOutput (8 * q + j) then y.apply m (8 * q) j (s.safeBit (8 * q + j)) (s.isDirect (8 * q + j)) else y) { x with drive := true }
    { s with fq := setAt s.fq q { y with inbox := y.inbox ++ [m], msg := some m } }

/-- The cycle that runs from now on: the running one where its t_rel lies ahead, else it counts as passed (R467). -/
def State.startCycles (s : State) : State :=
  let k := s.kNow
  let past := decide (k * s.tCycle + 4 * s.tRel ≤ s.clk.net)
  { s with cyc := { running := true, k := k, inDone := past, relDone := past, handDone := past, cmdDone := past, comDone := past,
                    vrDone := past, outDone := past, svcLeft := none, image := none } }

/-- Permit release (R86, R308, R467): the release message, PERMITS, drive and membership at the FQ8s, DX leaves its start state; with two lanes
voting the debug triggers are cleared. -/
def State.releasePermits (s : State) : State :=
  let s1 := ((s.modSt (fun x => { x with relSent := true, resuming := false })).set1 Fld.JC_MOD_STATUS_PERMITS).wr Fld.VT_STATUS_SAFE_ALL 1
  let s2 := (List.range 4).foldl (fun t q => t.releaseFq q) s1
  let s3 : State := { s2 with dx := { s2.dx with listenAt := some s.clk.uptime, seen := false } }
  ((s3.setClaim (if s3.flag Fld.DX_CFG_DUPLEX then 0 else 1)).startCycles).clearTriggers

/-- Digest agreement (R466): agreeing lanes enter VOTING at the entry points of their image, the others EXCLUDED. -/
def State.agree (s : State) : State :=
  let ok := lanes.filter s.laneAgrees
  let loaded := (lanes.filter (fun l => match s.st.reports.get l with
    | some r => r.loaded
    | none => false)).length
  let bad := (lanes.find? (fun l => !s.laneAgrees l)).getD .A
  let s0 := if s.st.resuming then s else s.setPhase Phase.agree
  if !s.planeAgrees then s0.enterRecovery 7 0 0
  else if ok.length < 2 then
    if s.st.resuming then (s.moduleReset (some true) false).countStart
    else s0.enterRecovery (if loaded < 2 then 9 else 0xA) (0x20 + bad.num) 0
  else
    let accept (t : State) (l : Lane) : State :=
      let base := match (s.ln l).img with
        | some g => (s.slotBase g.slot + g.entry0, s.slotBase g.slot + g.entry1)
        | none => (0, 0)
      let t1 := (t.enterVoting l false).wr (Fld.LC_LANE_STATUS_EXEC l) Exec.running
      t1.modLn l (fun n => { n with h0 := { n.h0 with pc := BitVec.ofNat 64 base.1 }, h1 := { n.h1 with pc := BitVec.ofNat 64 base.2 } })
    let s1 := lanes.foldl (fun t l =>
      if ok.contains l then accept t l else t.excludeLane l (if s.st.noticed.get l then 1 else 4) 0) s0
    let s2 := if s.st.resuming then s1 else s1.startRecord
    (((s2.setSvcMaster s2.firstVoting).syncService).setPhase Phase.run).releasePermits

/-- AGREE follows once every lane has reported or failed, with the plane in HOLD or SAFE (R465, R484). -/
def State.tryAgree (s : State) : State :=
  if s.loading && !s.testMode && lanes.all s.laneDone && decide (PSt.hold ≤ s.plane.st) then s.agree else s

/-- SELFTEST_DONE (R307, R465): the plane enters LOAD, or SAFE with cause 0x01 and the start the recovery state. -/
def execSelftestDone (pass : Bool) (s : State) : Host.Outcome State Fault Refusal :=
  .next (if s.plane.st = PSt.selftest then
      if pass then (({ s with plane := { s.plane with st := PSt.load } } : State).wr Fld.AX_STATUS_STATE PSt.load).wrB Fld.AX_STATUS_OSC_OK s.plane.osc
      else
        let s1 := (((s.planeSafe 1).wr Fld.AX_STATUS_STATE PSt.safe).wr Fld.AX_STATUS_CAUSE 1).showFaultDev
        if s.phase ≤ Phase.seal then s1.enterRecovery 7 0 0 else s1.tryAgree
    else s)

/-- PLANE_TABLE_RECEIVED (R316, R465): HOLD or SAFE; the start goes on to FILL or LOAD, or enters the recovery state. -/
def execPlaneTableReceived (table : List Byte) (lengthOk : Bool) (s : State) : Host.Outcome State Fault Refusal :=
  .next (if s.plane.st = PSt.load ∧ s.st.tableSent then
      let s1 := s.planeLoad table lengthOk
      if s.phase = Phase.seal then (if s1.plane.st = PSt.hold then s1.afterTable else s1.enterRecovery 7 0 0)
      else s1.tryAgree
    else s)

/-- PLANE_RELEASE (R307, R308): HOLD to RUN on the release message, once per start. -/
def execPlaneRelease (s : State) : Host.Outcome State Fault Refusal :=
  .next (if s.plane.st = PSt.hold ∧ s.st.relSent then
      ({ s with plane := { s.plane with st := PSt.run } } : State).wr Fld.AX_STATUS_STATE PSt.run
    else s)

/-- The memory test of the recovery state is over when no fill runs (R470): REC_STATUS reports its result. -/
def State.endTest (s : State) : State :=
  if [MemSel.lane .A, .lane .B, .lane .C, .junction].all (fun m => (s.mctl m).fillStart.isNone) then
    ((s.modSt (fun x => { x with testing := false, testBad := false })).wr Fld.UPD_REC_STATUS_BUSY 0).wr Fld.UPD_REC_STATUS_RESULT
      (if s.st.testBad then 4 else 1)
  else s

/-- FILL_COMPLETE (R163, R465, R470): `ok` says whether the fill ended without an error. -/
def execFillComplete (m : MemSel) (ok : Bool) (s : State) : Host.Outcome State Fault Refusal :=
  .next (if (s.mctl m).fillStart.isNone || s.readmitPhase == 1 then s
    else
      let s1 := s.endFill m
      if s.phase = Phase.recovery then
        if s.st.testing then (s1.modSt (fun x => { x with testBad := x.testBad || !ok })).endTest else s1
      else if !ok then s1.enterRecovery 0xB 0 0
      else if s.phase = Phase.fill ∧ s.testMode = false ∧ lanes.all (fun l => (s1.mctl (.lane l)).fillStart.isNone) then s1.beginLoad
      else s1)

/-- LANE_DIGEST_REPORT (R150, R466, R473, R484): the lane has loaded its image, or checked its slot on a resume, and answers. -/
def execLaneDigestReport (l : Lane) (digest : List Byte) (planeOk : Bool) (s : State) : Host.Outcome State Fault Refusal :=
  .next (if s.loading && !s.laneDone l then
      let r : State × Bool :=
        if s.st.resuming then
          (match (s.ln l).img with
           | some g =>
             let chk := s.checkRange (.lane l) 0 (s.slotBase g.slot) g.size
             (chk.1.useImage l g, chk.2 && s.imageOk (s.slotRd l g.slot))
           | none => (s, false))
        else s.loadImage l
      let s1 := if r.2 && (s.startsWarm || s.st.resuming) then r.1.restoreRet l else r.1
      (s1.modSt (fun x => { x with reports := x.reports.put l (some { loaded := r.2, digest := digest, planeOk := planeOk }) })).tryAgree
    else s)

/-- LOAD_TIMEOUT (R465): 5 s after LOAD began. -/
def execLoadTimeout (s : State) : Host.Outcome State Fault Refusal :=
  .next (if s.phase = Phase.load ∧ s.testMode = false ∧ s.st.phaseAt + 5 * giga ≤ s.clk.uptime then s.agree else s)

/-- WITHDRAWAL_NOTICE (R78, R79, R95, R107, R466): the notice on its way reaches the vote unit; during LOAD it keeps the lane out. -/
def execWithdrawalNotice (l : Lane) (s : State) : Host.Outcome State Fault Refusal :=
  .next (match (s.ln l).withdrawal with
    | none => s
    | some (cause, group, time) =>
      let s1 := ((s.pulse 15).modLn l (fun n => { n with withdrawal := none })).recordFault l cause group time
      if s.loading then (s1.modSt (fun x => { x with noticed := x.noticed.put l true })).tryAgree
      else (s1.withdraw l).sendMembership)

end Sys2Proof.Machine
end

