-- ==== Sys2Proof/Machine/Update.lean ====
section
/-! DEFINITION. Update (chapter 19): lane flash, activation of a staged image, junction flash, and the recovery downloads. -/

namespace Sys2Proof.Machine

/-! ### Lane flash -/

/-- The slot of a lane that its running image does not use (R474). -/
def State.freeSlot (s : State) (l : Lane) : Nat :=
  match (s.ln l).img with
  | some g => 1 - g.slot
  | none => 0

/-- The effect of a write of UPD.FLASH_CTRL (R474): refused while an operation runs, and for a lane or operation that is none. -/
def State.flashCtl (s : State) (w : Word) : State :=
  let op := wbits w Fld.UPD_FLASH_CTRL_OP
  if wbits w Fld.UPD_FLASH_CTRL_GO = 0 then s
  else match Lane.ofNat? (wbits w Fld.UPD_FLASH_CTRL_LANE) with
    | some l =>
      if s.st.flashOp.isSome || op == 0 || op == 3 then s.wr Fld.UPD_FLASH_STATUS_RESULT 8
      else (((s.modSt (fun x => { x with flashOp := some (l, op == 2) })).set1 Fld.UPD_FLASH_STATUS_BUSY).wr Fld.UPD_FLASH_STATUS_RESULT 0).wr
        Fld.UPD_FLASH_STATUS_PERCENT 0
    | none => s.wr Fld.UPD_FLASH_STATUS_RESULT 8

/-- FLASH_VERIFY (R474). -/
def execFlashVerify (i : Initiator) (w : Word) (s : State) : Host.Outcome State Fault Refusal :=
  .next (s.regCmd i Reg.UPD_FLASH_CTRL w (fun t => t.flashCtl (w &&& 0xFFFFFFF3 ||| 0x80000004)))

/-- FLASH_WRITE (R474). -/
def execFlashWrite (i : Initiator) (w : Word) (s : State) : Host.Outcome State Fault Refusal :=
  .next (s.regCmd i Reg.UPD_FLASH_CTRL w (fun t => t.flashCtl (w &&& 0xFFFFFFF3 ||| 0x80000008)))

/-- The free slot of a lane has passed R473: STAGED and the staged version (R474, R479). -/
def State.stageImage (s : State) (l : Lane) (g : LaneImage) : State :=
  ((s.modSt (fun x => { x with stagedImg := x.stagedImg.put l (some g) })).wrBit Reg.UPD_FLASH_STATUS (28 + l.num) true).wr
    Fld.UPD_IMG_ID_STAGED_VERSION (g.id % 65536)

/-- FLASH_OP_DONE (R473, R474): `flashOk` says whether erasing and programming, where the operation is WRITE, succeeded. -/
def execFlashOpDone (flashOk : Bool) (s : State) : Host.Outcome State Fault Refusal :=
  .next (match s.st.flashOp with
    | none => s
    | some (l, write) =>
      let rd := s.slotRd l (s.freeSlot l)
      let g := imageOf rd s.cfg.vars s.cfg.sOut
      let chk := s.checkRange (.lane l) 0 (s.slotBase (s.freeSlot l)) g.size
      let s1 := ((chk.1.modSt (fun x => { x with flashOp := none })).wr Fld.UPD_FLASH_STATUS_BUSY 0).wr Fld.UPD_FLASH_STATUS_PERCENT 100
      if chk.2 && s.imageOk rd then
        let s2 := s1.stageImage l g
        if !write then s2.wr Fld.UPD_FLASH_STATUS_RESULT 1
        else if flashOk then (s2.modLn l (fun n => { n with flash := Mem.putBytes [] 0 (rd 0 g.size) })).wr Fld.UPD_FLASH_STATUS_RESULT 1
        else (s2.modLn l (fun n => { n with flash := [] })).wr Fld.UPD_FLASH_STATUS_RESULT 3
      else (s1.unstage l).wr Fld.UPD_FLASH_STATUS_RESULT 2)

/-! ### Activation -/

/-- The image that the voting lanes hold staged, none unless all hold the same (R475). -/
def State.stagedImage (s : State) : Option LaneImage :=
  match (lanes.filter s.votes).map (fun l => s.st.stagedImg.get l) with
  | some g :: r => if r.all (fun x => match x with
      | some y => y.id == g.id
      | none => false) then some g else none
  | _ => none

/-- k_r (R476): the first cycle whose t_rel lies at or after t_com of cycle k_a − 1 plus B plus 250 µs. -/
def State.actKr (s : State) (ka b : Nat) : Nat :=
  ka - 1 + max 1 (ceilDiv (4 * s.tCom + 1000 * b + 250000 - 4 * s.tRel) s.tCycle)

/-- The check of an activation in table order (R475); `pending` where one is pending already. -/
def State.actRefusal (s : State) (ka partner : Nat) (pending : Bool) : Option Nat :=
  match s.stagedImage with
  | none => some 2
  | some g =>
    if 1500 < g.budget then some 3
    else if 2000000 < (s.actKr ka g.budget - ka) * s.tCycle then some 4
    else if s.readmitPhase ≠ 0 then some 5
    else if s.chg.block.isSome then some 6
    else if s.flag Fld.DX_CFG_DUPLEX && (s.dst != DSt.active || s.rd Fld.DX_PARTNER_STATE != DSt.ready || partner != g.id) then some 7
    else if pending then some 8
    else none

/-- The effect of a write of UPD.ACT_CTRL (R475): refused, or pending with k_a, the gap and k_r. -/
def State.actGo (s : State) (w : Word) (partner : Nat) : State :=
  if wbits w Fld.UPD_ACT_CTRL_GO = 0 then s
  else
    let ka := (if s.cyc.relDone then s.cyc.k else s.cyc.k - 1) + max 4 (wbits w Fld.UPD_ACT_CTRL_LEAD)
    match s.actRefusal ka partner s.st.act.isSome with
    | some r => s.wr Fld.UPD_ACT_STATUS_RESULT r
    | none =>
      let kr := s.actKr ka ((s.stagedImage.map (·.budget)).getD 0)
      ((((s.modSt (fun x => { x with
          act := some { ka := ka, kr := kr, partner := partner, paused := false, ready := Tri.all false }, lastKa := some ka })).set1
        Fld.UPD_ACT_STATUS_PENDING).wr Fld.UPD_ACT_STATUS_RESULT 0).wr Fld.UPD_ACT_STATUS_GAP (kr - ka)).wr Fld.UPD_ACT_STATUS_K_A ka

/-- ACT_GO (R475). -/
def execActGo (i : Initiator) (w : Word) (partner : Nat) (s : State) : Host.Outcome State Fault Refusal :=
  .next (s.regCmd i Reg.UPD_ACT_CTRL w (fun t => t.actGo (w ||| 0x80000000) partner))

/-- An activation ends with its RESULT. -/
def State.endAct (s : State) (res : Nat) : State :=
  ((s.modSt (fun x => { x with act := none })).wr Fld.UPD_ACT_STATUS_PENDING 0).wr Fld.UPD_ACT_STATUS_RESULT res

/-- Both harts of a lane enter Awl (R476). -/
def State.enterAwl (s : State) (l : Lane) : State :=
  s.modLn l (fun n => { n with h0 := { n.h0 with pc := 0, machine := true, gated := false }, h1 := { n.h1 with pc := 0, machine := true, gated := false } })

/-- The activation at the commit instant of cycle k_a − 1 (R475, R476): checked again by the unit that runs it, then the pause begins. -/
def State.actCommit (s : State) : State :=
  match s.st.act with
  | some a =>
    if s.cyc.k + 1 = a.ka ∧ ¬ a.paused then
      let again : Option Nat := if s.dst = DSt.ready then none else s.actRefusal a.ka a.partner false
      match again with
      | some r => s.endAct r
      | none => (lanes.filter s.votes).foldl (fun t l => t.enterAwl l) (s.modSt (fun x => { x with act := some { a with paused := true } }))
    else s
  | none => s

/-- LANE_READY (R476, R477): the lane's Awl has switched to the staged slot and initialised; MIGRATE says whether the retained region's version
differs. -/
def execLaneReady (l : Lane) (s : State) : Host.Outcome State Fault Refusal :=
  .next (match s.st.act, s.st.stagedImg.get l with
    | some a, some g =>
      if a.paused && !a.ready.get l && s.votes l then
        let old := s.cfg.retBase
        let s1 := s.modSt (fun x => { x with act := some { a with ready := a.ready.put l true } })
        let chk := s1.checkRange (.lane l) 0 old (min s.cfg.retSize g.retSize)
        let data := chk.1.laneBytes l old (min s.cfg.retSize g.retSize)
        if !chk.2 then chk.1 else
        let moved := if g.retBase = old then chk.1 else chk.1.lanePut l g.retBase data
        let s2 := if leNat (data.take 4) = g.retVersion then moved else moved.lanePut l g.retBase (leBytes 4 g.retVersion)
        let e0 := BitVec.ofNat 64 (s.slotBase (s.freeSlot l) + g.entry0)
        let e1 := BitVec.ofNat 64 (s.slotBase (s.freeSlot l) + g.entry1)
        let s3 := s2.modLn l (fun n => { n with img := some { g with slot := s.freeSlot l }, h0 := { n.h0 with pc := e0, gated := false },
                                                h1 := { n.h1 with pc := e1, gated := false } })
        let s4 : State := { s3 with chg := { s3.chg with migrate := s3.chg.migrate || decide (leNat (data.take 4) ≠ g.retVersion) } }
        s4.unstage l
      else s
    | _, _ => s)

/-- The release of cycle k_r (R476): tasks IDLE with their counters kept, the pause over; a lane that is not ready hands over no more. -/
def State.actRelease (s : State) : State :=
  match s.st.act with
  | some a =>
    if a.paused && decide (a.kr ≤ s.cyc.k) then
      let vs := lanes.filter s.votes
      let ok := vs.filter (fun l => a.ready.get l)
      let s1 := vs.foldl (fun t l =>
        if a.ready.get l then t.clearTasks l else t.modLn l (fun n => { n with egressOpen := false, cmdLink := false })) s
      let s2 : State := match ok.findSome? (fun l => (s.ln l).img) with
        | some g => ({ s1 with cfg := { s1.cfg with retBase := g.retBase, retSize := g.retSize, vars := g.vars } } : State).wr
            Fld.UPD_IMG_ID_RUN_VERSION (g.id % 65536)
        | none => s1
      s2.endAct (if ok.length < 2 then 9 else 1)
    else s
  | none => s

/-- PARTNER_ACTIVATION (R478): the standby activates so that the partner's image of cycle k_r, which it takes one cycle later, is the first it
processes with the new image. -/
def execPartnerActivation (ka kr : Nat) (s : State) : Host.Outcome State Fault Refusal :=
  .next (if s.dst = DSt.ready ∧ s.st.act = none then
      (((s.modSt (fun x => { x with
          act := some { ka := ka + 1, kr := kr + 1, partner := 0, paused := false, ready := Tri.all false }, lastKa := some ka })).set1
        Fld.UPD_ACT_STATUS_PENDING).wr Fld.UPD_ACT_STATUS_GAP (kr - ka)).wr Fld.UPD_ACT_STATUS_K_A ka
    else s)

/-! ### Junction flash -/

/-- The effect of a write of UPD.JFLASH (R480): a GO while one runs is ignored. -/
def State.jflashCtl (s : State) (w : Word) : State :=
  if wbits w Fld.UPD_JFLASH_GO = 1 ∧ ¬ s.flag Fld.UPD_JFLASH_BUSY then
    (s.set1 Fld.UPD_JFLASH_BUSY).wr Fld.UPD_JFLASH_RESULT 0
  else s

/-- JFLASH_GO (R480). -/
def execJflashGo (i : Initiator) (w : Word) (s : State) : Host.Outcome State Fault Refusal :=
  .next (s.regCmd i Reg.UPD_JFLASH w (fun t => t.jflashCtl (w ||| 0x80000000)))

/-- The junction copy that is not loaded takes a download (R480): RESULT 1 done, 2 rejected, 3 flash error. -/
def State.programJunction (s : State) (valid : Bool) (version : Nat) (flashOk : Bool) : State × Nat :=
  if !valid then (s, 2)
  else
    let c : JCopy := { valid := flashOk, version := version }
    let s1 := s.modSt (fun x => if s.flag Fld.UPD_JFLASH_LOADED then { x with copyA := c } else { x with copyB := c })
    (s1, if flashOk then 1 else 3)

/-- JFLASH_DONE (R480): whether the download's signature held, its version, and whether programming succeeded. -/
def execJflashDone (valid : Bool) (version : Nat) (flashOk : Bool) (s : State) : Host.Outcome State Fault Refusal :=
  .next (if s.flag Fld.UPD_JFLASH_BUSY then
      let r := s.programJunction valid version flashOk
      (r.1.wr Fld.UPD_JFLASH_BUSY 0).wr Fld.UPD_JFLASH_RESULT r.2
    else s)

/-! ### The recovery state -/

/-- Programming of the download begins (R471): TARGET as lane mask, 0 the junction. -/
def State.startProgram (s : State) (target len : Nat) : State :=
  ((s.modSt (fun x => { x with prog := some (target, len) })).set1 Fld.UPD_REC_STATUS_BUSY).wr Fld.UPD_REC_STATUS_RESULT 0

/-- The memory test begins (R470): every memory is filled. -/
def State.startTest (s : State) : State :=
  [MemSel.lane .A, .lane .B, .lane .C, .junction].foldl (fun t m => t.beginFill m)
    (((({ s with welt := { s.welt with last := none, flushWord := 0 } } : State).modSt (fun x => { x with testing := true, testBad := false })).set1
      Fld.UPD_REC_STATUS_BUSY).wr Fld.UPD_REC_STATUS_RESULT 0)

/-- The effect of a write of UPD.REC_CTRL (R470, R471): in RECOVERY only; nothing while an operation runs. -/
def State.recCtl (s : State) (w : Word) : State :=
  if s.phase ≠ Phase.recovery ∨ s.flag Fld.UPD_REC_STATUS_BUSY then s
  else if wbits w Fld.UPD_REC_CTRL_PROGRAM = 1 then s.startProgram (wbits w Fld.UPD_REC_CTRL_TARGET) (wbits w Fld.UPD_REC_CTRL_LEN)
  else if wbits w Fld.UPD_REC_CTRL_MEMTEST = 1 then s.startTest
  else s

/-- REC_PROGRAM (R471). -/
def execRecProgram (i : Initiator) (w : Word) (s : State) : Host.Outcome State Fault Refusal :=
  .next (s.regCmd i Reg.UPD_REC_CTRL w (fun t => t.recCtl (w ||| 0x80000000)))

/-- MEMTEST (R470). -/
def execMemtest (i : Initiator) (w : Word) (s : State) : Host.Outcome State Fault Refusal :=
  .next (s.regCmd i Reg.UPD_REC_CTRL w (fun t => t.recCtl (w &&& 0x7FFFFFFF ||| 0x40000000)))

/-- The download area as a reader (R471). -/
def State.downloadRd (s : State) : ImgRd := fun o n => s.ddrBytes .junction (0x50000000 + o) n

/-- The lanes of TARGET take the download (R471, R473): only when the plug was verified. -/
def State.programLanes (s : State) (target len : Nat) (flashOk : Bool) : State × Nat :=
  let g := imageOf s.downloadRd s.cfg.vars s.cfg.sOut
  let chk := s.checkRange .junction 4 0x50000000 len
  if chk.2 && s.st.plugOk && decide (g.size ≤ len) && s.imageOk s.downloadRd then
    let m : Mem := if flashOk then Mem.putBytes [] 0 (s.downloadRd 0 g.size) else []
    (lanes.foldl (fun t l => if bitOf target l.num then t.modLn l (fun n => { n with flash := m }) else t) chk.1, if flashOk then 1 else 3)
  else (chk.1, 2)

/-- REC_PROGRAM_DONE (R471): `valid` and `version` are the verdict on a junction image. -/
def execRecProgramDone (valid : Bool) (version : Nat) (flashOk : Bool) (s : State) : Host.Outcome State Fault Refusal :=
  .next (match s.st.prog with
    | none => s
    | some (target, len) =>
      let r := if target = 0 then s.programJunction valid version flashOk else s.programLanes target len flashOk
      ((r.1.modSt (fun x => { x with prog := none })).wr Fld.UPD_REC_STATUS_BUSY 0).wr Fld.UPD_REC_STATUS_RESULT r.2)

/-- TFTP_WRITE_REQUEST (R471, RFC 1350): an octet request for the file "lane" or "junction" opens a transfer and is acknowledged with block 0;
any other is answered with an error. -/
def execTftpWriteRequest (file mode : String) (s : State) : Host.Outcome State Fault Refusal :=
  .next (if s.phase ≠ Phase.recovery then s
    else if mode = "octet" ∧ (file = "lane" ∨ file = "junction") then
      (s.modSt (fun x => { x with tftp := some (file == "lane", 0, 0), tftpOut := some (4, 0) })).wr Fld.UPD_REC_STATUS_BLOCKS 0
    else s.modSt (fun x => { x with tftpOut := some (5, 4) }))

/-- TFTP_DATA_BLOCK (R471): the next block of at most 512 bytes lands and is acknowledged, a shorter one ends the transfer and programs the
download; the last block again is acknowledged again. -/
def execTftpDataBlock (block : BitVec 16) (data : List Byte) (s : State) : Host.Outcome State Fault Refusal :=
  .next (match s.st.tftp with
    | none => s
    | some (lane, n, len) =>
      let d := data.take 512
      if s.phase ≠ Phase.recovery then s
      else if block.toNat = (n + 1) % 65536 then
        if 0x4000000 < len + d.length then s.modSt (fun x => { x with tftp := none, tftpOut := some (5, 3) })
        else
          let s1 := ((s.ddrPut .junction (0x50000000 + len) d).wr Fld.UPD_REC_STATUS_BLOCKS (n + 1)).modSt (fun x =>
            { x with tftp := some (lane, n + 1, len + d.length), tftpOut := some (4, block.toNat) })
          if d.length < 512 then
            let s2 := s1.modSt (fun x => { x with tftp := none })
            if s.flag Fld.UPD_REC_STATUS_BUSY then s2 else s2.startProgram (if lane then 7 else 0) (len + d.length)
          else s1
      else if block.toNat = n % 65536 then s.modSt (fun x => { x with tftpOut := some (4, block.toNat) })
      else s)

/-- TFTP_STATUS_READ (R471): the answer is one data block with UPD.REC_STATUS. -/
def execTftpStatusRead (s : State) : Host.Outcome State Fault Refusal :=
  .next (if s.phase = Phase.recovery then s.modSt (fun x => { x with tftpOut := some (3, (s.reg Reg.UPD_REC_STATUS).toNat) }) else s)

end Sys2Proof.Machine
end

