-- ==== Sys2Proof/Machine/Sleep.lean ====
section
/-! DEFINITION. Depot sleep (chapters 09 and 19): the SLEEP, IDLE, WAKE and RESUME frames of the rings, entry to sleep, and the resume. -/

namespace Sys2Proof.Machine

/-! ### Entry -/

/-- Step 1 of R482: as on a power-fail warning the Treadles halt releases and discard notices, and the retained capture begins; all forces
are removed. -/
def State.sleepEntry (s : State) : State :=
  if s.st.sleepFrom.isSome ∨ s.phase ≠ Phase.run then s
  else (lanes.foldl (fun t l => t.clearForces l) s.haltReleases).beginCapture.modSt (fun x => { x with sleepFrom := some s.clk.uptime })

/-- The module has launched what stands in place of the data frame of cycle k. -/
def State.launched (s : State) (r : Ring) (k : Nat) : State :=
  s.modRg r (fun g => { g with
    sent := some { cycle := k, header := [], slots := [], conts := [], count := 0, record := [], west := s.flag (openFld r true) } })

/-- The leader launches a SLEEP frame in place of the data frame of cycle k (R235, R260). -/
def State.launchSleep (s : State) (r : Ring) (k : Nat) : State :=
  let body := leBytes 1 4 ++ leBytes 1 (s.launchFlags r) ++ leBytes 1 (s.rd (Fld.SX_CFG_ADDR r)) ++ leBytes 1 0 ++ leBytes 4 (k + 1) ++ leBytes 4 0
  ((s.launchOn r body).launched r k).sleepEntry

/-- The leader launches the data frame of cycle k (R212, R218, R222, R228). -/
def State.launchData (s : State) (r : Ring) (k : Nat) (slots : List RetSlot) (conts : List Container) : State :=
  let s0 := if s.flag Fld.SX_SCHED_CTRL_BASTE_PENDING && s.annAt.isNone then
      { s with annAt := some ((k + s.rd Fld.SX_SCHED_CTRL_LEAD) % 2 ^ 32) }
    else s
  let west := s.flag (openFld r true)
  let x : Launched :=
    { cycle := k, header := s0.launchHeader r (k % 2 ^ 32), slots := s0.launchSlots r (k % 2 ^ 32) slots, conts := s0.launchConts r conts,
      count := s.rd Fld.SX_COUNTS_CONTAINERS, record := s0.launchRecord r k, west := west }
  let until_ := s.clk.uptime + 8 * (4 * s.rd Fld.SX_LEN4_LEN4 + 2)
  let s1 := (List.range 256).foldl (fun t n => if entWrite (s.entry n) then t.putSlot r n (s.slotOut r n (k % 2 ^ 32) false) else t) s0
  s1.modRg r (fun g => { g with
    sent := some x, fresh := false, claimOut := [], outE := if west then g.outE else until_, outW := if west then until_ else g.outW })

/-- FRAME_LAUNCH (R212, R218, R226, R228, R257, R260): one frame per cycle at SX.LAUNCH after the cycle start; a SLEEP frame in its place
where one was asked for. -/
def execFrameLaunch (r : Ring) (slots : List RetSlot) (conts : List Container) (s : State) : Host.Outcome State Fault Refusal :=
  let g := s.rg r
  let k := (s.clk.net - 4 * s.rd Fld.SX_LAUNCH_JC) / s.tCycle
  let allowed := match g.launchFrom with
    | some t => decide (t ≤ k * s.tCycle)
    | none => true
  let due := match g.sent with
    | some x => decide (x.cycle < k)
    | none => true
  .next (if s.rst r == RSt.lead && allowed && due then
      if g.sleepAt = some (k + 1) then s.launchSleep r k
      else if g.healing then
        ((s.sendCensus r).launched r k).modRg r (fun g => { g with healing := false, fresh := true })
      else s.launchData r k slots conts
    else s)

/-- The effect of SX.INAUG_CTRL.SLEEP (R260): at the leader, on every enabled ring, with the next frame. -/
def State.askSleep (s : State) (r : Ring) : State :=
  if s.rst r = RSt.lead then
    s.enabledRings.foldl (fun t x =>
      let k := (s.clk.net - 4 * s.rd Fld.SX_LAUNCH_JC) / s.tCycle
      let sent := match (s.rg x).sent with
        | some y => decide (k ≤ y.cycle)
        | none => false
      t.modRg x (fun g => { g with sleepAt := some (if sent then k + 2 else k + 1) })) s
  else s

/-- INAUG_SLEEP (R260). -/
def execInaugSleep (i : Initiator) (r : Ring) (w : Word) (s : State) : Host.Outcome State Fault Refusal :=
  .next (s.regCmd i (Reg.SX_INAUG_CTRL r) w (fun t => t.askSleep r))

/-- SLEEP_FRAME (R235, R252, R260, R482): forwarded; a unit that takes it schedules its switch, and the module begins to enter depot sleep. -/
def execSleepFrame (r : Ring) (c : CtrlIn) (leader sleepAt : Nat) (s : State) : Host.Outcome State Fault Refusal :=
  let body := leBytes 1 4 ++ leBytes 1 (s.flagsOut r c.onEast c.flags) ++ leBytes 1 leader ++ leBytes 1 0 ++ leBytes 4 sleepAt ++ leBytes 4 0
  .next (if !c.checkOk || s.rst r == RSt.disabled || s.rst r == RSt.sleep || s.rst r == RSt.lead then s
    else
      let s1 := s.forwardOn r c.onEast body
      if s.takes r c.onEast && s.awaits r then (s1.modRg r (fun g => { g with sleepAt := some sleepAt })).sleepEntry else s1)

/-- A ring unit goes to 12.5 Mbaud in SLEEP (R260, R261); it keeps its full-rate path delay. -/
def State.ringSleep (s : State) (r : Ring) : State :=
  let led := s.rst r == RSt.lead
  (s.setRst r RSt.sleep).modRg r (fun g =>
    { g with led := led, cur := none, sleepAt := none, sleepNs := s.clk.net, keepDelay := s.rd (Fld.SX_PATH_DELAY_VALUE r), anchored := false, idles := 0,
             missed := 0, wakeAt := none, resumeAt := none })

/-- Step 2 of R482: drive is removed from the FQ8s, the plane is powered down, no cycle runs. -/
def State.sleepOff (s : State) : State :=
  let s1 : State := { s with fq := s.fq.map (fun q => { q with drive := false }), cyc := { s.cyc with running := false }, plane := PlaneSt.off }
  (((s1.wr Fld.AX_STATUS_STATE 0).setReg Reg.AX_PERMITS 0).wr Fld.JC_MOD_STATUS_PERMITS 0).stagesUpdate

/-- SLEEP_SWITCH (R260, R482): the start of cycle SLEEP_AT. -/
def execSleepSwitch (s : State) : Host.Outcome State Fault Refusal :=
  let due := s.enabledRings.filter (fun r => s.rst r != RSt.sleep && s.rst r != RSt.disabled && (match (s.rg r).sleepAt with
    | some k => cycleReached s.kNow k
    | none => false))
  .next (if due = [] then s else (due.foldl (fun t r => t.ringSleep r) s).sleepOff)

/-- SLEEP_LINE_TIMEOUT (R260): a unit without line code at 1.25 Gbaud for 1 ms switches itself, and the module with it. -/
def execSleepLineTimeout (r : Ring) (s : State) : Host.Outcome State Fault Refusal :=
  let g := s.rg r
  .next (if g.eLoss && g.wLoss && s.awaits r then
      ((s.ringSleep r).sleepEntry).sleepOff
    else s)

/-- SLEEP_POWER_DOWN (R482, step 3): the copies are saved, the lanes are powered down, DDR4 is in self-refresh, the module sleeps. -/
def execSleepPowerDown (s : State) : Host.Outcome State Fault Refusal :=
  .next (if s.st.sleepFrom.isSome && !s.cyc.running && lanes.all (fun l => !s.votes l || (s.ln l).pfCaptured) then
      let s1 := s.saveCopies
      let s2 := lanes.foldl (fun t l =>
        ((t.stopLane l).wr (Fld.LC_LANE_STATUS_EXEC l) Exec.held).setMember l Mbr.init |>.modLn l (fun n =>
          { n with scratch := [], bank0 := [], bank1 := [], work := [], pub := [], staged := none, withdrawal := none, haltNotice := false })) s1
      let s3 : State := { s2 with jddrRefresh := true, chg := { s2.chg with saveWarn := false } }
      ((((s3.setSvcMaster none).set1 Fld.JC_MOD_STATUS_SLEEP).bump Fld.UPD_SLEEP_STATUS_SLEEPS).setPhase 9).modSt
        (fun x => { x with sleepFrom := none, act := none }) |>.wr Fld.UPD_ACT_STATUS_PENDING 0
    else s)

/-! ### The ring in SLEEP -/

/-- The body of an IDLE frame (R235). -/
def idleBody (flags leader count launch : Nat) (ofs : Int) (tflags : Nat) : List Byte :=
  leBytes 1 5 ++ leBytes 1 flags ++ leBytes 1 leader ++ leBytes 1 0 ++ leBytes 4 count ++ leBytes 6 (launch / giga) ++ leBytes 4 (launch % giga) ++
    leBytes 8 (ofSigned 64 ofs) ++ leBytes 1 tflags ++ leBytes 1 0

/-- IDLE_LAUNCH (R185, R235, R261): one IDLE every 10 ms on every ring that the module led, stamped with its departure instant. -/
def execIdleLaunch (s : State) : Host.Outcome State Fault Refusal :=
  .next (rings.foldl (fun t r =>
    let g := s.rg r
    let at_ := g.sleepNs + 10000000 * g.idles + 4 * s.rd Fld.SX_LAUNCH_JC
    if s.rst r = RSt.sleep ∧ g.led ∧ at_ ≤ s.clk.net then
      (t.launchOn r (idleBody (s.launchFlags r) (s.rd (Fld.SX_CFG_ADDR r)) g.idles s.clk.net s.clk.ofs s.timeFlags)).modRg r
        (fun x => { x with idles := x.idles + 1 })
    else t) s)

/-- IDLE_FRAME (R181, R186, R252, R254, R261): forwarded; the first one that the unit takes, and one whose fold flags changed, re-anchors the
path delay; others within ±20 µs set the phase error. -/
def execIdleFrame (r : Ring) (c : CtrlIn) (h : IdleHdr) (launch : Nat) (ofs : Int) (tflags : Fin 4) (s : State) :
    Host.Outcome State Fault Refusal :=
  let g := s.rg r
  let flags := s.flagsOut r c.onEast c.flags
  .next (if !c.checkOk || s.rst r != RSt.sleep || g.led then s
    else
      let s0 := s.forwardOn r c.onEast (idleBody flags h.leader h.count launch ofs tflags)
      if !s.takes r c.onEast then s0
      else
        let s1 := s0.modRg r (fun x => { x with missed := 0, fold := flags % 4 })
        let e : Int := ((launch + s.pathDelay r : Nat) : Int) - s.clk.net
        let s2 :=
          if !g.anchored || flags % 4 != g.fold then
            ((s1.wr (Fld.SX_PATH_DELAY_VALUE r) (s.clk.net - launch)).bump (Fld.SX_HEM_COUNT_REANCHOR r)).modRg r (fun x => { x with anchored := true })
          else if -20000 ≤ e ∧ e ≤ 20000 then
            ({ s1 with clk := { s1.clk with corr := e } } : State).wr (Fld.SX_PHASE_ERR_VALUE r) (ofSigned 32 e)
          else s1
        if s.rd Fld.TB_CFG_WALL_SRC = 0 ∧ tflags.val % 2 = 1 then s2.takeOffset ofs else s2)

/-- IDLE_MISSED (R261): after 4 missed IDLE frames the leader counts as lost; there is no cold start. -/
def execIdleMissed (r : Ring) (s : State) : Host.Outcome State Fault Refusal :=
  .next (if s.rst r = RSt.sleep ∧ ¬ (s.rg r).led then
      let s1 := s.modRg r (fun g => { g with missed := g.missed + 1 })
      if (s.rg r).missed = 3 then s1.bump (Fld.SX_CS_COUNT_LEADER_LOST r) else s1
    else s)

/-! ### Wake and resume -/

/-- A unit in SLEEP sends a WAKE on both pairs (R235, R262). -/
def State.sendWake (s : State) (r : Ring) : State :=
  if s.rst r = RSt.sleep then
    (s.sendOn r (claimBody 6 (4 * r.num) (s.rd (Fld.SX_CFG_ADDR r)) 0 (s.clk.uptime % 2 ^ 32)) true true).modRg r (fun g =>
      { g with wakeAt := some (g.wakeAt.getD s.clk.uptime) })
  else s

/-- INAUG_WAKE (R262). -/
def execInaugWake (i : Initiator) (r : Ring) (w : Word) (s : State) : Host.Outcome State Fault Refusal :=
  .next (s.regCmd i (Reg.SX_INAUG_CTRL r) w (fun t => t.sendWake r))

/-- The wake command (R483): WAKE on the enabled rings whose WAKE_EN is set; with none, WAKE_HELD. -/
def State.wakeCmd (s : State) : State :=
  if !s.flag Fld.JC_MOD_STATUS_SLEEP then s
  else match s.enabledRings.filter (fun r => s.flag (Fld.SX_CS_CFG_WAKE_EN r)) with
    | [] => s.set1 Fld.UPD_SLEEP_STATUS_WAKE_HELD
    | rs => rs.foldl (fun t r => t.sendWake r) s

/-- WAKE_COMMAND (R426, R483): a host write of UPD.SLEEP_CTRL, or the wake request that an Eyelet post has left. -/
def execWakeCommand (host : Option Word) (s : State) : Host.Outcome State Fault Refusal :=
  .next (match host with
    | some w => s.regCmd .host Reg.UPD_SLEEP_CTRL w (fun t => t.wakeCmd)
    | none => if s.wakeReq then ({ s with wakeReq := false } : State).wakeCmd else s)

/-- Both units in SLEEP will resume at a network time: one leader serves both rings (R234, R262; DEDUCED, log 91). -/
def State.resumeBoth (s : State) (at_ : Nat) : State :=
  rings.foldl (fun t r => if t.rst r = RSt.sleep then t.modRg r (fun g => { g with resumeAt := some at_ }) else t) s

/-- The body of a RESUME (R235). -/
def resumeBody (flags leader at_ : Nat) : List Byte :=
  leBytes 1 7 ++ leBytes 1 flags ++ leBytes 1 leader ++ leBytes 1 0 ++ leBytes 6 (at_ / giga) ++ leBytes 4 (at_ % giga) ++ leBytes 2 0

/-- WAKE_FRAME (R262): forwarded; a unit that led answers with a RESUME on the rings it led, RESUME_AT = launch + 2 ms + NODES × 40 µs. -/
def execWakeFrame (r : Ring) (c : CtrlIn) (source nonce : Nat) (s : State) : Host.Outcome State Fault Refusal :=
  .next (if c.checkOk && s.rst r == RSt.sleep then
      let s1 := (s.forwardOn r c.onEast (claimBody 6 (s.flagsOut r c.onEast c.flags) source 0 nonce)).modRg r (fun g =>
        { g with wakeAt := some (g.wakeAt.getD s.clk.uptime) })
      if (s.rg r).led && (s.rg r).resumeAt.isNone then
        let at_ := s.clk.net + 2000000 + 40000 * ((s.sched.map (fun p => p.order.length + 1)).getD 1)
        (rings.foldl (fun t x => if t.rst x = RSt.sleep ∧ (t.rg x).led then
          t.launchOn x (resumeBody (t.launchFlags x) (t.rd (Fld.SX_CFG_ADDR x)) at_) else t) s1).resumeBoth at_
      else s1
    else s)

/-- RESUME_FRAME (R252, R262): forwarded; where the unit takes it, it names the time of the resume. -/
def execResumeFrame (r : Ring) (c : CtrlIn) (leader resumeAt : Nat) (s : State) : Host.Outcome State Fault Refusal :=
  .next (if c.checkOk && s.rst r == RSt.sleep && !(s.rg r).led then
      let s1 := s.forwardOn r c.onEast (resumeBody (s.flagsOut r c.onEast c.flags) leader resumeAt)
      if s.takes r c.onEast then s1.resumeBoth resumeAt else s1
    else s)

/-- A register word at its reset value but for the fields that the plug loaded. -/
def plugOnly (k : Nat) (w : Word) : Word :=
  match regAt k with
  | some d => BitVec.ofNat 32 (plugMerge (plugRo d) w.toNat d.fields (regReset k).toNat)
  | none => w

/-- The registers that begin anew at a resume (R483, R484): of the vote unit and the field channels, and those of the powered-down lanes but the
retire table, which a retention domain holds. -/
def resumeKey (k : Nat) : Bool :=
  if k < 0x1000000 then k / 0x10000 == 4 || (k / 0x10000 == 5 && decide (0x100 ≤ k % 0x10000 ∧ k % 0x10000 < 0x500))
  else match regAt k with
    | some d => d.name != "MEM.RT_n"
    | none => true

/-- A lane's memory controller after depot sleep (R483): the valid bitmap, the retirement copy and the placed check bits of its DDR4 stay. -/
def MemCtl.afterSleep (c : MemCtl) (uptime : Nat) : MemCtl :=
  { MemCtl.fresh with valid := c.valid, copying := c.copying, chk := c.chk, lapStart := uptime }

/-- The module resumes (R484): no module start, but the plane, the lanes, VT, TRD and the field channels begin anew. -/
def State.resume (s : State) : State :=
  if s.phase ≠ 9 ∧ s.st.sleepFrom = none then s
  else
    let s1 := s.regs.foldl (fun t e => if resumeKey e.1 then t.setReg e.1 (plugOnly e.1 e.2) else t) s
    let s2 : State := { s1 with
      jddrRefresh := false, vote := VoteSt.fresh, fq := List.replicate 4 FqSt.none, plane := { PlaneSt.off with st := PSt.selftest, heardAt := s.clk.uptime }
      fld := { FieldSt.fresh with tickAt := s.clk.uptime, lastTick := s.clk.uptime }
      chg := { ChgSt.fresh with saveSeq := s.chg.saveSeq, restart := 3 }
      memc := ⟨s.memc.a.afterSleep s.clk.uptime, s.memc.b.afterSleep s.clk.uptime, s.memc.c.afterSleep s.clk.uptime⟩ }
    let s3 := (((((s2.wr Fld.UPD_CHG_STATUS_BUSY 0).wr Fld.JC_MOD_STATUS_SLEEP 0).bump Fld.UPD_SLEEP_STATUS_RESUMES).wr Fld.AX_STATUS_STATE PSt.selftest).setReg
      Reg.AX_PERMITS 0).sealField.showMem
    let s4 := s3.modSt (fun x => { x with resuming := true, sleepFrom := none, tableSent := true, relSent := false, reports := Tri.all none, noticed := Tri.all false })
    let s5 := lanes.foldl (fun t l =>
      let t1 := t.modLn l (fun n => { LaneSt.fresh with flash := n.flash, img := n.img, ddr := n.ddr })
      if t1.pllLocked l then ((t1.releaseHarts l).wr (Fld.LC_LANE_STATUS_EXEC l) Exec.loading).wr Fld.VT_STATUS_SAFE_ALL 1 else t1) s4
    (((s5.setDst (if s5.flag Fld.DX_CFG_DUPLEX then DSt.listen else DSt.single)).setClaim 0).showStrap).mcStart

/-- RESUME_INSTANT (R262, R484): the units switch to 1.25 Gbaud and enter UNSYNC with their full-rate path delay; one that led launches
from the first cycle start 500 µs later. -/
def execResumeInstant (s : State) : Host.Outcome State Fault Refusal :=
  let due := rings.filter (fun r => s.rst r == RSt.sleep && (match (s.rg r).resumeAt with
    | some t => decide (t ≤ s.clk.net)
    | none => false))
  let back (t : State) (r : Ring) : State :=
    let g := s.rg r
    let at_ := g.resumeAt.getD 0
    let t1 := t.wr (Fld.SX_PATH_DELAY_VALUE r) g.keepDelay
    let t2 := if g.led then t1.setRst r RSt.lead else t1.setRst r RSt.unsync
    t2.modRg r (fun x => { x with led := false, resumeAt := none, wakeAt := none, missed := 0, anchored := false, sent := none, last := none
                                  launchFrom := if g.led then some (s.cycleFrom (at_ + 500000)) else x.launchFrom })
  .next (if due = [] then s else (due.foldl back s).resume)

/-- WAKE_TIMEOUT (R234, R262, R484): 100 ms after a WAKE without a RESUME the units enter LISTEN at full rate, together. -/
def execWakeTimeout (r : Ring) (s : State) : Host.Outcome State Fault Refusal :=
  .next (match (s.rg r).wakeAt with
    | some t =>
      if s.rst r = RSt.sleep ∧ (s.rg r).resumeAt = none ∧ t + 100000000 ≤ s.clk.uptime then
        (s.enabledRings.foldl (fun u x =>
          if u.rst x = RSt.sleep then (u.enterListen x).modRg x (fun g => { g with led := false, wakeAt := none }) else u) s).resume
      else s
    | none => s)

end Sys2Proof.Machine
end

