-- ==== Sys2Proof/Machine/Bus.lean ====
section
/-! DEFINITION. Reads and writes of registers by their address (R10 to R13, R28): the register pairs, the reads with a value or an effect of
their own, and what a write of each register does. A write that a row of the table names has the same effect here. -/

namespace Sys2Proof.Machine

/-! ### Register pairs -/

/-- The offset within a MEM block, of a lane or of JC.JM_ (R176). -/
def memOff (k : Nat) : Option Nat :=
  if k < 0x1000000 then (if 0x1000 ≤ k ∧ k < 0x2000 then some (k - 0x1000) else none)
  else if k % 0x10000000 / 0x10000 = 3 then some (k % 0x10000) else none

/-- The controller whose MEM block a key lies in. -/
def memSelOf (k : Nat) : MemSel := match laneOf k with
  | some l => .lane l
  | none => .junction

/-- The _HI key of a pair, by the key of its _LO word (R13). -/
def pairHi (k : Nat) : Option Nat :=
  if k ∈ [0x1000C, 0x1001C, 0x1002C, 0x10034, 0x10054, 0x10064, 0xD0010]
      ∨ (0xA0300 ≤ k ∧ k < 0xA0380 ∧ k % 8 = 4) ∨ (0x121000 ≤ k ∧ k < 0x122000 ∧ k % 8 = 4)
      ∨ (laneOf k ≠ none ∧ k % 0x10000000 = 0x14) ∨ memOff k = some 0x4C ∨ memOff k = some 0x68 then some (k - 4)
  else if k = Reg.EY_TH_OWNED_LO then some Reg.EY_TH_OWNED_HI
  else if k = Reg.EY_TH_FORCE_LO then some Reg.EY_TH_FORCE_HI
  else none

/-- Whether the key is the _HI word of a writable pair (R13): TB.STEP_SEC, ETH.MAC_m and MEM.DIAG_DATA. -/
def heldHi (k : Nat) : Bool :=
  k == Reg.TB_STEP_SEC_HI || (decide (0xA0300 ≤ k ∧ k < 0xA0380) && k % 8 == 0) || decide (memOff k = some 0x64)

/-! ### Reads -/

/-- The number of an array's instance, outermost index first. -/
def dimsIndex : List (Nat × Nat) → Nat → Nat
  | [], _ => 0
  | (_, st) :: ds, rel => rel / st * (ds.map (fun d => d.1)).foldr (fun a b => a * b) 1 + dimsIndex ds (rel % st)

/-- The number of the instance that a key names. -/
def RegDesc.index (d : RegDesc) (k : Nat) : Nat := dimsIndex d.dims ((memOff k).getD (k % 0x10000) - d.off)

/-- The word that a register reads now, for those whose value is computed at the read. -/
def State.nowWord (s : State) (k : Nat) (d : RegDesc) : Word :=
  let low (n : Nat) : Word := BitVec.ofNat 32 n
  match s.timeReg k, d.name with
  | some w, _ => w
  | none, "AX.DIGEST_AGE" => low (match s.plane.digestAt with
      | some t => min 0xFFFF ((s.clk.uptime - t) / 1000)
      | none => 0xFFFF)
  | none, "DX.CKPT_STATUS" => low (putBits (s.reg k).toNat 31 16 s.ckAge)
  | none, "MEM.SCRUB_AGE" => low (s.scrubAge (memSelOf k))
  | none, "CMP.TEST_AGE" => match laneOf k with
      | some l => low (s.testAge l)
      | none => s.reg k
  | none, "CAN.CTL_c_STATUS" =>
    let f := Fld.CAN_CTL_c_STATUS_LISTEN (d.index k)
    low (putBits (s.reg k).toNat f.hi f.lo (b2n (s.canListens (d.index k))))
  | none, "SX.CFG" => low (putBits (s.reg k).toNat 31 22 (s.rd (Fld.SX_CFG_T_UNITS .X)))
  | none, "SX.PORT_STATUS" =>
    let r : Ring := if k / 0x10000 = 2 then .X else .Y
    low (putBits (putBits (s.reg k).toNat 0 0 (b2n (s.carries r false))) 1 1 (b2n (s.carries r true)))
  | none, "TL.ENTRY_w" => s.entryWord (d.index k)
  | none, _ => s.reg k

/-- A read of a _LO word captures the _HI word for the reader (R13). -/
def State.holdHi (s : State) (i : Initiator) (k : Nat) : State :=
  match pairHi k with
  | some h => match regAt h with
    | some d => s.capture i h (s.nowWord h d)
    | none => s
  | none => s

/-- Whether a _HI word was captured for the reader together with this _LO word, and waits. -/
def State.hiWaits (s : State) (i : Initiator) (k : Nat) : Bool :=
  match pairHi k with
  | some h => (lookupN s.holdR (holdKey i h)).isSome
  | none => false

/-- What a read does: the state after it and the word (R13). A captured word answers one read; a read of a _LO word captures its _HI word. -/
def State.regRead (s : State) (i : Initiator) (k : Nat) (d : RegDesc) : State × Word :=
  match lookupN s.holdR (holdKey i k) with
  | some w =>
    let t : State := { s with holdR := dropN s.holdR (holdKey i k) }
    (if s.hiWaits i k then t else t.holdHi i k, w)
  | none =>
    let n := d.index k
    match d.name with
    | "TB.NS" => (s.readNs i, BitVec.ofNat 32 s.netNs)
    | "TB.WALL_NS" => (s.readWallNs i, BitVec.ofNat 32 (s.wall % giga))
    | "AX.EVAL_COUNT" => (s.readEval i, s.reg k)
    | "MC.CH_n_VALUE" => (s.mcCapture i n, s.reg k)
    | "MC.CH_n_FIFO_w" => s.mcFifoNext (n / 16)
    | "WL.FLUSH_w" => (s.flushNext.2, s.flushNext.1)
    | "EY.CH_n_MSG" => s.eyRead i n
    | "EY.TH_n" => ((s.thRead i n).1, BitVec.ofNat 32 (s.thRead i n).2)
    | "MEM.IDLE" =>
      if s.clk.uptime < s.st.startAt + 1000000 then (s, 0) else (s.takeFree.2, BitVec.ofNat 32 (s.takeFree.1.toNat % 1001))
    | "JC.PWR_STATUS" => (s.takeFree.2, BitVec.ofNat 32 (putBits (s.reg k).toNat 7 0 (s.takeFree.1.toNat % 256)))
    | "JC.PWR_MEAS" => (s.takeFree.2, s.takeFree.1.setWidth 32)
    | _ => (s.holdHi i k, s.nowWord k d)

/-! ### Writes -/

/-- Whether a written word has a bit that the register map gives this field. -/
def asks (w : Word) (f : Field) : Bool := wbits w f != 0

/-- A write of a register of TB (R186, R187, R191 to R194, R197). -/
def State.writeTb (s : State) (k : Nat) (w : Word) (name : String) (n : Nat) : State :=
  match name with
  | "TB.STEP_CTRL" => if asks w Fld.TB_STEP_CTRL_GO then s.goStep w else s.stepCtl w
  | "TB.SLEW_CTRL" => if asks w Fld.TB_SLEW_CTRL_GO then s.goSlew w else s.merge k w
  | "TB.CMP_n_CFG" =>
    if asks w (Fld.TB_CMP_n_CFG_ARM n) || asks w (Fld.TB_CMP_n_CFG_DISARM n) then (s.merge k w).armUnit n w else s.merge k w
  | "TB.STATUS" => (s.merge k w).syncService
  | _ => s.merge k w

/-- A write of a register of SX or SY (R220, R221, R224, R227, R229, R258, R260, R262, R273). -/
def State.writeRing (s : State) (r : Ring) (k : Nat) (w : Word) (name : String) (n : Nat) : State :=
  if isSyMirror k then s
  else match name with
    | "SX.SCHED_CTRL" => (s.merge k w).schedCtl w
    | "SX.TXC_CTRL" => (s.merge k w).txCtl r w
    | "SX.RXC_CTRL" => if asks w (Fld.SX_RXC_CTRL_POP r) then s.popRx r else s
    | "SX.INAUG_CTRL" =>
      let s1 := s.merge k w
      let s2 := if asks w (Fld.SX_INAUG_CTRL_REINAUG r) then s1.reinaug r else s1
      let s3 := if asks w (Fld.SX_INAUG_CTRL_SLEEP r) then s2.askSleep r else s2
      if asks w (Fld.SX_INAUG_CTRL_WAKE r) then s3.sendWake r else s3
    | "SX.CONN_n_STAT" =>
      let s1 := (s.merge k w).wr (Fld.SX_CONN_n_STAT_ACK n) 0
      if asks w (Fld.SX_CONN_n_STAT_ACK n) && s1.flag (Fld.SX_CONN_n_STAT_READY n) then s1.putConn n { s1.conn n with ack := true } else s1
    | _ =>
      if s.flag Fld.SX_SCHED_CTRL_BASTE_PENDING && (decide (0x20040 ≤ k ∧ k < 0x20060) || decide (0x23000 ≤ k ∧ k < 0x24000)) then
        s.trouble (sourceOf k) (k % 0x10000) 0 1 []
      else s.merge k w

/-- A write of a register of VT (R105, R112, R117, R119). -/
def State.writeVt (s : State) (k : Nat) (w : Word) (name : String) : State :=
  match name with
  | "VT.READMIT" => (s.merge k w).readmitCtl w
  | "VT.SAFE_RELEASE" =>
    if asks w Fld.VT_SAFE_RELEASE_RELEASE then { s with vote := { s.vote with release := some s.cyc.k } } else s
  | "VT.CNT_CLEAR" => s.vtClear w
  | _ => s.merge k w

/-- A write of a register of FIO (R285, R289, R294, R299, R303). -/
def State.writeFio (s : State) (k : Nat) (w : Word) (name : String) (n : Nat) : State :=
  match s.fioForeign k with
  | some (kind, j, h) => (s.noteSealed k w).ownConflict kind j h
  | none =>
    let s1 := s.merge k w
    match name with
    | "FIO.CTRL" => if asks w Fld.FIO_CTRL_COMMIT then s1.fioCommitCmd else s1
    | "FIO.CH_n_CTRL" => if asks w (Fld.FIO_CH_n_CTRL_CLEAR n) then s1.clearCmd n else s1
    | "FIO.GRP_ACK" => s1.ackGroups w
    | "FIO.CAP_m_CTRL" => if asks w (Fld.FIO_CAP_m_CTRL_ARM n) then s1.armCap n else s1
    | _ => s1

/-- A write of a register of GB (R392, R399, R400, R404), none when it ends in an access fault. -/
def State.writeGb (s : State) (i : Initiator) (k : Nat) (w : Word) (name : String) (n : Nat) : Option State :=
  match name with
  | "GB.APT_w" => s.aptWrite i n w
  | "GB.WIN_n_SIG" => some (s.winSig i n w)
  | "GB.WIN_n_CTRL" => some ((s.merge k w).winCtl n w)
  | "GB.PEF_CTRL" => some (if asks w Fld.GB_PEF_CTRL_POP then s.pefPop else s)
  | _ => some (s.merge k w)

/-- A write of a register of EY (R425, R427, R429). -/
def State.writeEy (s : State) (i : Initiator) (k : Nat) (w : Word) (name : String) (n : Nat) : State :=
  match name with
  | "EY.CH_n_POST" => (s.eyPost (placeOf i) n w).1
  | "EY.TH_n" => s.thWrite i n w
  | "EY.TH_FORCE_LO" => s.thForcePair i false w
  | "EY.TH_FORCE_HI" => s.thForcePair i true w
  | _ => s.merge k w

/-- A write of a register of UPD (R141, R470, R471, R474, R475, R480, R481, R483). The partner's staged identity, which the activation check
compares, is an unstated value here. -/
def State.writeUpd (s : State) (i : Initiator) (k : Nat) (w : Word) (name : String) : State :=
  let s1 := s.merge k w
  match name with
  | "UPD.RESTART" => s1.restartCtl w
  | "UPD.FLASH_CTRL" => if asks w Fld.UPD_FLASH_CTRL_GO then s1.flashCtl w else s1
  | "UPD.ACT_CTRL" => if asks w Fld.UPD_ACT_CTRL_GO then s1.takeFree.2.actGo w s1.takeFree.1.toNat else s1
  | "UPD.CHG_CTRL" => if asks w Fld.UPD_CHG_CTRL_SUBMIT then s1.submitChange else s1
  | "UPD.SLEEP_CTRL" => if asks w Fld.UPD_SLEEP_CTRL_WAKE && decide (i = .host) then s1.wakeCmd else s1
  | "UPD.JFLASH" => if asks w Fld.UPD_JFLASH_GO then s1.jflashCtl w else s1
  | "UPD.REC_CTRL" => if asks w Fld.UPD_REC_CTRL_PROGRAM || asks w Fld.UPD_REC_CTRL_MEMTEST then s1.recCtl w else s1
  | _ => s1

/-- A write of a register of a memory controller (R161, R167, R169, R171, R172, R176). -/
def State.writeMem (s : State) (m : MemSel) (k : Nat) (w : Word) (name : String) (n : Nat) : State :=
  match name with
  | "MEM.CMD" => (s.merge k w).memCmd m w
  | "MEM.ELOG_CTRL" => if asks w (Fld.MEM_ELOG_CTRL_POP m) then s.popElog m else s
  | "MEM.DIAG_CMD" => (s.merge k w).diagCmd m w
  | "MEM.RT_n" => if asks w (Fld.MEM_RT_n_ACTIVE m n) then s.retire m n w else s.merge k w
  | _ => s.merge k w

/-- A write of a register of a lane's LC, CMP, TRD or MEM (R75, R91, R131, R151). A test that a register write asks for passes (log entry 36). -/
def State.writeLane (s : State) (l : Lane) (k : Nat) (w : Word) (name : String) (n : Nat) : State :=
  let s1 := s.merge k w
  match name with
  | "LC.CNT_CLEAR" => s1.lcClear l w
  | "CMP.TEST_REQ" => if asks w (Fld.CMP_TEST_REQ_RUN l) && s1.testable l then s1.runTest l 0xFFFF 0xFFFF true true else s1
  | "TRD.DISPATCH" => s1.dispatchTask l (wbits w (Fld.TRD_DISPATCH_TASK l))
  | "TRD.DONE" => s1.doneCmd l (wbits w (Fld.TRD_DONE_TASK l))
  | "TRD.CNT_CLEAR" => s1.trdClear l w
  | _ => s.writeMem (.lane l) k w name n

/-- A write of a register of one of the other units. -/
def State.writeOther (s : State) (k : Nat) (w : Word) (name : String) (n : Nat) : State :=
  let s1 := s.merge k w
  match name with
  | "MC.CH_n_CTRL" => s1.mcCtl n w
  | "SH.CH_c_CTRL" => s1.shCtl n w
  | "SH.IRQ" => s1.syncService
  | "ETH.TXR_IDX" => s1.txRing 1024
  | "MVB.STATUS" => s1.mvbCtl w
  | "CAN.CTL_c_MB_m_CTRL" => s1.mbCtl (n / 64) (n % 64) w
  | "CAN.CTL_c_ERR" => s1.canErrCtl n w
  | "WL.CTRL" => s1.freezeCtl w
  | "DX.CTRL" => s1.dxCtrl w
  | _ => s1

/-- What a permitted write of a register does; none ends in an access fault. A written _HI word of a writable pair is held (R13), and the
_LO word applies both. -/
def State.writeReg (s : State) (i : Initiator) (k : Nat) (w : Word) (d : RegDesc) : Option State :=
  let n := d.index k
  if heldHi k then some { s with holdW := setN s.holdW (holdKey i k) w }
  else
    let s := match pairHi k with
      | some h => match lookupN s.holdW (holdKey i h) with
        | some v => ({ s with holdW := dropN s.holdW (holdKey i h) } : State).merge h v
        | none => s
      | none => s
    match laneOf k with
    | some l => some (s.writeLane l k w d.name n)
    | none => match k / 0x10000 with
      | 0 => some (s.writeMem .junction k w d.name n)
      | 1 => some (s.writeTb k w d.name n)
      | 2 => some (s.writeRing .X k w d.name n)
      | 3 => some (s.writeRing .Y k w d.name n)
      | 4 => some (s.writeVt k w d.name)
      | 5 => some (s.writeFio k w d.name n)
      | 7 => s.writeGb i k w d.name n
      | 9 => some (s.writeEy i k w d.name n)
      | 15 => some (s.writeUpd i k w d.name)
      | _ => some (s.writeOther k w d.name n)

/-! ### Accesses -/

/-- A read of the register at a key, by an initiator that sees it: the answer is its word or an access fault (R12, R28). -/
def State.keyRead (s : State) (i : Initiator) (k : Nat) : State :=
  match regAt k with
  | some d =>
    if s.mayRead i k then (s.regRead i k d).1.respond i (.data (s.regRead i k d).2) else s.deny i k
  | none => s.deny i k

/-- A write of the register at a key (R10 to R13, R28). -/
def State.keyWrite (s : State) (i : Initiator) (k : Nat) (w : Word) : State :=
  match regAt k with
  | some d =>
    if s.mayWrite i k then match s.writeReg i k w d with
      | some t => t.respond i .done
      | none => s.respond i .fault
    else s.deny i k
  | none => s.deny i k

/-- A register write at an initiator's own address and width (R12). -/
def State.busWrite (s : State) (i : Initiator) (addr width : Nat) (w : Word) : State :=
  match keyOf i addr with
  | some k => if width = 4 ∧ k % 4 = 0 then s.keyWrite i k w else s.deny i k
  | none => s.respond i .fault

/-- A register read at an initiator's own address and width (R12). -/
def State.busRead (s : State) (i : Initiator) (addr width : Nat) : State :=
  match keyOf i addr with
  | some k => if width = 4 ∧ k % 4 = 0 then s.keyRead i k else s.deny i k
  | none => s.respond i .fault

/-- REGISTER_WRITE (R10 to R13). -/
def execRegisterWrite (i : Initiator) (addr width : Nat) (w : Word) (s : State) : Host.Outcome State Fault Refusal :=
  .next (s.busWrite i addr width w)

/-- PAIR_LO_READ (R13): the _HI word is captured for this initiator. -/
def execPairLoRead (i : Initiator) (addr : Nat) (s : State) : Host.Outcome State Fault Refusal :=
  .next (s.busRead i addr 4)

/-- PAIR_HI_WRITE (R13): the word is held for this initiator and replaces one held before. -/
def execPairHiWrite (i : Initiator) (addr : Nat) (w : Word) (s : State) : Host.Outcome State Fault Refusal :=
  .next (s.busWrite i addr 4 w)

/-- PAIR_LO_WRITE (R13): the held _HI word and the _LO word are applied together. -/
def execPairLoWrite (i : Initiator) (addr : Nat) (w : Word) (s : State) : Host.Outcome State Fault Refusal :=
  .next (s.busWrite i addr 4 w)

end Sys2Proof.Machine
end

