-- ==== Sys2Proof/Machine/Burst.lean ====
section
/-! DEFINITION. The bursts of the Shuttle's transfers (R405 to R411, R418, R420). -/

namespace Sys2Proof.Machine

/-- Where a Shuttle address lies (R405): a unit block, junction DDR4, or the lane window as an address of lane DDR4. -/
inductive ShPlace | unit | ddr | window (addr : Nat) | none
  deriving DecidableEq, Repr

/-- The place of a Shuttle address (R405, R406): with no lane voting there is no lane window. -/
def State.shPlace (s : State) (a : Nat) : ShPlace :=
  if inUnits a then .unit
  else if inDdr .junction a then .ddr
  else if 0x80000000 ≤ a ∧ a - 0x80000000 < 4096 * s.rd Fld.SH_LW_SIZE_PAGES ∧ 0 < s.numVoting then
    .window (4096 * s.rd Fld.SH_LW_BASE_PAGES + (a - 0x80000000))
  else .none

/-- Gather `n` bytes of the source from byte j on; a side-effect source is read by whole words, so the last word may give more. The answer is
the bytes, or the error that ends the instruction. -/
def State.shGather (c : Fin 16) (x : ShXfer) : Nat → Nat → Nat → List Byte → State → State × (Nat ⊕ List Byte)
  | 0, _, _, acc, s => (s, .inr acc)
  | fuel + 1, j, n, acc, s =>
    if n = 0 then (s, .inr acc)
    else
      let a := lineAddr x.src x.sStride x.sLen j
      let k := min n (min (x.sLen - j % x.sLen) (64 - a % 64))
      let take (r : State × Option (List Byte)) (code : Nat) : State × (Nat ⊕ List Byte) := match r with
        | (t, some bs) => State.shGather c x fuel (j + k) (n - k) (acc ++ bs) t
        | (t, none) => (t, .inl code)
      match s.shPlace a with
      | .unit =>
        if x.seSrc then
          let t := s.keyRead (.shuttle c) a
          match t.response (.shuttle c) with
          | .data w => State.shGather c x fuel (j + 4) (n - 4) (acc ++ leBytes 4 w.toNat) t
          | _ => (t, .inl 6)
        else (s, .inl 2)
      | .ddr => take (s.ddrRead .junction 6 a k) 6
      | .window b => match s.svcMaster with
        | some l => take (s.ddrRead (.lane l) 6 b k) 1
        | none => (s, .inl 1)
      | .none => (s, .inl 1)

/-- Write words into a unit block in ascending order (R408); none as soon as one ends in an access fault. -/
def State.shWords (c : Fin 16) : List Byte → Nat → State → Option State
  | b0 :: b1 :: b2 :: b3 :: rest, a, s =>
    let t := s.keyWrite (.shuttle c) a (BitVec.ofNat 32 (leNat [b0, b1, b2, b3]))
    if t.response (.shuttle c) = .done then State.shWords c rest (a + 4) t else none
  | _, _, s => some s

/-- A write into one lane through the lane window (R406, R409, R474): a partial burst merges with the block, a donor's page becomes dirty, and
a write into the free slot clears STAGED. -/
def State.shLaneWrite (s : State) (l : Lane) (a : Nat) (bs : List Byte) : State :=
  let r := if bs.length < 64 then s.checkBurst (.lane l) 6 a else (s, true)
  let s2 := if r.2 then r.1.lanePut l a bs else r.1
  let base := s2.slotBase (s2.freeSlot l)
  if base < a + bs.length ∧ a < base + 4096 * s2.rd Fld.UPD_SLOT_SIZE_PAGES then s2.unstage l else s2

/-- A burst that a unit block refuses writes nothing; what a refused access itself leaves stays (R420, R424). -/
def State.shRefused (s : State) (c : Fin 16) (a n : Nat) : State :=
  match ((List.range (n / 4)).map (fun j => a + 4 * j)).find? (fun k => !s.mayWrite (.shuttle c) k) with
  | some k => s.deny (.shuttle c) k
  | none => s

/-- Write a burst to its destination: the state after it and the error, if any. A failing burst writes nothing (R420). -/
def State.shStore (s : State) (c : Fin 16) (x : ShXfer) (a : Nat) (bs : List Byte) : State × Option Nat :=
  match s.shPlace a with
  | .unit =>
    if x.seDst then match State.shWords c bs a s with
      | some t => (t, none)
      | none => (s.shRefused c a bs.length, some 6)
    else (s, some 2)
  | .ddr =>
    if inWelt a bs.length then (s, some 6)
    else if bs.length < 64 then match s.ddrRead .junction 6 a 1 with
      | (t, some _) => (t.ddrPut .junction a bs, none)
      | (t, none) => (t, some 6)
    else (s.ddrPut .junction a bs, none)
  | .window b =>
    ((lanes.filter (fun l => s.member l == Mbr.voting || s.member l == Mbr.probation || s.member l == Mbr.observed)).foldl
      (fun t l => t.shLaneWrite l b bs) s, none)
  | .none => (s, some 1)

/-- The next burst of a transfer (R409, R411): it ends at a destination line end and at a 64-byte destination boundary. `withdrawn` says that
the peripheral withdrew the request after the grant (R418). -/
def State.shBurst (s : State) (c : Fin 16) (x : ShXfer) (withdrawn : Bool) : State :=
  let a := lineAddr x.dst x.dStride x.dLen x.done
  let n := min (x.total - x.done) (min (x.dLen - x.done % x.dLen) (64 - a % 64))
  match State.shGather c x 64 (x.done + x.carry.length) (n - x.carry.length) x.carry s with
  | (t, .inl e) => t.shError c e
  | (t, .inr bs) => match t.shStore c x a (bs.take n) with
    | (t1, some e) => t1.shError c e
    | (t1, none) =>
      let t2 := t1.bump (Fld.SH_CH_c_CNT_BURSTS c)
      let t3 := if withdrawn && x.pace then t2.bump (Fld.SH_CH_c_CNT_OVERRUN c) else t2
      if x.done + n = x.total then
        let adv (t : State) (go : Bool) (k : Nat) : State :=
          if go then t.setReg k (t.reg k + BitVec.ofNat 32 x.total) else t
        let t4 := adv (adv t3 x.advS (Reg.SH_CH_c_SOFS c)) x.advD (Reg.SH_CH_c_DOFS c)
        (t4.modSh c (fun y => { y with xfer := none })).shNext c (t4.shPc c + if x.two then 2 else 1)
      else
        let y : ShXfer := { x with done := x.done + n, carry := bs.drop n }
        t3.modSh c (fun q => { q with xfer := some y })

/-- SHUTTLE_BURST (R409, R418, R419): the channel in a transfer is granted a burst in its turn of the round; a paced one offers it only while its request line is asserted.
No burst is granted while DDR4 is in self-refresh (R482). -/
def execShuttleBurst (c : Fin 16) (withdrawn : Bool) (s : State) : Host.Outcome State Fault Refusal :=
  .next (match (s.shq c).xfer with
    | some x =>
      if s.shState c = Sh.run && (!x.pace || s.shLine x.req || withdrawn) && !s.jddrRefresh && s.mayGrant c then (s.grant c).shBurst c x withdrawn
      else s
    | none => s)

/-- CARRIED_WRITE_LANDED (R396, R397, R419): the bridge is granted a burst in its turn of the round; the oldest waiting write lands in junction DDR4 and is answered. -/
def execCarriedWriteLanded (s : State) : Host.Outcome State Fault Refusal :=
  .next (match s.gus.land.find? (fun x => !x.signal) with
    | none => s
    | some x =>
      if s.mayGrant 16 then
        let s1 := (s.grant 16).modGus (fun g => { g with land := g.land.erase x })
        (((s1.ddrPut .junction x.addr (leBytes 4 x.data)).bumpW (Fld.GB_IN_n_STAT_APPLIED x.inWin)).gusAnswer x x.cause)
      else s)

end Sys2Proof.Machine
end

