-- ==== Sys2Proof/Machine/Cycle.lean ====
section
/-! DEFINITION. The life of one cycle (chapter 01): cycle start, input image and stations, release, hand-over, commit, vote and output, in
normal operation, in a standby that follows its partner, and in the activation pause. -/

namespace Sys2Proof.Machine

/-- Change the cycle's bookkeeping. -/
def State.modCyc (s : State) (g : CycSt → CycSt) : State := { s with cyc := g s.cyc }

/-- Whether an instant of the running cycle is due: reached, not yet taken, and the junction is alive (R22, R33). -/
def State.due (s : State) (done : Bool) (jc : Nat) : Bool := !done && !s.ej2Down && s.reached jc

/-- Whether the running cycle lies in the activation pause, k_a to k_r − 1 (R476). -/
def State.inGap (s : State) : Bool :=
  match s.st.act with
  | some a => a.paused && decide (a.ka ≤ s.cyc.k)
  | none => false

/-! ### Cycle start -/

/-- A halted lane that was resumed in replay mode is compared from the next cycle on (R90). -/
def State.replayBegin (s : State) (l : Lane) : State :=
  if s.member l = Mbr.halted ∧ s.ex l = Exec.replayCheck then
    let s1 := s.setMember l Mbr.observed
    { s1 with vote := { s1.vote with agree := s1.vote.agree.put l 0 } }
  else s

/-- A lane in REPLAY_CHECK with 8 agreeing cycles rejoins the vote without state transfer (R90). -/
def State.replayRejoin (s : State) (l : Lane) : State :=
  if s.member l = Mbr.observed ∧ s.ex l = Exec.replayCheck ∧ 8 ≤ s.vote.agree.get l then
    ((s.enterVoting l false).wr (Fld.LC_LANE_STATUS_EXEC l) Exec.running).modLn l (fun n => { n with resumeAt := none })
  else s

/-- CYCLE_START (R33, R90, R109, R345): cycle k starts at network time k × T. -/
def execCycleStart (s : State) : Host.Outcome State Fault Refusal :=
  .next (if s.cyc.running && !s.ej2Down && s.kNow != s.cyc.k then
      let s1 := (s.countDirectHold.applyTransfer).pulse 2
      let s2 := lanes.foldl (fun t l => (t.replayRejoin l).replayBegin l) s1
      let s3 := s2.modCyc (fun c =>
        { c with k := s.kNow, inDone := false, relDone := false, handDone := false, cmdDone := false, comDone := false, vrDone := false,
                 outDone := false, image := none })
      match s3.oldTab with
      | some (sw, _) => if sw < s.kNow then { s3 with oldTab := none } else s3
      | none => s3
    else s)

/-- SERVICE_MASTER_CHANGE (R29, R429): at the cycle boundary after the service master left the vote the first voting lane takes over, and the
Thimbles of the old one are released. -/
def execServiceMasterChange (s : State) : Host.Outcome State Fault Refusal :=
  .next (match s.cyc.svcLeft with
    | some k =>
      if k < s.kNow then
        let s1 := match s.svcMaster with
          | some l => if s.firstVoting = some l then s else s.thAuto (2 + l.num)
          | none => s
        (((s1.modCyc (fun c => { c with svcLeft := none })).setSvcMaster s.firstVoting).syncService)
      else s
    | none => s)

/-! ### The input image -/

/-- Bytes placed in the junction's staging. -/
def State.place (s : State) (off : Nat) (bs : List Byte) : State := { s with stage := s.stage.putBytes off bs }

/-- A section placed by a 4-byte offset; 0 places none. -/
def State.placeSect (s : State) (ofs4 : Nat) (bs : List Byte) : State := if ofs4 = 0 then s else s.place (4 * ofs4) bs

/-- A bit per station, for STALE and SUBST (R136). -/
def stationBits (ss : List StationSt) (f : StationSt → Bool) : List Byte :=
  leBytes 16 (ofBits ((List.range 128).map (fun i => ss.any (fun x => x.id == i && f x))))

/-- The module status section (R136). -/
def State.statusSection (s : State) : List Byte :=
  let t := s.cyc.k * s.tCycle + 4 * s.tIn
  let sec := t / giga % 2 ^ 48
  let mask (f : Lane → Bool) : Nat := b2n (f .A) + 2 * b2n (f .B) + 4 * b2n (f .C)
  let member := mask s.votes + 16 * mask s.vote.present.get + 256 * s.rd Fld.JC_MOD_STATUS_SVC_MASTER
    + 4096 * s.rd Fld.JC_MOD_STATUS_ROLE + 2 ^ 16 * b2n (s.ringSync .X) + 2 ^ 17 * b2n (s.ringSync .Y)
    + 2 ^ 24 * b2n (s.flag Fld.VT_STATUS_SAFE_ALL)
  let prog := s.chg.restart + 4 * b2n s.chg.migrate + 8 * b2n s.chg.retIncomplete + 256 * s.forcedWords.length + 2 ^ 16 * s.chg.apply
  leBytes 4 s.cycleNo ++ leBytes 4 (t % giga) ++ leBytes 4 sec ++ leBytes 4 (sec / 2 ^ 32) ++ leBytes 4 member
    ++ leBytes 4 (s.rd Fld.DX_CLAIM_OWN + 2 ^ 16 * s.rd Fld.DX_CLAIM_PARTNER) ++ leBytes 4 prog ++ leBytes 4 s.chg.retSaved
    ++ stationBits s.stations (fun x => x.mode != 0) ++ stationBits s.stations (fun x => x.mode == 2)

/-- CHANGE_APPLY follows once every lane in VOTING or PROBATION has staged the block (R142). -/
def State.announceChange (s : State) : State :=
  match s.chg.block with
  | some b => if s.stagers.all (fun l => s.chg.acks.get l) then { s with chg := { s.chg with announced := true, apply := b.seq } } else s
  | none => s

/-- A read entry of this cycle: its number, the entry, and the slot data taken, none when it is missed. -/
abbrev Taken := Nat × (Word × Word × Word) × Option (List Byte)

/-- Take the copies of every due read entry (R225); each copy taken is a source of the Gusset bridge (R384). -/
def State.takeEntries (s : State) : State × List Taken :=
  (s.dueEntries s.cyc.k).foldl (fun (r : State × List Taken) x =>
    let q := r.1.takeEntry x.1 x.2 s.cyc.k
    let t := match q.2 with
      | some d => q.1.gusSource 1 x.1 d
      | none => q.1
    (t, r.2 ++ [(x.1, x.2, q.2)])) (s, [])

/-- The bytes an entry's area takes from its slot: the data, or the payload of the safe message (R138). -/
def State.areaLen (s : State) (e : Word × Word × Word) : Nat := if entSafe e then s.connP (entConn e) else entLen e

def State.areaData (s : State) (e : Word × Word × Word) (d : List Byte) : List Byte :=
  if entSafe e then (d.drop 8).take (s.connP (entConn e)) else d.take (entLen e)

/-- Insert an entry in ascending image offset. -/
def insertArea (x : Taken) : List Taken → List Taken
  | [] => [x]
  | y :: ys => if entImg x.2.1 < entImg y.2.1 then x :: y :: ys else y :: insertArea x ys

/-- The substitute block laid onto areas in ascending image offset; an empty block gives zeros (R138). -/
def State.placeSubst (s0 : State) (subst : List Byte) : List Taken → State → State
  | [], s => s
  | x :: xs, s =>
    let n := s0.areaLen x.2.1
    let bs := if subst.isEmpty then List.replicate n 0 else subst.take n
    s0.placeSubst (subst.drop n) xs (s.place (entImg x.2.1) bs)

/-- A station's step at an input instant (R138): its next state; the codes of R452 are 0x21 for the entry to HOLDING and 0x22 for a revival. -/
def StationSt.step (x : StationSt) (missed : Bool) (hold revive : Nat) : StationSt × Option Nat :=
  if !x.started then ({ x with started := true, mode := if missed then 2 else 0, missed := 0, good := 0 }, none)
  else if missed then
    match x.mode with
    | 0 => if hold = 0 then ({ x with mode := 2, missed := 1, good := 0 }, none)
           else ({ x with mode := 1, missed := 1, good := 0 }, some 0x21)
    | 1 => ({ x with mode := if hold < x.missed + 1 then 2 else 1, missed := x.missed + 1, good := 0 }, none)
    | _ => ({ x with good := 0 }, none)
  else if x.mode = 0 then (x, none)
  else if revive ≤ x.good + 1 then ({ x with mode := 0, missed := 0, good := 0 }, some 0x22)
  else ({ x with good := x.good + 1 }, none)

/-- One station at the input instant (R138, R139): its section is taken whole, held or substituted; a safe connection that is not in RUN shows its
safe values in its own area. -/
def State.stationUpdate (s : State) (taken : List Taken) (x : StationSt) : State :=
  let mine := (taken.filter (fun y => entStation y.2.1 == x.id)).foldr insertArea []
  let c := (s.cfg.stations.find? (fun y => y.id == x.id)).getD { id := x.id, hold := 0, revive := 1, subst := [] }
  let r := x.step (mine.any (fun y => y.2.2.isNone)) c.hold c.revive
  let s1 : State := { s with stations := s.stations.map (fun y => if y.id = x.id then r.1 else y) }
  let s2 := match r.2 with
    | some code => s1.weltEvent 2 code (x.id + s.cycleNo * 2 ^ 32)
    | none => s1
  let s3 := match r.1.mode with
    | 0 => mine.foldl (fun t y => match y.2.2 with
        | some d => t.place (entImg y.2.1) (t.areaData y.2.1 d)
        | none => t) s2
    | 2 => s2.placeSubst c.subst mine s2
    | _ => s2
  mine.foldl (fun t y =>
    if entSafe y.2.1 && t.connState (entConn y.2.1) != 2 then t.place (entImg y.2.1) (t.connSection (entConn y.2.1)) else t) s3

/-- Entries of no set station: what was taken is placed, and a safe connection shows its section. -/
def State.placeLoose (s : State) (taken : List Taken) : State :=
  (taken.filter (fun y => !s.stations.any (fun x => x.id == entStation y.2.1))).foldl (fun t y =>
    if entSafe y.2.1 then t.place (entImg y.2.1) (t.connSection (entConn y.2.1))
    else match y.2.2 with
      | some d => t.place (entImg y.2.1) (t.areaData y.2.1 d)
      | none => t) s

/-- The module's own input image at t_in (R35, R136 to R139): every source's staging, frozen. -/
def State.freeze (s : State) : State :=
  let s1 := s.announceChange.fieldArrive
  let r := s1.takeEntries
  let s2 := r.1.evalConns
  let s3 := s2.stations.foldl (fun t x => t.stationUpdate r.2 x) s2
  let s4 := s3.placeLoose r.2
  let s5 := ((s4.placeSect (s4.rd Fld.FIO_IN_BASE_OFS4) s4.fieldSection).placeSect (s4.rd Fld.MC_IN_BASE_OFS4) s4.mcSection).placeSect
    (s4.rd Fld.ETH_IN_BASE_OFS4) s4.ethSection
  let s6 := ((s5.placeSect (s5.rd Fld.MVB_IN_BASE_OFS4) s5.mvbSection).placeSect (s5.rd Fld.CAN_IN_BASE_OFS4) s5.canSection).placeSect
    (s5.rd Fld.AX_IN_BASE_OFS4) s5.planeSection
  let s7 := (s6.place 0 s6.statusSection).mcNewInterval.ethClearFresh
  { s7 with can := { s7.can with took := [] }, fld := { s7.fld with gap := (List.range 4).map (fun q => (s7.fqAt q).lost) } }

/-- The image reaches the three lanes (R135, R151): the bank of its CYCLE is overwritten, and releases that still read it are suppressed (R134). -/
def State.deliverImage (s : State) (k : Nat) (m : Mem) : State :=
  lanes.foldl (fun t l => (t.markStale l (k % 2)).modLn l (fun n => n.putBank (k % 2) m)) (s.modCyc (fun c => { c with image := some k }))

/-- INPUT_INSTANT (R35, R342): the frozen image goes to the lanes; a standby delivers its partner's image of the cycle before, and none where it
has not come. -/
def execInputInstant (s : State) : Host.Outcome State Fault Refusal :=
  .next (if s.due s.cyc.inDone s.tIn then
      let s1 := ((s.pulse 3).freeze).modCyc (fun c => { c with inDone := true })
      let s2 :=
        if s1.follows then
          let k := s1.cyc.k - 1
          match lookupN s1.dx.inImgs k with
          | some m => { s1.deliverImage k m with dx := { s1.dx with lastUsed := some k } }
          | none => s1.bump Fld.DX_SYNC_STATUS_GAPS
        else
          let m := Mem.copyRange [] s1.stage 0 s1.cfg.sIn
          (s1.deliverImage s1.cyc.k m).streamIn m
      s2.shEvent 4 0
    else s)

/-! ### Release -/

/-- The banks swap in a lane (R151): TRD.CYCLE and BANK. -/
def State.swapBank (s : State) (l : Lane) (k : Nat) : State :=
  (s.wr (Fld.TRD_CYCLE_CYCLE l) k).wrB (Fld.TRD_STATUS_BANK l) (k % 2 == 1)

/-- The input forces go onto the bank that the tasks now read (R144). -/
def State.forceBank (s : State) (l : Lane) (k : Nat) : State :=
  s.modLn l (fun n => n.putBank (k % 2) (s.forced l 0 (n.bankOf (k % 2))))

/-- Whether cyclic task t is due in cycle k (R122). -/
def State.cyclicDue (s : State) (l : Lane) (t k : Nat) : Bool :=
  s.taskEn l t && decide ((k + (s.rd ⟨taskCfg l t, 19, 10⟩ + 1) * 1024 - s.rd ⟨taskCfg l t, 9, 0⟩) % (s.rd ⟨taskCfg l t, 19, 10⟩ + 1) = 0)

/-- The due cyclic tasks of a lane are released (R122, R133, R342): the publication point is the hand-over start of this cycle. -/
def State.releaseCyclic (s : State) (l : Lane) (k : Nat) : State :=
  ((List.range 8).foldl (fun t n =>
    if t.cyclicDue l n k && t.taskMayRun n then t.release l n (s.instant s.tHand) else t) s).reschedule l

/-- The change block that every lane applied in this cycle is recorded (R146); `before` are the words forced before it. -/
def State.recordApplied (s : State) (before : List Forced) : State :=
  match s.chg.block with
  | some b => if s.chg.announced then s.recordChange b (meetsForce b.recs before) else s
  | none => s

/-- RELEASE_INSTANT (R33, R122, R142, R144, R476): without an image no task is released. -/
def execReleaseInstant (s : State) : Host.Outcome State Fault Refusal :=
  .next (if s.due s.cyc.relDone s.tRel then
      let s1 := (s.pulse 4).modCyc (fun c => { c with relDone := true })
      match s1.cyc.image with
      | none => s1
      | some k =>
        let on := lanes.filter s1.treadleOn
        let s2 := on.foldl (fun t l => ((t.swapBank l k).applyStaged l).forceBank l k) s1
        let s3 := (s2.recordApplied s1.forcedWords).actRelease
        let s4 := if s3.paused then s3 else on.foldl (fun t l => t.releaseCyclic l k) s3
        if s4.paused then s4 else { s4 with chg := { s4.chg with restart := 0, migrate := false } }
    else s)

/-! ### Hand-over and commit -/

/-- A lane's hand-over (R45, R133, R144): publication, output forces, and the stream to the vote unit. -/
def State.handOver (s : State) (l : Lane) (failed lost : Bool) : State :=
  if s.handsOver l && !s.inGap then
    let s1 := s.publish l
    let m := s1.forced l 1 (s1.ln l).pub
    s1.modLn l (fun n => { n with held := some m, handover := if lost then none else some failed })
  else s.modLn l (fun n => { n with held := none, handover := none })

/-- The command bits that a lane's image gives the channels of an FQ8 (R45, R107). -/
def State.frameBits (s : State) (m : Mem) (q : Nat) : Nat := ofBits ((fqChannels q).map (s.chBit m))

/-- The frames under way carry the image that their lane now hands over: with H below 32 jc they start before the hand-over (R33, R45;
DEDUCED, log 74). -/
def State.fillFrames (s : State) : State :=
  let frame (q : Nat) (x : FqSt) (l : Lane) : Option Nat :=
    if (x.arrived.get l).isSome then (s.ln l).held.map (fun m => s.frameBits m q) else none
  { s with fq := (List.range 4).map (fun q => let x := s.fqAt q; { x with arrived := ⟨frame q x .A, frame q x .B, frame q x .C⟩ }) }

/-- HANDOVER_START (R45, R94): `failed` and `lost` name the lanes whose hand-over fails its side-band check or is not received. -/
def execHandoverStart (failed lost : Tri Bool) (s : State) : Host.Outcome State Fault Refusal :=
  .next (if s.due s.cyc.handDone s.tHand then
      let s1 := lanes.foldl (fun t l => t.handOver l (failed.get l) (lost.get l)) (s.modCyc (fun c => { c with handDone := true }))
      if s1.cyc.cmdDone then s1.fillFrames else s1
    else s)

/-- CYCLIC_COMMAND_FRAME_SEND (R45, R107): each lane sends every FQ8 the commands of the image it hands over, filled in at the hand-over
where that comes later; `failed` names the lanes whose frames fail their check. -/
def execCyclicCommandFrameSend (failed : Tri Bool) (s : State) : Host.Outcome State Fault Refusal :=
  .next (if s.due s.cyc.cmdDone (s.tCom - 32) then
      let frame (q : Nat) (l : Lane) : Option Nat :=
        if (s.ln l).cmdLink && !failed.get l then
          (if s.cyc.handDone then (s.ln l).held.map (fun m => s.frameBits m q) else some 0)
        else none
      let fq := (List.range 4).map (fun q => { s.fqAt q with arrived := ⟨frame q .A, frame q .B, frame q .C⟩ })
      ({ s with fq := fq } : State).modCyc (fun c => { c with cmdDone := true })
    else s)

/-- COMMIT_INSTANT (R36, R37, R87, R93, R94, R106, R116, R148, R149, R475). -/
def execCommitInstant (s : State) : Host.Outcome State Fault Refusal :=
  .next (if s.due s.cyc.comDone s.tCom then
      let s1 := (s.pulse 5).modCyc (fun c => { c with comDone := true })
      if s1.inGap then s1
      else
        let s2 := s1.commitVote
        let s3 := if s2.vote.k0.isNone && decide (s2.numPresent < 2) then s2.selfFault 1 else s2
        (lanes.foldl (fun t l => t.captureIfQuiet l) (s3.quietPoint.periodicCapture.checkpointAtCommit)).actCommit
    else s)

/-! ### Vote and output -/

/-- VOTED_IMAGE_READY: a cycle that comes to count as one with fewer than two lanes present at the vote (R97) is reported as self-fault here
(R106; DESIGN CHOICE, log 80). (R96 to R106, R110, R269, R342, R371, R389, R476). -/
def execVotedImageReady (s : State) : Host.Outcome State Fault Refusal :=
  .next (if s.cyc.comDone && s.due s.cyc.vrDone s.tVr then
      let s1 := (s.pulse 6).modCyc (fun c => { c with vrDone := true })
      let s2 :=
        if s1.inGap then s1.wr Fld.VT_STATUS_MODE 2
        else
          let t := s1.voteCycle
          let t1 := if s1.vote.k0.isNone && t.vote.k0.isSome then t.selfFault 1 else t
          let t2 := (t1.compareLanes).compareHot
          ({ t2 with vote := { t2.vote with prev := if s1.vote.voted then some s1.vote.out else none, readyAt := s1.clk.uptime } } : State).firstVoted
      ((((s2.buildRingSafe.gusSwap).canLoad).pdLate).streamVoted).shEvent 5 0
    else s)

/-- OUTPUT_INSTANT (R107, R109, R293, R299, R347). -/
def execOutputInstant (s : State) : Host.Outcome State Fault Refusal :=
  .next (if s.due s.cyc.outDone s.tOut then
      let s1 := (s.pulse 7).modCyc (fun c => { c with outDone := true })
      let s2 := (List.range 4).foldl (fun t q => t.fqOutput q) s1
      let s3 := (List.range 32).foldl (fun t n => if (t.fch n).waitOut then t.modFch n (fun c => { c with waitOut := false }) else t) s2
      let s4 := s3.stagesUpdate
      match s4.dx.hold with
      | some h => if h.until_ ≤ s4.cyc.k then { s4 with dx := { s4.dx with hold := none } } else s4
      | none => s4
    else s)

end Sys2Proof.Machine
end

