-- ==== Sys2Proof/Machine/HostPort.lean ====
section
/-! DEFINITION. The host port (R374 to R379, R470, R471): its commands, the response they leave, the status word and HRDY. -/

namespace Sys2Proof.Machine

/-- Change the host port's hidden state. -/
def State.modHost (s : State) (g : HostSt → HostSt) : State := { s with host := g s.host }

/-- Whether the host port answers: not in RESET, unpowered or in an EJ2 fault (R379, R497). -/
def State.hostUp (s : State) : Bool := s.st.powered && s.phase != Phase.reset && !s.ej2Down

/-- An alert is pending (R379). -/
def State.alert (s : State) : Bool := (s.reg Reg.JC_HOST_ALERT &&& s.reg Reg.JC_HOST_CFG) != 0

/-- The HRDY pin (R379). -/
def State.hrdy (s : State) : Bool := s.hostUp && (s.host.resp.isSome || s.alert)

/-- The status word in MISO bytes 0 to 3 (R375). -/
def State.hostStatus (s : State) : Nat :=
  let tag := match s.host.resp with
    | some r => r.tag
    | none => 0
  ((s.reg Reg.JC_MOD_STATUS).toNat % 65536) * 65536 + tag * 256 + 32 * b2n (decide (s.phase = Phase.recovery)) + 16 * b2n s.host.dropped
    + 8 * b2n s.host.checkErr + 4 * b2n s.host.ok + 2 * b2n s.alert + b2n s.host.resp.isSome

/-- A transaction begins: the status word goes out before the command acts (R375). -/
def State.hostBegin (s : State) : State := s.modHost (fun h => { h with status := s.hostStatus })

/-- What the LAST bits say of a command (R375). -/
def State.hostLast (s : State) (ok dropped checkErr : Bool) : State :=
  s.modHost (fun h => { h with ok := ok, dropped := dropped, checkErr := checkErr })

/-- A command's response is on its way: pending 100 jc and 4 jc for each word accessed after the end of CHECK (R378). -/
def State.hostAnswer (s : State) (op tag result count words : Nat) (data : List Byte) : State :=
  let r : HostResp := { op := op, tag := tag, result := result, count := count, data := data }
  (s.modHost (fun h => { h with busy := some (r, s.clk.uptime + 4 * (100 + 4 * words)) })).hostLast true false false

/-- Run a command that leaves a response: discarded when its CHECK fails, and while a response is pending or on its way (R378). -/
def State.hostRun (s : State) (checkOk : Bool) (run : State → State) : State :=
  if s.hostUp then
    let s1 := s.hostBegin
    if !checkOk then s1.hostLast false false true
    else if s.host.resp.isSome || s.host.busy.isSome then s1.hostLast false true false
    else run s1
  else s

/-- Whether the host port reaches an address: a junction unit or junction DDR4; in RECOVERY JC, UPD, TL and junction DDR4 (R376, R470). -/
def State.hostReach (s : State) (a : Nat) : Bool :=
  a % 4 == 0 &&
    (if inDdr .junction a then !s.jddrRefresh
     else decide (s.phase ≠ Phase.recovery ∨ a / 0x10000 = 0 ∨ a / 0x10000 = 15 ∨ a / 0x10000 = 16))

/-- One word read by the host port, none at an access fault or an error response (R12, R155). -/
def State.hostWord (s : State) (a : Nat) : State × Option Word :=
  if s.hostReach a then
    if inDdr .junction a then match s.ddrRead .junction 8 a 4 with
      | (t, some bs) => (t, some (BitVec.ofNat 32 (leNat bs)))
      | (t, none) => (t, none)
    else
      let t := s.keyRead .host a
      match t.response .host with
      | .data w => (t, some w)
      | _ => (t, none)
  else (s, none)

/-- One word written by the host port, and whether it landed; the Welt's area refuses it (R454). -/
def State.hostPut (s : State) (a : Nat) (w : Word) : State × Bool :=
  if s.hostReach a then
    if inDdr .junction a then
      if inWelt a 4 then (s, false) else (s.ddrPut .junction a (leBytes 4 w.toNat), true)
    else
      let t := s.keyWrite .host a w
      (t, decide (t.response .host = .done))
  else (s, false)

/-- The words of a READ, one at a time in ascending order, up to the first fault (R376): the words done. -/
def State.hostWords : Nat → Nat → State → State × List Word
  | 0, _, s => (s, [])
  | n + 1, a, s => match s.hostWord a with
    | (t, some w) =>
      let r := State.hostWords n (a + 4) t
      (r.1, w :: r.2)
    | (t, none) => (t, [])

/-- The words of a WRITE, one at a time in ascending order, up to the first fault (R376): how many were done. -/
def State.hostPuts : List Word → Nat → State → State × Nat
  | [], _, s => (s, 0)
  | w :: ws, a, s => match s.hostPut a w with
    | (t, true) =>
      let r := State.hostPuts ws (a + 4) t
      (r.1, r.2 + 1)
    | (t, false) => (t, 0)

/-- Whether COUNT is good (R377). -/
def countOk (n : Nat) : Bool := decide (1 ≤ n ∧ n ≤ 256)

/-- HOST_READ (R376 to R378). -/
def execHostRead (tag : Byte) (count addr : Nat) (checkOk : Bool) (s : State) : Host.Outcome State Fault Refusal :=
  .next (s.hostRun checkOk (fun t =>
    if countOk count then
      let r := State.hostWords count addr t
      let n := r.2.length
      r.1.hostAnswer 1 tag.toNat (if n = count then 0 else 3) n (min count (n + 1)) (r.2.flatMap (fun w => leBytes 4 w.toNat))
    else t.hostAnswer 1 tag.toNat 6 0 0 []))

/-- HOST_WRITE (R376 to R378): a command with too few data bytes has ended early. -/
def execHostWrite (tag : Byte) (count addr : Nat) (data : List Word) (checkOk : Bool) (s : State) :
    Host.Outcome State Fault Refusal :=
  .next (s.hostRun (checkOk && decide (count ≤ data.length)) (fun t =>
    if countOk count then
      let r := State.hostPuts (data.take count) addr t
      r.1.hostAnswer 2 tag.toNat (if r.2 = count then 0 else 3) r.2 (min count (r.2 + 1)) []
    else t.hostAnswer 2 tag.toNat 6 0 0 []))

/-- A response as its bytes (R377). -/
def HostResp.bytes (r : HostResp) : List Byte :=
  let b := leBytes 1 r.op ++ leBytes 1 r.tag ++ leBytes 1 r.result ++ leBytes 1 0 ++ leBytes 4 r.count ++ r.data
  b ++ leBytes 4 (crc32 b).toNat

/-- FETCH (R377): the pending response goes out and is no longer pending; with none there are zeros. -/
def execFetch (s : State) : Host.Outcome State Fault Refusal :=
  .next (if s.hostUp then
      let s1 := s.hostBegin.hostLast true false false
      match s.host.resp with
      | some r => s1.modHost (fun h => { h with resp := none, fetched := r.bytes })
      | none => s1.modHost (fun h => { h with fetched := [] })
    else s)

/-- ABORT (R378): the pending response, or one on its way, is discarded. -/
def execAbort (s : State) : Host.Outcome State Fault Refusal :=
  .next (if s.hostUp then (s.hostBegin.hostLast true false false).modHost (fun h => { h with resp := none, busy := none }) else s)

/-- The words of a RECOVERY_BLOCK that lie in the download area (R471). -/
def blockRoom (block count : Nat) : Nat := min count ((0x4000000 - 1024 * block) / 4)

/-- RECOVERY_BLOCK (R376, R377, R471): its bytes land at 0x5000_0000 + 1024 × n. -/
def execRecoveryBlock (tag : Byte) (count block : Nat) (data : List Word) (checkOk : Bool) (s : State) :
    Host.Outcome State Fault Refusal :=
  .next (s.hostRun (checkOk && decide (count ≤ data.length)) (fun t =>
    if t.phase ≠ Phase.recovery then t.hostAnswer 0x30 tag.toNat 5 0 0 []
    else if countOk count then
      let n := blockRoom block count
      let t1 := t.ddrPut .junction (0x50000000 + 1024 * block) ((data.take n).flatMap (fun w => leBytes 4 w.toNat))
      t1.hostAnswer 0x30 tag.toNat (if n = count then 0 else 3) n (min count (n + 1)) []
    else t.hostAnswer 0x30 tag.toNat 6 0 0 []))

/-- HOST_RESPONSE_READY (R378, R379): the response becomes pending, and HRDY rises with it. -/
def execHostResponseReady (s : State) : Host.Outcome State Fault Refusal :=
  .next (match s.host.busy with
    | some (r, at_) => if at_ ≤ s.clk.uptime then s.modHost (fun h => { h with resp := some r, busy := none }) else s
    | none => s)

/-- UNKNOWN_OP (R377): RESULT 0x07. -/
def execUnknownOp (op tag : Byte) (s : State) : Host.Outcome State Fault Refusal :=
  .next (if op.toNat ∈ [0x01, 0x02, 0x10, 0x20, 0x30] then s
    else s.hostRun true (fun t => t.hostAnswer op.toNat tag.toNat 7 0 0 []))

/-- TRANSACTION_CUT_SHORT (R378): the command is discarded without a response. -/
def execTransactionCutShort (s : State) : Host.Outcome State Fault Refusal :=
  .next (if s.hostUp then s.hostBegin.hostLast false false true else s)

end Sys2Proof.Machine
end

