-- ==== Sys2Proof/Machine/Fpu.lean ====
section
/-! DEFINITION. The arithmetic of the F and D extensions (R61): every operation computes an exact value and rounds it once. R61 names the
RISC-V unprivileged specification without its text: the results, flags and NaN rules here are PRESUMED from it (log entry 7). -/

namespace Sys2Proof.Machine

/-- The accrued exception flags: invalid, divide by zero, overflow, underflow, inexact. -/
abbrev fNV : Nat := 16
abbrev fDZ : Nat := 8
abbrev fOF : Nat := 4
abbrev fUF : Nat := 2
abbrev fNX : Nat := 1

/-- The rounding modes by their codes: to nearest even, towards zero, down, up, to nearest with ties away from zero. -/
abbrev rmRTZ : Nat := 1
abbrev rmRDN : Nat := 2
abbrev rmRUP : Nat := 3
abbrev rmRMM : Nat := 4

/-- The fraction bits, the exponent bits and the bias of a format: double or single. -/
def fFrac (d : Bool) : Nat := if d then 52 else 23
def fExpo (d : Bool) : Nat := if d then 11 else 8
def fBias (d : Bool) : Nat := 2 ^ (fExpo d - 1) - 1

/-- What a floating-point word stands for: a NaN, an infinity, or (−1)^sign × m × 2^e. -/
inductive FVal
  | nan (signaling : Bool)
  | inf (sign : Bool)
  | fin (sign : Bool) (m : Nat) (e : Int)
  deriving DecidableEq, Repr

/-- The value of a word. -/
def fValue (d : Bool) (v : Nat) : FVal :=
  let f := fFrac d
  let ex := v / 2 ^ f % 2 ^ fExpo d
  let fr := v % 2 ^ f
  let sign := v / 2 ^ (f + fExpo d) % 2 == 1
  let low : Int := 1 - (fBias d : Int) - f
  if ex = 2 ^ fExpo d - 1 then (if fr = 0 then .inf sign else .nan (fr / 2 ^ (f - 1) == 0))
  else if ex = 0 then .fin sign fr low
  else .fin sign (fr + 2 ^ f) (low + (ex - 1))

/-- The sign bit of a format, set or not. -/
def fSign (d sign : Bool) : Nat := if sign then 2 ^ (fFrac d + fExpo d) else 0

/-- An infinity. -/
def fInf (d sign : Bool) : Nat := fSign d sign + (2 ^ fExpo d - 1) * 2 ^ fFrac d

/-- The canonical NaN. -/
def fNan (d : Bool) : Nat := (2 ^ (fExpo d + 1) - 1) * 2 ^ (fFrac d - 1)

/-- m ÷ 2^n as an integer in a rounding mode, and whether that is inexact. -/
def roundShift (rm : Nat) (sign : Bool) (m n : Nat) : Nat × Bool :=
  let q := m / 2 ^ n
  let r := 2 * (m % 2 ^ n)
  let h := 2 ^ n
  let up :=
    if rm = rmRTZ then false
    else if rm = rmRDN then sign && decide (0 < r)
    else if rm = rmRUP then !sign && decide (0 < r)
    else if rm = rmRMM then decide (0 < r ∧ h ≤ r)
    else decide (h < r) || (decide (0 < r) && r == h && q % 2 == 1)
  (if up then q + 1 else q, decide (0 < r))

/-- m × 2^e as a multiple of 2^u, in a rounding mode. -/
def roundAt (rm : Nat) (sign : Bool) (m : Nat) (e u : Int) : Nat × Bool :=
  if u ≤ e then (m * 2 ^ (e - u).toNat, false) else roundShift rm sign m (u - e).toNat

/-- (−1)^sign × m × 2^e as a word of the format, with the flags; tininess is detected after rounding. -/
def fRound (d : Bool) (rm : Nat) (sign : Bool) (m : Nat) (e : Int) : Nat × Nat :=
  let f := fFrac d
  let bias : Int := fBias d
  if m = 0 then (fSign d sign, 0)
  else
    let top : Int := e + Nat.log2 m
    let free := roundAt rm sign m e (top - f)
    let tiny := decide (top < 1 - bias) && !(top == -bias && free.1 == 2 ^ (f + 1))
    let u : Int := max (top - f) (1 - bias - f)
    let (q, nx) := roundAt rm sign m e u
    let mag := (u + f + bias - 1).toNat * 2 ^ f + q
    if (2 ^ fExpo d - 1) * 2 ^ f ≤ mag then
      let away := if rm = rmRTZ then false else if rm = rmRDN then sign else if rm = rmRUP then !sign else true
      (if away then fInf d sign else fInf d sign - 1, fOF + fNX)
    else (fSign d sign + mag, if nx then fNX + (if tiny then fUF else 0) else 0)

/-- The canonical NaN, with the invalid flag where the operation is invalid. -/
def fInvalid (d invalid : Bool) : Nat × Nat := (fNan d, if invalid then fNV else 0)

/-- Whether a value is a signalling NaN, or a NaN at all. -/
def FVal.snan : FVal → Bool
  | .nan s => s
  | _ => false

def FVal.isNan : FVal → Bool
  | .nan _ => true
  | _ => false

/-- A value with its sign changed. -/
def FVal.neg : FVal → FVal
  | .nan s => .nan s
  | .inf s => .inf !s
  | .fin s m e => .fin (!s) m e

/-- A signed magnitude. -/
def signedMag (s : Bool) (m : Nat) : Int := if s then -(m : Int) else m

/-- The exact sum of two finite values: sign, magnitude and exponent; a zero sum of unlike signs is −0 in round down only. -/
def exactSum (rm : Nat) (s : Bool) (m : Nat) (e : Int) (s' : Bool) (m' : Nat) (e' : Int) : Bool × Nat × Int :=
  let lo := min e e'
  let v := signedMag s (m * 2 ^ (e - lo).toNat) + signedMag s' (m' * 2 ^ (e' - lo).toNat)
  (if v = 0 then (if s = s' then s else rm == rmRDN) else decide (v < 0), v.natAbs, lo)

/-- Addition. -/
def fAdd (d : Bool) (rm : Nat) (a b : FVal) : Nat × Nat :=
  match a, b with
  | .fin s m e, .fin s' m' e' =>
    let x := exactSum rm s m e s' m' e'
    fRound d rm x.1 x.2.1 x.2.2
  | .inf s, .inf s' => if s = s' then (fInf d s, 0) else fInvalid d true
  | .inf s, .fin .. => (fInf d s, 0)
  | .fin .., .inf s => (fInf d s, 0)
  | x, y => fInvalid d (x.snan || y.snan)

/-- Multiplication. -/
def fMul (d : Bool) (rm : Nat) (a b : FVal) : Nat × Nat :=
  match a, b with
  | .fin s m e, .fin s' m' e' => fRound d rm (s != s') (m * m') (e + e')
  | .inf s, .inf s' => (fInf d (s != s'), 0)
  | .inf s, .fin s' m _ => if m = 0 then fInvalid d true else (fInf d (s != s'), 0)
  | .fin s m _, .inf s' => if m = 0 then fInvalid d true else (fInf d (s != s'), 0)
  | x, y => fInvalid d (x.snan || y.snan)

/-- a × b + c, rounded once; infinity times zero is invalid even where c is a quiet NaN. -/
def fMulAdd (d : Bool) (rm : Nat) (a b c : FVal) : Nat × Nat :=
  let bad (p q : FVal) : Bool := match p, q with
    | .inf _, .fin _ m _ => m == 0
    | _, _ => false
  if a.isNan || b.isNan || c.isNan || bad a b || bad b a then fInvalid d (a.snan || b.snan || c.snan || bad a b || bad b a)
  else match a, b, c with
    | .fin s m e, .fin s' m' e', .fin t n g =>
      let x := exactSum rm (s != s') (m * m') (e + e') t n g
      fRound d rm x.1 x.2.1 x.2.2
    | .fin .., .fin .., .inf t => (fInf d t, 0)
    | x, y, z =>
      let sign : FVal → Bool := fun v => match v with
        | .inf s => s
        | .fin s _ _ => s
        | .nan _ => false
      let p := sign x != sign y
      match z with
      | .inf t => if t = p then (fInf d p, 0) else fInvalid d true
      | _ => (fInf d p, 0)

/-- Division. -/
def fDiv (d : Bool) (rm : Nat) (a b : FVal) : Nat × Nat :=
  match a, b with
  | .fin s m e, .fin s' m' e' =>
    if m' = 0 then (if m = 0 then fInvalid d true else (fInf d (s != s'), fDZ))
    else
      let k := fFrac d + 3 + Nat.log2 m'
      let n := m * 2 ^ k
      fRound d rm (s != s') (2 * (n / m') + (if n % m' = 0 then 0 else 1)) (e - e' - k - 1)
  | .inf _, .inf _ => fInvalid d true
  | .inf s, .fin s' _ _ => (fInf d (s != s'), 0)
  | .fin s _ _, .inf s' => (fSign d (s != s'), 0)
  | x, y => fInvalid d (x.snan || y.snan)

/-- Square root. -/
def fSqrt (d : Bool) (rm : Nat) (a : FVal) : Nat × Nat :=
  match a with
  | .fin s m e =>
    if m = 0 then (fSign d s, 0)
    else if s then fInvalid d true
    else
      let k := 2 * (fFrac d + 3) + (e % 2).toNat
      let n := m * 2 ^ k
      let q := isqrt (fFrac d + fFrac d + 8) n
      fRound d rm false (2 * q + (if q * q = n then 0 else 1)) ((e - k) / 2 - 1)
  | .inf s => if s then fInvalid d true else (fInf d false, 0)
  | .nan s => fInvalid d s

/-- Whether a is less than b, of values that are no NaN. -/
def fLess (a b : FVal) : Bool :=
  match a, b with
  | .fin s m e, .fin s' m' e' =>
    let lo := min e e'
    decide (signedMag s (m * 2 ^ (e - lo).toNat) < signedMag s' (m' * 2 ^ (e' - lo).toNat))
  | .inf s, .inf s' => s && !s'
  | .inf s, _ => s
  | _, .inf s' => !s'
  | _, _ => false

/-- Minimum or maximum of two words: −0 lies below +0, a NaN gives way to a number. -/
def fMinMax (d least : Bool) (v w : Nat) : Nat × Nat :=
  let a := fValue d v
  let b := fValue d w
  let flags := if a.snan || b.snan then fNV else 0
  if a.isNan && b.isNan then (fNan d, flags)
  else if a.isNan then (w, flags)
  else if b.isNan then (v, flags)
  else
    let first := fLess a b || (!fLess b a && decide (w < v))
    (if first = least then v else w, flags)

/-- A conversion between the formats. -/
def fConvert (d : Bool) (rm : Nat) (a : FVal) : Nat × Nat :=
  match a with
  | .nan s => fInvalid d s
  | .inf s => (fInf d s, 0)
  | .fin s m e => fRound d rm s m e

/-- An integer as floating point. -/
def fOfInt (d : Bool) (rm : Nat) (v : Int) : Nat × Nat := fRound d rm (decide (v < 0)) v.natAbs 0

/-- Floating point as an integer of `w` bits; what does not fit saturates and is invalid. -/
def fToInt (rm w : Nat) (signed : Bool) (a : FVal) : Int × Nat :=
  let hi : Int := if signed then 2 ^ (w - 1) - 1 else 2 ^ w - 1
  let lo : Int := if signed then -2 ^ (w - 1) else 0
  match a with
  | .nan _ => (hi, fNV)
  | .inf s => (if s then lo else hi, fNV)
  | .fin s m e =>
    let (q, nx) := roundAt rm s m e 0
    let v := signedMag s q
    if hi < v then (hi, fNV) else if v < lo then (lo, fNV) else (v, if nx then fNX else 0)

/-- The class of a word: one of ten bits. -/
def fClass (d : Bool) (v : Nat) : Nat :=
  match fValue d v with
  | .nan s => if s then 256 else 512
  | .inf s => if s then 1 else 128
  | .fin s m _ =>
    if m = 0 then (if s then 8 else 16)
    else if m < 2 ^ fFrac d then (if s then 4 else 32)
    else (if s then 2 else 64)

/-- An operation with a floating-point result on words of the format, and on the integer source of a conversion; for the conversion between
the formats `a` is a word of the other one. -/
def fpResult (op : FpOp) (d : Bool) (rm a b c : Nat) (x : BitVec 64) : Nat × Nat :=
  let va := fValue d a
  let vb := fValue d b
  let vc := fValue d c
  match op with
  | .add => fAdd d rm va vb
  | .sub => fAdd d rm va vb.neg
  | .mul => fMul d rm va vb
  | .div => fDiv d rm va vb
  | .sqrt => fSqrt d rm va
  | .min => fMinMax d true a b
  | .max => fMinMax d false a b
  | .madd => fMulAdd d rm va vb vc
  | .msub => fMulAdd d rm va vb vc.neg
  | .nmsub => fMulAdd d rm va.neg vb vc
  | .nmadd => fMulAdd d rm va.neg vb vc.neg
  | .cvt => fConvert d rm (fValue (!d) a)
  | .fromW => fOfInt d rm (toSigned 32 (x.toNat % 2 ^ 32))
  | .fromWu => fOfInt d rm (x.toNat % 2 ^ 32 : Nat)
  | .fromL => fOfInt d rm x.toInt
  | .fromLu => fOfInt d rm x.toNat

/-- An operation with an integer result; a 32-bit one is sign-extended. -/
def fxResult (op : FxOp) (d : Bool) (rm a b : Nat) : BitVec 64 × Nat :=
  let va := fValue d a
  let vb := fValue d b
  let nan := va.isNan || vb.isNan
  let ans (v : Bool) (flags : Nat) : BitVec 64 × Nat := (if v then 1 else 0, flags)
  let int (w : Nat) (signed : Bool) : BitVec 64 × Nat :=
    let r := fToInt rm w signed va
    (BitVec.ofInt 64 (toSigned w (r.1 % 2 ^ w).toNat), r.2)
  match op with
  | .eq => ans (!nan && !fLess va vb && !fLess vb va) (if va.snan || vb.snan then fNV else 0)
  | .lt => ans (!nan && fLess va vb) (if nan then fNV else 0)
  | .le => ans (!nan && !fLess vb va) (if nan then fNV else 0)
  | .class => (BitVec.ofNat 64 (fClass d a), 0)
  | .toW => int 32 true
  | .toWu => int 32 false
  | .toL => int 64 true
  | .toLu => int 64 false

end Sys2Proof.Machine
end

