-- ==== Sys2Proof/Machine/Csr.lean ====
section
/-! DEFINITION. The control and status registers of a hart (R62, R64 to R66), its physical memory protection (R65), traps and their return.
The spec names the RISC-V privileged specification without its text: what stands here beyond R61 to R66 is PRESUMED from it (log entry 12). -/

namespace Sys2Proof.Machine

/-- CSR numbers of the privileged specification. -/
abbrev csrFcsr : Nat := 0x003
abbrev csrMstatus : Nat := 0x300
abbrev csrMie : Nat := 0x304
abbrev csrMtvec : Nat := 0x305
abbrev csrMcounteren : Nat := 0x306
abbrev csrMepc : Nat := 0x341
abbrev csrMcause : Nat := 0x342
abbrev csrMtval : Nat := 0x343
abbrev csrMinstret : Nat := 0xB02
abbrev csrTselect : Nat := 0x7A0

/-- An integer register; x0 reads zero. -/
def HartSt.xr (x : HartSt) (r : Fin 32) : BitVec 64 := if r = 0 then 0 else Store.get xZero x.x r.val

/-- Write an integer register; x0 discards the value. -/
def HartSt.setX (x : HartSt) (r : Fin 32) (v : BitVec 64) : HartSt := if r = 0 then x else { x with x := Store.put xZero x.x r.val v }

/-- The FS field of mstatus: the floating-point unit is off while it reads 0. -/
def HartSt.fs (x : HartSt) : Nat := bitsOf (x.csrRaw csrMstatus).toNat 14 13

/-- The floating-point state becomes dirty. -/
def HartSt.dirtyF (x : HartSt) : HartSt := x.setCsr csrMstatus (x.csrRaw csrMstatus ||| 0x6000)

/-- A floating-point register. -/
def HartSt.fr (x : HartSt) (r : Fin 32) : BitVec 64 := Store.get xZero x.f r.val

/-- Write a floating-point register. -/
def HartSt.setF (x : HartSt) (r : Fin 32) (v : BitVec 64) : HartSt := { x with f := Store.put xZero x.f r.val v }.dirtyF

/-- The configuration byte of a PMP entry. -/
def HartSt.pmpCfg (x : HartSt) (i : Nat) : Nat := bitsOf (x.csrRaw (0x3A0 + 2 * (i / 8))).toNat (8 * (i % 8) + 7) (8 * (i % 8))

/-- The address register of a PMP entry. -/
def HartSt.pmpAddr (x : HartSt) (i : Nat) : Nat := (x.csrRaw (0x3B0 + i)).toNat

/-- The address-matching mode of an entry: 0 OFF, 1 TOR, 2 NA4, 3 NAPOT. -/
def HartSt.pmpMode (x : HartSt) (i : Nat) : Nat := bitsOf (x.pmpCfg i) 4 3

/-- Whether an entry is locked. -/
def HartSt.pmpLocked (x : HartSt) (i : Nat) : Bool := bitOf (x.pmpCfg i) 7

/-- The number of low ones of a number, up to the fuel. -/
def lowOnes : Nat → Nat → Nat
  | 0, _ => 0
  | fuel + 1, n => if n % 2 = 1 then lowOnes fuel (n / 2) + 1 else 0

/-- The range of an entry, low end included, with a granularity of 64 bytes; NA4 is a 64-byte NAPOT region (R65). -/
def HartSt.pmpRange (x : HartSt) (i : Nat) : Nat × Nat :=
  let a := x.pmpAddr i
  match x.pmpMode i with
  | 1 => (if i = 0 then 0 else x.pmpAddr (i - 1) / 16 * 64, a / 16 * 64)
  | 2 => (a / 16 * 64, a / 16 * 64 + 64)
  | 3 =>
    let v := a / 8 * 8 + 7
    let t := lowOnes 54 v
    (v / 2 ^ (t + 1) * 2 ^ (t + 3), v / 2 ^ (t + 1) * 2 ^ (t + 3) + 2 ^ (t + 3))
  | _ => (0, 0)

/-- Whether an access is allowed (R65): `need` is 1 for a read, 2 for a write, 4 for execution. The lowest entry that matches any byte
decides; without one machine mode has access and user mode has none. -/
def HartSt.pmpAllows (x : HartSt) (machine : Bool) (need a n : Nat) : Bool :=
  match (List.range 16).find? (fun i => decide ((x.pmpRange i).1 < a + n ∧ a < (x.pmpRange i).2)) with
  | some i =>
    decide ((x.pmpRange i).1 ≤ a ∧ a + n ≤ (x.pmpRange i).2) && (machine && !x.pmpLocked i || x.pmpCfg i &&& need != 0)
  | none => machine

/-- The byte that a write leaves in a PMP configuration: a locked entry keeps its own, and W without R is not kept. -/
def HartSt.pmpByte (x : HartSt) (v : Nat) (i : Nat) : Nat :=
  let b := bitsOf v (8 * (i % 8) + 7) (8 * (i % 8)) &&& 0x9F
  if x.pmpLocked i then x.pmpCfg i else if b &&& 3 = 2 then b - 2 else b

/-- A write of pmpcfg0 or pmpcfg2, by the number of its first entry. -/
def HartSt.writePmpCfg (x : HartSt) (base : Nat) (v : BitVec 64) : HartSt :=
  x.setCsr (0x3A0 + base / 4) (BitVec.ofNat 64 (leNat ((List.range 8).map (fun j => BitVec.ofNat 8 (x.pmpByte v.toNat (base + j))))))

/-- A write of pmpaddr: ignored where the entry, or a TOR entry above it, is locked. -/
def HartSt.writePmpAddr (x : HartSt) (i : Nat) (v : BitVec 64) : HartSt :=
  if x.pmpLocked i || x.pmpLocked (i + 1) && x.pmpMode (i + 1) == 1 && decide (i < 15) then x
  else x.setCsr (0x3B0 + i) (v &&& 0x3FFFFFFFFFFFFF)

/-- What pmpaddr reads, with G = 4. -/
def HartSt.readPmpAddr (x : HartSt) (i : Nat) : BitVec 64 :=
  if 2 ≤ x.pmpMode i then x.csrRaw (0x3B0 + i) ||| 7 else x.csrRaw (0x3B0 + i) &&& ~~~15#64

/-! ### Triggers -/

/-- tdata1 of a trigger: type 2, mcontrol (R85). -/
def trigWord (t : Trigger) : BitVec 64 :=
  BitVec.ofNat 64 (2 * 2 ^ 60 + (if t.action = 1 then 2 ^ 59 else 0) + t.action * 2 ^ 12 + 64 * b2n t.m + 8 * b2n t.u +
    4 * b2n t.onExec + 2 * b2n t.onStore + b2n t.onLoad)

/-- A trigger as tdata1 writes it; action 1 takes a write with dmode, which only debug mode makes. -/
def trigOf (v : BitVec 64) (debug : Bool) (value : BitVec 64) : Trigger :=
  let n := v.toNat
  { m := bitOf n 6, u := bitOf n 3, action := if debug && bitOf n 59 && bitsOf n 15 12 == 1 then 1 else 0,
    onExec := bitOf n 2, onLoad := bitOf n 0, onStore := bitOf n 1, value := value }

/-- The trigger that tselect names. -/
def HartSt.trigger (x : HartSt) : Trigger := (x.triggers[(x.csrRaw csrTselect).toNat]?).getD noTrigger

/-- Replace the trigger that tselect names; one of action 1 belongs to debug mode alone. -/
def HartSt.setTrigger (x : HartSt) (debug : Bool) (t : Trigger) : HartSt :=
  if x.trigger.action = 1 ∧ ¬debug then x else { x with triggers := setAt x.triggers (x.csrRaw csrTselect).toNat t }

/-! ### Reading and writing -/

/-- Whether user mode may read a counter. -/
def HartSt.counterOpen (x : HartSt) (machine : Bool) (n : Nat) : Bool := machine || bitOf (x.csrRaw csrMcounteren).toNat (n - 0xC00)

/-- What a CSR reads, none where the access raises an illegal-instruction exception (R62, R64, R66). `debug` says that the hart is halted. -/
def HartSt.csrRead (x : HartSt) (h : Hart) (uptime : Nat) (debug : Bool) (n : Nat) : Option (BitVec 64) :=
  let m := x.machine || debug
  if bitsOf n 9 8 ≠ 0 ∧ ¬m then none
  else if n = 0x001 then if x.fs = 0 then none else some (x.csrRaw csrFcsr &&& 0x1F)
  else if n = 0x002 then if x.fs = 0 then none else some (x.csrRaw csrFcsr >>> 5)
  else if n = 0x003 then if x.fs = 0 then none else some (x.csrRaw csrFcsr)
  else if n = 0xF11 ∨ n = 0xF12 then some 0
  else if n = 0xF13 then some 0x380
  else if n = 0xF14 then some (match h with | .h0 => 0 | .h1 => 1)
  else if n = 0x301 then some 0x800000000010112D
  else if n = csrMstatus then
    some (x.csrRaw csrMstatus ||| 0x200000000#64 ||| (if x.fs = 3 then 0x8000000000000000#64 else 0))
  else if n = csrMie ∨ n = csrMtvec ∨ n = csrMcounteren ∨ n = 0x340 ∨ n = csrMepc ∨ n = csrMcause ∨ n = csrMtval ∨ n = csrMinstret ∨
      n = 0x3A0 ∨ n = 0x3A2 ∨ n = csrTselect then some (x.csrRaw n)
  else if n = 0x344 then some (BitVec.ofNat 64 x.lines &&& 0x808)
  else if n = 0x320 ∨ (0x323 ≤ n ∧ n ≤ 0x33F) ∨ (0xB03 ≤ n ∧ n ≤ 0xB1F) then some 0
  else if 0x3B0 ≤ n ∧ n ≤ 0x3BF then some (x.readPmpAddr (n - 0x3B0))
  else if n = 0xB00 then some (BitVec.ofNat 64 (x.cycles uptime))
  else if 0xC00 ≤ n ∧ n ≤ 0xC1F then
    if !x.counterOpen m n then none
    else if n = 0xC00 then some (BitVec.ofNat 64 (x.cycles uptime))
    else if n = 0xC01 then some (BitVec.ofNat 64 uptime)
    else if n = 0xC02 then some (x.csrRaw csrMinstret)
    else some 0
  else if n = 0x7A1 then some (trigWord x.trigger)
  else if n = 0x7A2 then some x.trigger.value
  else if n = 0x7A3 then some 0
  else if n = 0x7A4 then some 4
  else if debug then
    if n = csrDcsr then some ((x.csrRaw csrDcsr &&& 0x91C7) ||| 0x40000400#64)
    else if n = csrDpc then some (x.csrRaw n)
    else none
  else none

/-- A write of a CSR that csrRead admits; the read-only counters raise an illegal-instruction exception, a write of an identification or
feature CSR is ignored (R64). -/
def HartSt.csrWrite (x : HartSt) (uptime : Nat) (debug : Bool) (n : Nat) (v : BitVec 64) : Option HartSt :=
  if n = 0x001 then some (x.setCsr csrFcsr ((x.csrRaw csrFcsr &&& 0xE0) ||| (v &&& 0x1F))).dirtyF
  else if n = 0x002 then some (x.setCsr csrFcsr ((x.csrRaw csrFcsr &&& 0x1F) ||| ((v &&& 7) <<< 5))).dirtyF
  else if n = 0x003 then some (x.setCsr csrFcsr (v &&& 0xFF)).dirtyF
  else if 0xC00 ≤ n ∧ n ≤ 0xC1F then none
  else if n = csrMstatus then some (x.setCsr n (v &&& 0x227888))
  else if n = csrMie then some (x.setCsr n (v &&& 0x888))
  else if n = csrMtvec then some (x.setCsr n (v &&& ~~~2#64))
  else if n = csrMcounteren then some (x.setCsr n (v &&& 0xFFFFFFFF))
  else if n = csrMepc ∨ n = csrDpc then some (x.setCsr n (v &&& ~~~1#64))
  else if n = 0x340 ∨ n = csrMcause ∨ n = csrMtval ∨ n = csrMinstret then some (x.setCsr n v)
  else if n = 0xB00 then
    some (match x.cycStop with
      | some _ => { x with cycStop := some v.toNat }
      | none => { x with cycOfs := (v.toNat : Int) - uptime })
  else if n = 0x3A0 then some (x.writePmpCfg 0 v)
  else if n = 0x3A2 then some (x.writePmpCfg 8 v)
  else if 0x3B0 ≤ n ∧ n ≤ 0x3BF then some (x.writePmpAddr (n - 0x3B0) v)
  else if n = csrTselect then some (x.setCsr n (v &&& 3))
  else if n = 0x7A1 then some (x.setTrigger debug (trigOf v debug x.trigger.value))
  else if n = 0x7A2 then some (x.setTrigger debug { x.trigger with value := v })
  else if n = csrDcsr then some (x.setCsr n ((x.csrRaw n &&& 0x1C0) ||| (v &&& 0x9007)))
  else some x

/-! ### Traps -/

/-- A trap enters machine mode at mtvec: mepc, mcause and mtval are written, MPIE and MPP keep the enable and the mode. -/
def HartSt.trap (x : HartSt) (interrupt : Bool) (cause : Nat) (tval : BitVec 64) : HartSt :=
  let ms := x.csrRaw csrMstatus
  let mpie : BitVec 64 := if ms &&& 8 = 0 then 0 else 0x80
  let mpp : BitVec 64 := if x.machine then 0x1800 else 0
  let base := x.csrRaw csrMtvec
  let pc := (base &&& ~~~3#64) + (if interrupt && base &&& 1 == 1 then BitVec.ofNat 64 (4 * cause) else 0)
  let y := ((((x.setCsr csrMepc x.pc).setCsr csrMcause (BitVec.ofNat 64 (cause + if interrupt then 2 ^ 63 else 0))).setCsr csrMtval tval).setCsr
    csrMstatus ((ms &&& ~~~0x1888#64) ||| mpie ||| mpp))
  { y with machine := true, pc := pc }

/-- mret (R62): the mode of MPP, user mode where MPP names neither M nor U; MIE takes MPIE. -/
def HartSt.mret (x : HartSt) : HartSt :=
  let ms := x.csrRaw csrMstatus
  let m := bitsOf ms.toNat 12 11 == 3
  let mie : BitVec 64 := if ms &&& 0x80 = 0 then 0 else 8
  let keep : BitVec 64 := if m then ~~~0x1888#64 else ~~~0x21888#64
  let y := x.setCsr csrMstatus ((ms &&& keep) ||| mie ||| 0x80)
  { y with machine := m, pc := x.csrRaw csrMepc }

/-- The pending and enabled interrupt of highest priority: external 11, then software 3, then timer 7, which never pends (R66). -/
def HartSt.pendingIrq (x : HartSt) : Option Nat :=
  [11, 3].find? (fun b => bitOf x.lines b && bitOf (x.csrRaw csrMie).toNat b)

/-- Whether interrupts are enabled in the hart's mode. -/
def HartSt.irqOpen (x : HartSt) : Bool := !x.machine || bitOf (x.csrRaw csrMstatus).toNat 3

end Sys2Proof.Machine
end

