-- ==== Sys2Proof/Machine/LaneBus.lean ====
section
/-! DEFINITION. The accesses of a hart (R28, R63, R65, R133, R153, R154, R160, R173, R174): the lane map, its permissions, and PMP. -/

namespace Sys2Proof.Machine

/-- The ranges of the lane map (R28). -/
inductive LanePlace | rom | scratch | unit | inImage | outImage | ddr | hole
  deriving DecidableEq, Repr

/-- The range that holds `n` bytes from an address on. -/
def lanePlace (a n : Nat) : LanePlace :=
  let within (lo hi : Nat) : Bool := decide (lo ≤ a ∧ a + n ≤ hi)
  if within 0 0x10000 then .rom
  else if within 0x08000000 0x08100000 then .scratch
  else if within 0x10000000 0x10040000 || within 0x20000000 0x20130000 then .unit
  else if within 0x30000000 0x30010000 then .inImage
  else if within 0x30100000 0x30110000 then .outImage
  else if within 0x80000000 0x180000000 then .ddr
  else .hole

/-- What an access of a hart gives: bytes, an access fault, or nothing because the lane has stopped. -/
inductive Got | bytes (bs : List Byte) | fault | gone
  deriving DecidableEq, Repr

/-- Whether the harts of a lane have a clock and are released (R83). -/
def State.laneLive (s : State) (l : Lane) : Bool :=
  let x := s.ex l
  x != Exec.held && x != Exec.stopped && x != Exec.receiving

/-- The SOURCE of a hart in the error log (R176). -/
def hartSource : Hart → Nat
  | .h0 => 0
  | .h1 => 1

/-- A read of DDR4 by a hart; the spare pool is no memory of its own (R168), an uncorrectable burst stops the lane (R154). -/
def State.hartDdr (s : State) (l : Lane) (h : Hart) (a n : Nat) : State × Got :=
  if s.inPool (.lane l) (a / 4096) then (s, .fault)
  else match s.ddrRead (.lane l) (hartSource h) a n with
    | (t, some bs) => (t, .bytes bs)
    | (t, none) => (t, .gone)

/-- Whether HART_0 may store to bytes of the output image: the running task owns each word they touch (R133). -/
def State.ownsBytes (s : State) (l : Lane) (a n : Nat) : Bool :=
  match (s.ln l).curTask with
  | some t => (List.range n).all (fun j => s.owner ((a + j) / 4) == some t)
  | none => false

/-- The junction window of the lane map (R28): what a core writes there leaves the lane through the egress gate (R80). -/
def outside (a : Nat) : Bool := decide (0x20000000 ≤ a ∧ a < 0x20130000)

/-- Writes leave the egress gate of a lane in their order (R80). -/
def State.sendWrites (s : State) (l : Lane) (ws : List EgressWr) : State :=
  ws.foldl (fun t w => t.busWrite (.hart l w.hart) w.addr w.len w.word) s

/-- The writes that the comparator has passed, 8 lc after the core made them, leave the egress gate (R80). -/
def State.releaseEgress (s : State) (l : Lane) : State :=
  let g := (s.ln l).egress
  let due (w : EgressWr) : Bool := decide (w.at_ + 8 ≤ s.clk.uptime)
  if g.any due then (s.modLn l (fun n => { n with egress := g.dropWhile due })).sendWrites l (g.takeWhile due) else s

/-- A core's read over the lane link follows the writes that the core made before it (DESIGN CHOICE, log 78). -/
def State.drainEgress (s : State) (l : Lane) : State :=
  (s.modLn l (fun n => { n with egress := [] })).sendWrites l (s.ln l).egress

/-- A read within the lane map (R28). -/
def State.hartRead (s : State) (l : Lane) (h : Hart) (a n : Nat) : State × Got :=
  match lanePlace a n with
  | .rom => (s, .bytes ((List.range n).map (fun j => Config.awlRom (a + j))))
  | .scratch => (s, .bytes ((s.ln l).scratch.bytes a n))
  | .unit =>
    let t := (if outside a then s.drainEgress l else s).busRead (.hart l h) a n
    match t.response (.hart l h) with
    | .data w => (t, .bytes (leBytes n w.toNat))
    | _ => (t, .fault)
  | .inImage => (s, .bytes ((s.readBank l).bytes (a - 0x30000000) n))
  | .outImage => (s, .bytes ((s.ln l).work.bytes (a - 0x30100000) n))
  | .ddr => s.hartDdr l h a n
  | .hole => (s, .fault)

/-- A core's write to a unit (R28, R80): one inside the lane acts at once; one that would be accepted outside it waits in the egress gate. -/
def State.unitWrite (s : State) (l : Lane) (h : Hart) (a n : Nat) (w : Word) : State × Got :=
  let t := s.busWrite (.hart l h) a n w
  if t.response (.hart l h) = .done then
    if outside a then
      ((s.respond (.hart l h) .done).modLn l (fun x =>
        { x with egress := x.egress ++ [{ hart := h, addr := a, len := n, word := w, at_ := s.clk.uptime }] }), .bytes [])
    else (t, if t.laneLive l then .bytes [] else .gone)
  else (t, .fault)

/-- A write within the lane map (R28, R80, R133). A write smaller than a DDR4 burst reads the burst first. -/
def State.hartWrite (s : State) (l : Lane) (h : Hart) (a : Nat) (bs : List Byte) : State × Got :=
  let n := bs.length
  match lanePlace a n with
  | .scratch => (s.lanePut l a bs, .bytes [])
  | .unit => s.unitWrite l h a n (BitVec.ofNat 32 (leNat bs))
  | .outImage =>
    if h = .h0 ∧ s.ownsBytes l (a - 0x30100000) n then
      (s.modLn l (fun x => { x with work := x.work.putBytes (a - 0x30100000) bs }), .bytes [])
    else (s, .fault)
  | .ddr =>
    if s.inPool (.lane l) (a / 4096) then (s, .fault)
    else match s.checkBurst (.lane l) (hartSource h) a with
      | (t, true) => (t.lanePut l a bs, .bytes [])
      | (t, false) => (t, .gone)
  | _ => (s, .fault)

/-- What an access is for. -/
inductive Need | load | store | amo
  deriving DecidableEq, Repr

/-- The mode in which a data access is checked: that of MPP while machine mode sets MPRV. -/
def HartSt.dataMode (x : HartSt) : Bool :=
  let ms := (x.csrRaw csrMstatus).toNat
  if x.machine && bitOf ms 17 then bitsOf ms 12 11 == 3 else x.machine

/-- The exception that an access of `n` bytes raises before it is made: misaligned (R63), or refused by PMP (R65). The codes are those of the
privileged specification. -/
def HartSt.dataTrap (x : HartSt) (debug : Bool) (need : Need) (a n : Nat) : Option Nat :=
  let m := debug || x.dataMode
  let base := if need = .load then 4 else 6
  if a % n ≠ 0 then some base
  else if (need != .store && !x.pmpAllows m 1 a n) || (need != .load && !x.pmpAllows m 2 a n) then some (base + 1)
  else none

/-- Whether instructions can be fetched from `n` bytes at an address (R28, R174). -/
def fetchable (a n : Nat) : Bool :=
  match lanePlace a n with
  | .rom | .scratch | .ddr => true
  | _ => false

/-- The fetch of one 16-bit parcel: whether it succeeds, in a state in which the lane may have stopped. -/
def State.fetchParcel (s : State) (l : Lane) (h : Hart) (a : Nat) : State × Got :=
  let x := s.hart l h
  if !fetchable a 2 || !x.pmpAllows x.machine 4 a 2 then (s, .fault)
  else s.hartRead l h a 2

end Sys2Proof.Machine
end

