-- ==== Sys2Proof/Machine/Hart.lean ====
section
/-! DEFINITION. What a hart executes (R61 to R69, R174, R175): the instructions of RV64GC, WFI and interrupts. The unprivileged
specification is not in the spec's text; what an instruction computes is PRESUMED from it (log entry 12). -/

namespace Sys2Proof.Machine

/-! ### Integer arithmetic -/

/-- A 32-bit result, sign-extended. -/
def sext32 (v : BitVec 32) : BitVec 64 := v.signExtend 64

/-- The low half of a register. -/
def lo32 (v : BitVec 64) : BitVec 32 := v.setWidth 32

/-- Signed division, with the results of the M extension for a zero divisor. -/
def divS {w : Nat} (a b : BitVec w) : BitVec w := if b = 0 then BitVec.allOnes w else a.sdiv b

/-- Unsigned division. -/
def divU {w : Nat} (a b : BitVec w) : BitVec w := if b = 0 then BitVec.allOnes w else a / b

/-- Signed remainder. -/
def remS {w : Nat} (a b : BitVec w) : BitVec w := if b = 0 then a else a.srem b

/-- Unsigned remainder. -/
def remU {w : Nat} (a b : BitVec w) : BitVec w := if b = 0 then a else a % b

/-- The result of an integer operation (R61). -/
def aluResult (op : AluOp) (a b : BitVec 64) : BitVec 64 :=
  let k := b.toNat % 64
  let k5 := b.toNat % 32
  match op with
  | .add => a + b
  | .sub => a - b
  | .sll => a <<< k
  | .slt => if a.slt b then 1 else 0
  | .sltu => if a < b then 1 else 0
  | .xor => a ^^^ b
  | .srl => a >>> k
  | .sra => a.sshiftRight k
  | .or => a ||| b
  | .and => a &&& b
  | .addw => sext32 (lo32 a + lo32 b)
  | .subw => sext32 (lo32 a - lo32 b)
  | .sllw => sext32 (lo32 a <<< k5)
  | .srlw => sext32 (lo32 a >>> k5)
  | .sraw => sext32 ((lo32 a).sshiftRight k5)
  | .mul => a * b
  | .mulh => BitVec.ofInt 64 (a.toInt * b.toInt / 2 ^ 64)
  | .mulhsu => BitVec.ofInt 64 (a.toInt * (b.toNat : Int) / 2 ^ 64)
  | .mulhu => BitVec.ofNat 64 (a.toNat * b.toNat / 2 ^ 64)
  | .div => divS a b
  | .divu => divU a b
  | .rem => remS a b
  | .remu => remU a b
  | .mulw => sext32 (lo32 a * lo32 b)
  | .divw => sext32 (divS (lo32 a) (lo32 b))
  | .divuw => sext32 (divU (lo32 a) (lo32 b))
  | .remw => sext32 (remS (lo32 a) (lo32 b))
  | .remuw => sext32 (remU (lo32 a) (lo32 b))

/-- Whether a branch is taken. -/
def branchTaken (c : BrCond) (a b : BitVec 64) : Bool :=
  match c with
  | .eq => a == b
  | .ne => a != b
  | .lt => a.slt b
  | .ge => !a.slt b
  | .ltu => decide (a < b)
  | .geu => !decide (a < b)

/-- What an atomic operation stores; `dword` tells its width. -/
def amoResult (op : AmoOp) (dword : Bool) (m b : BitVec 64) : BitVec 64 :=
  let x := if dword then m else sext32 (lo32 m)
  let y := if dword then b else sext32 (lo32 b)
  let ux := if dword then m.toNat else (lo32 m).toNat
  let uy := if dword then b.toNat else (lo32 b).toNat
  match op with
  | .swap => y
  | .add => x + y
  | .xor => x ^^^ y
  | .and => x &&& y
  | .or => x ||| y
  | .min => if x.slt y then x else y
  | .max => if x.slt y then y else x
  | .minu => if ux < uy then x else y
  | .maxu => if ux < uy then y else x

/-- Loaded bytes as a register value. -/
def loadValue (signed : Bool) (bs : List Byte) : BitVec 64 :=
  let v := leNat bs
  let w := 8 * bs.length
  if signed then BitVec.ofInt 64 (toSigned w v) else BitVec.ofNat 64 v

/-! ### Floating point -/

/-- A single held in a floating-point register; a value that is not NaN-boxed reads as the canonical NaN. -/
def unbox (v : BitVec 64) : BitVec 32 := if v >>> 32 = 0xFFFFFFFF then lo32 v else 0x7FC00000

/-- A single, NaN-boxed. -/
def box (v : BitVec 32) : BitVec 64 := 0xFFFFFFFF00000000#64 ||| v.setWidth 64

/-- Sign injection. -/
def signInject {w : Nat} (k : FSgn) (a b : BitVec w) : BitVec w :=
  let m : BitVec w := BitVec.ofNat w (2 ^ (w - 1))
  let sign := match k with
    | .j => b &&& m
    | .jn => ~~~b &&& m
    | .jx => (a ^^^ b) &&& m
  (a &&& ~~~m) ||| sign

/-- The rounding mode in force, none where it is reserved. -/
def HartSt.rounding (x : HartSt) (rm : Fin 8) : Option (Fin 8) :=
  let r := if rm = 7 then bitsOf (x.csrRaw csrFcsr).toNat 7 5 else rm.val
  if h : r < 5 then some ⟨r, by omega⟩ else none

/-- The rounding mode of an operation, none where it is reserved; minimum and maximum, comparisons and the class use none. -/
def HartSt.fpMode (x : HartSt) (rm : Fin 8) : FpOp → Option Nat
  | .min | .max => some 0
  | _ => (x.rounding rm).map (·.val)

def HartSt.fxMode (x : HartSt) (rm : Fin 8) : FxOp → Option Nat
  | .eq | .lt | .le | .class => some 0
  | _ => (x.rounding rm).map (·.val)

/-- A floating-point source operand in a format. -/
def HartSt.fpSource (x : HartSt) (dword : Bool) (r : Fin 32) : Nat := if dword then (x.fr r).toNat else (unbox (x.fr r)).toNat

/-- Accrue exception flags in fcsr. -/
def HartSt.accrue (x : HartSt) (flags : Nat) : HartSt :=
  if flags = 0 then x else (x.setCsr csrFcsr (x.csrRaw csrFcsr ||| BitVec.ofNat 64 flags)).dirtyF

/-! ### One instruction -/

/-- How an instruction ends: it completes, raises an exception with its code and mtval, is an EBREAK, or the lane has stopped meanwhile. -/
inductive RunRes | ok | exc (cause : Nat) (tval : BitVec 64) | brk | gone
  deriving DecidableEq, Repr

/-- The hart's own registers change and nothing else does. -/
def State.keepHart (s : State) (l : Lane) (h : Hart) (x : HartSt) : State × RunRes := (s.setHart l h x, .ok)

/-- An illegal-instruction exception (R61, R62); the value that mtval takes is unstated (log entry 3). -/
def State.illegalOp (s : State) : State × RunRes := (s.takeFree.2, .exc 2 s.takeFree.1)

/-- A CSR instruction (R62, R64): `v` gives the value written, none where it writes nothing; `reads` tells whether the old value is taken. -/
def State.runCsr (s : State) (l : Lane) (h : Hart) (debug : Bool) (rd : Fin 32) (n : Nat) (v : BitVec 64 → Option (BitVec 64)) :
    State × RunRes :=
  let x := s.hart l h
  match x.csrRead h s.clk.uptime debug n with
  | some old => match v old with
    | some new => match x.csrWrite s.clk.uptime debug n new with
      | some y => s.keepHart l h (y.setX rd old)
      | none => s.illegalOp
    | none => s.keepHart l h (x.setX rd old)
  | none => s.illegalOp

/-- The value that a CSR operation writes. -/
def csrNew (op : CsrOp) (old arg : BitVec 64) : BitVec 64 :=
  match op with
  | .rw => arg
  | .rs => old ||| arg
  | .rc => old &&& ~~~arg

/-- A load of `n` bytes, its result placed by `f` in the hart's registers. -/
def State.runLoad (s : State) (l : Lane) (h : Hart) (debug : Bool) (a : BitVec 64) (n : Nat) (f : HartSt → List Byte → HartSt) :
    State × RunRes :=
  match (s.hart l h).dataTrap debug .load a.toNat n with
  | some c => (s, .exc c a)
  | none => match s.hartRead l h a.toNat n with
    | (t, .bytes bs) => t.keepHart l h (f (t.hart l h) bs)
    | (t, .fault) => (t, .exc 5 a)
    | (t, .gone) => (t, .gone)

/-- A store of bytes. -/
def State.runStore (s : State) (l : Lane) (h : Hart) (debug : Bool) (a : BitVec 64) (bs : List Byte) : State × RunRes :=
  match (s.hart l h).dataTrap debug .store a.toNat bs.length with
  | some c => (s, .exc c a)
  | none => match s.hartWrite l h a.toNat bs with
    | (t, .bytes _) => (t, .ok)
    | (t, .fault) => (t, .exc 7 a)
    | (t, .gone) => (t, .gone)

/-- A read-modify-write. A side-effect region takes one access only (R174), so an atomic access to it ends in an access fault. -/
def State.runAmo (s : State) (l : Lane) (h : Hart) (debug : Bool) (op : AmoOp) (dword : Bool) (rd : Fin 32) (a b : BitVec 64) :
    State × RunRes :=
  let n := if dword then 8 else 4
  match (s.hart l h).dataTrap debug .amo a.toNat n with
  | some c => (s, .exc c a)
  | none =>
    if lanePlace a.toNat n = .unit then (s, .exc 7 a)
    else match s.hartRead l h a.toNat n with
      | (t, .bytes bs) =>
        let old := loadValue true bs
        (match t.hartWrite l h a.toNat (leBytes n (amoResult op dword old b).toNat) with
         | (u, .bytes _) => u.keepHart l h ((u.hart l h).setX rd old)
         | (u, .fault) => (u, .exc 7 a)
         | (u, .gone) => (u, .gone))
      | (t, .fault) => (t, .exc 7 a)
      | (t, .gone) => (t, .gone)

/-- LR: a load that takes the reservation. -/
def State.runLr (s : State) (l : Lane) (h : Hart) (debug : Bool) (dword : Bool) (rd : Fin 32) (a : BitVec 64) : State × RunRes :=
  if lanePlace a.toNat 4 = .unit ∧ a.toNat % (if dword then 8 else 4) = 0 then (s, .exc 5 a)
  else s.runLoad l h debug a (if dword then 8 else 4) (fun x bs => { x.setX rd (loadValue true bs) with resv := some a.toNat })

/-- SC: it stores where the reservation of this address stands, and the reservation ends. -/
def State.runSc (s : State) (l : Lane) (h : Hart) (debug : Bool) (dword : Bool) (rd : Fin 32) (a b : BitVec 64) : State × RunRes :=
  let n := if dword then 8 else 4
  let x := s.hart l h
  match x.dataTrap debug .store a.toNat n with
  | some c => (s, .exc c a)
  | none =>
    if x.resv = some a.toNat then match s.hartWrite l h a.toNat (leBytes n b.toNat) with
      | (t, .bytes _) => t.keepHart l h { (t.hart l h).setX rd 0 with resv := none }
      | (t, .fault) => (t, .exc 7 a)
      | (t, .gone) => (t, .gone)
    else s.keepHart l h { x.setX rd 1 with resv := none }

/-- An instruction of the floating-point unit: illegal while FS is off. -/
def State.withFpu (s : State) (l : Lane) (h : Hart) (f : HartSt → State × RunRes) : State × RunRes :=
  if (s.hart l h).fs = 0 then s.illegalOp else f (s.hart l h)

/-- WFI (R68): the island's clock stops unless an interrupt pends; user mode with TW set may not. -/
def State.runWfi (s : State) (l : Lane) (h : Hart) (debug : Bool) : State × RunRes :=
  let x := s.hart l h
  if !x.machine && bitOf (x.csrRaw csrMstatus).toNat 21 then s.illegalOp
  else s.keepHart l h { x with gated := x.pendingIrq.isNone && !debug }

/-- The effect of an instruction but for the pc of one that does not jump: R61 to R64 and the RISC-V specifications. -/
def State.runOp (s : State) (l : Lane) (h : Hart) (debug : Bool) (next : BitVec 64) (op : RvOp) : State × RunRes :=
  let x := s.hart l h
  match op with
  | .lui rd imm => s.keepHart l h (x.setX rd imm)
  | .auipc rd imm => s.keepHart l h (x.setX rd (x.pc + imm))
  | .jal rd off => s.keepHart l h ({ x with pc := (x.pc + off) &&& ~~~1#64 }.setX rd next)
  | .jalr rd rs1 off => s.keepHart l h ({ x with pc := (x.xr rs1 + off) &&& ~~~1#64 }.setX rd next)
  | .branch c rs1 rs2 off =>
    s.keepHart l h { x with pc := if branchTaken c (x.xr rs1) (x.xr rs2) then (x.pc + off) &&& ~~~1#64 else next }
  | .load b signed rd rs1 off =>
    s.runLoad l h debug (x.xr rs1 + off) (2 ^ b.val) (fun y bs => y.setX rd (loadValue signed bs))
  | .store b rs1 rs2 off => s.runStore l h debug (x.xr rs1 + off) (leBytes (2 ^ b.val) (x.xr rs2).toNat)
  | .aluImm o rd rs1 imm => s.keepHart l h (x.setX rd (aluResult o (x.xr rs1) imm))
  | .alu o rd rs1 rs2 => s.keepHart l h (x.setX rd (aluResult o (x.xr rs1) (x.xr rs2)))
  | .lr d rd rs1 => s.runLr l h debug d rd (x.xr rs1)
  | .sc d rd rs1 rs2 => s.runSc l h debug d rd (x.xr rs1) (x.xr rs2)
  | .amo o d rd rs1 rs2 => s.runAmo l h debug o d rd (x.xr rs1) (x.xr rs2)
  | .csr o rd rs1 n =>
    s.runCsr l h debug rd n.val (fun old => if o != .rw && rs1 == 0 then none else some (csrNew o old (x.xr rs1)))
  | .csri o rd imm n =>
    s.runCsr l h debug rd n.val (fun old => if o != .rw && imm == 0 then none else some (csrNew o old (BitVec.ofNat 64 imm.val)))
  | .fence | .fenceI => (s, .ok)
  | .ecall => (s, .exc (if x.machine then 11 else 8) 0)
  | .ebreak => (s, .brk)
  | .mret => if x.machine then s.keepHart l h x.mret else s.illegalOp
  | .wfi => s.runWfi l h debug
  | .fload d rd rs1 off => s.withFpu l h (fun x =>
      s.runLoad l h debug (x.xr rs1 + off) (if d then 8 else 4) (fun y bs =>
        y.setF rd (if d then BitVec.ofNat 64 (leNat bs) else box (BitVec.ofNat 32 (leNat bs)))))
  | .fstore d rs1 rs2 off => s.withFpu l h (fun x =>
      s.runStore l h debug (x.xr rs1 + off) (leBytes (if d then 8 else 4) (x.fr rs2).toNat))
  | .fsgn k d rd rs1 rs2 => s.withFpu l h (fun x =>
      s.keepHart l h (x.setF rd (if d then signInject k (x.fr rs1) (x.fr rs2) else box (signInject k (unbox (x.fr rs1)) (unbox (x.fr rs2))))))
  | .fmvToX d rd rs1 => s.withFpu l h (fun x => s.keepHart l h (x.setX rd (if d then x.fr rs1 else sext32 (lo32 (x.fr rs1)))))
  | .fmvFromX d rd rs1 => s.withFpu l h (fun x => s.keepHart l h (x.setF rd (if d then x.xr rs1 else box (lo32 (x.xr rs1)))))
  | .farith op d rm rd rs1 rs2 rs3 => s.withFpu l h (fun x => match x.fpMode rm op with
      | some r =>
        let q := fpResult op d r (x.fpSource (if op = .cvt then !d else d) rs1) (x.fpSource d rs2) (x.fpSource d rs3) (x.xr rs1)
        let v := if d then BitVec.ofNat 64 q.1 else box (BitVec.ofNat 32 q.1)
        s.keepHart l h ((x.setF rd v).accrue q.2)
      | none => s.illegalOp)
  | .farithX op d rm rd rs1 rs2 => s.withFpu l h (fun x => match x.fxMode rm op with
      | some r =>
        let q := fxResult op d r (x.fpSource d rs1) (x.fpSource d rs2)
        s.keepHart l h ((x.setX rd q.1).accrue q.2)
      | none => s.illegalOp)
  | .illegal _ => s.illegalOp

/-- Whether an instruction sets the pc itself. -/
def setsPc : RvOp → Bool
  | .jal .. | .jalr .. | .branch .. | .mret => true
  | _ => false

/-- Whether an instruction writes minstret, which then does not count it. -/
def writesInstret : RvOp → Bool
  | .csr _ _ _ n | .csri _ _ _ n => n.val == csrMinstret
  | _ => false

/-- Whether a hart may run, its clock gate aside (R83, R87, R163): the lane's harts are released, no fill of the lane runs and this one is not
halted. In a module that runs,
HART_1 belongs to the cold class: it works in SINGLE, ACTIVE and FAULTED, once a restore is complete (R348). -/
def State.hartUp (s : State) (l : Lane) (h : Hart) : Bool :=
  let d := s.dst
  s.st.powered && s.laneLive l && !(s.hart l h).halted &&
    (s.mctl (.lane l)).fillStart.isNone && (h == .h0 || s.phase != Phase.run || (d == DSt.single || d == DSt.active || d == DSt.faulted) && !s.dx.restoring)

/-- A hart that single-steps halts again (R85). -/
def State.afterStep (s : State) (l : Lane) (h : Hart) : State := if (s.hart l h).step then s.haltHart l h 4 else s

/-- An exception: the hart takes its trap. -/
def State.raiseTrap (s : State) (l : Lane) (h : Hart) (cause : Nat) (tval : BitVec 64) : State :=
  (s.setHart l h ((s.hart l h).trap false cause tval)).afterStep l h

/-- Whether the lane may be halted or reset by its debug module at once (R86): it does not vote, nothing is permitted, or it holds the grant. -/
def State.mayHalt (s : State) (l : Lane) : Bool := !(s.votes l && s.flag Fld.JC_MOD_STATUS_PERMITS) || s.vote.grant == some l

/-- EBREAK enters debug mode where dcsr names the hart's mode, and is a breakpoint exception otherwise (R86). -/
def State.runBreak (s : State) (l : Lane) (h : Hart) : State :=
  let x := s.hart l h
  if s.mayHalt l && bitOf (x.csrRaw csrDcsr).toNat (if x.machine then 15 else 12) then s.haltHart l h 1
  else s.takeFree.2.raiseTrap l h 3 s.takeFree.1

/-- An instruction has completed: it counts in minstret and the pc moves on (R66). -/
def State.retire1 (s : State) (l : Lane) (h : Hart) (op : RvOp) (next : BitVec 64) : State :=
  if s.laneLive l then
    let x := s.hart l h
    let y := if writesInstret op then x else x.setCsr csrMinstret (x.csrRaw csrMinstret + 1)
    (s.setHart l h (if setsPc op then y else { y with pc := next })).afterStep l h
  else s

/-- The fetch of an instruction of `len` bytes, 2 or 4: none where it succeeds, else the address that faults. -/
def State.fetch (s : State) (l : Lane) (h : Hart) (a len : Nat) : State × Option (Option Nat) :=
  match s.fetchParcel l h a with
  | (t, .bytes _) =>
    if len = 2 then (t, none)
    else match t.fetchParcel l h (a + 2) with
      | (u, .bytes _) => (u, none)
      | (u, .fault) => (u, some (some (a + 2)))
      | (u, .gone) => (u, some none)
  | (t, .fault) => (t, some (some a))
  | (t, .gone) => (t, some none)

/-- One instruction of a hart, from fetch to the next pc. -/
def State.hartStep (s : State) (l : Lane) (h : Hart) (op : RvOp) (short : Bool) : State :=
  let pc := (s.hart l h).pc
  let len := if short then 2 else 4
  let next := pc + BitVec.ofNat 64 len
  match s.fetch l h pc.toNat len with
  | (t, some (some a)) => t.raiseTrap l h 1 (BitVec.ofNat 64 a)
  | (t, some none) => t
  | (t, none) => match t.runOp l h false next op with
    | (u, .ok) => u.retire1 l h op next
    | (u, .exc c v) => u.raiseTrap l h c v
    | (u, .brk) => u.runBreak l h
    | (u, .gone) => u

/-- Requests marked prefetch or speculative to a side-effect region are rejected and counted (R175): at the lane's units in MEM.PF_REJECT, in
the junction window in JC.JM_PF_REJECT. One to lane DDR4 is read, and an uncorrectable burst there faults the lane (R154). -/
def State.rejectAhead (s : State) (l : Lane) (h : Hart) (as : List (BitVec 64)) : State :=
  as.foldl (fun t a =>
    if 0x10000000 ≤ a.toNat ∧ a.toNat < 0x10040000 then t.bump (Fld.MEM_PF_REJECT_COUNT (.lane l))
    else if 0x20000000 ≤ a.toNat ∧ a.toNat < 0x20130000 then t.bump (Fld.MEM_PF_REJECT_COUNT .junction)
    else if lanePlace a.toNat 1 = .ddr then (t.checkBurst (.lane l) (hartSource h) a.toNat).1
    else t) s

/-- HART_INSTRUCTION (R61): a hart whose clock runs executes one instruction. -/
def execHartInstruction (l : Lane) (h : Hart) (op : RvOp) (short : Bool) (ahead : List (BitVec 64)) (s : State) :
    Host.Outcome State Fault Refusal :=
  .next (if s.hartUp l h && !(s.hart l h).gated then
      (let t := s.rejectAhead l h ahead
       if t.laneLive l then t.hartStep l h op short else t)
    else s)

/-- WFI (R68). -/
def execWfi (l : Lane) (h : Hart) (s : State) : Host.Outcome State Fault Refusal :=
  .next (if s.hartUp l h && !(s.hart l h).gated then s.hartStep l h .wfi false else s)

/-- HART_INTERRUPT (R68, R69): a pending interrupt ungates the island and, where the hart has interrupts enabled, is taken. -/
def execHartInterrupt (l : Lane) (h : Hart) (s : State) : Host.Outcome State Fault Refusal :=
  let x := s.hart l h
  .next (if s.hartUp l h then match x.pendingIrq with
      | some b =>
        let y : HartSt := { x with gated := false }
        s.setHart l h (if y.irqOpen && !y.step then y.trap true b 0 else y)
      | none => s
    else s)

end Sys2Proof.Machine
end

