-- ==== Sys2Proof/Machine/Debug.lean ====
section
/-! DEFINITION. The debug modules (R84 to R90): halt and resume requests, the debug grant, abstract commands, triggers, single step, and the
end of a replay check. The RISC-V debug specification is not in the spec's text; what stands here beyond R84 to R90 is PRESUMED from it (log
entry 13). -/

namespace Sys2Proof.Machine

/-- Whether the debug modules answer (R84). -/
def State.strap (s : State) : Bool := s.flag Fld.JC_PWR_STATUS_MAINT_STRAP

/-- Change a debug module. -/
def State.modDm (s : State) (l : Lane) (f : DmSt → DmSt) : State := s.modLn l (fun n => { n with dm := f n.dm })

/-- A request of a voting lane asks the junction for the grant (R86); with one waiting already it is discarded. -/
def State.askGrant (s : State) (l : Lane) (r : DbgReq) : State :=
  if (s.ln l).dbgReq.isSome then s else s.modLn l (fun n => { n with dbgReq := some r, dbgAt := s.clk.uptime })

/-- A dcsr write by the debugger. -/
def State.putDcsr (s : State) (l : Lane) (h : Hart) (v : BitVec 64) : State :=
  match (s.hart l h).csrWrite s.clk.uptime true csrDcsr v with
  | some y => (s.setHart l h y).settleGrant l
  | none => s

/-- A trigger written by the debugger. -/
def State.putTrigger (s : State) (l : Lane) (h : Hart) (t : Fin 4) (v : Trigger) : State :=
  let x := s.hart l h
  (s.setHart l h { x with triggers := setAt x.triggers t.val v }).settleGrant l

/-- A dcsr write, which asks for the grant where it sets an ebreak bit in a voting lane (R86). -/
def State.writeDcsr (s : State) (l : Lane) (h : Hart) (v : BitVec 64) : State :=
  if v &&& 0x9000 = 0 ∨ s.mayHalt l then s.putDcsr l h v else s.askGrant l (.ebreak h v)

/-- A trigger write, which asks for the grant where it arms action 1 in a voting lane (R86). -/
def State.writeTrigger (s : State) (l : Lane) (h : Hart) (t : Fin 4) (v : Trigger) : State :=
  if !(trigArmed v && v.action == 1) || s.mayHalt l then s.putTrigger l h t v else s.askGrant l (.trigger h t v)

/-- ndmreset: a lane fault with cause 0x0C (R85). -/
def State.ndmReset (s : State) (l : Lane) : State := s.laneFault l 0x0C 0

/-! ### Requests -/

/-- A haltreq (R85, R86): a voting lane of a permitted module first needs the grant. -/
def State.haltReq (s : State) (l : Lane) (h : Hart) : State :=
  if !s.laneLive l || (s.hart l h).halted then s
  else if s.mayHalt l then s.haltHart l h 3
  else s.askGrant l (.halt h)

/-- HALTREQ (R84 to R87). -/
def execHaltreq (l : Lane) (h : Hart) (s : State) : Host.Outcome State Fault Refusal :=
  .next (if s.strap then s.haltReq l h else s)

/-- DEBUG_GRANT_ANSWER (R86): the grant is given while all three lanes vote and no other lane holds it or asked for it in the same jc before
this one in the order LANE_A, LANE_B, LANE_C, and the request takes effect; a refused
halt or reset is discarded, a refused trigger is armed with action 0, refused ebreak bits stay 0. -/
def execDebugGrantAnswer (l : Lane) (s : State) : Host.Outcome State Fault Refusal :=
  .next (match (s.ln l).dbgReq with
    | some r =>
      let s1 := s.modLn l (fun n => { n with dbgReq := none })
      let before := lanes.any (fun o => decide (o.num < l.num) && (s.ln o).dbgReq.isSome && (s.ln o).dbgAt == (s.ln l).dbgAt)
      let free := s.vote.grant == some l || (s.vote.grant.isNone && !before)
      if s.numVoting = 3 ∧ free then
        let s2 := ({ s1 with vote := { s1.vote with grant := some l } } : State).wr (Fld.LC_DBG_STATUS_GRANT l) 1
        match r with
        | .halt h => s2.haltHart l h 3
        | .ndmreset => s2.ndmReset l
        | .trigger h t v => s2.putTrigger l h t v
        | .ebreak h v => s2.putDcsr l h v
      else
        let s2 := s1.set1 (Fld.LC_DBG_STATUS_HALT_REFUSED l)
        match r with
        | .halt _ => s2
        | .ndmreset => s2
        | .trigger h t v => s2.putTrigger l h t { v with action := 0 }
        | .ebreak h v => s2.putDcsr l h (v &&& ~~~0x9000#64)
    | none => s)

/-- A resumereq (R85, R88, R90), acknowledged in dmstatus. -/
def State.resumeReq (s : State) (l : Lane) (h : Hart) : State :=
  if (s.hart l h).halted then
    ((s.resumeHart l h).modDm l (fun d => match h with
      | .h0 => { d with ack0 := true }
      | .h1 => { d with ack1 := true })).settleGrant l
  else s

/-- RESUMEREQ (R84, R88, R90). -/
def execResumereq (l : Lane) (h : Hart) (s : State) : Host.Outcome State Fault Refusal :=
  .next (if s.strap then s.resumeReq l h else s)

/-- The reset-halt request of a hart. -/
def State.setResetHalt (s : State) (l : Lane) (h : Hart) (b : Bool) : State :=
  s.setHart l h { s.hart l h with resetHalt := b }

/-- RESETHALTREQ (R85): the hart halts when it next comes out of reset. -/
def execResethaltreq (l : Lane) (h : Hart) (set : Bool) (s : State) : Host.Outcome State Fault Refusal :=
  .next (if s.strap then s.setResetHalt l h set else s)

/-- An ndmreset request (R85, R86). -/
def State.ndmReq (s : State) (l : Lane) : State := if s.mayHalt l then s.ndmReset l else s.askGrant l .ndmreset

/-- NDMRESET (R85, R86). -/
def execNdmreset (l : Lane) (s : State) : Host.Outcome State Fault Refusal := .next (if s.strap then s.ndmReq l else s)

/-! ### Abstract commands -/

/-- The error codes of abstractcs.cmderr. -/
abbrev Cmderr.notSupported : Nat := 2
abbrev Cmderr.exception : Nat := 3
abbrev Cmderr.haltResume : Nat := 4

/-- A register as an abstract command reads it: CSRs from 0x0000, GPRs from 0x1000, FPRs from 0x1020. -/
def State.absRead (s : State) (l : Lane) (h : Hart) (n : Nat) : Option (BitVec 64) :=
  let x := s.hart l h
  if n < 0x1000 then x.csrRead h s.clk.uptime true n
  else if n < 0x1020 then some (x.xr (Fin.ofNat 32 (n - 0x1000)))
  else if n < 0x1040 then some (x.fr (Fin.ofNat 32 (n - 0x1020)))
  else none

/-- A register write by an abstract command; none where the register does not exist or is read-only. -/
def State.absWrite (s : State) (l : Lane) (h : Hart) (n : Nat) (v : BitVec 64) : Option State :=
  let x := s.hart l h
  if n = csrDcsr then some (s.writeDcsr l h v)
  else if n = 0x7A1 then
    let t := trigOf v true x.trigger.value
    some (s.writeTrigger l h (Fin.ofNat 4 (x.csrRaw csrTselect).toNat) t)
  else if n < 0x1000 then
    match x.csrRead h s.clk.uptime true n with
    | some _ => (x.csrWrite s.clk.uptime true n v).map (fun y => s.setHart l h y)
    | none => none
  else if n < 0x1020 then some (s.setHart l h (x.setX (Fin.ofNat 32 (n - 0x1000)) v))
  else if n < 0x1040 then some (s.setHart l h (x.setF (Fin.ofNat 32 (n - 0x1020)) v))
  else none

/-- An instruction that a program buffer cannot hold: one that moves the pc or depends on it, and a system call. -/
def barred : RvOp → Bool
  | .ecall => true
  | .auipc .. => true
  | op => setsPc op

/-- The program buffer is run from its start to an EBREAK, its own or the implied one at its end (R85); an exception gives cmderr 3. -/
def State.runProg (s : State) (l : Lane) (h : Hart) : List RvOp → State
  | [] => s
  | op :: ops =>
    if op = .ebreak then s
    else if barred op then s.modDm l (fun d => { d with cmderr := Cmderr.exception })
    else match s.runOp l h true (s.hart l h).pc op with
      | (t, .ok) => if t.laneLive l then State.runProg t l h ops else t
      | (t, .gone) => t
      | (t, _) => t.modDm l (fun d => { d with cmderr := Cmderr.exception })

/-- The value of a 32-bit write of a register: its low half; the upper half is unstated (log entry 3). -/
def State.narrow (s : State) (dword : Bool) (v : BitVec 64) : State × BitVec 64 :=
  if dword then (s, v) else (s.takeFree.2, (s.takeFree.1 &&& ~~~0xFFFFFFFF#64) ||| (v &&& 0xFFFFFFFF))

/-- The Access Register command on the data registers (R85): a transfer, then the program buffer, whose eight words hold up to 16
instructions. It is ignored while cmderr is set, and the hart must be halted. -/
def State.absCommand (s : State) (l : Lane) (h : Hart) (dword transfer write postexec : Bool) (regno : Nat) (prog : List RvOp) : State :=
  let err (t : State) (e : Nat) : State := t.modDm l (fun d => { d with cmderr := e })
  if (s.ln l).dm.cmderr ≠ 0 then s
  else if !(s.hart l h).halted then err s Cmderr.haltResume
  else
    let after (t : State) : State := if postexec then t.runProg l h (prog.take 16) else t
    if !transfer then after s
    else if write then
      let (s1, v) := s.narrow dword (s.ln l).dm.data
      match s1.absWrite l h regno v with
      | some t => after t
      | none => err s Cmderr.exception
    else match s.absRead l h regno with
      | some v =>
        after (s.modDm l (fun d => { d with data := if dword then v else (d.data &&& ~~~0xFFFFFFFF#64) ||| (v &&& 0xFFFFFFFF) }))
      | none => err s Cmderr.exception

/-- ABSTRACT_COMMAND (R84, R85): the data registers take `arg` before a write. -/
def execAbstractCommand (l : Lane) (h : Hart) (dword transfer write postexec : Bool) (regno : Fin 65536) (arg : BitVec 64)
    (prog : List RvOp) (s : State) : Host.Outcome State Fault Refusal :=
  .next (if s.strap then
      (if write then s.modDm l (fun d => { d with data := arg }) else s).absCommand l h dword transfer write postexec regno.val prog
    else s)

/-! ### Triggers and single step -/

/-- TRIGGER_ARM (R85, R86): the debugger writes a trigger, or dcsr where `dcsr` gives its value. -/
def execTriggerArm (l : Lane) (h : Hart) (t : Fin 4) (v : Trigger) (dcsr : Option (BitVec 64)) (s : State) :
    Host.Outcome State Fault Refusal :=
  .next (if s.strap then match dcsr with
      | some d => s.writeDcsr l h d
      | none => s.writeTrigger l h t v
    else s)

/-- TRIGGER_HIT (R85, R86): a trigger armed for the hart's mode matches before the instruction executes. Action 1 halts the hart where the lane may be halted;
otherwise a breakpoint exception is taken. -/
def execTriggerHit (l : Lane) (h : Hart) (t : Fin 4) (s : State) : Host.Outcome State Fault Refusal :=
  let v := ((s.hart l h).triggers[t.val]?).getD noTrigger
  .next (if s.hartUp l h && !(s.hart l h).gated && (if (s.hart l h).machine then v.m else v.u) then
      (if v.action = 1 ∧ s.mayHalt l then s.haltHart l h 2 else s.takeFree.2.raiseTrap l h 3 s.takeFree.1)
    else s)

/-- SINGLE_STEP (R85): a halted hart with dcsr.step set resumes, executes one instruction and halts again. -/
def execSingleStep (l : Lane) (h : Hart) (op : RvOp) (short : Bool) (s : State) : Host.Outcome State Fault Refusal :=
  .next (if s.strap && (s.hart l h).halted && bitOf ((s.hart l h).csrRaw csrDcsr).toNat 2 && s.laneLive l then
      (s.resumeReq l h).hartStep l h op short
    else s)

/-! ### Replay -/

/-- REPLAY_TIMEOUT (R90): 2 s after the resume without 8 agreeing cycles. -/
def execReplayTimeout (l : Lane) (s : State) : Host.Outcome State Fault Refusal :=
  .next (match (s.ln l).resumeAt with
    | some t => if s.ex l = Exec.replayCheck ∧ t + 2 * giga ≤ s.clk.uptime ∧ s.vote.agree.get l < 8 then s.laneFault l 1 0 else s
    | none => s)

end Sys2Proof.Machine
end

