-- ==== Sys2Proof/Machine/Power.lean ====
section
/-! DEFINITION. The supply, the maintenance strap and the clocks' lock (R25, R31, R149, R486 to R488, R496). -/

namespace Sys2Proof.Machine

/-! ### The supply input -/

/-- SUPPLY_INTERRUPT (R486, R503): the input falls below 12.0 V. -/
def execSupplyInterrupt (s : State) : Host.Outcome State Fault Refusal :=
  .next (if s.st.powered && s.st.lowAt.isNone then
      (s.set1 Fld.JC_PWR_STATUS_INTERRUPT).modSt (fun x => { x with lowAt := some s.clk.uptime })
    else s)

/-- INTERRUPTION_BRIDGED (R486, R503): the input is back within 10 ms, with no effect on function. -/
def execInterruptionBridged (s : State) : Host.Outcome State Fault Refusal :=
  .next (match s.st.lowAt with
    | some t =>
      if s.pfWarnAt.isNone ∧ s.clk.uptime < t + 10000000 then
        (s.bump Fld.JC_PWR_STATUS_INTERRUPTS).modSt (fun x => { x with lowAt := none })
      else s
    | none => s)

/-- Whether a power-fail warning takes a retained capture: not outside RUN, in sleep (R488), or in an activation pause (R477). -/
def State.warnCaptures (s : State) : Bool := s.phase == Phase.run && !s.flag Fld.JC_MOD_STATUS_SLEEP && !s.paused

/-- The power-fail warning (R149, R487): every Treadle stops releases and drops its notices, and the retained capture begins, at once in a
lane that is QUIET; a capture that sleep entry began goes on. -/
def State.warn (s : State) : State :=
  let s1 : State := { s.haltReleases.set1 Fld.JC_PWR_STATUS_PF_WARN with pfWarnAt := some s.clk.uptime }
  if !s.warnCaptures then s1.modSt (fun x => { x with copied := true })
  else
    let s2 := s1.modSt (fun x => { x with copied := false })
    if s.st.sleepFrom.isSome then s2 else s2.beginCapture

/-- POWER_FAIL_WARNING (R487): the input has stayed below 12.0 V for 10 ms. -/
def execPowerFailWarning (s : State) : Host.Outcome State Fault Refusal :=
  .next (match s.st.lowAt with
    | some t => if s.pfWarnAt.isNone ∧ t + 10000000 ≤ s.clk.uptime then s.warn else s
    | none => s)

/-- MRAM_COPY_DONE (R149, R487): with every voting lane's capture taken the retained copy is in MRAM, and the module holds. -/
def execMramCopyDone (s : State) : Host.Outcome State Fault Refusal :=
  .next (if s.pfWarnAt.isSome && !s.st.copied && lanes.all (fun l => !s.votes l || (s.ln l).pfCaptured) then
      let t := s.saveCopies
      ({ t with chg := { t.chg with saveWarn := false } } : State).modSt (fun x => { x with copied := true })
    else s)

/-- SUPPLY_RETURN (R487): with the copy complete the module enters RESET and starts as on the release of the reset contact; the hold-up store
is charged again first (R488). -/
def execSupplyReturn (s : State) : Host.Outcome State Fault Refusal :=
  .next (if s.pfWarnAt.isSome && s.st.copied then
      (((s.moduleReset none false).modSt (fun x => { x with lowAt := none })).wr Fld.JC_PWR_STATUS_HOLDUP_OK 0).countStart
    else s)

/-- HOLDUP_EXHAUSTED (R487): the module becomes unpowered; its next start is a power-on start. -/
def execHoldupExhausted (s : State) : Host.Outcome State Fault Refusal :=
  .next (if s.st.powered && s.st.lowAt.isSome then s.atPowerOn.modSt (fun x => { x with powered := false }) else s)

/-- OVERVOLTAGE (R486, R503): above 36 V the module holds itself in RESET. -/
def execOvervoltage (s : State) : Host.Outcome State Fault Refusal :=
  .next (if s.st.powered then
      ((s.moduleReset none false).set1 Fld.JC_PWR_STATUS_OVERVOLT).modSt (fun x => { x with overvolt := true })
    else s)

/-- OVERVOLTAGE_END (R486): the hold ends and a start begins. -/
def execOvervoltageEnd (s : State) : Host.Outcome State Fault Refusal :=
  .next (if s.st.overvolt then (s.modSt (fun x => { x with overvolt := false, startAt := s.clk.uptime })).countStart else s)

/-! ### Strap and clocks -/

/-- Every halted hart resumes (R84). -/
def State.resumeAll (s : State) : State := lanes.foldl (fun t l => (t.resumeReq l .h0).resumeReq l .h1) s

/-- MAINT_STRAP_CHANGE (R84, R496, R500): the recognised strap, as the debug modules and the test taps see it. -/
def execMaintStrapChange (inserted : Bool) (s : State) : Host.Outcome State Fault Refusal :=
  let s1 := (s.wrB Fld.JC_PWR_STATUS_MAINT_STRAP inserted).showStrap
  .next (if inserted then s1 else s1.resumeAll)

/-- PLL_LOCK_CHANGE (R25, R31): the lock of the peripheral PLL or of a lane PLL; a lane PLL's loss is a lane fault. -/
def execPllLockChange (lane : Option Lane) (lock : Bool) (s : State) : Host.Outcome State Fault Refusal :=
  .next (match lane with
    | none => s.wrB Fld.JC_CLK_STATUS_PERI_LOCK lock
    | some l => if lock then s.wr (lockFld l) 1 else (s.wr (lockFld l) 0).laneFault l 7 0)

end Sys2Proof.Machine
end

