-- ==== Sys2Proof/Machine/Jtag.lean ====
section
/-! DEFINITION. The module JTAG port with its eight TAPs (R498, R499), the debug transport and the debug module's registers (R84, R85, R498),
and the level of each test tap (R500 to R502). The registers' layout is PRESUMED from the RISC-V debug specification (log entry 13). -/

namespace Sys2Proof.Machine

/-! ### TAP instructions -/

/-- The kinds of device in the chain, TAP 0 the EJ2, 1 to 3 the BL3s, 4 to 7 the FQ8s: the identity code of silicon step 0. -/
def tapCode (n : Nat) : Nat := if n = 0 then 0x02E02B47 else if n < 4 then 0x02B03B47 else 0x02F08B47

/-- The BYPASS code of a TAP. -/
def tapBypass (n : Nat) : Nat := if n = 0 then 0xFF else if n < 4 then 0x1F else 0xF

/-- The width of a TAP's instruction register. -/
def tapBits (n : Nat) : Nat := if n = 0 then 8 else if n < 4 then 5 else 4

/-- The silicon step of a TAP's device (R31). -/
def State.tapStep (s : State) (n : Nat) : Nat :=
  if n = 0 then s.rd Fld.JC_DEV_ID_STEP
  else if n = 1 then s.rd (Fld.LC_DEV_ID_STEP .A)
  else if n = 2 then s.rd (Fld.LC_DEV_ID_STEP .B)
  else if n = 3 then s.rd (Fld.LC_DEV_ID_STEP .C)
  else s.rd (Fld.JC_FQ_n_ID_STEP (n - 4))

/-- A TAP takes an instruction. -/
def State.loadTap (s : State) (n code : Nat) : State := s.modSt (fun x => { x with taps := setAt x.taps n code })

/-- A TAP captures a data register. -/
def State.scanOut (s : State) (n v : Nat) : State := s.modSt (fun x => { x with scan := setAt x.scan n v })

/-- IDCODE (R498). -/
def execIdcode (tap : Fin 8) (s : State) : Host.Outcome State Fault Refusal :=
  .next ((s.loadTap tap.val 1).scanOut tap.val (tapCode tap.val + s.tapStep tap.val % 16 * 2 ^ 28))

/-- SAMPLE_PRELOAD (R498): the boundary register captures the contacts, whose levels the spec does not order into a word (log entry 3). -/
def execSamplePreload (tap : Fin 8) (s : State) : Host.Outcome State Fault Refusal :=
  .next ((s.takeFree.2.loadTap tap.val 2).scanOut tap.val s.takeFree.1.toNat)

/-- An instruction of R499: accepted with the maintenance strap and no permits, it then holds the module in its phase; otherwise BYPASS is
loaded in its place and the refusal shown. -/
def State.testInstr (s : State) (n code : Nat) : State :=
  if s.strap && !s.flag Fld.JC_MOD_STATUS_PERMITS then
    (s.loadTap n code).modSt (fun x => { x with tapLock := setAt x.tapLock n true })
  else (s.loadTap n (tapBypass n)).set1 Fld.TT_STATUS_SCAN_REFUSED

/-- EXTEST (R499). -/
def execExtest (tap : Fin 8) (s : State) : Host.Outcome State Fault Refusal := .next (s.testInstr tap.val 3)

/-- CLAMP (R499). -/
def execClamp (tap : Fin 8) (s : State) : Host.Outcome State Fault Refusal := .next (s.testInstr tap.val 4)

/-- HIGHZ (R499). -/
def execHighz (tap : Fin 8) (s : State) : Host.Outcome State Fault Refusal := .next (s.testInstr tap.val 5)

/-- Whether a TAP lists a code other than BYPASS (R498). -/
def tapListed (n code : Nat) : Bool := decide (1 ≤ code ∧ code ≤ 5) || (decide (1 ≤ n ∧ n ≤ 3) && (code == 0x10 || code == 0x11))

/-- BYPASS and every unlisted code (R498); a listed code is another command's. -/
def execBypass (tap : Fin 8) (code : Byte) (s : State) : Host.Outcome State Fault Refusal :=
  .next (if tapListed tap.val (code.toNat % 2 ^ tapBits tap.val) then s
    else (s.loadTap tap.val (tapBypass tap.val)).scanOut tap.val 0)

/-- TAP_RESET (R499): every TAP holds IDCODE; a module held by a test instruction stays in its phase. -/
def execTapReset (s : State) : Host.Outcome State Fault Refusal :=
  .next (s.modSt (fun x => { x with taps := List.replicate 8 1 }))

/-! ### Debug transport -/

/-- The TAP of a lane. -/
def laneTap (l : Lane) : Nat := 1 + l.num

/-- DTMCS (R498): abits 7, idle 1, version 1. -/
def execDtmcs (l : Lane) (w : Word) (s : State) : Host.Outcome State Fault Refusal :=
  .next (let _ := w; (s.loadTap (laneTap l) 0x10).scanOut (laneTap l) 0x1071)

/-- The hart that hartsel selects, if any (R85). -/
def State.selHart (s : State) (l : Lane) : Option Hart :=
  match (s.ln l).dm.hartsel with
  | 0 => some .h0
  | 1 => some .h1
  | _ => none

/-- dmstatus: version 2, impebreak, hasresethaltreq, authenticated with the strap, and the state of the selected hart (R84, R85). -/
def State.dmstatus (s : State) (l : Lane) : Nat :=
  let base := 2 + 2 ^ 5 + 2 ^ 7 + 2 ^ 22
  let hartBits := match s.selHart l with
    | none => 3 * 2 ^ 14
    | some h =>
      let d := (s.ln l).dm
      let ack := match h with
        | .h0 => d.ack0
        | .h1 => d.ack1
      let up := s.laneLive l
      let halted := (s.hart l h).halted
      3 * 2 ^ 16 * b2n ack + 3 * 2 ^ 12 * b2n (!up) + 3 * 2 ^ 10 * b2n (up && !halted) + 3 * 2 ^ 8 * b2n (up && halted)
  if s.strap then base + hartBits else 0

/-- A debug module register as dmi reads it; without the strap the module does not answer. -/
def State.dmRead (s : State) (l : Lane) (a : Nat) : Nat :=
  let d := (s.ln l).dm
  if a = 0x11 then s.dmstatus l
  else if !s.strap then 0
  else if a = 0x04 then d.data.toNat % 2 ^ 32
  else if a = 0x05 then d.data.toNat / 2 ^ 32
  else if a = 0x10 then b2n d.active + d.hartsel % 1024 * 2 ^ 16 + d.hartsel / 1024 % 1024 * 2 ^ 6
  else if a = 0x16 then 8 * 2 ^ 24 + d.cmderr * 2 ^ 8 + 2
  else if 0x20 ≤ a ∧ a ≤ 0x27 then (getAt 0 d.progbuf (a - 0x20)).toNat
  else if a = 0x40 then b2n (s.ln l).h0.halted + 2 * b2n (s.ln l).h1.halted
  else 0

/-- A write of dmcontrol (R85): dmactive 0 resets the debug module. -/
def State.dmControl (s : State) (l : Lane) (w : Nat) : State :=
  if !bitOf w 0 then (s.modDm l (fun _ => LaneSt.fresh.dm)).modLn l (fun n =>
    { n with h0 := { n.h0 with resetHalt := false }, h1 := { n.h1 with resetHalt := false } })
  else
    let s1 := s.modDm l (fun d => { d with active := true, hartsel := bitsOf w 25 16 + 1024 * bitsOf w 15 6 })
    let s2 := match s1.selHart l with
      | some h =>
        let a := if bitOf w 2 then s1.setResetHalt l h false else if bitOf w 3 then s1.setResetHalt l h true else s1
        if bitOf w 31 then a.haltReq l h
        else if bitOf w 30 then
          (a.modDm l (fun d => match h with
            | .h0 => { d with ack0 := false }
            | .h1 => { d with ack1 := false })).resumeReq l h
        else a
      | none => s1
    if bitOf w 1 then s2.ndmReq l else s2

/-- A write of command (R85): Access Register; every other command, and an access size other than 32 or 64 bits, is not supported. -/
def State.dmCommand (s : State) (l : Lane) (w : Nat) (prog : List RvOp) : State :=
  let size := bitsOf w 22 20
  if bitsOf w 31 24 ≠ 0 ∨ bitOf w 19 ∨ (bitOf w 17 ∧ size ≠ 2 ∧ size ≠ 3) then
    (if (s.ln l).dm.cmderr = 0 then s.modDm l (fun d => { d with cmderr := Cmderr.notSupported }) else s)
  else match s.selHart l with
    | some h => s.absCommand l h (size == 3) (bitOf w 17) (bitOf w 16) (bitOf w 18) (bitsOf w 15 0) prog
    | none => if (s.ln l).dm.cmderr = 0 then s.modDm l (fun d => { d with cmderr := Cmderr.haltResume }) else s

/-- A debug module register written by dmi: without the strap nothing is (R84), and while dmactive is 0 only dmcontrol. -/
def State.dmWrite (s : State) (l : Lane) (a : Nat) (w : Word) (prog : List RvOp) : State :=
  let n := w.toNat
  if !s.strap then s
  else if a = 0x10 then s.dmControl l n
  else if !(s.ln l).dm.active then s
  else if a = 0x04 then s.modDm l (fun d => { d with data := (d.data &&& ~~~0xFFFFFFFF#64) ||| w.setWidth 64 })
  else if a = 0x05 then s.modDm l (fun d => { d with data := (d.data &&& 0xFFFFFFFF#64) ||| (w.setWidth 64 <<< 32) })
  else if a = 0x16 then s.modDm l (fun d => { d with cmderr := d.cmderr - (d.cmderr &&& bitsOf n 10 8) })
  else if a = 0x17 then s.dmCommand l n prog
  else if 0x20 ≤ a ∧ a ≤ 0x27 then s.modDm l (fun d => { d with progbuf := setAt d.progbuf (a - 0x20) w })
  else s

/-- DMI (R84, R85, R498): op 1 reads and 2 writes a debug module register; the scan answers with address, data and status 0. -/
def execDmi (l : Lane) (addr : BitVec 7) (data : Word) (op : Fin 4) (prog : List RvOp) (s : State) : Host.Outcome State Fault Refusal :=
  let s1 := s.loadTap (laneTap l) 0x11
  let a := addr.toNat
  .next (if op = 1 then s1.scanOut (laneTap l) (a * 2 ^ 34 + s1.dmRead l a * 4)
    else if op = 2 then (s1.dmWrite l a data prog).scanOut (laneTap l) (a * 2 ^ 34 + data.toNat * 4)
    else s1.scanOut (laneTap l) (a * 2 ^ 34))

/-! ### Test taps -/

/-- A pulse signal: 1 for 16 jc from the jc of its event, seen 4 jc later (R501, R502). -/
def State.pulseLevel (s : State) (sig : Nat) : Bool :=
  match lookupN s.st.pulses sig with
  | some t => decide (t + 16 ≤ s.clk.uptime ∧ s.clk.uptime < t + 80)
  | none => false

/-- The level of a signal of R501. -/
def State.signalLevel (s : State) (sig : Nat) : Bool :=
  if sig ≤ 1 then sig == 1
  else if sig ≤ 0x0B ∨ sig = 0x0F then s.pulseLevel sig
  else if sig ≤ 0x0E then bitOf (s.rd Fld.VT_STATUS_PRESENT) (sig - 0x0C)
  else if sig ≤ 0x2F then (s.fch (sig - 0x10)).permit
  else if sig ≤ 0x4F then s.conducts (sig - 0x30)
  else if sig ≤ 0x6F then s.flag (Fld.FIO_CH_n_STAT_FILT (sig - 0x50))
  else if sig ≤ 0x77 then (s.mc (sig - 0x70)).runBit
  else if sig ≤ 0x7F ∧ (sig % 4 = 0 ∨ sig % 4 = 3) then s.carries (if sig < 0x7C then .X else .Y) (sig % 4 == 3)
  else if sig ≤ 0x81 then Config.tapLine sig s.clk.uptime
  else if sig ≤ 0x89 then
    let m := sig - 0x82
    s.rd (Fld.FIO_TMR_m_CFG_OWNER m) == 4 && s.flag (Fld.FIO_CH_n_STAT_FILT (s.rd (Fld.FIO_TMR_m_CFG_CH m)))
  else if sig ≤ 0x8D then
    let m := sig - 0x8A
    s.rd (Fld.FIO_CAP_m_CTRL_OWNER m) == 4 && s.flag (Fld.FIO_CAP_m_STAT_BUSY m)
  else false

/-- What test tap n drives (R500): none at high impedance, without the strap. -/
def State.tapLevel (s : State) (n : Nat) : Option Bool :=
  if s.strap then some (s.signalLevel (s.rd (Fld.TT_SEL_n_SIGNAL n)) != s.flag (Fld.TT_SEL_n_INV n)) else none

end Sys2Proof.Machine
end

