-- ==== Sys2Proof/Machine/Scrub.lean ====
section
/-! DEFINITION. The scrubbers (R152, R164 to R166): DDR4 bursts, and the words of the SRAM stores of a lane and of the junction. -/

namespace Sys2Proof.Machine

/-- The scrubber reads the next valid burst (R164, R166): what its placed check bits give, or the error that struck it; a corrected burst is
written back, an uncorrectable one faults a lane (R154). With no burst left the lap ends. -/
def State.scrubDdr (s : State) (m : MemSel) (cls : Nat) (syn : Byte) : State :=
  match scrubTarget (s.mctl m) with
  | none => s.endLap m
  | some b =>
    let a := ddrBase m + 64 * b
    let held := s.burstClass m a
    let (k, y) := if held.1 < cls then (cls, syn) else held
    let s1 := (s.setMctl m { s.mctl m with scrub := b + 1 })
    let s2 := if k = 0 then s1 else (if k = 1 then s1.fixBurst m a else s1).memError m (if k = 1 then 1 else 2) 2 y.toNat (a / 64) (k == 2)
    let s3 := match m with
      | .lane l => if k = 2 then s2.laneFault l 0x0A 0 else s2
      | .junction => s2
    if (scrubTarget (s3.mctl m)).isNone then s3.endLap m else s3

/-- An error in a word of a lane's SRAM (R152, R165, R167): corrected and rewritten, or the clean L2 line refetched, logged and counted;
otherwise logged, and the lane faults with cause 0x0A. -/
def State.laneSram (s : State) (l : Lane) (store : SramStore) (addr : Nat) (fixed : Bool) (syn : Byte) : State :=
  let err (type : Nat) : State := s.memError (.lane l) type 3 syn.toNat (addr / 64) (!fixed)
  let fault (type : Nat) : State := if fixed then err type else (err type).laneFault l 0x0A 0
  match store with
  | .scratch => fault 6
  | .l2 dirty =>
    if fixed then err 3 else if dirty then fault 5 else s.memError (.lane l) 4 3 syn.toNat (addr / 64) false
  | .image => fault 7
  | .bitmap => fault 8
  | _ => s

/-- An entry of a list taken out. -/
def dropNth {α : Type} : Nat → List α → List α
  | _, [] => []
  | 0, _ :: xs => xs
  | n + 1, x :: xs => x :: dropNth n xs

/-- An error in a word of the junction's SRAM (R152, R155): corrected ones are counted in JC.JM_SRAM_CORR; an uncorrectable one in the
control-path SRAM is an EJ2 self-fault, in the bitmap it damages the word, elsewhere the entry or frame is discarded and counted. The counter
field of each store is the model's choice (log entry 86). -/
def State.junctionSram (s : State) (store : SramStore) (addr : Nat) (fixed : Bool) (syn : Byte) : State :=
  let img := s.bump (Fld.MEM_SRAM_CORR_IMAGE .junction)
  let other := s.bump (Fld.MEM_SRAM_CORR_SCRATCH .junction)
  match store with
  | .control => if fixed then img else s.ej2Fault
  | .bitmap =>
    let t := s.memError .junction 8 3 syn.toNat (addr / 64) (!fixed)
    if fixed then t else t.setMctl .junction { t.jmem with badBitmap := insertNat ((addr - 0x40000000) / 16384) t.jmem.badBitmap }
  | .troubleLog => if fixed then other else { other with tLog := other.tLog.clear (64 * (addr % 1024)) (64 * (addr % 1024) + 64) }
  | .gusset => if fixed then other else { other with gus := { other.gus with pend := dropNth addr other.gus.pend } }
  | .switch => if fixed then other else { other with eth := { other.eth with out := dropNth addr other.eth.out } }
  | .pef =>
    if fixed then other
    else
      State.showPef { other with gus := { other.gus with pef := dropNth addr other.gus.pef } }
  | _ => s

/-- SCRUB_BURST (R152, R164 to R166): one visit of a controller's scrubbers. -/
def execScrubBurst (m : MemSel) (v : ScrubVisit) (syn : Byte) (s : State) : Host.Outcome State Fault Refusal :=
  .next (match v with
    | .burst cls => s.scrubDdr m cls.val syn
    | .word store addr cls =>
      if cls = 0 then s
      else match m with
        | .lane l => s.laneSram l store addr (cls == 1) syn
        | .junction => s.junctionSram store addr (cls == 1) syn)

end Sys2Proof.Machine
end

