-- ==== Sys2Proof/Machine/Dispatch.lean ====
section
/-! DEFINITION. One arm per constructor of `Instr`: a direct call of that command's meaning. -/

namespace Sys2Proof.Machine

def exec (i : Instr) (s : State) : Host.Outcome State Fault Refusal :=
  match i with
  | .registerWrite who addr width w => Sys2Proof.Machine.execRegisterWrite who addr width w s
  | .pairLoRead who addr => Sys2Proof.Machine.execPairLoRead who addr s
  | .pairHiWrite who addr w => Sys2Proof.Machine.execPairHiWrite who addr w s
  | .pairLoWrite who addr w => Sys2Proof.Machine.execPairLoWrite who addr w s
  | .handoverStart failed lost => Sys2Proof.Machine.execHandoverStart failed lost s
  | .cyclicCommandFrameSend failed => Sys2Proof.Machine.execCyclicCommandFrameSend failed s
  | .membershipMessage q => Sys2Proof.Machine.execMembershipMessage q s
  | .fq8Report q => Sys2Proof.Machine.execFq8Report q s
  | .safeRelease who w => Sys2Proof.Machine.execSafeRelease who w s
  | .ownedSlotPassage r n written => Sys2Proof.Machine.execOwnedSlotPassage r n written s
  | .hartInstruction l h op short ahead => Sys2Proof.Machine.execHartInstruction l h op short ahead s
  | .wfi l h => Sys2Proof.Machine.execWfi l h s
  | .hartInterrupt l h => Sys2Proof.Machine.execHartInterrupt l h s
  | .coreMismatch l g0 g1 => Sys2Proof.Machine.execCoreMismatch l g0 g1 s
  | .delayRegisterFault l => Sys2Proof.Machine.execDelayRegisterFault l s
  | .comparatorFault l => Sys2Proof.Machine.execComparatorFault l s
  | .l1ParityError l instr double => Sys2Proof.Machine.execL1ParityError l instr double s
  | .dualRailFault l => Sys2Proof.Machine.execDualRailFault l s
  | .lanePllLoss l => Sys2Proof.Machine.execLanePllLoss l s
  | .uncorrectableError l type source addr syndrome => Sys2Proof.Machine.execUncorrectableError l type source addr syndrome s
  | .withdrawalNotice l => Sys2Proof.Machine.execWithdrawalNotice l s
  | .forcedMismatchTest l flagsA flagsB dly0 dly1 => Sys2Proof.Machine.execForcedMismatchTest l flagsA flagsB dly0 dly1 s
  | .testReqRun who w flagsA flagsB dly0 dly1 => Sys2Proof.Machine.execTestReqRun who w flagsA flagsB dly0 dly1 s
  | .clrMissed who w => Sys2Proof.Machine.execClrMissed who w s
  | .clrL1 who w => Sys2Proof.Machine.execClrL1 who w s
  | .haltreq l h => Sys2Proof.Machine.execHaltreq l h s
  | .debugGrantAnswer l => Sys2Proof.Machine.execDebugGrantAnswer l s
  | .haltNotice l => Sys2Proof.Machine.execHaltNotice l s
  | .resumereq l h => Sys2Proof.Machine.execResumereq l h s
  | .resethaltreq l h set => Sys2Proof.Machine.execResethaltreq l h set s
  | .ndmreset l => Sys2Proof.Machine.execNdmreset l s
  | .abstractCommand l h dword transfer write postexec regno arg prog => Sys2Proof.Machine.execAbstractCommand l h dword transfer write postexec regno arg prog s
  | .triggerArm l h t v ebreak => Sys2Proof.Machine.execTriggerArm l h t v ebreak s
  | .triggerHit l h t => Sys2Proof.Machine.execTriggerHit l h t s
  | .singleStep l h op short => Sys2Proof.Machine.execSingleStep l h op short s
  | .replayTimeout l => Sys2Proof.Machine.execReplayTimeout l s
  | .clrExcl who w => Sys2Proof.Machine.execClrExcl who w s
  | .vtClrCnt who w => Sys2Proof.Machine.execVtClrCnt who w s
  | .readmitStart who w => Sys2Proof.Machine.execReadmitStart who w s
  | .autoReadmit l => Sys2Proof.Machine.execAutoReadmit l s
  | .readmitAbort who w => Sys2Proof.Machine.execReadmitAbort who w s
  | .eventNotice l => Sys2Proof.Machine.execEventNotice l s
  | .eventTaskRelease n => Sys2Proof.Machine.execEventTaskRelease n s
  | .dispatch who w => Sys2Proof.Machine.execDispatch who w s
  | .done who w => Sys2Proof.Machine.execDone who w s
  | .clrResp who w => Sys2Proof.Machine.execClrResp who w s
  | .trdClrCnt who w => Sys2Proof.Machine.execTrdClrCnt who w s
  | .chgSubmit who w => Sys2Proof.Machine.execChgSubmit who w s
  | .changeBlockStaged l => Sys2Proof.Machine.execChangeBlockStaged l s
  | .pfCaptureTimeout l => Sys2Proof.Machine.execPfCaptureTimeout l s
  | .tripleWordRepair d => Sys2Proof.Machine.execTripleWordRepair d s
  | .tripleWordFailed d => Sys2Proof.Machine.execTripleWordFailed d s
  | .inval who m w => Sys2Proof.Machine.execInval who m w s
  | .invalidationDone m => Sys2Proof.Machine.execInvalidationDone m s
  | .memClrCnt who m w => Sys2Proof.Machine.execMemClrCnt who m w s
  | .fillComplete m ok => Sys2Proof.Machine.execFillComplete m ok s
  | .scrubBurst m v syndrome => Sys2Proof.Machine.execScrubBurst m v syndrome s
  | .lapLate m => Sys2Proof.Machine.execLapLate m s
  | .elogPop who m w => Sys2Proof.Machine.execElogPop who m w s
  | .retireActivate who m n w => Sys2Proof.Machine.execRetireActivate who m n w s
  | .retireCopyDone m uncorr => Sys2Proof.Machine.execRetireCopyDone m uncorr s
  | .diagWrite who m w => Sys2Proof.Machine.execDiagWrite who m w s
  | .diagRead who m w => Sys2Proof.Machine.execDiagRead who m w s
  | .diagRelease who m w => Sys2Proof.Machine.execDiagRelease who m w s
  | .diagDone m => Sys2Proof.Machine.execDiagDone m s
  | .stepGo who w => Sys2Proof.Machine.execStepGo who w s
  | .slewGo who w => Sys2Proof.Machine.execSlewGo who w s
  | .arm who n w => Sys2Proof.Machine.execArm who n w s
  | .disarm who n w => Sys2Proof.Machine.execDisarm who n w s
  | .cmpFire n => Sys2Proof.Machine.execCmpFire n s
  | .tbNsRead who => Sys2Proof.Machine.execTbNsRead who s
  | .wallNsRead who => Sys2Proof.Machine.execWallNsRead who s
  | .frameLaunch r slots conts => Sys2Proof.Machine.execFrameLaunch r slots conts s
  | .frameHeader r h => Sys2Proof.Machine.execFrameHeader r h s
  | .slotArrival r n data check => Sys2Proof.Machine.execSlotArrival r n data check s
  | .directFrameDeferred q => Sys2Proof.Machine.execDirectFrameDeferred q s
  | .directCommandFrame q absent flip => Sys2Proof.Machine.execDirectCommandFrame q absent flip s
  | .containerPassage r c => Sys2Proof.Machine.execContainerPassage r c s
  | .frameTrailer r e launch ofs tflags => Sys2Proof.Machine.execFrameTrailer r e launch ofs tflags s
  | .txcSubmit who r w => Sys2Proof.Machine.execTxcSubmit who r w s
  | .txcFlush who r w => Sys2Proof.Machine.execTxcFlush who r w s
  | .rxcPop who r w => Sys2Proof.Machine.execRxcPop who r w s
  | .schedCommit who w => Sys2Proof.Machine.execSchedCommit who w s
  | .schedCancel who w => Sys2Proof.Machine.execSchedCancel who w s
  | .frameMissed r => Sys2Proof.Machine.execFrameMissed r s
  | .listenTimeEnd r => Sys2Proof.Machine.execListenTimeEnd r s
  | .claimReceived r c => Sys2Proof.Machine.execClaimReceived r c s
  | .hopDelayRequest r => Sys2Proof.Machine.execHopDelayRequest r s
  | .hopDelayAnswerSend r => Sys2Proof.Machine.execHopDelayAnswerSend r s
  | .hopDelayAnswer r => Sys2Proof.Machine.execHopDelayAnswer r s
  | .hopProbeRetry r => Sys2Proof.Machine.execHopProbeRetry r s
  | .censusReceived r c => Sys2Proof.Machine.execCensusReceived r c s
  | .censusReturn r c => Sys2Proof.Machine.execCensusReturn r c s
  | .lineCodeLoss r e => Sys2Proof.Machine.execLineCodeLoss r e s
  | .lineCodeReturn r east => Sys2Proof.Machine.execLineCodeReturn r east s
  | .fSetReceived r east => Sys2Proof.Machine.execFSetReceived r east s
  | .foldEngage r => Sys2Proof.Machine.execFoldEngage r s
  | .healExchange r east addr => Sys2Proof.Machine.execHealExchange r east addr s
  | .reinaug who r w => Sys2Proof.Machine.execReinaug who r w s
  | .inaugSleep who r w => Sys2Proof.Machine.execInaugSleep who r w s
  | .sleepFrame r c leader sleepAt => Sys2Proof.Machine.execSleepFrame r c leader sleepAt s
  | .sleepLineTimeout r => Sys2Proof.Machine.execSleepLineTimeout r s
  | .idleFrame r c h launch ofs tflags => Sys2Proof.Machine.execIdleFrame r c h launch ofs tflags s
  | .idleMissed r => Sys2Proof.Machine.execIdleMissed r s
  | .inaugWake who r w => Sys2Proof.Machine.execInaugWake who r w s
  | .wakeCommand host => Sys2Proof.Machine.execWakeCommand host s
  | .wakeFrame r c source nonce => Sys2Proof.Machine.execWakeFrame r c source nonce s
  | .resumeFrame r c leader resumeAt => Sys2Proof.Machine.execResumeFrame r c leader resumeAt s
  | .wakeTimeout r => Sys2Proof.Machine.execWakeTimeout r s
  | .rateCorrExceeded ppm => Sys2Proof.Machine.execRateCorrExceeded ppm s
  | .connAck who n w => Sys2Proof.Machine.execConnAck who n w s
  | .filterTick raw => Sys2Proof.Machine.execFilterTick raw s
  | .capArm who m w => Sys2Proof.Machine.execCapArm who m w s
  | .currentLimit n => Sys2Proof.Machine.execCurrentLimit n s
  | .currentBelowLimit n => Sys2Proof.Machine.execCurrentBelowLimit n s
  | .limitTrip n => Sys2Proof.Machine.execLimitTrip n s
  | .thermalShutdown n => Sys2Proof.Machine.execThermalShutdown n s
  | .dieCooled n => Sys2Proof.Machine.execDieCooled n s
  | .clear who n w => Sys2Proof.Machine.execClear who n w s
  | .autoRetry n => Sys2Proof.Machine.execAutoRetry n s
  | .gateBoostEnd n => Sys2Proof.Machine.execGateBoostEnd n s
  | .gateDischargeEnd n => Sys2Proof.Machine.execGateDischargeEnd n s
  | .supplySample v0 v1 v2 v3 => Sys2Proof.Machine.execSupplySample v0 v1 v2 v3 s
  | .grpAck who w => Sys2Proof.Machine.execGrpAck who w s
  | .channelMeasurement volt curr => Sys2Proof.Machine.execChannelMeasurement volt curr s
  | .fioCommit who w => Sys2Proof.Machine.execFioCommit who w s
  | .fq8ClockLoss q => Sys2Proof.Machine.execFq8ClockLoss q s
  | .fq8LinkSilent q => Sys2Proof.Machine.execFq8LinkSilent q s
  | .selftestDone pass => Sys2Proof.Machine.execSelftestDone pass s
  | .planeTableReceived table lengthOk => Sys2Proof.Machine.execPlaneTableReceived table lengthOk s
  | .planeEvaluation sense readBad => Sys2Proof.Machine.execPlaneEvaluation sense readBad s
  | .digestPassEnd same => Sys2Proof.Machine.execDigestPassEnd same s
  | .evalCountRead who => Sys2Proof.Machine.execEvalCountRead who s
  | .permitLineChange n => Sys2Proof.Machine.execPermitLineChange n s
  | .heartbeatReceived onRing h => Sys2Proof.Machine.execHeartbeatReceived onRing h s
  | .claimWord q claim primary => Sys2Proof.Machine.execClaimWord q claim primary s
  | .claimLineReleased q => Sys2Proof.Machine.execClaimLineReleased q s
  | .claimLineAbsent q => Sys2Proof.Machine.execClaimLineAbsent q s
  | .partnerImage voted k ok img seqs => Sys2Proof.Machine.execPartnerImage voted k ok img seqs s
  | .hotTransferPassEnd final last mem trd => Sys2Proof.Machine.execHotTransferPassEnd final last mem trd s
  | .checkpointReceived ok cycle mem tables => Sys2Proof.Machine.execCheckpointReceived ok cycle mem tables s
  | .drill who w => Sys2Proof.Machine.execDrill who w s
  | .resync who w => Sys2Proof.Machine.execResync who w s
  | .partnerActivation ka kr => Sys2Proof.Machine.execPartnerActivation ka kr s
  | .ethFrameReceived p f fcsOk => Sys2Proof.Machine.execEthFrameReceived p f fcsOk s
  | .ethFrameTransmit p => Sys2Proof.Machine.execEthFrameTransmit p s
  | .linkUp p half rate => Sys2Proof.Machine.execLinkUp p half rate s
  | .linkDown p => Sys2Proof.Machine.execLinkDown p s
  | .pdTransmit n => Sys2Proof.Machine.execPdTransmit n s
  | .txrIdx who w => Sys2Proof.Machine.execTxrIdx who w s
  | .rxrIdx who w => Sys2Proof.Machine.execRxrIdx who w s
  | .slaveFrame fcode addr okA okB data => Sys2Proof.Machine.execSlaveFrame fcode addr okA okB data s
  | .baResume who w => Sys2Proof.Machine.execBaResume who w s
  | .canFrameReceived c xtd ident fdf rtr dlc data => Sys2Proof.Machine.execCanFrameReceived c xtd ident fdf rtr dlc data s
  | .canSend who c m w => Sys2Proof.Machine.execCanSend who c m w s
  | .canFrameSent c => Sys2Proof.Machine.execCanFrameSent c s
  | .canBusError c sending kind => Sys2Proof.Machine.execCanBusError c sending kind s
  | .canAutoRecovery c => Sys2Proof.Machine.execCanAutoRecovery c s
  | .canRecover who c w => Sys2Proof.Machine.execCanRecover who c w s
  | .hostRead tag count addr checkOk => Sys2Proof.Machine.execHostRead tag count addr checkOk s
  | .hostWrite tag count addr data checkOk => Sys2Proof.Machine.execHostWrite tag count addr data checkOk s
  | .recoveryBlock tag count block data checkOk => Sys2Proof.Machine.execRecoveryBlock tag count block data checkOk s
  | .apertureWrite who w d => Sys2Proof.Machine.execApertureWrite who w d s
  | .winSig who n w => Sys2Proof.Machine.execWinSig who n w s
  | .winResume who n w => Sys2Proof.Machine.execWinResume who n w s
  | .pefPop who w => Sys2Proof.Machine.execPefPop who w s
  | .npTimeout n => Sys2Proof.Machine.execNpTimeout n s
  | .shuttleStart who c w => Sys2Proof.Machine.execShuttleStart who c w s
  | .shuttleStopRequest who c w => Sys2Proof.Machine.execShuttleStopRequest who c w s
  | .shuttleCommit who c w => Sys2Proof.Machine.execShuttleCommit who c w s
  | .shuttleShadowCopy c => Sys2Proof.Machine.execShuttleShadowCopy c s
  | .shuttleClear who c w => Sys2Proof.Machine.execShuttleClear who c w s
  | .nop c => Sys2Proof.Machine.execNop c s
  | .move c => Sys2Proof.Machine.execMove c s
  | .move2d c => Sys2Proof.Machine.execMove2d c s
  | .loop c => Sys2Proof.Machine.execLoop c s
  | .wait c => Sys2Proof.Machine.execWait c s
  | .waitComplete c => Sys2Proof.Machine.execWaitComplete c s
  | .waitTimeout c => Sys2Proof.Machine.execWaitTimeout c s
  | .signal c => Sys2Proof.Machine.execSignal c s
  | .stop c => Sys2Proof.Machine.execStop c s
  | .shuttleBurst c withdrawn => Sys2Proof.Machine.execShuttleBurst c withdrawn s
  | .eyeletPost who n w => Sys2Proof.Machine.execEyeletPost who n w s
  | .eyeletTake who n => Sys2Proof.Machine.execEyeletTake who n s
  | .thimbleAcquire who n => Sys2Proof.Machine.execThimbleAcquire who n s
  | .thimbleRelease who n w => Sys2Proof.Machine.execThimbleRelease who n w s
  | .thForce who high w => Sys2Proof.Machine.execThForce who high w s
  | .mcResult n bits => Sys2Proof.Machine.execMcResult n bits s
  | .mcStuck n => Sys2Proof.Machine.execMcStuck n s
  | .mcStuckClear n => Sys2Proof.Machine.execMcStuckClear n s
  | .mcRefillDone n => Sys2Proof.Machine.execMcRefillDone n s
  | .mcCommit who n w => Sys2Proof.Machine.execMcCommit who n w s
  | .mcShadowCopy n => Sys2Proof.Machine.execMcShadowCopy n s
  | .peakClr who n w => Sys2Proof.Machine.execPeakClr who n w s
  | .mcFifoRead who n w => Sys2Proof.Machine.execMcFifoRead who n w s
  | .mcValueRead who n => Sys2Proof.Machine.execMcValueRead who n s
  | .freeze who w => Sys2Proof.Machine.execFreeze who w s
  | .thaw who w => Sys2Proof.Machine.execThaw who w s
  | .flushRead who n => Sys2Proof.Machine.execFlushRead who n s
  | .restartCold who w => Sys2Proof.Machine.execRestartCold who w s
  | .restartWarm who w => Sys2Proof.Machine.execRestartWarm who w s
  | .restartRecovery who w => Sys2Proof.Machine.execRestartRecovery who w s
  | .plugReadDone p => Sys2Proof.Machine.execPlugReadDone p s
  | .laneDigestReport l digest planeOk => Sys2Proof.Machine.execLaneDigestReport l digest planeOk s
  | .recProgram who w => Sys2Proof.Machine.execRecProgram who w s
  | .recProgramDone valid version flashOk => Sys2Proof.Machine.execRecProgramDone valid version flashOk s
  | .memtest who w => Sys2Proof.Machine.execMemtest who w s
  | .tftpWriteRequest file mode => Sys2Proof.Machine.execTftpWriteRequest file mode s
  | .tftpDataBlock block data => Sys2Proof.Machine.execTftpDataBlock block data s
  | .flashVerify who w => Sys2Proof.Machine.execFlashVerify who w s
  | .flashWrite who w => Sys2Proof.Machine.execFlashWrite who w s
  | .flashOpDone flashOk => Sys2Proof.Machine.execFlashOpDone flashOk s
  | .actGo who w partner => Sys2Proof.Machine.execActGo who w partner s
  | .laneReady l => Sys2Proof.Machine.execLaneReady l s
  | .jflashGo who w => Sys2Proof.Machine.execJflashGo who w s
  | .jflashDone valid version flashOk => Sys2Proof.Machine.execJflashDone valid version flashOk s
  | .maintStrapChange inserted => Sys2Proof.Machine.execMaintStrapChange inserted s
  | .idcode tap => Sys2Proof.Machine.execIdcode tap s
  | .samplePreload tap => Sys2Proof.Machine.execSamplePreload tap s
  | .extest tap => Sys2Proof.Machine.execExtest tap s
  | .clamp tap => Sys2Proof.Machine.execClamp tap s
  | .highz tap => Sys2Proof.Machine.execHighz tap s
  | .bypass tap code => Sys2Proof.Machine.execBypass tap code s
  | .dtmcs l w => Sys2Proof.Machine.execDtmcs l w s
  | .dmi l addr data op prog => Sys2Proof.Machine.execDmi l addr data op prog s
  | .masterFrame fcode addr => Sys2Proof.Machine.execMasterFrame fcode addr s
  | .unknownOp op tag => Sys2Proof.Machine.execUnknownOp op tag s
  | .pllLockChange lane lock => Sys2Proof.Machine.execPllLockChange lane lock s
  | .cycleStart => Sys2Proof.Machine.execCycleStart s
  | .serviceMasterChange => Sys2Proof.Machine.execServiceMasterChange s
  | .inputInstant => Sys2Proof.Machine.execInputInstant s
  | .releaseInstant => Sys2Proof.Machine.execReleaseInstant s
  | .commitInstant => Sys2Proof.Machine.execCommitInstant s
  | .votedImageReady => Sys2Proof.Machine.execVotedImageReady s
  | .outputInstant => Sys2Proof.Machine.execOutputInstant s
  | .safeLatchClear => Sys2Proof.Machine.execSafeLatchClear s
  | .readmitFillDone => Sys2Proof.Machine.execReadmitFillDone s
  | .bulkPassEnd => Sys2Proof.Machine.execBulkPassEnd s
  | .readmitRejoin => Sys2Proof.Machine.execReadmitRejoin s
  | .readmitTimeout => Sys2Proof.Machine.execReadmitTimeout s
  | .changeStageTimeout => Sys2Proof.Machine.execChangeStageTimeout s
  | .retainedSaveDue => Sys2Proof.Machine.execRetainedSaveDue s
  | .retainedCaptureDone => Sys2Proof.Machine.execRetainedCaptureDone s
  | .stepApply => Sys2Proof.Machine.execStepApply s
  | .scheduleSwitch => Sys2Proof.Machine.execScheduleSwitch s
  | .claimTimeout => Sys2Proof.Machine.execClaimTimeout s
  | .backoffEnd => Sys2Proof.Machine.execBackoffEnd s
  | .censusSend => Sys2Proof.Machine.execCensusSend s
  | .censusRepeat => Sys2Proof.Machine.execCensusRepeat s
  | .sleepSwitch => Sys2Proof.Machine.execSleepSwitch s
  | .sleepPowerDown => Sys2Proof.Machine.execSleepPowerDown s
  | .idleLaunch => Sys2Proof.Machine.execIdleLaunch s
  | .resumeInstant => Sys2Proof.Machine.execResumeInstant s
  | .refSwitchDone => Sys2Proof.Machine.execRefSwitchDone s
  | .macCheckDone => Sys2Proof.Machine.execMacCheckDone s
  | .g0CutForward => Sys2Proof.Machine.execG0CutForward s
  | .fioShadowCopy => Sys2Proof.Machine.execFioShadowCopy s
  | .ej2SelfFault => Sys2Proof.Machine.execEj2SelfFault s
  | .junctionClockLoss => Sys2Proof.Machine.execJunctionClockLoss s
  | .planeRelease => Sys2Proof.Machine.execPlaneRelease s
  | .planeOscFault => Sys2Proof.Machine.execPlaneOscFault s
  | .planeStatusReceived => Sys2Proof.Machine.execPlaneStatusReceived s
  | .planeLinkSilent => Sys2Proof.Machine.execPlaneLinkSilent s
  | .heartbeatSend => Sys2Proof.Machine.execHeartbeatSend s
  | .heartbeatMissed => Sys2Proof.Machine.execHeartbeatMissed s
  | .ringLifeTimeout => Sys2Proof.Machine.execRingLifeTimeout s
  | .listenTimeout => Sys2Proof.Machine.execListenTimeout s
  | .secondaryWaitEnd => Sys2Proof.Machine.execSecondaryWaitEnd s
  | .hotTransferTimeout => Sys2Proof.Machine.execHotTransferTimeout s
  | .checkpointDue => Sys2Proof.Machine.execCheckpointDue s
  | .checkpointDeferEnd => Sys2Proof.Machine.execCheckpointDeferEnd s
  | .coldRestoreDone => Sys2Proof.Machine.execColdRestoreDone s
  | .macAgeOut => Sys2Proof.Machine.execMacAgeOut s
  | .mvbBasicPeriod => Sys2Proof.Machine.execMvbBasicPeriod s
  | .masterClash => Sys2Proof.Machine.execMasterClash s
  | .fetch => Sys2Proof.Machine.execFetch s
  | .abort => Sys2Proof.Machine.execAbort s
  | .hostResponseReady => Sys2Proof.Machine.execHostResponseReady s
  | .gussetSourceComplete => Sys2Proof.Machine.execGussetSourceComplete s
  | .gussetPendingServe => Sys2Proof.Machine.execGussetPendingServe s
  | .carriedWriteReceived => Sys2Proof.Machine.execCarriedWriteReceived s
  | .carriedWriteLanded => Sys2Proof.Machine.execCarriedWriteLanded s
  | .completionReceived => Sys2Proof.Machine.execCompletionReceived s
  | .postedErrorReport => Sys2Proof.Machine.execPostedErrorReport s
  | .carriedSignalReceived => Sys2Proof.Machine.execCarriedSignalReceived s
  | .signalPost => Sys2Proof.Machine.execSignalPost s
  | .weltRecordWrite => Sys2Proof.Machine.execWeltRecordWrite s
  | .freezeTimeout => Sys2Proof.Machine.execFreezeTimeout s
  | .troubleEntryWrite => Sys2Proof.Machine.execTroubleEntryWrite s
  | .powerOn => Sys2Proof.Machine.execPowerOn s
  | .resetContactClose => Sys2Proof.Machine.execResetContactClose s
  | .resetRelease => Sys2Proof.Machine.execResetRelease s
  | .resetExit => Sys2Proof.Machine.execResetExit s
  | .junctionImageLoaded => Sys2Proof.Machine.execJunctionImageLoaded s
  | .loadTimeout => Sys2Proof.Machine.execLoadTimeout s
  | .tftpStatusRead => Sys2Proof.Machine.execTftpStatusRead s
  | .supplyInterrupt => Sys2Proof.Machine.execSupplyInterrupt s
  | .powerFailWarning => Sys2Proof.Machine.execPowerFailWarning s
  | .mramCopyDone => Sys2Proof.Machine.execMramCopyDone s
  | .supplyReturn => Sys2Proof.Machine.execSupplyReturn s
  | .holdupExhausted => Sys2Proof.Machine.execHoldupExhausted s
  | .overvoltage => Sys2Proof.Machine.execOvervoltage s
  | .overvoltageEnd => Sys2Proof.Machine.execOvervoltageEnd s
  | .tapReset => Sys2Proof.Machine.execTapReset s
  | .interruptionBridged => Sys2Proof.Machine.execInterruptionBridged s
  | .transactionCutShort => Sys2Proof.Machine.execTransactionCutShort s
  | .planeClockResume => Sys2Proof.Machine.execPlaneClockResume s

end Sys2Proof.Machine
end

