-- ==== Sys2Proof/Machine/Idle.lean ====
section
/-! DEFINITION. What happens when no command waits: one jc passes (R4, R178; DESIGN CHOICE, log entry 1). -/

namespace Sys2Proof.Machine

/-- One junction cycle of 4 ns: a step still pending from an earlier jc is applied (R187), then uptime, network time and the slews count on, core writes leave the egress gates (R80), and the Shuttle's waiting
requests count stalls (R419). Nothing counts in a module without power. -/
def State.idle (s : State) : State := if s.st.powered then (lanes.foldl (fun t l => t.releaseEgress l) s.applyStep.tick).stallTick else s

end Sys2Proof.Machine
end

