-- ==== Sys2Proof/Safety.lean ====
section
/-! DEFINITION. What counts as a safe run: no step stops, and every store of the state keeps its canonical form. -/

namespace Sys2Proof.Machine

/-- A step that answers a next state. -/
def Completes (s : State) : Prop := ∃ t, step s = .next t

/-- The memories of a lane and its harts' registers are in canonical form. -/
def LaneSt.canonical (n : LaneSt) : Bool :=
  n.scratch.wf && n.ddr.wf && n.bank0.wf && n.bank1.wf && n.work.wf && n.pub.wf && n.flash.wf &&
  Store.wf xZero n.h0.x && Store.wf xZero n.h0.f && Store.wf xZero n.h0.csr &&
  Store.wf xZero n.h1.x && Store.wf xZero n.h1.f && Store.wf xZero n.h1.csr

/-- The registers and memories of the module are in canonical form: equal contents are equal data. -/
def State.canonical (s : State) : Bool :=
  Store.wf regReset s.regs && s.lane.a.canonical && s.lane.b.canonical && s.lane.c.canonical && s.jddr.wf && s.tLog.wf

/-- The shape that every step keeps: the registers in canonical form, uptime a whole number of junction cycles (R178), and as many entries in
each fixed table as the hardware has: 16 Shuttle channels, 8 measurement channels, 4 FQ8s of 8 stages, 32 field channels, 4 supplies, 4 claim
wires, 8 boundary-scan ports, and 4 triggers in every hart. -/
def State.shaped (s : State) : Prop :=
  Store.wf regReset s.regs = true ∧ s.clk.uptime % 4 = 0 ∧ s.shc.length = 16 ∧ s.mcs.length = 8 ∧ s.fq.length = 4 ∧
  (∀ q ∈ s.fq, q.cmd.length = 8) ∧ s.fld.chs.length = 32 ∧ s.fld.sups.length = 4 ∧ s.dx.wire.length = 4 ∧
  s.st.taps.length = 8 ∧ s.st.tapLock.length = 8 ∧ s.st.scan.length = 8 ∧
  ∀ l : Lane, (s.ln l).h0.triggers.length = 4 ∧ (s.ln l).h1.triggers.length = 4

/-- The command completes: executed in `s` it answers a next state of which `P` holds. -/
def Gives (c : Instr) (s : State) (P : State → Prop) : Prop := ∃ t, exec c s = .next t ∧ P t

/-- Every register but those of the list reads as before (SY's mirror of a listed register of SX follows it, R224). -/
def RegsKept (ks : List Nat) (s t : State) : Prop := ∀ k, (∀ j ∈ ks, homeKey k ≠ homeKey j) → t.reg k = s.reg k

/-- Nothing changed but registers and the last answers: memories, harts, queues, time and all other hidden state are as before. -/
def OnlyRegs (s t : State) : Prop := t = { s with regs := t.regs, resp := t.resp }

/-- Nothing changed but registers, the last answers and the causes waiting for the trouble log. -/
def OnlyRegsLog (s t : State) : Prop := t = { s with regs := t.regs, resp := t.resp, tWait := t.tWait }

/-- A lane fault of lane `l` with this cause and group was declared between `s` and `t` (R78, R79): the lane is STOPPED, its harts' state is
discarded, its egress gate and command links are closed, its withdrawal notice carries cause, group and uptime, the first cause stands in
LC.FAULT_CAUSE, and the other lanes are as they were. -/
def LaneFaulted (s t : State) (l : Lane) (cause group : Nat) : Prop :=
  t.ex l = Exec.stopped ∧ (t.ln l).withdrawal = some (cause, group, s.clk.uptime) ∧ (t.ln l).egressOpen = false ∧ (t.ln l).cmdLink = false ∧
  (t.ln l).h0.x = [] ∧ (t.ln l).h0.pc = 0 ∧ (t.ln l).h1.x = [] ∧ (t.ln l).h1.pc = 0 ∧ (t.ln l).curTask = none ∧ (t.ln l).notices = [] ∧
  t.rd (Fld.LC_FAULT_CAUSE_VALID l) = 1 ∧
  (s.rd (Fld.LC_FAULT_CAUSE_VALID l) = 0 → t.rd (Fld.LC_FAULT_CAUSE_CAUSE l) = cause ∧ t.rd (Fld.LC_FAULT_CAUSE_GROUP l) = group) ∧
  (s.rd (Fld.LC_FAULT_CAUSE_VALID l) = 1 → t.reg (Reg.LC_FAULT_CAUSE l) = s.reg (Reg.LC_FAULT_CAUSE l)) ∧
  ∀ m, m ≠ l → t.ln m = s.ln m

end Sys2Proof.Machine
end

