-- ==== Sys2Proof/Certificates/Slice0/Obligations.lean ====
section
/-! DEFINITION. The statements for the provers: what the commands do, by the spec's rules. `Gives c s P` says that command c completes in
state s with a next state of which P holds; `RegsKept ks s t` that every register but those listed reads as before. -/

open Sys2Proof Sys2Proof.Machine

/-- For every command c, queue rest cs and state s: one step of s with c at the front of its queue is the execution of c on s with the rest as
its queue. (95_what_each_step_holds.md) -/
def Obligations.StepTakesFront : Prop :=
  ∀ (c : Instr) (cs : List Instr) (s : State), s.pending = c :: cs → step s = exec c { s with pending := cs }

/-- With no command waiting, a step of a powered module answers the state one jc later (the tick on an empty queue is the model's choice, log
entry 1). While no core write waits in an egress gate, uptime is 4 ns on and the queue stays empty, and a step command pending from an
earlier jc has been applied (R187). Where none is to be applied, network time is 4 ns on while no phase error remains, the cycle, the
lanes, the vote unit, the memories, the plane and the field I/O are as before, and of the registers only TB.STATUS and the Shuttle's stall
counters may differ. Without power the state stays. (R4, R80, R178, R187) -/
def Obligations.IdlePassesOneJc : Prop :=
  ∀ s : State, s.pending = [] →
    (s.st.powered = false → step s = .next s) ∧
    (s.st.powered = true → (∀ l, (s.ln l).egress = []) → ∃ t, step s = .next t ∧ t.clk.uptime = s.clk.uptime + 4 ∧ t.pending = [] ∧
      (∀ q, s.clk.stepPend = some q → q.at_ < s.clk.uptime → t.clk.stepPend = none ∧ t.rd Fld.TB_STATUS_STEP_PEND = 0)) ∧
    (s.st.powered = true → (∀ l, (s.ln l).egress = []) → (∀ q, s.clk.stepPend = some q → s.clk.uptime ≤ q.at_) → ∃ t, step s = .next t ∧
      t.clk.stepPend = s.clk.stepPend ∧ (s.clk.corr = 0 → t.clk.net = (s.clk.net + 4) % (2 ^ 48 * giga)) ∧
      (∀ f : Field, f.addr / 0x10000 ≠ 1 → f.addr / 0x10000 ≠ 8 → t.rd f = s.rd f) ∧
      t.cyc = s.cyc ∧ t.lane = s.lane ∧ t.vote = s.vote ∧ t.jddr = s.jddr ∧ t.memc = s.memc ∧ t.jmem = s.jmem ∧ t.plane = s.plane ∧
      t.fld = s.fld ∧ t.fq = s.fq ∧ t.dx = s.dx ∧ t.welt = s.welt ∧ t.tLog = s.tLog ∧ t.stage = s.stage ∧ t.resp = s.resp)

/-- At reset no command waits; uptime, network time and the wall offset are zero; the phase is RESET; every lane is HELD, does not vote, holds
no valid block of DDR4 and its harts are in machine mode; nothing is sealed; the plane is OFF and no FQ8 drives; the junction memory
controller holds no valid block; and every store is in canonical form; the shape that every step keeps holds. (R21, R61, R83, R110, R159,
R178, R307, R465) -/
def Obligations.ResetState : Prop :=
  State.reset.pending = [] ∧ State.reset.clk.uptime = 0 ∧ State.reset.clk.net = 0 ∧ State.reset.clk.ofs = 0 ∧
  State.reset.phase = Phase.reset ∧ State.reset.isSealed = false ∧
  (∀ l : Lane, State.reset.ex l = Exec.held ∧ State.reset.votes l = false ∧ (State.reset.memc.get l).valid = [] ∧
    (State.reset.ln l).h0.machine = true ∧ (State.reset.ln l).h1.machine = true) ∧
  State.reset.jmem.valid = [] ∧ State.reset.plane.st = 0 ∧ (∀ q ∈ State.reset.fq, q.drive = false) ∧ State.reset.canonical = true ∧
  State.reset.shaped

/-- For every initiator, address and width: an access that is not 4 bytes wide, is misaligned, or names no register (outside the initiator's
windows, or an offset that holds no register) ends in an access fault returned to the initiator, written by REGISTER_WRITE or read.
Nothing but that answer changes; only an access by a non-secure master to the secure part of EY leaves the violation note of R424 as well.
(R12) -/
def Obligations.FaultingAccessChangesNothing : Prop :=
  ∀ (s : State) (i : Initiator) (addr width : Nat) (w : Word),
    (width ≠ 4 ∨ addr % 4 ≠ 0 ∨ ∀ k, keyOf i addr = some k → regAt k = none) →
    Gives (.registerWrite i addr width w) s (fun t => t.response i = .fault ∧
      ((∀ k, keyOf i addr = some k → eySecure k = false ∨ s.secure i = true) → t = s.respond i .fault)) ∧
    (s.busRead i addr width).response i = .fault ∧
    ((∀ k, keyOf i addr = some k → eySecure k = false ∨ s.secure i = true) → s.busRead i addr width = s.respond i .fault)

/-- A lane writes the junction window only from HART_1 of the service-master lane, never reaches another lane's units, and writes its Treadle
only from HART_0. Where an initiator may not write a register, REGISTER_WRITE and the write commands of the junction end in an access
fault: nothing but the answer changes (in the secure part of EY a non-secure master also leaves the violation note of R424). (R12, R28,
R29, R424) -/
def Obligations.RefusedWriteNoEffect : Prop :=
  ∀ (s : State) (i : Initiator) (k : Nat) (w : Word),
    (∀ l, k < 0x1000000 → s.mayWrite (.hart l .h0) k = false ∧ (s.svcMaster ≠ some l → s.mayWrite (.hart l .h1) k = false)) ∧
    (∀ l m h, laneOf k = some m → l ≠ m → s.mayWrite (.hart l h) k = false ∧ s.mayRead (.hart l h) k = false) ∧
    (∀ l, s.mayWrite (.hart l .h1) (Reg.TRD_DISPATCH l) = false) ∧
    (s.mayWrite i k = false → eySecure k = false ∨ s.secure i = true →
      (∀ addr, keyOf i addr = some k → Gives (.registerWrite i addr 4 w) s fun t => t = s.respond i .fault) ∧
      (k = Reg.VT_READMIT → Gives (.readmitStart i w) s fun t => t = s.respond i .fault) ∧
      (k = Reg.TB_STEP_CTRL → Gives (.stepGo i w) s fun t => t = s.respond i .fault) ∧
      (k = Reg.SX_SCHED_CTRL → Gives (.schedCommit i w) s fun t => t = s.respond i .fault) ∧
      (k = Reg.UPD_ACT_CTRL → ∀ p, Gives (.actGo i w p) s fun t => t = s.respond i .fault) ∧
      (k = Reg.WL_CTRL → Gives (.freeze i w) s fun t => t = s.respond i .fault))

/-- Of the memory controller m (a lane's, or the junction's): INVAL by an initiator that may write MEM.CMD invalidates pages INVAL_BASE to
INVAL_BASE + INVAL_SIZE - 1: INVAL_BUSY is 1, no block of the range is valid, every byte of it reads zero, every other valid block and
every other byte outside the pool is as before; it is refused with INVAL_ERR, the controller unchanged, when the range leaves DDR4,
touches the spare pool, SIZE is 0 or one runs. MEM_CLR_CNT leaves CORR_COUNT, UNCORR_COUNT, SRAM_CORR, PF_REJECT and ELOG_CTRL.LOST at
zero. INVALIDATION_DONE of a running invalidation leaves INVAL_BUSY 0 and the contents as they are. Registers outside the controller and
the other lanes' memories stay. (R159, R161, R176) -/
def Obligations.InvalidationAndCounters : Prop :=
  ∀ (s : State) (i : Initiator) (m : MemSel) (w : Word),
    (s.mayWrite i (Reg.MEM_CMD m) = true →
      Gives (.memClrCnt i m w) s (fun t =>
        t.reg (Reg.MEM_CORR_COUNT m) = 0 ∧ t.reg (Reg.MEM_UNCORR_COUNT m) = 0 ∧ t.reg (Reg.MEM_SRAM_CORR m) = 0 ∧
        t.reg (Reg.MEM_PF_REJECT m) = 0 ∧ t.rd (Fld.MEM_ELOG_CTRL_LOST m) = 0 ∧ t.response i = .done ∧ t.lane = s.lane ∧ t.jddr = s.jddr ∧
        RegsKept [Reg.MEM_CMD m, Reg.MEM_STATUS m, Reg.MEM_CORR_COUNT m, Reg.MEM_UNCORR_COUNT m, Reg.MEM_SRAM_CORR m,
          Reg.MEM_PF_REJECT m, Reg.MEM_ELOG_CTRL m] s t) ∧
      (let b := s.rd (Fld.MEM_INVAL_BASE_PAGES m)
       let n := s.rd (Fld.MEM_INVAL_SIZE_PAGES m)
       let ok := n ≠ 0 ∧ ddrBase m ≤ b * 4096 ∧ (b + n) * 4096 ≤ ddrEnd m ∧ (s.mctl m).inval = none ∧
         (s.poolPage m = 0 ∨ s.poolPage m + 128 ≤ b ∨ b + n ≤ s.poolPage m)
       Gives (.inval i m w) s (fun t => t.response i = .done ∧ (∀ l, m ≠ .lane l → t.ln l = s.ln l) ∧ (m ≠ .junction → t.jddr = s.jddr) ∧
        (ok → (t.mctl m).inval = some (b, b + n) ∧ t.rd (Fld.MEM_STATUS_INVAL_BUSY m) = 1 ∧
          (∀ a, b * 4096 ≤ a → a < (b + n) * 4096 → (t.ddr m).rb a = 0) ∧
          (∀ a, a < b * 4096 ∨ (b + n) * 4096 ≤ a → s.inPool m (a / 4096) = false → (t.ddr m).rb a = (s.ddr m).rb a) ∧
          (∀ x, x ∈ (t.mctl m).valid ↔ x ∈ (s.mctl m).valid ∧ (x < (b * 4096 - ddrBase m) / 256 ∨ ((b + n) * 4096 - ddrBase m) / 256 ≤ x))) ∧
        (¬ ok → t.mctl m = s.mctl m ∧ t.rd (Fld.MEM_STATUS_INVAL_ERR m) = 1 ∧ t.lane = s.lane ∧ t.jddr = s.jddr) ∧
        RegsKept [Reg.MEM_CMD m, Reg.MEM_STATUS m, Reg.MEM_SCRUB_VALID m, Reg.MEM_CORR_COUNT m, Reg.MEM_UNCORR_COUNT m, Reg.MEM_SRAM_CORR m,
          Reg.MEM_PF_REJECT m, Reg.MEM_ELOG_CTRL m] s t))) ∧
    (∀ lo hi, (s.mctl m).inval = some (lo, hi) →
      Gives (.invalidationDone m) s (fun t =>
        t.mctl m = { s.mctl m with inval := none } ∧ t.rd (Fld.MEM_STATUS_INVAL_BUSY m) = 0 ∧ t.lane = s.lane ∧ t.jddr = s.jddr ∧
        RegsKept [Reg.MEM_STATUS m] s t))

/-- ELOG_POP removes the head entry of the error log and ELOG_COUNT shows the entries left. RETIRE_ACTIVATE of an inactive entry n writes PAGE
and starts its copy (ACTIVE, BUSY and RETIRE_BUSY 1); the activation is refused, with REFUSED set and ACTIVE left at 0, when the page lies
outside DDR4 or inside the pool, another active entry holds it, or a copy is busy. RETIRE_COPY_DONE of a page with no uncorrectable burst
ends the copy of entry n: its BUSY and RETIRE_BUSY read 0, pool page n holds the page as the array held it (where no burst of it reads as
corrected), and an access to the page reaches pool page n; with an uncorrectable error COPY_ERR is set as well. (R167, R169, R170, R176) -/
def Obligations.ErrorLogAndRetirement : Prop :=
  ∀ (s : State) (i : Initiator) (m : MemSel) (w : Word),
    (s.mayWrite i (Reg.MEM_ELOG_CTRL m) = true → (s.mctl m).elog.length ≤ 32 →
      Gives (.elogPop i m w) s (fun t => t.mctl m = { s.mctl m with elog := (s.mctl m).elog.tail } ∧
        t.rd (Fld.MEM_STATUS_ELOG_COUNT m) = (s.mctl m).elog.length - 1 ∧ t.rd (Fld.MEM_ELOG_INFO_VALID m) = (if (s.mctl m).elog.length ≤ 1 then 0 else 1) ∧
        t.lane = s.lane ∧ t.jddr = s.jddr)) ∧
    (∀ n : Fin 128, s.mayWrite i (Reg.MEM_RT_n m n) = true → s.rd (Fld.MEM_RT_n_ACTIVE m n) = 0 →
      let page := wbits w (Fld.MEM_RT_n_PAGE m n)
      let ok := inDdr m (page * 4096) = true ∧ s.inPool m page = false ∧ s.rd (Fld.MEM_STATUS_RETIRE_BUSY m) = 0 ∧
        ∀ k < 128, k ≠ n.val → s.rd (Fld.MEM_RT_n_ACTIVE m k) = 1 → s.rd (Fld.MEM_RT_n_PAGE m k) ≠ page
      Gives (.retireActivate i m n w) s (fun t => t.rd (Fld.MEM_RT_n_PAGE m n) = page ∧ t.ddr m = s.ddr m ∧
        (ok → t.rd (Fld.MEM_RT_n_ACTIVE m n) = 1 ∧ t.rd (Fld.MEM_RT_n_BUSY m n) = 1 ∧ t.rd (Fld.MEM_STATUS_RETIRE_BUSY m) = 1 ∧
          (t.mctl m).copying = some n.val) ∧
        (¬ ok → t.rd (Fld.MEM_RT_n_REFUSED m n) = 1 ∧ t.rd (Fld.MEM_RT_n_ACTIVE m n) = 0 ∧ t.mctl m = s.mctl m))) ∧
    (∀ n : Fin 128, (s.mctl m).copying = some n.val →
      Gives (.retireCopyDone m true) s (fun t => t.rd (Fld.MEM_RT_n_COPY_ERR m n) = 1 ∧ t.rd (Fld.MEM_RT_n_BUSY m n) = 0 ∧ (t.mctl m).copying = none)) ∧
    (∀ n : Fin 128, (s.mctl m).copying = some n.val →
      (∀ j < 64, (s.burstClass m (s.rd (Fld.MEM_RT_n_PAGE m n) * 4096 + 64 * j)).1 ≠ 2) →
      Gives (.retireCopyDone m false) s (fun t => (t.mctl m).copying = none ∧ t.rd (Fld.MEM_RT_n_BUSY m n) = 0 ∧
        t.rd (Fld.MEM_STATUS_RETIRE_BUSY m) = 0 ∧ t.rd (Fld.MEM_RT_n_ACTIVE m n) = s.rd (Fld.MEM_RT_n_ACTIVE m n) ∧
        ((∀ j < 64, (s.burstClass m (s.rd (Fld.MEM_RT_n_PAGE m n) * 4096 + 64 * j)).1 = 0) → ∀ x < 4096,
          (t.ddr m).rb ((s.poolPage m + n.val) * 4096 + x) = (s.ddr m).rb (s.rd (Fld.MEM_RT_n_PAGE m n) * 4096 + x)) ∧
        (s.rd (Fld.MEM_RT_n_ACTIVE m n) = 1 → (∀ k < n.val, s.rd (Fld.MEM_RT_n_ACTIVE m k) = 1 → s.rd (Fld.MEM_RT_n_PAGE m k) ≠ s.rd (Fld.MEM_RT_n_PAGE m n)) →
          ∀ x < 4096, t.phys m (s.rd (Fld.MEM_RT_n_PAGE m n) * 4096 + x) = (s.poolPage m + n.val) * 4096 + x)))

/-- DIAG_WRITE that the controller accepts writes DIAG_DATA and DIAG_CHECK unaltered to the word at DIAG_ADDR and puts its burst under
diagnostic hold (DIAG_HOLD 1, REFUSED 0), and the command runs with DONE 0; it is refused, with REFUSED set and no byte of DDR4 changed,
when DIAG_ADDR lies outside DDR4 or in the pool, another burst is held, or the lane is VOTING with fewer than three lanes VOTING.
DIAG_READ loads the 8 bytes at DIAG_ADDR into DIAG_DATA and the check bits placed there into DIAG_CHECK (those of the data where none are
placed, with CLASS 0 and SYNDROME 0), and makes no log entry and no lane fault. DIAG_RELEASE ends the hold. DIAG_DONE of a running command
sets DONE. (R171, R172, R176) -/
def Obligations.DiagnosticAccess : Prop :=
  ∀ (s : State) (i : Initiator) (m : MemSel) (w : Word),
    (s.mayWrite i (Reg.MEM_DIAG_CMD m) = true →
      (let a := s.diagAddr m
       let ok := inDdr m a = true ∧ s.inPool m (a / 4096) = false ∧ (∀ b, (s.mctl m).hold = some b → b = (a - ddrBase m) / 64) ∧
         (∀ l, m = .lane l → s.votes l = true → s.numVoting = 3)
       wbits w (Fld.MEM_DIAG_CMD_RELEASE m) = 0 →
       Gives (.diagWrite i m w) s (fun t => (t.mctl m).diagBusy = true ∧ t.rd (Fld.MEM_DIAG_RESULT_DONE m) = 0 ∧
        (ok → (t.mctl m).hold = some ((a - ddrBase m) / 64) ∧ t.rd (Fld.MEM_STATUS_DIAG_HOLD m) = 1 ∧ t.rd (Fld.MEM_DIAG_RESULT_REFUSED m) = 0 ∧
          lookupN (t.mctl m).chk (t.phys m a / 8) = some (BitVec.ofNat 8 (s.rd (Fld.MEM_DIAG_CHECK_CHECK m))) ∧
          t.ddrBytes m a 8 = leBytes 4 (s.rd (Fld.MEM_DIAG_DATA_LO_DATA m)) ++ leBytes 4 (s.rd (Fld.MEM_DIAG_DATA_HI_DATA m))) ∧
        (¬ ok → t.rd (Fld.MEM_DIAG_RESULT_REFUSED m) = 1 ∧ t.ddr m = s.ddr m ∧ (t.mctl m).hold = (s.mctl m).hold))) ∧
      (wbits w (Fld.MEM_DIAG_CMD_WRITE m) = 0 →
       Gives (.diagRead i m w) s (fun t => t.rd (Fld.MEM_DIAG_DATA_LO_DATA m) = leNat (s.ddrBytes m (s.diagAddr m) 4) ∧
        t.rd (Fld.MEM_DIAG_DATA_HI_DATA m) = leNat (s.ddrBytes m (s.diagAddr m + 4) 4) ∧ t.rd (Fld.MEM_DIAG_RESULT_DONE m) = 0 ∧
        (t.mctl m).diagBusy = true ∧ (t.mctl m).elog = (s.mctl m).elog ∧ t.lane = s.lane ∧ t.jddr = s.jddr ∧
        (∀ c, lookupN (s.mctl m).chk (s.phys m (s.diagAddr m) / 8) = some c → t.rd (Fld.MEM_DIAG_CHECK_CHECK m) = c.toNat) ∧
        (lookupN (s.mctl m).chk (s.phys m (s.diagAddr m) / 8) = none →
          t.rd (Fld.MEM_DIAG_RESULT_CLASS m) = 0 ∧ t.rd (Fld.MEM_DIAG_RESULT_SYNDROME m) = 0)) ∧
       Gives (.diagRelease i m w) s (fun t => (t.mctl m).hold = none ∧ t.rd (Fld.MEM_STATUS_DIAG_HOLD m) = 0 ∧ t.lane = s.lane ∧ t.jddr = s.jddr))) ∧
    ((s.mctl m).diagBusy = true → Gives (.diagDone m) s (fun t => t.rd (Fld.MEM_DIAG_RESULT_DONE m) = 1 ∧ (t.mctl m).diagBusy = false ∧
      t.lane = s.lane ∧ t.jddr = s.jddr ∧ RegsKept [Reg.MEM_DIAG_RESULT m] s t))

/-- FILL_COMPLETE of a running fill outside a readmission leaves all of the memory's DDR4 reading zero, a lane's scratch, image SRAM and
bitmap cleared too (the junction's bitmap by the power-on fill only), and the error log as before. SCRUB_BURST with no burst left to visit
ends the lap: LAPS counts up modulo 65536 and the next lap begins at the first block; a clean burst changes nothing else; a corrected one
is logged with source 2 and counted in CORR_COUNT, with no lane fault; a clean SRAM word changes nothing, a corrected word of lane scratch
is counted in SRAM_CORR. LAP_LATE sets its status bit when SCRUB_AGE exceeds a non-zero LAP_MAX, and changes nothing otherwise. (R152,
R162, R163, R164, R165, R166, R167, R176) -/
def Obligations.FillsAndLaps : Prop :=
  ∀ (s : State) (m : MemSel),
    (∀ t0, (s.mctl m).fillStart = some t0 → s.readmitPhase ≠ 1 → s.phase ≠ Phase.recovery → s.phase ≠ Phase.fill →
      Gives (.fillComplete m true) s (fun t => (t.mctl m).fillStart = none ∧
        (m ≠ .junction ∨ s.st.fromPower = true → (t.mctl m).valid = []) ∧ (m = .junction → s.st.fromPower = false → (t.mctl m).valid = (s.mctl m).valid) ∧ (∀ a, (t.ddr m).rb a = 0) ∧
        (t.mctl m).elog = (s.mctl m).elog ∧ t.rd (Fld.MEM_STATUS_FILLING m) = 0 ∧
        (∀ l, m = .lane l → (t.ln l).scratch = [] ∧ (t.ln l).bank0 = [] ∧ (t.ln l).bank1 = [] ∧ (t.ln l).work = [] ∧ (t.ln l).pub = []))) ∧
    (∀ syn, scrubTarget (s.mctl m) = none →
      Gives (.scrubBurst m (.burst 0) syn) s (fun t => t.rd (Fld.MEM_SCRUB_LAP_LAPS m) = (s.rd (Fld.MEM_SCRUB_LAP_LAPS m) + 1) % 65536 ∧
        t.mctl m = { s.mctl m with scrub := 0, lapStart := s.clk.uptime } ∧ RegsKept [Reg.MEM_SCRUB_LAP m, Reg.MEM_SCRUB_AGE m] s t)) ∧
    (∀ syn b, scrubTarget (s.mctl m) = some b → scrubTarget { s.mctl m with scrub := b + 1 } ≠ none → (s.burstClass m (ddrBase m + 64 * b)).1 = 0 →
      Gives (.scrubBurst m (.burst 0) syn) s (fun t => t = s.setMctl m { s.mctl m with scrub := b + 1 }) ∧
      Gives (.scrubBurst m (.burst 1) syn) s (fun t => t.lane = s.lane ∧ t.ddr m = s.ddr m ∧ (t.mctl m).scrub = b + 1 ∧
        t.rd (Fld.MEM_CORR_COUNT_COUNT m) = satAdd 0xFFFFFFFF (s.rd (Fld.MEM_CORR_COUNT_COUNT m)) 1 ∧
        ((s.mctl m).elog.length < 32 → (∀ e ∈ (s.mctl m).elog, e.type ≠ 1 ∨ e.addr ≠ (ddrBase m + 64 * b) / 64) →
          (t.mctl m).elog = (s.mctl m).elog ++ [⟨1, 2, syn.toNat, (ddrBase m + 64 * b) / 64, s.clk.uptime, 0⟩]))) ∧
    (∀ syn store addr, Gives (.scrubBurst m (.word store addr 0) syn) s (fun t => t = s)) ∧
    (∀ syn addr l, Gives (.scrubBurst (.lane l) (.word .scratch addr 1) syn) s (fun t => t.lane = s.lane ∧ t.jddr = s.jddr ∧
      t.rd (Fld.MEM_SRAM_CORR_SCRATCH (.lane l)) = satAdd 0xFF (s.rd (Fld.MEM_SRAM_CORR_SCRATCH (.lane l))) 1)) ∧
    Gives (.lapLate m) s (fun t =>
      (0 < s.rd (Fld.MEM_CFG_LAP_MAX m) ∧ s.rd (Fld.MEM_CFG_LAP_MAX m) < s.scrubAge m → t.rd (Fld.MEM_STATUS_LAP_LATE m) = 1 ∧
        RegsKept [Reg.MEM_STATUS m] s t ∧ OnlyRegs s t) ∧
      (¬ (0 < s.rd (Fld.MEM_CFG_LAP_MAX m) ∧ s.rd (Fld.MEM_CFG_LAP_MAX m) < s.scrubAge m) → t = s))

/-- STEP_GO by an initiator that may write TB.STEP_CTRL is refused, with STEP_REFUSED set and time as it was, when a step is pending,
TB.STEP_NS holds 10^9 or more, the source is neither command nor PTP, or WALL_SRC is ring at a module that does not lead. Else STEP_PEND
reads 1 and the step waits; in a later jc STEP_APPLY adds its signed size to the wall offset and to nothing else of time, after the
compare units then due have fired, holds the size in TB.LAST_STEP (saturated), counts it in STEP_COUNT and reports its source; with no
step pending, or in the jc of the GO, nothing happens. SLEW_GO is refused under the same WALL_SRC condition; else the slew of SLEW_NS
replaces any remainder. (R186, R187, R188, R193, R197) -/
def Obligations.StepAndSlewCommands : Prop :=
  ∀ (s : State) (i : Initiator) (w : Word),
    (s.mayWrite i Reg.TB_STEP_CTRL = true →
      let bad := s.clk.stepPend ≠ none ∨ 1000000000 ≤ s.rd Fld.TB_STEP_NS_VALUE ∨
        (wbits w Fld.TB_STEP_CTRL_SOURCE ≠ 1 ∧ wbits w Fld.TB_STEP_CTRL_SOURCE ≠ 2) ∨ (s.rd Fld.TB_CFG_WALL_SRC = 0 ∧ s.leads = false)
      Gives (.stepGo i w) s (fun t => t.response i = .done ∧
        (bad → t.clk = s.clk ∧ t.rd Fld.TB_STATUS_STEP_REFUSED = 1 ∧ OnlyRegs s t ∧ RegsKept [Reg.TB_STATUS] s t) ∧
        (¬ bad → t.rd Fld.TB_STATUS_STEP_PEND = 1 ∧ t.clk.net = s.clk.net ∧ t.clk.ofs = s.clk.ofs ∧ t.clk.uptime = s.clk.uptime ∧
          ∃ q, t.clk.stepPend = some q ∧ q.at_ = s.clk.uptime ∧ q.source = wbits w Fld.TB_STEP_CTRL_SOURCE ∧
            q.absolute = (wbits w Fld.TB_STEP_CTRL_MODE == 0) ∧
            q.value.natAbs = s.stepSec * 1000000000 + s.rd Fld.TB_STEP_NS_VALUE ∧
            (0 < q.value → wbits w Fld.TB_STEP_CTRL_MODE = 0 ∨ wbits w Fld.TB_STEP_CTRL_SIGN = 0)))) ∧
    (∀ q, s.clk.stepPend = some q → q.at_ < s.clk.uptime →
      let size : Int := if q.absolute then q.value - (s.wall : Int) else q.value
      Gives .stepApply s (fun t => t.clk = { s.clk with ofs := wrapOfs (s.clk.ofs + size), stepPend := none, targets := t.clk.targets } ∧
        t.reg Reg.TB_LAST_STEP_LO = BitVec.ofNat 32 (ofSigned 64 (satSigned 64 size)) ∧
        t.rd Fld.TB_STEP_CTRL_SOURCE = q.source % 2 ^ (Fld.TB_STEP_CTRL_SOURCE.hi + 1 - Fld.TB_STEP_CTRL_SOURCE.lo) ∧
        (∀ n : Fin 16, s.cmpDue n = true → t.rd (Fld.TB_CMP_n_STAT_FIRED n) = 1) ∧
        t.rd Fld.TB_STEP_COUNT_COUNT = (s.rd Fld.TB_STEP_COUNT_COUNT + 1) % 2 ^ (Fld.TB_STEP_COUNT_COUNT.hi + 1 - Fld.TB_STEP_COUNT_COUNT.lo) ∧
        t.rd Fld.TB_STATUS_STEP_PEND = 0 ∧ t.rd Fld.TB_STATUS_WALL_VALID = 1 ∧ t.cyc = s.cyc ∧
        ((∀ n : Fin 16, s.cmpDue n = false) → t.lane = s.lane ∧ t.clk.targets = s.clk.targets))) ∧
    ((∀ q, s.clk.stepPend = some q → s.clk.uptime ≤ q.at_) → Gives .stepApply s (fun t => t = s)) ∧
    (s.mayWrite i Reg.TB_SLEW_CTRL = true →
      let bad := s.rd Fld.TB_CFG_WALL_SRC = 0 ∧ s.leads = false
      Gives (.slewGo i w) s (fun t => t.response i = .done ∧ t.clk.ofs = s.clk.ofs ∧ t.clk.net = s.clk.net ∧
        (bad → t.clk = s.clk ∧ t.rd Fld.TB_STATUS_STEP_REFUSED = 1) ∧
        (¬ bad → t.clk.slewAcc = 0 ∧ t.clk.slew = toSigned 32 (s.rd Fld.TB_SLEW_NS_NS) ∧ t.rd Fld.TB_STATUS_SLEW_BUSY = (if s.rd Fld.TB_SLEW_NS_NS = 0 then 0 else 1))))

/-- A write of CMP_n_CFG with DISARM, alone or with ARM, leaves unit n disarmed. ARM without DISARM with a TARGET of 4 000 000 000 or more
leaves it disarmed with ERR set; with a TARGET not in the past it leaves it armed with that target; with one in the past the unit fires at
once with LATE set. CMP_FIRE of an armed unit whose target is reached sets FIRED in STAT and in TB.STATUS; with PERIOD 0 the unit is then
disarmed, else it stays armed with a new target, one period on where that lies ahead, which TARGET shows (unless a target for the next ARM
stands in it: the model's choice, log entry 89). A unit that is not armed, or whose target lies ahead, does not fire. (R190, R191, R192,
R194) -/
def Obligations.CompareUnits : Prop :=
  ∀ (s : State) (i : Initiator) (n : Fin 16) (w : Word),
    (s.mayWrite i (Reg.TB_CMP_n_CFG n) = true →
      Gives (.disarm i n w) s (fun t => t.rd (Fld.TB_CMP_n_CFG_ARMED n) = 0 ∧ t.response i = .done ∧ t.clk = s.clk ∧ t.lane = s.lane ∧
        t.rd (Fld.TB_CMP_n_TARGET_SPAN n) = s.rd (Fld.TB_CMP_n_TARGET_SPAN n)) ∧
      (wbits w (Fld.TB_CMP_n_CFG_DISARM n) = 1 → Gives (.arm i n w) s (fun t => t.rd (Fld.TB_CMP_n_CFG_ARMED n) = 0)) ∧
      (wbits w (Fld.TB_CMP_n_CFG_DISARM n) = 0 →
        (4000000000 ≤ s.rd (Fld.TB_CMP_n_TARGET_SPAN n) →
          Gives (.arm i n w) s (fun t => t.rd (Fld.TB_CMP_n_CFG_ARMED n) = 0 ∧ t.rd (Fld.TB_CMP_n_STAT_ERR n) = 1 ∧ t.lane = s.lane)) ∧
        (s.rd (Fld.TB_CMP_n_TARGET_SPAN n) < 4000000000 →
          let wall := (if s.isSealed then s.rd (Fld.TB_CMP_n_CFG_SCALE n) else wbits w (Fld.TB_CMP_n_CFG_SCALE n)) = 1
          let ahead := spanDiff (s.rd (Fld.TB_CMP_n_TARGET_SPAN n)) (if wall then s.wallSpan else s.netSpan)
          (0 ≤ ahead → Gives (.arm i n w) s (fun t => t.rd (Fld.TB_CMP_n_CFG_ARMED n) = 1 ∧ t.rd (Fld.TB_CMP_n_STAT_MISSED n) = 0 ∧
            t.rd (Fld.TB_CMP_n_TARGET_SPAN n) = s.rd (Fld.TB_CMP_n_TARGET_SPAN n) ∧ t.lane = s.lane ∧
            t.clk = { s.clk with targets := t.clk.targets } ∧ t.cmpTarget n = s.rd (Fld.TB_CMP_n_TARGET_SPAN n) ∧
            ∀ j : Fin 16, j ≠ n → t.cmpTarget j = s.cmpTarget j)) ∧
          (ahead < 0 → Gives (.arm i n w) s (fun t => t.rd (Fld.TB_CMP_n_STAT_LATE n) = 1 ∧ t.rd (Fld.TB_CMP_n_STAT_FIRED n) = 1))))) ∧
    (s.rd (Fld.TB_CMP_n_CFG_ARMED n) = 1 → 0 ≤ spanDiff (s.cmpNow n) (s.cmpTarget n) →
      Gives (.cmpFire n) s (fun t => t.rd (Fld.TB_CMP_n_STAT_FIRED n) = 1 ∧ t.regBit Reg.TB_STATUS (16 + n) = true ∧
        (s.rd (Fld.TB_CMP_n_PERIOD_NS n) = 0 → t.rd (Fld.TB_CMP_n_CFG_ARMED n) = 0 ∧ t.clk = s.clk) ∧
        (s.rd (Fld.TB_CMP_n_PERIOD_NS n) ≠ 0 → t.rd (Fld.TB_CMP_n_CFG_ARMED n) = 1 ∧ t.cmpTarget n < 4000000000 ∧
          t.clk = { s.clk with targets := t.clk.targets } ∧
          (s.rd (Fld.TB_CMP_n_TARGET_SPAN n) = s.cmpTarget n → t.rd (Fld.TB_CMP_n_TARGET_SPAN n) = t.cmpTarget n) ∧
          (spanDiff (s.cmpNow n) (spanOf (s.cmpTarget n + s.rd (Fld.TB_CMP_n_PERIOD_NS n))) < 0 →
            t.cmpTarget n = spanOf (s.cmpTarget n + s.rd (Fld.TB_CMP_n_PERIOD_NS n)) ∧
            t.rd (Fld.TB_CMP_n_STAT_MISSED n) = s.rd (Fld.TB_CMP_n_STAT_MISSED n))))) ∧
    (s.rd (Fld.TB_CMP_n_CFG_ARMED n) = 0 ∨ spanDiff (s.cmpNow n) (s.cmpTarget n) < 0 →
      Gives (.cmpFire n) s (fun t => t = s))

/-- By an initiator that may read it, TB_NS_READ answers the nanoseconds of network time and captures SEC_HI, SEC_LO and SPAN of this jc for
the reader; WALL_NS_READ does the same for wall time. PAIR_LO_READ of UPTIME_LO answers the low word of uptime and captures the high word.
A read of a captured register answers the captured word whatever the register holds by then, once. PAIR_HI_WRITE of TB.STEP_SEC_HI leaves
the register as it was; PAIR_LO_WRITE of STEP_SEC_LO by the same initiator applies both words. No other initiator's holding register
changes. (R13, R178, R179, R182, R183, R197) -/
def Obligations.CapturedReads : Prop :=
  ∀ (s : State) (i : Initiator) (w v : Word),
    (s.mayRead i Reg.TB_NS = true →
      Gives (.tbNsRead i) s (fun t => t.response i = .data (BitVec.ofNat 32 s.netNs) ∧ t.regs = s.regs ∧ t.clk = s.clk ∧
        lookupN t.holdR (holdKey i Reg.TB_SEC_HI) = some (BitVec.ofNat 32 (s.netSec / 2 ^ 32)) ∧
        lookupN t.holdR (holdKey i Reg.TB_SEC_LO) = some (BitVec.ofNat 32 s.netSec) ∧
        lookupN t.holdR (holdKey i Reg.TB_SPAN) = some (BitVec.ofNat 32 s.netSpan) ∧
        ∀ j k, j.num ≠ i.num → k < 2 ^ 40 → lookupN t.holdR (holdKey j k) = lookupN s.holdR (holdKey j k)) ∧
      Gives (.wallNsRead i) s (fun t => t.response i = .data (BitVec.ofNat 32 (s.wall % giga)) ∧ t.regs = s.regs ∧ t.clk = s.clk ∧
        lookupN t.holdR (holdKey i Reg.TB_WALL_SEC_HI) = some (BitVec.ofNat 32 (s.wall / giga / 2 ^ 32)) ∧
        lookupN t.holdR (holdKey i Reg.TB_WALL_SEC_LO) = some (BitVec.ofNat 32 (s.wall / giga)) ∧
        lookupN t.holdR (holdKey i Reg.TB_WALL_SPAN) = some (BitVec.ofNat 32 s.wallSpan))) ∧
    (∀ addr, keyOf i addr = some Reg.TB_UPTIME_LO → s.mayRead i Reg.TB_UPTIME_LO = true → lookupN s.holdR (holdKey i Reg.TB_UPTIME_LO) = none →
      Gives (.pairLoRead i addr) s (fun t => t.response i = .data (BitVec.ofNat 32 s.clk.uptime) ∧ t.regs = s.regs ∧
        lookupN t.holdR (holdKey i Reg.TB_UPTIME_HI) = some (BitVec.ofNat 32 (s.clk.uptime / 2 ^ 32)))) ∧
    (∀ k d, regAt k = some d → s.mayRead i k = true → lookupN s.holdR (holdKey i k) = some v →
      (s.keyRead i k).response i = .data v ∧ lookupN (s.keyRead i k).holdR (holdKey i k) = none) ∧
    (∀ addr, keyOf i addr = some Reg.TB_STEP_SEC_HI → s.mayWrite i Reg.TB_STEP_SEC_HI = true →
      Gives (.pairHiWrite i addr v) s (fun t => t.regs = s.regs ∧ t.response i = .done ∧
        lookupN t.holdW (holdKey i Reg.TB_STEP_SEC_HI) = some v)) ∧
    (∀ addr, keyOf i addr = some Reg.TB_STEP_SEC_LO → s.mayWrite i Reg.TB_STEP_SEC_LO = true →
      lookupN s.holdW (holdKey i Reg.TB_STEP_SEC_HI) = some v →
      Gives (.pairLoWrite i addr w) s (fun t => t.rd Fld.TB_STEP_SEC_LO_VALUE = w.toNat ∧
        t.rd Fld.TB_STEP_SEC_HI_VALUE = v.toNat % 65536 ∧ lookupN t.holdW (holdKey i Reg.TB_STEP_SEC_HI) = none ∧
        RegsKept [Reg.TB_STEP_SEC_HI, Reg.TB_STEP_SEC_LO] s t))

/-- In every execution state but HELD and STOPPED: CORE_MISMATCH with a differing group in a compared hart faults the lane with cause 1, 2 or
3 by the harts and the lowest differing group (group 7 counts in core-and-caches mode only), DELAY_REGISTER_FAULT with 6, COMPARATOR_FAULT
with 5, DUAL_RAIL_FAULT with 9, LANE_PLL_LOSS with 7 (and the lock state 0), UNCORRECTABLE_ERROR with 0x0A, and so does TRIPLE_WORD_FAILED
of the lane's BL3. In STOPPED a second cause declared while the notice of a first one of the same instant waits (the model's resolution of
an lc, log entry 76) leaves the lower code; else no fault is declared in HELD and STOPPED: the lane and its record stay. CORE_MISMATCH
without a difference that counts changes nothing. (R25, R70, R72, R74, R78, R79, R154, R157, R167, R506) -/
def Obligations.LaneFaultCauses : Prop :=
  ∀ (s : State) (l : Lane),
    (s.ex l ≠ Exec.held → s.ex l ≠ Exec.stopped →
      (∀ g0 g1 : BitVec 8,
        let m : Nat := if (s.ln l).replMode = 1 then 256 else 128
        let a := if s.wasCompared l .h0 = true then g0.toNat % m else 0
        let b := if s.wasCompared l .h1 = true then g1.toNat % m else 0
        (a ≠ 0 ∨ b ≠ 0 → Gives (.coreMismatch l g0 g1) s (fun t => ∃ g, LaneFaulted s t l (if a = 0 then 2 else if b = 0 then 1 else 3) g ∧
          (a.testBit g ∨ b.testBit g) ∧ ∀ j < g, ¬ a.testBit j ∧ ¬ b.testBit j)) ∧
        (a = 0 ∧ b = 0 → Gives (.coreMismatch l g0 g1) s (fun t => t = s)) ∧
        ((s.ln l).testUndo = none → ∀ h, s.wasCompared l h = decide (s.rd (comparedFld l h) = 1))) ∧
      Gives (.delayRegisterFault l) s (fun t => LaneFaulted s t l 6 0) ∧
      Gives (.comparatorFault l) s (fun t => LaneFaulted s t l 5 0) ∧
      Gives (.dualRailFault l) s (fun t => LaneFaulted s t l 9 0) ∧
      Gives (.lanePllLoss l) s (fun t => LaneFaulted s t l 7 0 ∧ t.rd (lockFld l) = 0) ∧
      (∀ (type source : Fin 16) addr syn, Gives (.uncorrectableError l type source addr syn) s (fun t => LaneFaulted s t l 0x0A 0 ∧
        t.rd (Fld.MEM_UNCORR_COUNT_COUNT (.lane l)) = min (2 ^ 32 - 1) (s.rd (Fld.MEM_UNCORR_COUNT_COUNT (.lane l)) + 1) ∧
        ((s.memc.get l).elog.length < 32 → ∃ e ∈ (t.memc.get l).elog, e.type = type.val ∧ e.addr = addr / 64))) ∧
      (∀ d : Fin 9, d.val = 1 + l.num → Gives (.tripleWordFailed d) s (fun t => LaneFaulted s t l 0x0A 0 ∧
        t.rd (Fld.JC_TW_n_STATUS_FAILED d) = 1))) ∧
    (∀ c g, s.ex l = Exec.stopped → (s.ln l).withdrawal = some (c, g, s.clk.uptime) → Gives (.comparatorFault l) s (fun t =>
      (∃ h, (t.ln l).withdrawal = some (min c 5, h, s.clk.uptime)) ∧ t.ex l = Exec.stopped)) ∧
    (s.ex l = Exec.held ∨ s.ex l = Exec.stopped → (∀ c g, (s.ln l).withdrawal ≠ some (c, g, s.clk.uptime)) →
      Gives (.delayRegisterFault l) s (fun t => t = s) ∧ Gives (.comparatorFault l) s (fun t => t = s) ∧
      Gives (.dualRailFault l) s (fun t => t = s) ∧
      Gives (.lanePllLoss l) s (fun t => t.rd (lockFld l) = 0 ∧ OnlyRegs s t ∧ RegsKept [Reg.JC_CLK_STATUS] s t))

/-- A forced-mismatch test at a whole millisecond of uptime in which none was scheduled-run yet, or one that TEST_REQ_RUN asks for, in a
testable lane records both copies' flags in CMP.TEST_LAST; with every flag and every parity report of a compared hart it counts in
CMP.TEST_COUNT and the lane goes on, with one missing the lane faults with cause 4. No scheduled test runs between the milliseconds, and
none in HELD, STOPPED or RECEIVING or with no hart compared. L1_PARITY_ERROR faults the lane with cause 8 in core-and-caches mode; in
core-only mode a single-bit error counts in L1_CORR for its cache, a double-bit one in L1_REFETCH (saturating), and nothing else changes.
CLR_MISSED clears LC.DBG_STATUS.MISSED, CLR_L1 clears L1_CORR and L1_REFETCH. (R71, R75, R76, R78, R79, R91, R92) -/
def Obligations.ComparatorTestsAndCounters : Prop :=
  ∀ (s : State) (l : Lane) (h : Hart) (w : Word) (fa fb : BitVec 16) (d0 d1 : Bool),
    let good := fa = 0xFFFF ∧ fb = 0xFFFF ∧ (s.rd (Fld.CMP_STATUS_H0_COMPARED l) = 1 → d0 = true) ∧
      (s.rd (Fld.CMP_STATUS_H1_COMPARED l) = 1 → d1 = true)
    let result := fun t : State =>
      t.rd (Fld.CMP_TEST_LAST_FLAGS_A l) = fa.toNat ∧ t.rd (Fld.CMP_TEST_LAST_FLAGS_B l) = fb.toNat ∧
      (good → t.rd (Fld.CMP_TEST_COUNT_COUNT l) = (s.rd (Fld.CMP_TEST_COUNT_COUNT l) + 1) % 2 ^ (1 + (Fld.CMP_TEST_COUNT_COUNT l).hi - (Fld.CMP_TEST_COUNT_COUNT l).lo) ∧
        t.ex l = s.ex l ∧ (t.ln l).h0 = (s.ln l).h0 ∧ (t.ln l).h1 = (s.ln l).h1 ∧ t.reg (Reg.LC_FAULT_CAUSE l) = s.reg (Reg.LC_FAULT_CAUSE l)) ∧
      (¬ good → LaneFaulted s t l 4 0)
    let on := (s.ex l = Exec.loading ∨ s.ex l = Exec.running ∨ s.ex l = Exec.splitHalt ∨ s.ex l = Exec.splitRun ∨ s.ex l = Exec.replayHalt ∨
      s.ex l = Exec.replayCheck) ∧ (s.rd (Fld.CMP_STATUS_H0_COMPARED l) = 1 ∨ s.rd (Fld.CMP_STATUS_H1_COMPARED l) = 1)
    (on → s.clk.uptime % 1000000 = 0 → (s.ln l).testRun ≠ some s.clk.uptime → Gives (.forcedMismatchTest l fa fb d0 d1) s result) ∧
    (¬ on ∨ s.clk.uptime % 1000000 ≠ 0 ∨ (s.ln l).testRun = some s.clk.uptime → Gives (.forcedMismatchTest l fa fb d0 d1) s (fun t => t = s)) ∧
    (on → s.mayWrite (.hart l h) (Reg.CMP_TEST_REQ l) = true → Gives (.testReqRun (.hart l h) w fa fb d0 d1) s result) ∧
    (s.mayWrite (.hart l h) (Reg.LC_CNT_CLEAR l) = true →
      Gives (.clrMissed (.hart l h) w) s (fun t => t.rd (Fld.LC_DBG_STATUS_MISSED l) = 0 ∧ t.lane = s.lane ∧
        RegsKept [Reg.LC_CNT_CLEAR l, Reg.LC_DBG_STATUS l, Reg.LC_L1_CORR l, Reg.LC_L1_REFETCH l] s t) ∧
      Gives (.clrL1 (.hart l h) w) s (fun t => t.reg (Reg.LC_L1_CORR l) = 0 ∧ t.reg (Reg.LC_L1_REFETCH l) = 0 ∧ t.lane = s.lane ∧
        RegsKept [Reg.LC_CNT_CLEAR l, Reg.LC_DBG_STATUS l, Reg.LC_L1_CORR l, Reg.LC_L1_REFETCH l] s t)) ∧
    ((s.ln l).replMode = 1 → s.ex l ≠ Exec.held → s.ex l ≠ Exec.stopped → ∀ instr double, Gives (.l1ParityError l instr double) s (fun t => LaneFaulted s t l 8 0)) ∧
    ((s.ln l).replMode ≠ 1 → ∀ instr double, Gives (.l1ParityError l instr double) s (fun t => OnlyRegs s t ∧
      RegsKept [Reg.LC_L1_REFETCH l, Reg.LC_L1_CORR l] s t ∧
      t.rd (Fld.LC_L1_REFETCH_REFETCH l) = (if double then min 65535 (s.rd (Fld.LC_L1_REFETCH_REFETCH l) + 1) else s.rd (Fld.LC_L1_REFETCH_REFETCH l)) ∧
      t.rd (Fld.LC_L1_CORR_IC_CORR l) = (if !double && instr then min 65535 (s.rd (Fld.LC_L1_CORR_IC_CORR l) + 1) else s.rd (Fld.LC_L1_CORR_IC_CORR l)) ∧
      t.rd (Fld.LC_L1_CORR_DC_CORR l) = (if !double && !instr then min 65535 (s.rd (Fld.LC_L1_CORR_DC_CORR l) + 1) else s.rd (Fld.LC_L1_CORR_DC_CORR l))))

/-- For a cycle with no earlier loss of the quorum: with three lanes present and at most one of them differing from the majority in a safety
word, each word of the voted image that is not latched is the bitwise majority of the three copies, MODE reads 0 and SAFE_ALL 0. With two
present, each unlatched word in which they agree carries their value, each in which they disagree carries its last voted value, or its
safe value while nothing was voted yet, and MODE reads 1. With fewer, or with two or three lanes differing in safety words, the last image
is held with MODE 2 while the hold of SAFE_HOLD cycles from k0 lasts, and afterwards, or where nothing was voted, the safe image applies
with MODE 3 and SAFE_ALL 1; the cycle is k0 from then on. (R96, R97, R102, R103, R104) -/
def Obligations.VoteOfTheCycle : Prop :=
  ∀ s : State, s.vote.k0 = none →
    let n := s.outWords
    let a := s.copyOf .A
    let b := s.copyOf .B
    let c := s.copyOf .C
    let maj := fun w : Nat => (a.word (4 * w) &&& b.word (4 * w)) ||| (b.word (4 * w) &&& c.word (4 * w)) ||| (a.word (4 * w) &&& c.word (4 * w))
    let differs := fun l : Lane => ∃ w < n, w ∈ s.cfg.safety ∧ (s.copyOf l).word (4 * w) ≠ maj w
    let t := s.voteCycle
    let held := fun t : State => (s.vote.voted = true ∧ 0 < s.safeHold ∧ s.rd Fld.VT_STATUS_SAFE_ALL = 0 →
        t.vote.out = s.vote.out ∧ t.rd Fld.VT_STATUS_MODE = 2) ∧
      (s.vote.voted = false ∨ s.safeHold = 0 → t.vote.out = s.cfg.safeImg ∧ t.rd Fld.VT_STATUS_MODE = 3 ∧ t.rd Fld.VT_STATUS_SAFE_ALL = 1) ∧
      t.vote.k0 = some s.cyc.k
    (s.numPresent = 3 →
      ((∀ l m : Lane, differs l → differs m → l = m) →
        (∀ w < n, w ∉ t.vote.latched → t.vote.out.word (4 * w) = maj w) ∧ t.rd Fld.VT_STATUS_MODE = 0 ∧ t.rd Fld.VT_STATUS_SAFE_ALL = 0 ∧
        t.vote.k0 = none ∧ t.vote.voted = true) ∧
      ((∃ l m : Lane, differs l ∧ differs m ∧ l ≠ m) → held t)) ∧
    (∀ x y : Lane, lanes.filter (fun l => s.vote.present.get l) = [x, y] →
      (∀ w < n, w ∉ t.vote.latched → (s.copyOf x).word (4 * w) = (s.copyOf y).word (4 * w) → t.vote.out.word (4 * w) = (s.copyOf x).word (4 * w)) ∧
      (∀ w < n, (s.copyOf x).word (4 * w) ≠ (s.copyOf y).word (4 * w) → w ∉ t.vote.latched →
        (s.vote.voted = true → w ∉ s.vote.noVote → t.vote.out.word (4 * w) = s.vote.last.word (4 * w)) ∧
        (s.vote.voted = false → t.vote.out.word (4 * w) = Mem.word s.cfg.safeImg (4 * w))) ∧
      t.rd Fld.VT_STATUS_MODE = 1 ∧ t.vote.k0 = none) ∧
    (s.numPresent < 2 → held t)

/-- In a running cycle of an EJ2 that works: CYCLE_START at a new k begins cycle k with every instant ahead and no input image. Once network
time has reached its instant: INPUT_INSTANT freezes the staging, whose first word is k, and gives it to the lanes as bank k mod 2 (a
standby gives its partner's image of cycle k - 1, and counts a gap where none came); RELEASE_INSTANT with an image shows its CYCLE and
BANK in every lane whose Treadle runs, and changes no lane without one; HANDOVER_START takes each lane's image as published then, marked
as failed or lost; CYCLIC_COMMAND_FRAME_SEND sends every FQ8 each linked lane's bits; COMMIT_INSTANT records as present exactly the VOTING
lanes whose hand-over arrived whole with no halt notice; VOTED_IMAGE_READY puts the image of the vote in force; OUTPUT_INSTANT sends every
FQ8 that answers its message. None of them acts before its instant, twice, or in a stopped cycle. (R33, R35, R36, R37, R45, R93, R96,
R107, R136, R151, R342) -/
def Obligations.CycleInstants : Prop :=
  ∀ s : State, s.ej2Down = false → s.cyc.running = true →
    let at_ := fun jc : Nat => s.cyc.k * s.tCycle + 4 * jc ≤ s.clk.net
    let early := fun (c : Instr) (done : Bool) (jc : Nat) => done = true ∨ ¬ at_ jc → Gives c s (fun t => t = s)
    let given := fun (t : State) (k : Nat) (m : Mem) => t.cyc.image = some k ∧ ∀ l : Lane, ∀ a < s.cfg.sIn, ((t.ln l).bankOf (k % 2)).rb a = m.rb a
    (s.kNow ≠ s.cyc.k → Gives .cycleStart s (fun t => t.cyc = { s.cyc with
      k := s.kNow, inDone := false, relDone := false, handDone := false, cmdDone := false, comDone := false, vrDone := false, outDone := false
      image := none, svcLeft := t.cyc.svcLeft } ∧ t.clk = s.clk)) ∧
    (s.kNow = s.cyc.k → Gives .cycleStart s (fun t => t = s)) ∧
    (s.cyc.inDone = false → at_ s.tIn → Gives .inputInstant s (fun t => t.cyc.inDone = true ∧ t.cyc.k = s.cyc.k ∧ t.clk = s.clk ∧
      t.stage.bytes 0 4 = leBytes 4 (s.cyc.k % 2 ^ 32) ∧ (s.follows = false → given t s.cyc.k t.stage) ∧
      (s.follows = true → (∀ m, lookupN s.dx.inImgs (s.cyc.k - 1) = some m → given t (s.cyc.k - 1) m) ∧
        (lookupN s.dx.inImgs (s.cyc.k - 1) = none → t.cyc.image = s.cyc.image ∧ s.rd Fld.DX_SYNC_STATUS_GAPS ≤ t.rd Fld.DX_SYNC_STATUS_GAPS)))) ∧
    (s.cyc.relDone = false → at_ s.tRel → Gives .releaseInstant s (fun t => t.cyc.relDone = true ∧ t.cyc.k = s.cyc.k ∧ t.clk = s.clk ∧
      (s.cyc.image = none → t.lane = s.lane ∧ t.regs = s.regs) ∧
      (∀ k, s.cyc.image = some k → ∀ l, s.treadleOn l = true → t.rd (Fld.TRD_CYCLE_CYCLE l) = k % 2 ^ 32 ∧ t.rd (Fld.TRD_STATUS_BANK l) = k % 2))) ∧
    (∀ f g : Tri Bool,
      (s.cyc.handDone = false → at_ s.tHand → Gives (.handoverStart f g) s (fun t => t.cyc = { s.cyc with handDone := true } ∧
        (∀ l, s.handsOver l = true → s.inGap = false → (t.ln l).handover = (if g.get l then none else some (f.get l)) ∧
          (t.ln l).held = some (t.forced l 1 (t.ln l).pub)) ∧
        (∀ l, s.handsOver l = false ∨ s.inGap = true → (t.ln l).handover = none ∧ (t.ln l).held = none))) ∧
      (s.cyc.cmdDone = false → at_ (s.tCom - 32) → Gives (.cyclicCommandFrameSend f) s (fun t => t.cyc = { s.cyc with cmdDone := true } ∧
        t.lane = s.lane ∧ t.regs = s.regs ∧ ∀ q < 4, ∀ l : Lane,
          ((s.ln l).cmdLink = false ∨ f.get l = true → (t.fqAt q).arrived.get l = none) ∧
          ((s.ln l).cmdLink = true → f.get l = false → s.cyc.handDone = true → (t.fqAt q).arrived.get l = (s.ln l).held.map (fun m => s.frameBits m q)) ∧
          ((s.ln l).cmdLink = true → f.get l = false → s.cyc.handDone = false → ((t.fqAt q).arrived.get l).isSome = true))) ∧
      early (.handoverStart f g) s.cyc.handDone s.tHand ∧ early (.cyclicCommandFrameSend f) s.cyc.cmdDone (s.tCom - 32)) ∧
    (s.cyc.comDone = false → at_ s.tCom → Gives .commitInstant s (fun t => t.cyc.comDone = true ∧ t.cyc.k = s.cyc.k ∧ t.clk = s.clk ∧
      (s.inGap = false → ∀ l : Lane, t.vote.present.get l = (s.votes l && !s.vote.haltSeen.get l && decide ((s.ln l).handover = some false))))) ∧
    (s.cyc.comDone = true → s.cyc.vrDone = false → at_ s.tVr → Gives .votedImageReady s (fun t => t.cyc.vrDone = true ∧ t.cyc.k = s.cyc.k ∧
      t.clk = s.clk ∧ t.vote.out = (if s.inGap then s.vote.out else s.voteCycle.vote.out) ∧ (s.inGap = false → t.vote.readyAt = s.clk.uptime))) ∧
    (s.cyc.outDone = false → at_ s.tOut → Gives .outputInstant s (fun t => t.cyc.outDone = true ∧ t.cyc.k = s.cyc.k ∧ t.clk = s.clk ∧
      ∀ q < s.fq.length, q < 4 → (s.fqAt q).lost = false → (t.fqAt q).msg = some (s.outMessage q))) ∧
    early .inputInstant s.cyc.inDone s.tIn ∧ early .releaseInstant s.cyc.relDone s.tRel ∧ early .commitInstant s.cyc.comDone s.tCom ∧
    early .votedImageReady s.cyc.vrDone s.tVr ∧ early .outputInstant s.cyc.outDone s.tOut

/-- HALT_NOTICE of a voting lane marks it not counted, and WITHDRAWAL_NOTICE of a lane on its way out during RUN takes the notice; both send
every FQ8 the membership. A voting lane that is no readmission's receiver and counts no relapse is then EXCLUDED with cause 1.
MEMBERSHIP_MESSAGE puts the next message's membership in force at a working FQ8; FQ8_REPORT takes its oldest report. SERVICE_MASTER_CHANGE
at the boundary after the master left puts the first voting lane into office. SAFE_RELEASE waits for the next boundary; SAFE_LATCH_CLEAR
there clears the latch of every word voted without disagreement, and keeps the others. CLR_EXCL and VT_CLR_CNT clear their counters. (R29,
R87, R95, R99, R105, R107, R109, R111, R119) -/
def Obligations.MembershipAndReports : Prop :=
  ∀ (s : State) (i : Initiator) (l : Lane) (q : Fin 4) (w : Word),
    ((s.ln l).haltNotice = true → Gives (.haltNotice l) s (fun t => (t.ln l).haltNotice = false ∧ t.vote.haltSeen.get l = s.votes l ∧
      (∀ x ∈ t.fq, ∃ m, x.inbox.getLast? = some m ∧ m.member.get l = false))) ∧
    (∀ cause group time, (s.ln l).withdrawal = some (cause, group, time) → s.loading = false →
      Gives (.withdrawalNotice l) s (fun t => (t.ln l).withdrawal = none ∧
        (s.member l = Mbr.voting → s.freshVoter l = false → (∀ r, s.vote.readmit = some r → r.receiver ≠ l) → t.member l = Mbr.excluded ∧ t.rd (causeFld l) = 1 ∧
          ∀ x ∈ t.fq, ∃ m, x.inbox.getLast? = some m ∧ m.member.get l = false))) ∧
    (∀ m ms, (getAt FqSt.none s.fq q).inbox = m :: ms → (getAt FqSt.none s.fq q).lost = false → q.val < s.fq.length →
      Gives (.membershipMessage q) s (fun t => getAt FqSt.none t.fq q = { getAt FqSt.none s.fq q with inbox := ms, member := some m.member } ∧
        t = { s with fq := t.fq })) ∧
    (∀ r rs, (getAt FqSt.none s.fq q).reports = r :: rs → q.val < s.fq.length →
      Gives (.fq8Report q) s (fun t => (getAt FqSt.none t.fq q).reports = rs ∧ t.lane = s.lane ∧ t.vote.out = s.vote.out ∧
        (r.direct = false → r.mismatch = true → t.rd Fld.VT_FQ_MISMATCH_COUNT = min (2 ^ (Fld.VT_FQ_MISMATCH_COUNT.hi + 1 - Fld.VT_FQ_MISMATCH_COUNT.lo) - 1) (s.rd Fld.VT_FQ_MISMATCH_COUNT + 1)) ∧
        (r.direct = true → (lookupN t.vote.dHold r.ch).isSome = true))) ∧
    (∀ k, s.cyc.svcLeft = some k → k < s.kNow → Gives .serviceMasterChange s (fun t => t.svcMaster = s.firstVoting ∧ t.cyc.svcLeft = none ∧
      ∀ m, t.rd (Fld.LC_LANE_STATUS_SVC_MASTER m) = if s.firstVoting = some m then 1 else 0)) ∧
    (s.mayWrite i Reg.VT_SAFE_RELEASE = true → Gives (.safeRelease i w) s (fun t => t.vote = { s.vote with release := some s.cyc.k } ∧
      t.response i = .done ∧ t.fq = s.fq)) ∧
    (∀ k, s.vote.release = some k → k < s.cyc.k → s.cyc.vrDone = false → Gives .safeLatchClear s (fun t => t.vote.release = none ∧
      ∀ x, x ∈ t.vote.latched ↔ x ∈ s.vote.latched ∧ (s.vote.voted = false ∨ x ∈ s.vote.disAny))) ∧
    (s.mayWrite i Reg.VT_CNT_CLEAR = true →
      Gives (.clrExcl i w) s (fun t => (∀ m, t.rd (exclFld m) = 0 ∧ t.rd (relapseFld m) = s.rd (relapseFld m) ∧ t.member m = s.member m) ∧ t.vote = s.vote) ∧
      Gives (.vtClrCnt i w) s (fun t => t.reg Reg.VT_CYC_2OO2 = 0 ∧ t.reg Reg.VT_CYC_HOLD = 0 ∧ t.reg Reg.VT_DIS2_COUNT = 0 ∧
        t.reg Reg.VT_FQ_MISMATCH = 0 ∧ t.vote = s.vote))

/-- READMIT_START of an excluded lane with two lanes voting, no update and no readmission running, a page limit and a locked PLL puts the lane
into TRANSFER and RECEIVING with phase FILL and its donor a voting lane; a refused start reports its RESULT only: 2 without two voting
lanes, 7 of a LOCKED lane, 8 while one runs. AUTO_READMIT acts in the same way after the exclusion's boundary. READMIT_FILL_DONE begins
BULK pass 1; BULK_PASS_END of a pass whose pages read without an uncorrectable error goes to FINAL with no more dirty pages than the
limit, and begins the next pass with more. READMIT_REJOIN at cycle j + 1 runs the harts, with PROBATION 0 votes at once. READMIT_ABORT
and, 2 s after START, READMIT_TIMEOUT exclude the receiver with cause 7 and RESULT 5 or 6 (a failure at the relapse limit locks it). (R95,
R110, R111, R112, R113, R114, R115, R116, R117, R506) -/
def Obligations.Readmission : Prop :=
  ∀ (s : State) (i : Initiator) (w : Word) (l : Lane),
    (s.mayWrite i Reg.VT_READMIT = true → wbits w Fld.VT_READMIT_LANE = l.num → wbits w Fld.VT_READMIT_ABORT = 0 →
      (s.numVoting < 2 → Gives (.readmitStart i w) s (fun t => t.rd Fld.VT_READMIT_STATUS_RESULT = 2 ∧ t.lane = s.lane ∧ t.vote = s.vote)) ∧
      (2 ≤ s.numVoting → s.member l = Mbr.locked → Gives (.readmitStart i w) s (fun t => t.rd Fld.VT_READMIT_STATUS_RESULT = 7 ∧ t.lane = s.lane ∧ t.vote = s.vote)) ∧
      (2 ≤ s.numVoting → s.member l ≠ Mbr.locked → s.vote.readmit ≠ none → Gives (.readmitStart i w) s (fun t =>
        t.rd Fld.VT_READMIT_STATUS_RESULT = 8 ∧ t.lane = s.lane ∧ t.vote = s.vote))) ∧
    (2 ≤ s.numVoting → s.member l = Mbr.excluded → s.st.act = none → s.vote.readmit = none → 1 ≤ s.pageLimit → s.pllLocked l = true →
      let begun := fun t : State => t.member l = Mbr.transfer ∧ t.ex l = Exec.receiving ∧ t.rd Fld.VT_READMIT_STATUS_PHASE = 1 ∧
        t.rd Fld.VT_STATUS_READMIT_BUSY = 1 ∧ t.reg (Reg.LC_FAULT_CAUSE l) = 0 ∧ (t.memc.get l).fillStart = some s.clk.uptime ∧
        ∃ r, t.vote.readmit = some r ∧ r.receiver = l ∧ s.votes r.donor = true ∧ r.start = s.clk.uptime
      (s.mayWrite i Reg.VT_READMIT = true → wbits w Fld.VT_READMIT_LANE = l.num → wbits w Fld.VT_READMIT_ABORT = 0 → Gives (.readmitStart i w) s begun) ∧
      (∀ k, s.vote.autoAt.get l = some k → k < s.cyc.k → s.rd Fld.VT_CFG_AUTO_READMIT = 1 → Gives (.autoReadmit l) s begun)) ∧
    (∀ r, s.vote.readmit = some r →
      (s.readmitPhase = 1 → Gives .readmitFillDone s (fun t => t.readmitPhase = 2 ∧ t.rd Fld.VT_READMIT_STATUS_PASS = 1 ∧ t.vote = s.vote)) ∧
      (s.readmitPhase = 2 → (s.memc.get r.donor).chk = [] →
        (r.dirty.length ≤ s.pageLimit → Gives .bulkPassEnd s (fun t => t.readmitPhase = 3 ∧ t.vote = s.vote)) ∧
        (s.pageLimit < r.dirty.length → Gives .bulkPassEnd s (fun t => t.readmitPhase = 2 ∧
          t.vote = { s.vote with readmit := some { r with passPages := r.dirty, dirty := [] } } ∧
          t.rd Fld.VT_READMIT_STATUS_PASS = min 15 (s.rd Fld.VT_READMIT_STATUS_PASS + 1)))) ∧
      (∀ j, r.quiet = some j → s.readmitPhase = 3 → s.cyc.k = j + 1 → (s.ln r.receiver).h1.resetHalt = false → Gives .readmitRejoin s (fun t =>
        t.ex r.receiver = Exec.running ∧ (t.ln r.receiver).egressOpen = true ∧
        (s.rd Fld.VT_CFG_PROBATION = 0 → t.member r.receiver = Mbr.voting ∧ t.vote.readmit = none) ∧
        (s.rd Fld.VT_CFG_PROBATION ≠ 0 → t.member r.receiver = Mbr.probation ∧ t.readmitPhase = 4))) ∧
      (s.mayWrite i Reg.VT_READMIT = true → wbits w Fld.VT_READMIT_START = 0 → Gives (.readmitAbort i w) s (fun t =>
        t.vote.readmit = none ∧ t.member r.receiver = Mbr.excluded ∧ t.rd (causeFld r.receiver) = 7 ∧ t.rd Fld.VT_READMIT_STATUS_RESULT = 5)) ∧
      (r.start + 2000000000 ≤ s.clk.uptime → s.readmitPhase ≠ 4 → Gives .readmitTimeout s (fun t => t.vote.readmit = none ∧
        (t.member r.receiver = Mbr.excluded ∨ t.member r.receiver = Mbr.locked ∧ s.rd Fld.VT_CFG_RELAPSE_MAX ≠ 0) ∧ t.rd (causeFld r.receiver) = 7 ∧ t.rd Fld.VT_READMIT_STATUS_RESULT = 6)))

/-- In a lane whose Treadle works: EVENT_NOTICE holds the oldest notice that arrived, EVENT_TASK_RELEASE at its instant r makes an idle task
READY with the event's span and data and drops the notice. DISPATCH by HART_0 of the task that TRD.NEXT names makes it RUNNING and the one
it interrupts PREEMPTED; any other number is ignored. DONE of the running task (in a lane whose DDR4 holds no placed check bits, so that a
capture that follows meets no error) ends it: DONE, or IDLE where its release was suppressed, and no task runs. CLR_RESP sets every RESP
to its reset value, TRD_CLR_CNT every CNT to zero. A notice to a lane whose Treadle stands, or after a power-fail warning, is dropped.
(R126, R127, R128, R131, R134, R149, R151) -/
def Obligations.TreadleTasks : Prop :=
  ∀ (s : State) (l : Lane) (w : Word),
    (∀ x xs, (s.ln l).inbox = x :: xs →
      (s.treadleOn l = true → s.rd (Fld.TRD_STATUS_HALT_REL l) = 0 → s.taskMayRun x.task = true → (s.ln l).h0.halted = false → s.paused = false →
        Gives (.eventNotice l) s (fun t => (t.ln l).inbox = xs ∧ (t.ln l).notices = (s.ln l).notices ++ [x] ∧ t.rd ⟨taskStat l x.task, 27, 27⟩ = 1 ∧
          ∀ m, m ≠ l → t.ln m = s.ln m)) ∧
      (s.treadleOn l = false ∨ s.rd (Fld.TRD_STATUS_HALT_REL l) = 1 →
        Gives (.eventNotice l) s (fun t => t = s.setLn l { s.ln l with inbox := xs }))) ∧
    (∀ (n : Fin 16) (x : Notice), s.treadleOn l = true → (s.ln l).notices.find? (fun y => y.task == 8 + n.val && decide (y.r ≤ s.clk.net)) = some x →
      s.taskMayRun (8 + n.val) = true → s.paused = false → s.rd (Fld.TRD_STATUS_HALT_REL l) = 0 → (s.ln l).h0.halted = false →
      (s.taskState l (8 + n.val) = Task.idle ∨ s.taskState l (8 + n.val) = Task.done) →
      Gives (.eventTaskRelease n) s (fun t => t.taskState l (8 + n.val) = Task.ready ∧ x ∉ (t.ln l).notices ∧
        t.reg (Reg.TRD_ET_n_EVT_DATA l n) = x.data ∧ t.reg (Reg.TRD_ET_n_EVT_SPAN l n) = BitVec.ofNat 32 x.span)) ∧
    (s.mayWrite (.hart l .h0) (Reg.TRD_DISPATCH l) = true →
      let k := wbits w (Fld.TRD_DISPATCH_TASK l)
      (s.rd (Fld.TRD_NEXT_VALID l) = 1 → s.rd (Fld.TRD_NEXT_TASK l) = k → k < 24 →
        Gives (.dispatch (.hart l .h0) w) s (fun t => t.taskState l k = Task.running ∧ (t.ln l).curTask = some k ∧
          (∀ c, (s.ln l).curTask = some c → c < 24 → c ≠ k → t.taskState l c = Task.preempted) ∧
          (∀ u < 24, u ≠ k → (s.ln l).curTask ≠ some u → t.taskState l u = s.taskState l u) ∧ ∀ m, m ≠ l → t.ln m = s.ln m)) ∧
      (s.rd (Fld.TRD_NEXT_VALID l) = 0 ∨ s.rd (Fld.TRD_NEXT_TASK l) ≠ k →
        Gives (.dispatch (.hart l .h0) w) s (fun t => OnlyRegs s t ∧ RegsKept [Reg.TRD_DISPATCH l] s t))) ∧
    (s.mayWrite (.hart l .h0) (Reg.TRD_DONE l) = true →
      (let k := wbits w (Fld.TRD_DONE_TASK l)
       ((s.ln l).curTask = some k → k < 24 → (s.memc.get l).chk = [] →
        Gives (.done (.hart l .h0) w) s (fun t => (t.ln l).curTask = none ∧
          t.taskState l k = (if (s.task l k).stale then Task.idle else Task.done) ∧
          (∀ u < 24, u ≠ k → t.taskState l u = s.taskState l u) ∧ ∀ m, m ≠ l → t.ln m = s.ln m)))) ∧
    (s.mayWrite (.hart l .h0) (Reg.TRD_CNT_CLEAR l) = true →
      Gives (.clrResp (.hart l .h0) w) s (fun t => (∀ k < 24, t.reg (taskResp l k) = 0xFFFF) ∧ t.lane = s.lane) ∧
      Gives (.trdClrCnt (.hart l .h0) w) s (fun t => (∀ k < 24, t.reg (taskCnt l k) = 0) ∧ t.lane = s.lane))

/-- CHG_SUBMIT while a block is pending reports 9; of a block with a failing record it reports that check's code, without it the block is
pending with BUSY 1; in each case nothing is applied. CHANGE_BLOCK_STAGED stages the pending block in a working lane and takes its
acknowledgement. CHANGE_STAGE_TIMEOUT 8 cycles after submission, not announced and not staged everywhere, drops the block in every lane
with RESULT 0xA. RETAINED_SAVE_DUE asks for a save every RET_PERIOD cycles in RUN. PF_CAPTURE_TIMEOUT 5 ms after a warning captures a
voting lane whose DDR4 holds no placed check bits with INCOMPLETE. RETAINED_CAPTURE_DONE writes the majority of three copies, with its
size and check, into the alternate MRAM copy, the other stays. (R140, R141, R142, R148, R149) -/
def Obligations.ChangesAndRetainedCopies : Prop :=
  ∀ (s : State) (i : Initiator) (w : Word) (l : Lane),
    (s.mayWrite i Reg.UPD_CHG_CTRL = true →
      (∀ b, s.chg.block = some b → Gives (.chgSubmit i w) s (fun t => t.rd Fld.UPD_CHG_STATUS_RESULT = 9 ∧ t.chg = s.chg ∧ t.lane = s.lane)) ∧
      (s.chg.block = none → 1 ≤ s.chgBlock.recs.length → s.chgBlock.recs.length ≤ 16 →
        (∀ c < 16, s.chgCheckAll s.chgBlock.recs s.forcedWords = some c →
          Gives (.chgSubmit i w) s (fun t => t.rd Fld.UPD_CHG_STATUS_RESULT = c ∧ t.chg = s.chg ∧ t.lane = s.lane)) ∧
        (s.chgCheckAll s.chgBlock.recs s.forcedWords = none →
          Gives (.chgSubmit i w) s (fun t => t.rd Fld.UPD_CHG_STATUS_RESULT = 0 ∧ t.rd Fld.UPD_CHG_STATUS_BUSY = 1 ∧
            t.rd Fld.UPD_CHG_STATUS_SEQ = s.chgBlock.seq ∧
            t.chg = { s.chg with block := some s.chgBlock, announced := false, acks := Tri.all false, since := s.cyc.k } ∧ t.lane = s.lane)))) ∧
    (∀ b, s.chg.block = some b →
      (s.treadleOn l = true → Gives (.changeBlockStaged l) s (fun t => (t.ln l).staged = some b ∧ t.chg = { s.chg with acks := s.chg.acks.put l true } ∧
        t.regs = s.regs ∧ ∀ m, m ≠ l → t.ln m = s.ln m)) ∧
      (s.chg.since + 8 ≤ s.cyc.k → s.chg.announced = false → (∃ m ∈ s.stagers, s.chg.acks.get m = false) →
        Gives .changeStageTimeout s (fun t => t.chg = { s.chg with block := none } ∧ t.rd Fld.UPD_CHG_STATUS_RESULT = 0xA ∧
          t.rd Fld.UPD_CHG_STATUS_BUSY = 0 ∧ ∀ m, t.ln m = { s.ln m with staged := none }))) ∧
    (s.cfg.retPeriod ≠ 0 → s.phase = Phase.run → s.cyc.k % s.cfg.retPeriod = 0 →
      Gives .retainedSaveDue s (fun t => t = { s with chg := { s.chg with saveDue := true } })) ∧
    (∀ x, s.pfWarnAt = some x → x + 5000000 ≤ s.clk.uptime → (s.ln l).pfCaptured = false → s.votes l = true → (s.memc.get l).chk = [] →
      Gives (.pfCaptureTimeout l) s (fun t => t.chg.capture.get l = some (s.retained l) ∧ t.chg.capIncomplete = true ∧ (t.ln l).pfCaptured = true ∧
        t.regs = s.regs ∧ ∀ m, m ≠ l → t.ln m = s.ln m ∧ t.chg.capture.get m = s.chg.capture.get m)) ∧
    (∀ a b c, s.chg.capture = ⟨some a, some b, some c⟩ →
      Gives .retainedCaptureDone s (fun t =>
        let cp := if (s.chg.saveSeq + 1) % 2 = 0 then t.mramA else t.mramB
        let other := if (s.chg.saveSeq + 1) % 2 = 0 then t.mramB = s.mramB else t.mramA = s.mramA
        cp.data = majBytes a b c ∧ cp.valid = true ∧ cp.seq = s.chg.saveSeq + 1 ∧ cp.incomplete = s.chg.capIncomplete ∧ cp.diffs = 0 ∧
        cp.size = (majBytes a b c).length ∧ cp.crc = cp.check ∧ other ∧
        t.chg.saveSeq = s.chg.saveSeq + 1 ∧ t.chg.capture = Tri.all none ∧ t.regs = s.regs ∧ t.lane = s.lane))

/-- For a hart that is up, whose clock runs, that does not single-step, with its pc in scratch and fetch allowed: an integer operation writes
its result to rd and nothing else but the pc (4 on) and minstret; x0 always reads zero. A store to scratch writes the register little-
endian at its address and no other byte; a load reads it back into rd. SC without a reservation writes 1 and no byte. ECALL and an illegal
instruction trap: mepc holds the pc, mcause the cause, the mode is machine, the pc mtvec's base. MRET returns to mepc. WFI without a
pending interrupt stops the clock; HART_INTERRUPT starts it again and, where enabled, traps. A hart that is not up executes nothing. (R28,
R61, R62, R63, R65, R66, R68, R69, R83) -/
def Obligations.HartExecution : Prop :=
  ∀ (s : State) (l : Lane) (h : Hart),
    let x := s.hart l h
    let run := s.hartUp l h = true ∧ x.gated = false ∧ x.step = false ∧ 0x08000000 ≤ x.pc.toNat ∧ x.pc.toNat + 4 ≤ 0x08100000 ∧
      x.pmpAllows x.machine 4 x.pc.toNat 2 = true ∧ x.pmpAllows x.machine 4 (x.pc.toNat + 2) 2 = true
    let next := fun t : State => (t.hart l h).pc = x.pc + 4 ∧ (t.hart l h).csrRaw csrMinstret = x.csrRaw csrMinstret + 1 ∧
      (t.hart l h).xr 0 = 0 ∧ (t.hart l h).machine = x.machine ∧ t.regs = s.regs ∧ t.jddr = s.jddr ∧ (∀ m, m ≠ l → t.ln m = s.ln m) ∧
      ∀ g, g ≠ h → t.hart l g = s.hart l g
    let trapped := fun (cause : BitVec 64) (t : State) => (t.hart l h).csrRaw csrMepc = x.pc ∧ (t.hart l h).csrRaw csrMcause = cause ∧
      (t.hart l h).machine = true ∧ (t.hart l h).pc = x.csrRaw csrMtvec &&& ~~~3#64 ∧ (∀ r, (t.hart l h).xr r = x.xr r) ∧ t.regs = s.regs
    (run →
      (∀ op rd a b, Gives (.hartInstruction l h (.alu op rd a b) false []) s (fun t => next t ∧
        (rd ≠ 0 → (t.hart l h).xr rd = aluResult op (x.xr a) (x.xr b)) ∧ (∀ r, r ≠ rd → (t.hart l h).xr r = x.xr r) ∧
        (t.ln l).scratch = (s.ln l).scratch ∧ (t.ln l).ddr = (s.ln l).ddr)) ∧
      (∀ a b (off : BitVec 64), let d := (x.xr a + off).toNat
        0x08000000 ≤ d → d + 8 ≤ 0x08100000 → x.dataTrap false .store d 8 = none →
        (∀ g, (s.hart l g).resv = none) →
        Gives (.hartInstruction l h (.store 3 a b off) false []) s (fun t => next t ∧ (t.ln l).scratch.num d 8 = (x.xr b).toNat ∧
          (∀ y, y < d ∨ d + 8 ≤ y → (t.ln l).scratch.rb y = (s.ln l).scratch.rb y) ∧ (t.ln l).ddr = (s.ln l).ddr ∧
          ∀ r, (t.hart l h).xr r = x.xr r)) ∧
      (∀ rd a (off : BitVec 64), let d := (x.xr a + off).toNat
        0x08000000 ≤ d → d + 8 ≤ 0x08100000 → x.dataTrap false .load d 8 = none →
        Gives (.hartInstruction l h (.load 3 false rd a off) false []) s (fun t => next t ∧
          (rd ≠ 0 → (t.hart l h).xr rd = BitVec.ofNat 64 ((s.ln l).scratch.num d 8)) ∧ (∀ r, r ≠ rd → (t.hart l h).xr r = x.xr r) ∧
          (t.ln l).scratch = (s.ln l).scratch ∧ (t.ln l).ddr = (s.ln l).ddr)) ∧
      (∀ rd a b, x.resv = none → x.dataTrap false .store (x.xr a).toNat 8 = none →
        Gives (.hartInstruction l h (.sc true rd a b) false []) s (fun t => next t ∧ (rd ≠ 0 → (t.hart l h).xr rd = 1) ∧
          (t.ln l).scratch = (s.ln l).scratch ∧ (t.ln l).ddr = (s.ln l).ddr)) ∧
      Gives (.hartInstruction l h .ecall false []) s (trapped (if x.machine then 11 else 8)) ∧
      (∀ w, Gives (.hartInstruction l h (.illegal w) false []) s (trapped 2)) ∧
      (x.machine = true → Gives (.hartInstruction l h .mret false []) s (fun t => (t.hart l h).pc = x.csrRaw csrMepc ∧
        (t.hart l h).machine = (bitsOf (x.csrRaw csrMstatus).toNat 12 11 == 3) ∧ ∀ r, (t.hart l h).xr r = x.xr r)) ∧
      (x.machine = true → Gives (.wfi l h) s (fun t => next t ∧ (t.hart l h).gated = x.pendingIrq.isNone ∧ ∀ r, (t.hart l h).xr r = x.xr r))) ∧
    (s.hartUp l h = true → ∀ b, x.pendingIrq = some b →
      Gives (.hartInterrupt l h) s (fun t => (t.hart l h).gated = false ∧
        (x.irqOpen = true → x.step = false → (t.hart l h).csrRaw csrMepc = x.pc ∧ (t.hart l h).csrRaw csrMcause = BitVec.ofNat 64 (b + 2 ^ 63) ∧
          (t.hart l h).machine = true) ∧
        (x.irqOpen = false → (t.hart l h).pc = x.pc ∧ (t.hart l h).csr = x.csr))) ∧
    (s.hartUp l h = false → ∀ op short ahead, Gives (.hartInstruction l h op short ahead) s (fun t => t = s) ∧
      Gives (.wfi l h) s (fun t => t = s) ∧ Gives (.hartInterrupt l h) s (fun t => t = s))

/-- Without the maintenance strap HALTREQ, RESUMEREQ, RESETHALTREQ, NDMRESET, ABSTRACT_COMMAND, TRIGGER_ARM and SINGLE_STEP change nothing.
With it, HALTREQ of a running hart halts it, dpc holding its pc, where the lane does not vote, nothing is permitted or the lane holds the
grant; else the request waits for the grant. DEBUG_GRANT_ANSWER gives the grant while three lanes vote and no other lane holds it or asked
in the same jc before this one, and the halt takes effect; else HALT_REFUSED is set and the harts run on. RESUMEREQ continues at dpc.
NDMRESET faults the lane with cause 0x0C. ABSTRACT_COMMAND reads and writes a halted hart's registers, and gives cmderr 4 of a running
one. TRIGGER_ARM, TRIGGER_HIT, SINGLE_STEP and REPLAY_TIMEOUT act by R85 and R90. (R84, R85, R86, R87, R88, R90) -/
def Obligations.DebugModule : Prop :=
  ∀ (s : State) (l : Lane) (h : Hart),
    let x := s.hart l h
    (s.strap = false → ∀ b dw tr wr pe rn arg pr (tg : Fin 4) v dc op sh, Gives (.haltreq l h) s (fun t => t = s) ∧ Gives (.resumereq l h) s (fun t => t = s) ∧
      Gives (.resethaltreq l h b) s (fun t => t = s) ∧ Gives (.ndmreset l) s (fun t => t = s) ∧
      Gives (.abstractCommand l h dw tr wr pe rn arg pr) s (fun t => t = s) ∧ Gives (.triggerArm l h tg v dc) s (fun t => t = s) ∧
      Gives (.singleStep l h op sh) s (fun t => t = s)) ∧
    (s.strap = true → s.laneLive l = true → x.halted = false →
      (s.mayHalt l = true → Gives (.haltreq l h) s (fun t => (t.hart l h).halted = true ∧ (t.hart l h).csrRaw csrDpc = x.pc ∧
        t.rd (haltedFld l h) = 1 ∧ ∀ m, m ≠ l → t.ln m = s.ln m)) ∧
      (s.mayHalt l = false → (s.ln l).dbgReq = none → Gives (.haltreq l h) s (fun t => t = s.setLn l { s.ln l with dbgReq := some (.halt h), dbgAt := s.clk.uptime }))) ∧
    ((s.ln l).dbgReq = some (.halt h) →
      let first := ∀ o, o.num < l.num → (s.ln o).dbgReq = none ∨ (s.ln o).dbgAt ≠ (s.ln l).dbgAt
      (s.numVoting = 3 → (s.vote.grant = none ∧ first ∨ s.vote.grant = some l) → x.halted = false → Gives (.debugGrantAnswer l) s (fun t => t.vote.grant = some l ∧
        t.rd (Fld.LC_DBG_STATUS_GRANT l) = 1 ∧ (t.hart l h).halted = true ∧ (t.ln l).dbgReq = none)) ∧
      (s.numVoting < 3 ∨ (∃ m, m ≠ l ∧ s.vote.grant = some m) ∨ (s.vote.grant = none ∧ ¬ first) → Gives (.debugGrantAnswer l) s (fun t => t.vote = s.vote ∧
        t.rd (Fld.LC_DBG_STATUS_HALT_REFUSED l) = 1 ∧ t.lane = (s.setLn l { s.ln l with dbgReq := none }).lane))) ∧
    (s.strap = true → x.halted = true → Gives (.resumereq l h) s (fun t => (t.hart l h).halted = false ∧ (t.hart l h).pc = x.csrRaw csrDpc ∧
      ∀ m, m ≠ l → t.ln m = s.ln m)) ∧
    (s.strap = true → ∀ b, Gives (.resethaltreq l h b) s (fun t => t.hart l h = { x with resetHalt := b } ∧ t.regs = s.regs)) ∧
    (s.strap = true → s.mayHalt l = true → s.ex l ≠ Exec.held → s.ex l ≠ Exec.stopped → Gives (.ndmreset l) s (fun t => LaneFaulted s t l 0x0C 0)) ∧
    (s.strap = true → (s.ln l).dm.cmderr = 0 → ∀ (r : Fin 32) (rn : Fin 65536) arg pr, rn.val = 0x1000 + r.val →
      (x.halted = true →
        Gives (.abstractCommand l h true true false false rn arg pr) s (fun t => (t.ln l).dm.data = x.xr r ∧ t.hart l h = x ∧ t.regs = s.regs) ∧
        Gives (.abstractCommand l h true true true false rn arg pr) s (fun t => (t.hart l h).xr r = (if r = 0 then 0 else arg) ∧
          (∀ q, q ≠ r → (t.hart l h).xr q = x.xr q) ∧ t.regs = s.regs)) ∧
      (x.halted = false → Gives (.abstractCommand l h true true false false rn arg pr) s (fun t => (t.ln l).dm.cmderr = 4 ∧ t.hart l h = x))) ∧
    (s.strap = true → x.triggers.length = 4 → s.votes l = false → ∀ (tg : Fin 4) v, Gives (.triggerArm l h tg v none) s (fun t =>
      (t.hart l h).triggers[tg.val]? = some v ∧ (t.hart l h).x = x.x ∧ (t.hart l h).pc = x.pc)) ∧
    (∀ (tg : Fin 4) v, x.triggers[tg.val]? = some v → (if x.machine then v.m else v.u) = true → s.hartUp l h = true → x.gated = false →
      (v.action = 0 → x.step = false → Gives (.triggerHit l h tg) s (fun t => (t.hart l h).csrRaw csrMcause = 3 ∧ (t.hart l h).csrRaw csrMepc = x.pc ∧
        (t.hart l h).halted = false)) ∧
      (v.action = 1 → s.mayHalt l = true → Gives (.triggerHit l h tg) s (fun t => (t.hart l h).halted = true ∧ (t.hart l h).csrRaw csrDpc = x.pc))) ∧
    (s.strap = true → x.halted = true → (x.csrRaw csrDcsr).toNat.testBit 2 = true → bitsOf (x.csrRaw csrDcsr).toNat 1 0 = 3 → s.laneLive l = true →
      0x08000000 ≤ (x.csrRaw csrDpc).toNat → (x.csrRaw csrDpc).toNat + 4 ≤ 0x08100000 → (∀ i < 16, x.pmpMode i = 0) →
      Gives (.singleStep l h .fence false) s (fun t => (t.hart l h).halted = true ∧ (t.hart l h).csrRaw csrDpc = x.csrRaw csrDpc + 4 ∧
        ∀ r, (t.hart l h).xr r = x.xr r)) ∧
    (∀ y, (s.ln l).resumeAt = some y → s.ex l = Exec.replayCheck → y + 2000000000 ≤ s.clk.uptime → s.vote.agree.get l < 8 → Gives (.replayTimeout l) s (fun t => LaneFaulted s t l 1 0))

/-- IDCODE scans out the device's identity code with its silicon step, SAMPLE_PRELOAD captures the boundary register (a free value), BYPASS
and every unlisted code scan out 0, in every state, and leave every register of the module alone. EXTEST, CLAMP and HIGHZ with the
maintenance strap and PERMITS 0 load 3, 4 and 5 and lock the TAP until a module start; else the TAP loads BYPASS and SCAN_REFUSED is set.
TAP_RESET puts every TAP to IDCODE and keeps the lock. DTMCS scans out version 1, abits 7, idle 1. DMI reads and writes the debug module's
data0 with the strap; without it dmstatus reads zero and writes change no debug module. MAINT_STRAP_CHANGE shows the strap and, on
removal, resumes every halted hart. (R31, R84, R85, R496, R498, R499) -/
def Obligations.TestAccessPorts : Prop :=
  ∀ (s : State) (p : Fin 8) (l : Lane), s.st.taps.length = 8 → s.st.tapLock.length = 8 → s.st.scan.length = 8 →
    let code := fun t : State => getAt 0 t.st.taps p
    let byp := if p.val = 0 then 0xFF else if p.val < 4 then 0x1F else 0xF
    let test := fun (c : Instr) (n : Nat) => Gives c s (fun t =>
      (s.strap = true → s.rd Fld.JC_MOD_STATUS_PERMITS = 0 → code t = n ∧ getAt false t.st.tapLock p = true ∧ t.regs = s.regs) ∧
      (s.strap = false ∨ s.rd Fld.JC_MOD_STATUS_PERMITS = 1 → code t = byp ∧ t.rd Fld.TT_STATUS_SCAN_REFUSED = 1 ∧ t.st.tapLock = s.st.tapLock ∧
        RegsKept [Reg.TT_STATUS] s t))
    Gives (.idcode p) s (fun t => code t = 1 ∧ t.regs = s.regs ∧ t.lane = s.lane ∧
      getAt 0 t.st.scan p = (if p.val = 0 then 0x02E02B47 else if p.val < 4 then 0x02B03B47 else 0x02F08B47) + s.tapStep p % 16 * 2 ^ 28) ∧
    Gives (.samplePreload p) s (fun t => code t = 2 ∧ getAt 0 t.st.scan p = s.takeFree.1.toNat ∧ t.free = s.free + 1 ∧ t.regs = s.regs ∧ t.lane = s.lane) ∧
    test (.extest p) 3 ∧ test (.clamp p) 4 ∧ test (.highz p) 5 ∧
    (∀ c : Byte, tapListed p (c.toNat % 2 ^ tapBits p) = false → Gives (.bypass p c) s (fun t => code t = byp ∧ getAt 0 t.st.scan p = 0 ∧ t.regs = s.regs ∧ t.lane = s.lane)) ∧
    Gives .tapReset s (fun t => t.st.taps = List.replicate 8 1 ∧ t.st.tapLock = s.st.tapLock ∧ t.regs = s.regs) ∧
    (∀ w, Gives (.dtmcs l w) s (fun t => getAt 0 t.st.scan (1 + l.num) = 0x1071 ∧ getAt 0 t.st.taps (1 + l.num) = 0x10 ∧ t.lane = s.lane ∧ t.regs = s.regs)) ∧
    (s.strap = false → ∀ a d pr,
      Gives (.dmi l 0x11 d 1 pr) s (fun t => getAt 0 t.st.scan (1 + l.num) = 0x11 * 2 ^ 34 ∧ t.lane = s.lane) ∧
      Gives (.dmi l a d 2 pr) s (fun t => t.lane = s.lane ∧ t.regs = s.regs)) ∧
    (s.strap = true → ∀ d pr,
      Gives (.dmi l 0x04 d 1 pr) s (fun t => getAt 0 t.st.scan (1 + l.num) = 0x04 * 2 ^ 34 + (s.ln l).dm.data.toNat % 2 ^ 32 * 4 ∧ t.lane = s.lane ∧ t.regs = s.regs) ∧
      ((s.ln l).dm.active = true → Gives (.dmi l 0x04 d 2 pr) s (fun t => (t.ln l).dm.data.toNat % 2 ^ 32 = d.toNat ∧ t.regs = s.regs ∧
        ∀ m, m ≠ l → t.ln m = s.ln m))) ∧
    Gives (.maintStrapChange true) s (fun t => t.rd Fld.JC_PWR_STATUS_MAINT_STRAP = 1 ∧ (∀ m, t.rd (Fld.LC_DBG_STATUS_STRAP m) = 1) ∧ t.lane = s.lane) ∧
    Gives (.maintStrapChange false) s (fun t => t.rd Fld.JC_PWR_STATUS_MAINT_STRAP = 0 ∧ (∀ m, t.rd (Fld.LC_DBG_STATUS_STRAP m) = 0) ∧
      ∀ m, (t.ln m).h0.halted = false ∧ (t.ln m).h1.halted = false)

/-- POWER_ON begins a counted start in RESET at uptime 0, nothing kept but flash and MRAM. RESET_EXIT of a powered module with the contact
open and the input in range enters JUNCTION, where the plane runs its self-test. JUNCTION_IMAGE_LOADED loads the valid copy of higher
version and goes on to PLUG, or enters RECOVERY with code 8 where no copy is valid, code 0xD after a recovery restart. PLUG_READ_DONE with
a failed plug enters RECOVERY with its code; with a conflict of the loaded contents, code 4 or 5; otherwise the configuration is sealed
and its digest shown. SELFTEST_DONE puts the plane into LOAD or SAFE; PLANE_TABLE_RECEIVED with a good table puts it into HOLD and the
start into FILL, or into LOAD in a warm start, with every lane of a locked PLL LOADING; with another it is SAFE and the start RECOVERY
with code 7. PLANE_RELEASE lets the plane run on the release message. (R464, R465, R468, R469, R470, R480, R307, R316) -/
def Obligations.StartPhases : Prop :=
  ∀ (s : State) (p : PlugRead) (tab : List Byte) (ok : Bool),
    Gives .powerOn s (fun t => t.phase = Phase.reset ∧ t.clk.uptime = 0 ∧ t.rd Fld.UPD_START_STATUS_STARTS = 1 ∧ t.isSealed = false ∧
      t.pending = s.pending ∧ t.mramA = s.mramA ∧ t.mramB = s.mramB ∧
      ∀ l, t.member l = Mbr.init ∧ t.ex l = Exec.held ∧ (t.ln l).flash = s.flashKept l) ∧
    (s.testMode = false →
      (s.phase = Phase.reset → s.st.powered = true → s.st.contact = false → s.st.overvolt = false → Gives .resetExit s (fun t =>
        t.phase = Phase.junction ∧ t.rd Fld.JC_PWR_STATUS_HOLDUP_OK = 1 ∧ t.rd Fld.JC_CLK_STATUS_JPLL_LOCK = 1 ∧ t.plane.st = PSt.selftest ∧
        t.lane = s.lane ∧ (s.st.fromPower = true → t.jmem.fillStart = some s.clk.uptime))) ∧
      (s.phase = Phase.junction → s.jmem.fillStart = none →
        (s.junctionCopy = none → Gives .junctionImageLoaded s (fun t => t.phase = Phase.recovery ∧ t.rd Fld.UPD_START_STATUS_LAST_CODE = 8)) ∧
        (∀ c, s.junctionCopy = some c →
          (s.st.recover = true → Gives .junctionImageLoaded s (fun t =>
            t.phase = Phase.recovery ∧ t.rd Fld.UPD_START_STATUS_LAST_CODE = 0xD ∧ t.rd Fld.UPD_JFLASH_LOADED = c)) ∧
          (s.st.recover = false → Gives .junctionImageLoaded s (fun t => t.phase = Phase.plug ∧ t.rd Fld.UPD_JFLASH_LOADED = c ∧
            t.lane = s.lane ∧ RegsKept [Reg.UPD_START_STATUS, Reg.UPD_JFLASH] s t)))) ∧
      (s.phase = Phase.plug →
        (plugCode p ≠ 0 → Gives (.plugReadDone p) s (fun t => t.phase = Phase.recovery ∧ t.rd Fld.UPD_START_STATUS_LAST_CODE = plugCode p ∧
          t.isSealed = s.isSealed)) ∧
        (plugCode p = 0 → (∀ y ∈ p.cfg.scheds, ∀ e ∈ y.entries, e.1 < 256) →
          let x := ((s.setPhase Phase.seal).modSt (fun x => { x with plugOk := true, recAddr := p.recAddr })).loadPlug p
          Gives (.plugReadDone p) s (fun t => if x.sealConflict ≠ none then t.phase = Phase.recovery ∧ t.rd Fld.UPD_START_STATUS_LAST_CODE = 4
            else if x.schedConflict ≠ none then t.phase = Phase.recovery ∧ t.rd Fld.UPD_START_STATUS_LAST_CODE = 5
            else t.phase = Phase.seal ∧ t.isSealed = true ∧ t.st.tableSent = true ∧
              ∀ n < 8, t.reg (Reg.JC_DIGEST_n n) = BitVec.ofNat 32 (leNat (sliceB (plugDigest p.bytes (fun _ => true)) (4 * n) 4))))) ∧
      (s.plane.st = PSt.selftest →
        Gives (.selftestDone true) s (fun t => t.plane = { s.plane with st := PSt.load } ∧ t.rd Fld.AX_STATUS_STATE = PSt.load ∧
          RegsKept [Reg.AX_STATUS] s t ∧ t.lane = s.lane) ∧
        (s.phase ≤ Phase.seal → Gives (.selftestDone false) s (fun t => t.plane.st = PSt.safe ∧ t.rd Fld.AX_STATUS_CAUSE = 1 ∧
          t.phase = Phase.recovery ∧ t.rd Fld.UPD_START_STATUS_LAST_CODE = 7))) ∧
      (s.plane.st = PSt.load → s.st.tableSent = true → s.phase = Phase.seal →
        (ok = true → tableOk tab = true →
          (s.startsWarm = false → Gives (.planeTableReceived tab ok) s (fun t => t.plane.st = PSt.hold ∧ t.rd Fld.AX_STATUS_STATE = PSt.hold ∧
            t.phase = Phase.fill ∧ ∀ l, (t.memc.get l).fillStart = some s.clk.uptime)) ∧
          (s.startsWarm = true → Gives (.planeTableReceived tab ok) s (fun t => t.plane.st = PSt.hold ∧ t.phase = Phase.load ∧
            ∀ l, t.ex l = if s.pllLocked l then Exec.loading else s.ex l))) ∧
        (ok = false ∨ tableOk tab = false → Gives (.planeTableReceived tab ok) s (fun t => t.plane.st = PSt.safe ∧
          t.rd Fld.AX_STATUS_CAUSE = 2 ∧ t.phase = Phase.recovery ∧ t.rd Fld.UPD_START_STATUS_LAST_CODE = 7)))) ∧
    (s.plane.st = PSt.hold → s.st.relSent = true → Gives .planeRelease s (fun t => t.plane = { s.plane with st := PSt.run } ∧
      t.rd Fld.AX_STATUS_STATE = PSt.run ∧ RegsKept [Reg.AX_STATUS] s t ∧ t.lane = s.lane))

/-- LANE_DIGEST_REPORT of a loading lane of a cold start loads its flash image where that passes the checks and records the report, while
another lane is still awaited. LOAD_TIMEOUT, 5 s after LOAD began, ends the wait: with the plane in HOLD and its digest equal to that of
the plug, and two or three lanes agreeing, each agreeing lane enters VOTING and RUNNING and each other lane EXCLUDED, PERMITS is set and
the cycles run; with fewer agreeing lanes, or a plane that does not agree, the start enters RECOVERY and no lane votes by it. Before 5 s
nothing happens. (R465, R466, R467, R470, R473) -/
def Obligations.DigestAgreement : Prop :=
  ∀ (s : State) (l : Lane) (digest : List Byte) (planeOk : Bool),
    (s.loading = true → s.laneDone l = false → s.st.resuming = false → s.startsWarm = false → (∃ m, m ≠ l ∧ s.laneDone m = false) →
      Gives (.laneDigestReport l digest planeOk) s (fun t =>
        t.st.reports.get l = some { loaded := s.imageOk (s.flashRd l), digest := digest, planeOk := planeOk } ∧
        (t.ln l).img = (if s.imageOk (s.flashRd l) then some (imageOf (s.flashRd l) s.cfg.vars s.cfg.sOut) else (s.ln l).img) ∧
        t.phase = s.phase ∧ ∀ m, m ≠ l → t.ln m = s.ln m)) ∧
    (s.phase = Phase.load → s.testMode = false → s.st.resuming = false →
      (s.clk.uptime < s.st.phaseAt + 5000000000 → Gives .loadTimeout s (fun t => t = s)) ∧
      (s.st.phaseAt + 5000000000 ≤ s.clk.uptime →
        (s.planeAgrees = false → Gives .loadTimeout s (fun t => t.phase = Phase.recovery ∧ t.rd Fld.UPD_START_STATUS_LAST_CODE = 7 ∧
          ∀ m, t.member m = s.member m)) ∧
        (s.planeAgrees = true → (lanes.filter s.laneAgrees).length < 2 → Gives .loadTimeout s (fun t =>
          t.phase = Phase.recovery ∧ (t.rd Fld.UPD_START_STATUS_LAST_CODE = 9 ∨ t.rd Fld.UPD_START_STATUS_LAST_CODE = 0xA) ∧
          ∀ m, t.member m = s.member m)) ∧
        (s.planeAgrees = true → 2 ≤ (lanes.filter s.laneAgrees).length → Gives .loadTimeout s (fun t =>
          t.phase = Phase.run ∧ t.rd Fld.JC_MOD_STATUS_PERMITS = 1 ∧ t.st.relSent = true ∧ t.cyc.running = true ∧
          ∀ m, (s.laneAgrees m = true → t.member m = Mbr.voting ∧ t.ex m = Exec.running) ∧
            (s.laneAgrees m = false → t.member m = Mbr.excluded)))))

/-- RESTART_COLD, RESTART_WARM and RESTART_RECOVERY by an initiator that may write UPD.RESTART, outside a test of the boundary scan, answer
done and reset the module: phase RESET with one more start counted, the configuration no longer sealed, no lane member, uptime running on,
each lane's flash and SRAM kept (flash under a running write excepted); the start is cold, warm with the retained copies of the voting
lanes saved first, or cold into the recovery state. RESET_CONTACT_CLOSE holds the module in RESET in the same way without counting;
RESET_RELEASE counts the start. Without the right to write, a restart is answered with an access fault and changes nothing else. (R147,
R148, R162, R457, R464, R481, R496) -/
def Obligations.RestartsAndResets : Prop :=
  ∀ (s : State) (i : Initiator) (w : Word),
    let reset := fun t : State => t.phase = Phase.reset ∧ t.isSealed = false ∧ t.frozen = false ∧ t.clk.uptime = s.clk.uptime ∧ t.pending = s.pending ∧
      ∀ l, t.member l = Mbr.init ∧ t.ex l = Exec.held ∧ (t.ln l).flash = s.flashKept l ∧ (t.ln l).scratch = (s.ln l).scratch
    let counted := fun t : State => t.rd Fld.UPD_START_STATUS_STARTS = (s.bump Fld.UPD_START_STATUS_STARTS).rd Fld.UPD_START_STATUS_STARTS
    (s.mayWrite i Reg.UPD_RESTART = true → s.testMode = false →
      Gives (.restartCold i w) s (fun t => reset t ∧ counted t ∧ t.st.kind = some false ∧ t.st.recover = false ∧ t.response i = .done ∧
        t.mramA = s.mramA ∧ t.mramB = s.mramB) ∧
      Gives (.restartWarm i w) s (fun t => reset t ∧ counted t ∧ t.st.kind = some true ∧ t.st.recover = false ∧ t.response i = .done ∧
        t.mramA = s.saveRetained.mramA ∧ t.mramB = s.saveRetained.mramB) ∧
      Gives (.restartRecovery i w) s (fun t => reset t ∧ counted t ∧ t.st.kind = some false ∧ t.st.recover = true ∧ t.response i = .done ∧
        t.mramA = s.mramA ∧ t.mramB = s.mramB)) ∧
    (s.mayWrite i Reg.UPD_RESTART = false →
      ∀ c ∈ [Instr.restartCold i w, Instr.restartWarm i w, Instr.restartRecovery i w], Gives c s (fun t => t = s.respond i .fault)) ∧
    Gives .resetContactClose s (fun t => reset t ∧ t.st.contact = true ∧ t.rd Fld.UPD_START_STATUS_STARTS = s.rd Fld.UPD_START_STATUS_STARTS) ∧
    (s.st.contact = true → Gives .resetRelease s (fun t => t.st = { s.st with contact := false, startAt := s.clk.uptime } ∧ counted t ∧
      RegsKept [Reg.UPD_START_STATUS] s t ∧ t = { s with regs := t.regs, st := t.st }))

/-- SUPPLY_INTERRUPT notes the time the input fell; INTERRUPTION_BRIDGED within 10 ms counts it; POWER_FAIL_WARNING after 10 ms sets PF_WARN
and HALT_REL in every lane, and MRAM_COPY_DONE after the captures saves the retained copies. SUPPLY_RETURN after the copy is done begins a
counted start; HOLDUP_EXHAUSTED loses power and with it everything but flash and MRAM. OVERVOLTAGE resets the module and holds it, and
OVERVOLTAGE_END begins a counted start. PLL_LOCK_CHANGE shows the lock; the loss of a lane PLL's lock is a lane fault of cause 7 of a lane
that is neither HELD nor STOPPED. (R79, R147, R148, R464, R486, R487, R488, R503) -/
def Obligations.SupplyEvents : Prop :=
  ∀ (s : State) (l : Lane) (lock : Bool),
    let counted := fun t : State => t.rd Fld.UPD_START_STATUS_STARTS = (s.bump Fld.UPD_START_STATUS_STARTS).rd Fld.UPD_START_STATUS_STARTS
    (s.st.powered = true → s.st.lowAt = none → Gives .supplyInterrupt s (fun t => t.st = { s.st with lowAt := some s.clk.uptime } ∧
      t.rd Fld.JC_PWR_STATUS_INTERRUPT = 1 ∧ RegsKept [Reg.JC_PWR_STATUS] s t ∧ t = { s with regs := t.regs, st := t.st })) ∧
    (∀ t0, s.st.lowAt = some t0 → s.pfWarnAt = none →
      (s.clk.uptime < t0 + 10000000 →
        Gives .interruptionBridged s (fun t => t.st = { s.st with lowAt := none } ∧
          t.rd Fld.JC_PWR_STATUS_INTERRUPTS = (s.bump Fld.JC_PWR_STATUS_INTERRUPTS).rd Fld.JC_PWR_STATUS_INTERRUPTS ∧
          RegsKept [Reg.JC_PWR_STATUS] s t ∧ t = { s with regs := t.regs, st := t.st }) ∧
        Gives .powerFailWarning s (fun t => t = s)) ∧
      (t0 + 10000000 ≤ s.clk.uptime →
        Gives .powerFailWarning s (fun t => t.pfWarnAt = some s.clk.uptime ∧ t.rd Fld.JC_PWR_STATUS_PF_WARN = 1 ∧
          ∀ m, t.rd (Fld.TRD_STATUS_HALT_REL m) = 1 ∧ (t.ln m).notices = []) ∧
        Gives .interruptionBridged s (fun t => t = s))) ∧
    (∀ t0, s.pfWarnAt = some t0 →
      (s.st.copied = false → (∀ m, s.votes m = true → (s.ln m).pfCaptured = true) → Gives .mramCopyDone s (fun t => t.st = { s.st with copied := true } ∧
        t.mramA = s.saveCopies.mramA ∧ t.mramB = s.saveCopies.mramB ∧ t.regs = s.regs ∧ t.lane = s.lane)) ∧
      (s.st.copied = true → Gives .supplyReturn s (fun t => t.phase = Phase.reset ∧ t.isSealed = false ∧ counted t ∧ t.st.lowAt = none ∧
        t.pfWarnAt = none ∧ t.clk.uptime = s.clk.uptime ∧ ∀ m, t.member m = Mbr.init ∧ (t.ln m).flash = s.flashKept m))) ∧
    (s.st.powered = true →
      (s.st.lowAt ≠ none → Gives .holdupExhausted s (fun t => t.st.powered = false ∧ t.phase = Phase.reset ∧ t.isSealed = false ∧ t.clk.uptime = 0 ∧
        t.mramA = s.mramA ∧ t.mramB = s.mramB ∧ ∀ m, (t.ln m).flash = s.flashKept m ∧ (t.ln m).scratch = [])) ∧
      Gives .overvoltage s (fun t => t.phase = Phase.reset ∧ t.isSealed = false ∧ t.st.overvolt = true ∧ t.rd Fld.JC_PWR_STATUS_OVERVOLT = 1 ∧
        t.clk.uptime = s.clk.uptime ∧ ∀ m, t.member m = Mbr.init ∧ (t.ln m).flash = s.flashKept m)) ∧
    (s.st.overvolt = true → Gives .overvoltageEnd s (fun t => t.st = { s.st with overvolt := false, startAt := s.clk.uptime } ∧ counted t ∧
      RegsKept [Reg.UPD_START_STATUS] s t ∧ t = { s with regs := t.regs, st := t.st })) ∧
    Gives (.pllLockChange none lock) s (fun t => t.rd Fld.JC_CLK_STATUS_PERI_LOCK = b2n lock ∧ RegsKept [Reg.JC_CLK_STATUS] s t ∧ OnlyRegs s t) ∧
    Gives (.pllLockChange (some l) true) s (fun t => t.pllLocked l = true ∧ RegsKept [Reg.JC_CLK_STATUS] s t ∧ OnlyRegs s t) ∧
    (s.ex l ≠ Exec.held → s.ex l ≠ Exec.stopped →
      Gives (.pllLockChange (some l) false) s (fun t => t.pllLocked l = false ∧ LaneFaulted s t l 7 0)) ∧
    (s.ex l = Exec.held ∨ s.ex l = Exec.stopped → (∀ c g, (s.ln l).withdrawal ≠ some (c, g, s.clk.uptime)) →
      Gives (.pllLockChange (some l) false) s (fun t => t.pllLocked l = false ∧
      RegsKept [Reg.JC_CLK_STATUS] s t ∧ OnlyRegs s t))

/-- FLASH_VERIFY and FLASH_WRITE of a lane begin while no flash operation runs (RESULT 0, BUSY), and are refused with RESULT 8 while one runs.
FLASH_OP_DONE ends it (the lane's DDR4 holding no placed check bits): a slot that fails the checks is not staged (RESULT 2) and the flash
is as before; one that passes is staged, and a write puts the image into flash (RESULT 1), or fails (RESULT 3). JFLASH_GO begins a
junction download; JFLASH_DONE writes the copy that is not loaded, or rejects it (RESULT 2). In RECOVERY, REC_PROGRAM and MEMTEST begin
when nothing runs; a TFTP write request for lane or junction in octet mode opens a transfer, any other is answered with an error; a data
block of the next number is appended to the junction download area and acknowledged, the last one begins the programming where none runs;
REC_PROGRAM_DONE ends it, an image that passes in the flash of the lanes of TARGET; a status read answers UPD.REC_STATUS. (R470, R471,
R473, R474, R480) -/
def Obligations.FlashAndDownload : Prop :=
  ∀ (s : State) (i : Initiator) (w : Word) (l : Lane) (ok valid : Bool) (ver : Nat),
    (s.mayWrite i Reg.UPD_FLASH_CTRL = true → Lane.ofNat? (wbits w Fld.UPD_FLASH_CTRL_LANE) = some l →
      (s.st.flashOp = none →
        Gives (.flashVerify i w) s (fun t => t.st = { s.st with flashOp := some (l, false) } ∧ t.rd Fld.UPD_FLASH_STATUS_BUSY = 1 ∧
          t.rd Fld.UPD_FLASH_STATUS_RESULT = 0 ∧ t.lane = s.lane ∧ t.response i = .done) ∧
        Gives (.flashWrite i w) s (fun t => t.st = { s.st with flashOp := some (l, true) } ∧ t.rd Fld.UPD_FLASH_STATUS_BUSY = 1 ∧
          t.rd Fld.UPD_FLASH_STATUS_RESULT = 0 ∧ t.lane = s.lane ∧ t.response i = .done)) ∧
      (s.st.flashOp ≠ none → ∀ c ∈ [Instr.flashVerify i w, .flashWrite i w],
        Gives c s (fun t => t.st = s.st ∧ t.rd Fld.UPD_FLASH_STATUS_RESULT = 8 ∧ t.lane = s.lane))) ∧
    (∀ wr, s.st.flashOp = some (l, wr) → (s.memc.get l).chk = [] →
      let good := s.imageOk (s.slotRd l (s.freeSlot l))
      let g := imageOf (s.slotRd l (s.freeSlot l)) s.cfg.vars s.cfg.sOut
      Gives (.flashOpDone ok) s (fun t => t.st.flashOp = none ∧ t.rd Fld.UPD_FLASH_STATUS_BUSY = 0 ∧
        t.st.stagedImg.get l = (if good then some g else none) ∧
        t.rd Fld.UPD_FLASH_STATUS_RESULT = (if good then if wr && !ok then 3 else 1 else 2) ∧
        (t.ln l).flash = (if good && wr then if ok then Mem.putBytes [] 0 (s.slotRd l (s.freeSlot l) 0 g.size) else [] else (s.ln l).flash) ∧
        ∀ m, m ≠ l → t.ln m = s.ln m)) ∧
    (s.mayWrite i Reg.UPD_JFLASH = true → s.flag Fld.UPD_JFLASH_BUSY = false →
      Gives (.jflashGo i w) s (fun t => t.rd Fld.UPD_JFLASH_BUSY = 1 ∧ t.rd Fld.UPD_JFLASH_RESULT = 0 ∧ t.st = s.st ∧ t.lane = s.lane)) ∧
    (s.flag Fld.UPD_JFLASH_BUSY = true → Gives (.jflashDone valid ver ok) s (fun t => t.rd Fld.UPD_JFLASH_BUSY = 0 ∧
      t.rd Fld.UPD_JFLASH_RESULT = (if valid then if ok then 1 else 3 else 2) ∧
      (s.flag Fld.UPD_JFLASH_LOADED = true → t.st.copyB = s.st.copyB ∧ t.st.copyA = if valid then { valid := ok, version := ver } else s.st.copyA) ∧
      (s.flag Fld.UPD_JFLASH_LOADED = false → t.st.copyA = s.st.copyA ∧ t.st.copyB = if valid then { valid := ok, version := ver } else s.st.copyB) ∧
      t.lane = s.lane ∧ RegsKept [Reg.UPD_JFLASH] s t)) ∧
    (s.phase = Phase.recovery →
      (s.mayWrite i Reg.UPD_REC_CTRL = true → s.flag Fld.UPD_REC_STATUS_BUSY = false →
        Gives (.recProgram i w) s (fun t => t.st = { s.st with prog := some (wbits w Fld.UPD_REC_CTRL_TARGET, wbits w Fld.UPD_REC_CTRL_LEN) } ∧
          t.rd Fld.UPD_REC_STATUS_BUSY = 1 ∧ t.rd Fld.UPD_REC_STATUS_RESULT = 0 ∧ t.lane = s.lane) ∧
        Gives (.memtest i w) s (fun t => t.st = { s.st with testing := true, testBad := false } ∧ t.rd Fld.UPD_REC_STATUS_BUSY = 1 ∧
          t.jmem.fillStart = some s.clk.uptime ∧ ∀ m, (t.memc.get m).fillStart = some s.clk.uptime)) ∧
      (∀ file mode : String,
        (mode = "octet" → file = "lane" ∨ file = "junction" → Gives (.tftpWriteRequest file mode) s (fun t =>
          t.st = { s.st with tftp := some (decide (file = "lane"), 0, 0), tftpOut := some (4, 0) } ∧
          t.rd Fld.UPD_REC_STATUS_BLOCKS = 0 ∧ RegsKept [Reg.UPD_REC_STATUS] s t)) ∧
        (mode ≠ "octet" ∨ file ≠ "lane" ∧ file ≠ "junction" →
          Gives (.tftpWriteRequest file mode) s (fun t => t = { s with st := { s.st with tftpOut := some (5, 4) } }))) ∧
      (∀ (lane : Bool) (n len : Nat) (b : BitVec 16) (d : List Byte), s.st.tftp = some (lane, n, len) → b.toNat = (n + 1) % 65536 → d.length ≤ 512 →
          len + d.length ≤ 0x4000000 → Gives (.tftpDataBlock b d) s (fun t =>
            t.st.tftpOut = some (4, b.toNat) ∧ t.jddr = (s.ddrPut .junction (0x50000000 + len) d).jddr ∧ t.lane = s.lane ∧
            (d.length = 512 → t.st.tftp = some (lane, n + 1, len + 512) ∧ t.st.prog = s.st.prog) ∧
            (d.length < 512 → t.st.tftp = none ∧ t.rd Fld.UPD_REC_STATUS_BUSY = 1 ∧
              t.st.prog = if s.flag Fld.UPD_REC_STATUS_BUSY then s.st.prog else some (if lane then 7 else 0, len + d.length)))) ∧
      Gives .tftpStatusRead s (fun t => t = { s with st := { s.st with tftpOut := some (3, (s.reg Reg.UPD_REC_STATUS).toNat) } })) ∧
    (∀ target len, s.st.prog = some (target, len) → Gives (.recProgramDone valid ver ok) s (fun t => t.st.prog = none ∧
      t.rd Fld.UPD_REC_STATUS_BUSY = 0 ∧
      (target = 0 → t.rd Fld.UPD_REC_STATUS_RESULT = (if valid then if ok then 1 else 3 else 2) ∧ t.lane = s.lane) ∧
      (target ≠ 0 → s.st.plugOk = false → t.rd Fld.UPD_REC_STATUS_RESULT = 2 ∧ t.lane = s.lane) ∧
      (target ≠ 0 → s.st.plugOk = true → s.jmem.chk = [] → s.jmem.badBitmap = [] → s.imageOk s.downloadRd = true →
        (imageOf s.downloadRd s.cfg.vars s.cfg.sOut).size ≤ len → t.rd Fld.UPD_REC_STATUS_RESULT = (if ok then 1 else 3) ∧
        ∀ m : Lane, bitOf target m.num = true → (t.ln m).flash =
          if ok then Mem.putBytes [] 0 (s.downloadRd 0 (imageOf s.downloadRd s.cfg.vars s.cfg.sOut).size) else []) ∧
      (∀ m : Lane, bitOf target m.num = false → t.ln m = s.ln m)))

/-- ACT_GO without one image staged in every voting lane is refused with RESULT 2, with a budget above 1500 µs RESULT 3, with a readmission
running RESULT 5, with a change block staged RESULT 6, while one is pending RESULT 8 (the first of these in the table's order); a refusal
leaves what is pending. Accepted, it stands PENDING with k_a at least 4 cycles ahead and K_A, GAP in ACT_STATUS. LANE_READY of a voting
lane in the pause, its DDR4 holding no placed check bits, puts its harts at the staged image's entry points. PARTNER_ACTIVATION of a READY
standby stands pending at the next cycle. (R475, R476, R477, R478) -/
def Obligations.Activation : Prop :=
  ∀ (s : State) (i : Initiator) (w : Word) (p : Nat),
    (s.mayWrite i Reg.UPD_ACT_CTRL = true →
      let ka := (if s.cyc.relDone then s.cyc.k else s.cyc.k - 1) + max 4 (wbits w Fld.UPD_ACT_CTRL_LEAD)
      let refused := fun r : Nat => Gives (.actGo i w p) s (fun t => t.rd Fld.UPD_ACT_STATUS_RESULT = r ∧ t.st = s.st ∧ t.lane = s.lane)
      (s.stagedImage = none → refused 2) ∧
      (∀ g, s.stagedImage = some g →
        let kr := s.actKr ka g.budget
        (1500 < g.budget → refused 3) ∧
        (g.budget ≤ 1500 → (kr - ka) * s.tCycle ≤ 2000000 →
          (s.readmitPhase ≠ 0 → refused 5) ∧
          (s.readmitPhase = 0 →
            (s.chg.block ≠ none → refused 6) ∧
            (s.chg.block = none → s.flag Fld.DX_CFG_DUPLEX = false →
              (s.st.act ≠ none → refused 8) ∧
              (s.st.act = none → Gives (.actGo i w p) s (fun t =>
                t.st = { s.st with act := some { ka := ka, kr := kr, partner := p, paused := false, ready := Tri.all false }, lastKa := some ka } ∧
                t.rd Fld.UPD_ACT_STATUS_PENDING = 1 ∧ t.rd Fld.UPD_ACT_STATUS_RESULT = 0 ∧ t.lane = s.lane ∧ s.cyc.k + 3 ≤ ka))))))) ∧
    (∀ (l : Lane) (a : ActSt) (g : LaneImage), s.st.act = some a → s.st.stagedImg.get l = some g → a.paused = true → a.ready.get l = false →
      s.votes l = true → (s.memc.get l).chk = [] → Gives (.laneReady l) s (fun t => t.st.act = some { a with ready := a.ready.put l true } ∧ t.st.stagedImg.get l = none ∧
        (t.ln l).img = some { g with slot := s.freeSlot l } ∧ (t.ln l).h0.pc = BitVec.ofNat 64 (s.slotBase (s.freeSlot l) + g.entry0) ∧
        (t.ln l).h1.pc = BitVec.ofNat 64 (s.slotBase (s.freeSlot l) + g.entry1) ∧ ∀ m, m ≠ l → t.ln m = s.ln m)) ∧
    (∀ ka kr : Nat, s.dst = DSt.ready → s.st.act = none → Gives (.partnerActivation ka kr) s (fun t =>
      t.st = { s.st with act := some { ka := ka + 1, kr := kr + 1, partner := 0, paused := false, ready := Tri.all false }, lastKa := some ka } ∧
      t.rd Fld.UPD_ACT_STATUS_PENDING = 1 ∧ RegsKept [Reg.UPD_ACT_STATUS] s t ∧ t = { s with regs := t.regs, st := t.st }))

/-- INAUG_SLEEP at a leader schedules the sleep on every enabled ring. FRAME_LAUNCH of a due cycle launches the data frame of that cycle, a
census after healing, or the SLEEP frame of the scheduled cycle; not before its cycle, nor twice. SLEEP_FRAME with a good check on the
pair that the unit takes schedules the unit's switch; a running module then halts its Treadles' releases. SLEEP_SWITCH at SLEEP_AT, and
SLEEP_LINE_TIMEOUT without line code, put the ring into SLEEP, remove drive and permits, power the plane down and stop the cycles.
SLEEP_POWER_DOWN after the captures saves the copies and holds the lanes, flash and DDR4 kept, SRAM lost. A leader in SLEEP launches IDLE
frames, a member's first IDLE, and one with other fold flags, re-anchors its path delay, later ones set the correction, and missed ones
count with no cold start. (R212, R235, R254, R257, R260, R261, R482) -/
def Obligations.SleepEntry : Prop :=
  ∀ (s : State) (i : Initiator) (r : Ring) (w : Word) (slots : List RetSlot) (conts : List Container) (leader at_ : Nat) (c : CtrlIn),
    let k := (s.clk.net - 4 * s.rd Fld.SX_LAUNCH_JC) / s.tCycle
    let entered := fun t : State => s.phase = Phase.run → s.st.sleepFrom = none → t.st.sleepFrom = some s.clk.uptime ∧
      ∀ l, t.rd (Fld.TRD_STATUS_HALT_REL l) = 1 ∧ (t.ln l).notices = []
    let off := fun t : State => t.rst r = RSt.sleep ∧ (t.rg r).led = decide (s.rst r = RSt.lead) ∧ (t.rg r).keepDelay = s.pathDelay r ∧
      t.cyc.running = false ∧ (∀ x ∈ t.fq, x.drive = false) ∧ t.plane = PlaneSt.off ∧ t.rd Fld.JC_MOD_STATUS_PERMITS = 0
    let follows := s.rst r = RSt.sync ∨ s.rst r = RSt.unsync ∨ s.rst r = RSt.integrating
    (s.mayWrite i (Reg.SX_INAUG_CTRL r) = true → s.rst r = RSt.lead → Gives (.inaugSleep i r w) s (fun t => t.regs = (s.merge (Reg.SX_INAUG_CTRL r) w).regs ∧
      t.response i = .done ∧ ∀ x, s.ringEn x = true →
        (t.rg x).sleepAt = some (if ∃ y, (s.rg x).sent = some y ∧ k ≤ y.cycle then k + 2 else k + 1))) ∧
    (∀ t0, s.rst r = RSt.lead → (s.rg r).launchFrom = some t0 → k * s.tCycle < t0 → Gives (.frameLaunch r slots conts) s (fun t => t = s)) ∧
    (s.rst r = RSt.lead → (∀ t0, (s.rg r).launchFrom = some t0 → t0 ≤ k * s.tCycle) →
      ((∃ y, (s.rg r).sent = some y ∧ k ≤ y.cycle) → Gives (.frameLaunch r slots conts) s (fun t => t = s)) ∧
      ((∀ y, (s.rg r).sent = some y → y.cycle < k) →
        ((s.rg r).sleepAt = some (k + 1) → Gives (.frameLaunch r slots conts) s (fun t => entered t ∧ ∃ y, (t.rg r).sent = some y ∧ y.cycle = k ∧ y.slots = [])) ∧
        ((s.rg r).sleepAt ≠ some (k + 1) → (s.rg r).healing = true →
          Gives (.frameLaunch r slots conts) s (fun t => (t.rg r).census = some s.clk.uptime ∧ (t.rg r).healing = false ∧ t.regs = s.regs ∧ t.lane = s.lane)) ∧
        ((s.rg r).sleepAt ≠ some (k + 1) → (s.rg r).healing = false →
          Gives (.frameLaunch r slots conts) s (fun t => (t.rg r).fresh = false ∧ t.lane = s.lane ∧ ∃ y, (t.rg r).sent = some y ∧ y.cycle = k ∧
            (s.rd Fld.SX_SCHED_CTRL_BASTE_PENDING = 0 ∨ s.annAt ≠ none → y.header = s.launchHeader r (k % 2 ^ 32) ∧
              y.slots = s.launchSlots r (k % 2 ^ 32) slots ∧ y.conts = s.launchConts r conts ∧ y.record = s.launchRecord r k))))) ∧
    (follows →
      (c.checkOk = true → s.takes r c.onEast = true → Gives (.sleepFrame r c leader at_) s (fun t => (t.rg r).sleepAt = some at_ ∧ entered t)) ∧
      (c.checkOk = true → s.takes r c.onEast = false → Gives (.sleepFrame r c leader at_) s (fun t => (t.rg r).sleepAt = (s.rg r).sleepAt ∧
        t.regs = s.regs ∧ t.lane = s.lane)) ∧
      (c.checkOk = false → Gives (.sleepFrame r c leader at_) s (fun t => t = s)) ∧
      ((s.rg r).eLoss = true → (s.rg r).wLoss = true → Gives (.sleepLineTimeout r) s (fun t => off t ∧ entered t))) ∧
    (∀ x, s.ringEn r = true → s.rst r ≠ RSt.sleep → s.rst r ≠ RSt.disabled → (s.rg r).sleepAt = some x → cycleReached s.kNow x = true →
      Gives .sleepSwitch s off) ∧
    (s.st.sleepFrom ≠ none → s.cyc.running = false → (∀ l, s.votes l = true → (s.ln l).pfCaptured = true) → Gives .sleepPowerDown s (fun t =>
      t.phase = 9 ∧ t.st.act = none ∧ t.rd Fld.JC_MOD_STATUS_SLEEP = 1 ∧ t.jddrRefresh = true ∧ t.mramA = s.saveCopies.mramA ∧ t.mramB = s.saveCopies.mramB ∧
      ∀ l, t.ex l = Exec.held ∧ t.member l = Mbr.init ∧ (t.ln l).flash = (s.ln l).flash ∧ (t.ln l).ddr = (s.ln l).ddr ∧ (t.ln l).scratch = [])) ∧
    (s.rst r = RSt.sleep →
      ((s.rg r).led = true → (s.rg r).sleepNs + 10000000 * (s.rg r).idles + 4 * s.rd Fld.SX_LAUNCH_JC ≤ s.clk.net →
        Gives .idleLaunch s (fun t => (t.rg r).idles = (s.rg r).idles + 1 ∧ t = { s with ring := t.ring })) ∧
      ((s.rg r).led = false →
        (∀ (h : IdleHdr) (launch : Nat) (ofs : Int) (fl : Fin 4), s.rd Fld.TB_CFG_WALL_SRC ≠ 0 ∨ fl.val % 2 = 0 → c.checkOk = true →
          let e : Int := ((launch + s.pathDelay r : Nat) : Int) - s.clk.net
          let anew := (s.rg r).anchored = false ∨ s.flagsOut r c.onEast c.flags % 4 ≠ (s.rg r).fold
          (s.takes r c.onEast = true → Gives (.idleFrame r c h launch ofs fl) s (fun t => (t.rg r).missed = 0 ∧ t.rst r = RSt.sleep ∧
            (anew → (t.rg r).anchored = true ∧ t.clk = s.clk ∧
              t.pathDelay r = (s.wr (Fld.SX_PATH_DELAY_VALUE r) (s.clk.net - launch)).pathDelay r) ∧
            (¬ anew → t.pathDelay r = s.pathDelay r ∧
              t.clk = if -20000 ≤ e ∧ e ≤ 20000 then { s.clk with corr := e } else s.clk))) ∧
          (s.takes r c.onEast = false → Gives (.idleFrame r c h launch ofs fl) s (fun t => t.clk = s.clk ∧ t.regs = s.regs))) ∧
        Gives (.idleMissed r) s (fun t => (t.rg r).missed = (s.rg r).missed + 1 ∧ t.rst r = RSt.sleep ∧
          RegsKept (if (s.rg r).missed = 3 then [Reg.SX_CS_COUNT r] else []) s t)))

/-- INAUG_WAKE and a WAKE_COMMAND of a sleeping module send a WAKE on the rings concerned; a command with no wake-enabled ring sets WAKE_HELD.
A unit that led answers a WAKE_FRAME with a RESUME whose instant lies 2 ms and 40 µs per node ahead; RESUME_FRAME on the pair that the
unit takes sets the instant in every sleeping unit of the module. RESUME_INSTANT, once network time has reached it, restores the full-rate
path delay and puts a unit that led into LEAD and any other into UNSYNC; the module leaves sleep, with the plane in its self-test and each
lane of a locked PLL LOADING. WAKE_TIMEOUT 100 ms after an unanswered WAKE puts every enabled sleeping unit into LISTEN and resumes the
module. None of the timed events acts early. (R261, R262, R482, R483, R484) -/
def Obligations.WakeAndResume : Prop :=
  ∀ (s : State) (i : Initiator) (r : Ring) (w : Word) (source nonce at_ : Nat) (c : CtrlIn),
    let resumed := fun t : State => s.phase = 9 → t.st.resuming = true ∧ t.rd Fld.JC_MOD_STATUS_SLEEP = 0 ∧ t.jddrRefresh = false ∧
      t.plane.st = PSt.selftest ∧ ∀ l, s.pllLocked l = true → t.ex l = Exec.loading
    (s.mayWrite i (Reg.SX_INAUG_CTRL r) = true → s.rst r = RSt.sleep → Gives (.inaugWake i r w) s (fun t =>
      (t.rg r).wakeAt = some ((s.rg r).wakeAt.getD s.clk.uptime) ∧ t.response i = .done ∧ t.rst r = RSt.sleep)) ∧
    (s.rd Fld.JC_MOD_STATUS_SLEEP = 1 →
      let woken := fun t : State =>
        ((∀ x, s.ringEn x = true → s.flag (Fld.SX_CS_CFG_WAKE_EN x) = false) → t.rd Fld.UPD_SLEEP_STATUS_WAKE_HELD = 1 ∧ t.ring = s.ring) ∧
        (s.ringEn r = true → s.flag (Fld.SX_CS_CFG_WAKE_EN r) = true → s.rst r = RSt.sleep →
          (t.rg r).wakeAt = some ((s.rg r).wakeAt.getD s.clk.uptime) ∧ t.rd Fld.UPD_SLEEP_STATUS_WAKE_HELD = s.rd Fld.UPD_SLEEP_STATUS_WAKE_HELD)
      (s.wakeReq = true → Gives (.wakeCommand none) s (fun t => woken t ∧ t.wakeReq = false)) ∧
      Gives (.wakeCommand (some w)) s (fun t => woken t ∧ t.response .host = .done)) ∧
    (s.rst r = RSt.sleep →
      (c.checkOk = true → Gives (.wakeFrame r c source nonce) s (fun t => (t.rg r).wakeAt = some ((s.rg r).wakeAt.getD s.clk.uptime) ∧ t.regs = s.regs ∧
        ((s.rg r).led = true → (s.rg r).resumeAt = none →
          (t.rg r).resumeAt = some (s.clk.net + 2000000 + 40000 * ((s.sched.map (fun p => p.order.length + 1)).getD 1))) ∧
        ((s.rg r).led = false → (t.rg r).resumeAt = (s.rg r).resumeAt))) ∧
      (c.checkOk = false → Gives (.wakeFrame r c source nonce) s (fun t => t = s)) ∧
      (c.checkOk = true → (s.rg r).led = false → s.takes r c.onEast = true → Gives (.resumeFrame r c source at_) s (fun t =>
        (∀ x, s.rst x = RSt.sleep → (t.rg x).resumeAt = some at_) ∧ t = { s with ring := t.ring })) ∧
      (c.checkOk = true → (s.rg r).led = false → s.takes r c.onEast = false → Gives (.resumeFrame r c source at_) s (fun t =>
        (t.rg r).resumeAt = (s.rg r).resumeAt ∧ t = { s with ring := t.ring })) ∧
      (c.checkOk = false ∨ (s.rg r).led = true → Gives (.resumeFrame r c source at_) s (fun t => t = s)) ∧
      (∀ a, (s.rg r).resumeAt = some a → a ≤ s.clk.net → Gives .resumeInstant s (fun t =>
        t.rst r = (if (s.rg r).led then RSt.lead else RSt.unsync) ∧ (t.rg r).resumeAt = none ∧ (t.rg r).led = false ∧
        t.pathDelay r = (s.wr (Fld.SX_PATH_DELAY_VALUE r) (s.rg r).keepDelay).pathDelay r ∧ resumed t)) ∧
      (∀ a, (s.rg r).wakeAt = some a → (s.rg r).resumeAt = none →
        (a + 100000000 ≤ s.clk.uptime → Gives (.wakeTimeout r) s (fun t => resumed t ∧
          ∀ x, s.ringEn x = true → s.rst x = RSt.sleep → t.rst x = RSt.listen ∧ (t.rg x).wakeAt = none)) ∧
        (s.clk.uptime < a + 100000000 → Gives (.wakeTimeout r) s (fun t => t = s)))) ∧
    ((∀ x a, s.rst x = RSt.sleep → (s.rg x).resumeAt = some a → s.clk.net < a) → Gives .resumeInstant s (fun t => t = s))

/-- TRIPLE_WORD_REPAIR counts a repair of its device and does nothing else. The loss of an FQ8's clock or of its link takes the FQ8 out of
service with drive removed: its open stages close, the other FQ8s go on, FAULT_DEV shows it. A self-fault of EJ2, or the loss of the
junction clock, stops the cycles and disables both rings; the lanes' state is as before. REF_SWITCH_DONE shows whether and which ring the
junction PLL follows. RATE_CORR_EXCEEDED within ±200 ppm of a ring reference changes no ring state; beyond it every synchronised ring is
unsynchronised. PLANE_OSC_FAULT drops the plane's lines; PLANE_CLOCK_RESUME puts a plane past its self-test into SAFE with cause 4. (R21,
R22, R23, R24, R40, R156, R247, R318) -/
def Obligations.DeviceFaults : Prop :=
  ∀ (s : State) (d : Fin 9) (q : Fin 4) (ppm : BitVec 16),
    Gives (.tripleWordRepair d) s (fun t => t.rd (Fld.JC_TW_n_STATUS_REPAIRS d) = (s.bump (Fld.JC_TW_n_STATUS_REPAIRS d)).rd (Fld.JC_TW_n_STATUS_REPAIRS d) ∧
      RegsKept [Reg.JC_TW_n_STATUS d] s t ∧ OnlyRegs s t) ∧
    (q.val < s.fq.length → ∀ c ∈ [Instr.fq8ClockLoss q, .fq8LinkSilent q], Gives c s (fun t =>
      (t.fqAt q).lost = true ∧ (t.fqAt q).drive = false ∧ bitOf (t.rd Fld.JC_MOD_STATUS_FAULT_DEV) 3 = true ∧
      (∀ p, p ≠ q.val → t.fqAt p = s.fqAt p) ∧ (∀ n ∈ fqChannels q, gateOpen (s.ost n) = true → t.ost n = OSt.off))) ∧
    (s.ej2Down = false → ∀ c ∈ [Instr.ej2SelfFault, .junctionClockLoss], Gives c s (fun t =>
      t.ej2Down = true ∧ t.cyc = { s.cyc with running := false } ∧ t.lane = s.lane ∧ t.fq = s.fq ∧ ∀ r, t.rst r = RSt.disabled ∧ t.ringSync r = false)) ∧
    (s.rd Fld.TB_STATUS_NET_SRC < 2 → Gives .refSwitchDone s (fun t => t.rd Fld.JC_CLK_STATUS_SYNT = 1 ∧
      t.rd Fld.JC_CLK_STATUS_SYNT_RING = s.rd Fld.TB_STATUS_NET_SRC ∧ RegsKept [Reg.JC_CLK_STATUS] s t ∧ OnlyRegs s t)) ∧
    (2 ≤ s.rd Fld.TB_STATUS_NET_SRC →
      Gives .refSwitchDone s (fun t => t.rd Fld.JC_CLK_STATUS_SYNT = 0 ∧ RegsKept [Reg.JC_CLK_STATUS] s t ∧ OnlyRegs s t) ∧
      Gives (.rateCorrExceeded ppm) s (fun t => t = s)) ∧
    (s.rd Fld.TB_STATUS_NET_SRC < 2 →
      (-20000 ≤ ppm.toInt → ppm.toInt ≤ 20000 → Gives (.rateCorrExceeded ppm) s (fun t => t.rd Fld.JC_CLK_STATUS_RATE_CORR = ppm.toNat ∧
        RegsKept [Reg.JC_CLK_STATUS] s t ∧ OnlyRegs s t)) ∧
      (ppm.toInt < -20000 ∨ 20000 < ppm.toInt → Gives (.rateCorrExceeded ppm) s (fun t =>
        ∀ r, t.rst r = if s.rst r = RSt.sync then RSt.unsync else s.rst r))) ∧
    Gives .planeOscFault s (fun t => t.plane = { s.plane with osc := false, lines := 0 } ∧ t.rd Fld.AX_STATUS_OSC_OK = 0 ∧
      RegsKept [Reg.AX_STATUS] s t ∧ t.lane = s.lane) ∧
    (s.plane.osc = false → PSt.selftest ≤ s.plane.st → Gives .planeClockResume s (fun t => t.plane.osc = true ∧ t.plane.st = PSt.safe ∧
      (s.plane.st ≠ PSt.safe → t.plane.cause = 4 ∧ t.plane.lines = 0) ∧ t.rd Fld.AX_STATUS_OSC_OK = 1 ∧ RegsKept [Reg.AX_STATUS] s t ∧ t.lane = s.lane))

/-- SCHED_COMMIT with no copy pending checks the shadow schedule: one that passes is pending, a failing one sets SCHED_ERR with its code; with
a copy pending the code is 7. SCHED_CANCEL drops a pending copy, is refused with code 8 at a leader that has announced it, and is ignored
without one. SCHEDULE_SWITCH at the start of the announced cycle, not before, makes the shadow set the working set. CONN_ACK counts while
READY is set and is ignored otherwise. MAC_CHECK_DONE takes the head of the HMAC queue; a message of good length and check with a wrong
MAC is counted as MAC_ERR and does not change the connection's state. (R227, R228, R229, R271, R272, R273, R274) -/
def Obligations.SchedulesAndConnections : Prop :=
  ∀ (s : State) (i : Initiator) (w : Word),
    let pend := Fld.SX_SCHED_CTRL_BASTE_PENDING
    let refused := fun (n : Nat) (t : State) => t.rd Fld.SX_SCHED_CTRL_SCHED_ERR = 1 ∧ t.rd Fld.SX_SCHED_CTRL_ERR_CODE = n ∧ t.rd pend = s.rd pend ∧
      t.annAt = s.annAt
    (s.mayWrite i Reg.SX_SCHED_CTRL = true →
      (wbits w Fld.SX_SCHED_CTRL_CANCEL = 0 →
        (s.rd pend = 1 → Gives (.schedCommit i w) s (refused 7)) ∧
        (s.rd pend = 0 →
          let check := s.shadowFig.failure s.cfg (s.rd (Fld.SX_CFG_ADDR .X)) s.chWord (s.flag (Fld.SX_CFG_LOOP .X)) (s.ringEn .Y)
            (some (s.rd Fld.SX_SCHED_ID_VALUE))
          (∀ c, check = some c → Gives (.schedCommit i w) s (refused c)) ∧
          (check = none → Gives (.schedCommit i w) s (fun t => t.rd pend = 1 ∧ t.annAt = none ∧ t.response i = .done ∧
            RegsKept [Reg.SX_SCHED_CTRL] s t)))) ∧
      (wbits w Fld.SX_SCHED_CTRL_COMMIT = 0 →
        (s.rd pend = 0 → Gives (.schedCancel i w) s (fun t => t.rd pend = 0 ∧ t.annAt = s.annAt ∧ RegsKept [Reg.SX_SCHED_CTRL] s t)) ∧
        (s.rd pend = 1 → s.flag (Fld.SX_STATUS_LEADER .X) = true → s.annAt ≠ none → Gives (.schedCancel i w) s (refused 8)) ∧
        (s.rd pend = 1 → s.flag (Fld.SX_STATUS_LEADER .X) = false ∨ s.annAt = none → Gives (.schedCancel i w) s (fun t =>
          t.rd pend = 0 ∧ t.annAt = none ∧ RegsKept [Reg.SX_SCHED_CTRL] s t)))) ∧
    (∀ k, s.annAt = some k → s.rd pend = 1 →
      (cycleReached s.kNow k = true → Gives .scheduleSwitch s (fun t => t.rd pend = 0 ∧ t.annAt = none ∧ t.reg Reg.SX_SCHED_ID = s.reg Reg.SX_SH_SCHED_ID ∧
        t.reg Reg.SX_COUNTS = s.reg Reg.SX_SH_COUNTS ∧ t.tIn = (s.setReg Reg.SX_T_IN (s.reg Reg.SX_SH_T_IN)).tIn ∧
        t.tCom = (s.setReg Reg.SX_T_COM (s.reg Reg.SX_SH_T_COM)).tCom ∧ t.reg Reg.SX_LAUNCH = s.reg Reg.SX_SH_LAUNCH ∧
        t.reg Reg.SX_LEN4 = s.reg Reg.SX_SH_LEN4 ∧ t.clk = s.clk ∧
        ∀ n < 256, t.entry n = (s.reg (Reg.SX_SH_SLOT_n_A n), s.reg (Reg.SX_SH_SLOT_n_B n), s.reg (Reg.SX_SH_SLOT_n_C n)))) ∧
      (cycleReached s.kNow k = false → Gives .scheduleSwitch s (fun t => t = s))) ∧
    (∀ n : Fin 1024, s.mayWrite i (Reg.SX_CONN_n_STAT n) = true → Gives (.connAck i n w) s (fun t =>
      (s.flag (Fld.SX_CONN_n_STAT_READY n) = true → t.conn n = { s.conn n with ack := true }) ∧
      (s.flag (Fld.SX_CONN_n_STAT_READY n) = false → t.conns = s.conns) ∧ t.connState n = s.connState n ∧ t.response i = .done ∧
      RegsKept [Reg.SX_CONN_n_STAT n] s t)) ∧
    (∀ j js, s.macQ = j :: js → j.conn < 1024 →
      let n := j.conn
      let p := s.connP n
      Gives .macCheckDone s (fun t => t.macQ = js ∧ s.rd Fld.SX_SAFE_COUNT_MAC_WAIT_MAX ≤ t.rd Fld.SX_SAFE_COUNT_MAC_WAIT_MAX ∧
        (s.flag (Fld.SX_CONN_n_CFG_MAC n) = true → j.msg.length = p + 20 →
          leNat ((j.msg.drop (8 + p)).take 4) = (safeCheck (s.reg (Reg.SX_CONN_n_ID n)) (j.msg.take (8 + p))).toNat →
          j.msg.drop (12 + p) ≠ s.safeMac n (j.msg.take (12 + p)) →
          t.rd (Fld.SX_CONN_n_ERR_A_MAC_ERR n) = (s.bump (Fld.SX_CONN_n_ERR_A_MAC_ERR n)).rd (Fld.SX_CONN_n_ERR_A_MAC_ERR n) ∧
          t.connState n = s.connState n ∧ t.conns = s.conns)))

/-- FRAME_HEADER on a pair that the unit does not take passes in reverse. A bad header is counted and its frame only forwarded; a good one
begins the passage, forwarded with this node's fold bits: without slots while the unit integrates or takes no part; outside ±2 µs of the
expected arrival WIN_COUNT.OUTSIDE counts and the unit is UNSYNC; with other fold flags the path delay is measured anew within the limit.
SLOT_ARRIVAL in SYNC or LEAD stages a fresh or carried slot and counts an empty or bad one. OWNED_SLOT_PASSAGE writes the unit's slot; one
already written is a clash and leaves empty; at the leader it puts the data of that moment into the launched frame. FRAME_TRAILER ends the
passage: a failed check counts and takes a re-anchor back; a good frame counts, one of another schedule sets SCHED_MISMATCH and
unsynchronises, any other sets the correction of a synchronised unit and synchronises one that integrates or is unsynchronised at its
second consecutive good frame. FRAME_MISSED counts, and after the set number on every awaiting ring all enabled units enter LISTEN. (The
instant of the re-anchor is the model's choice, log 90.) (R210, R211, R213, R214, R215, R222, R223, R246, R247, R248, R249, R254) -/
def Obligations.FramePassage : Prop :=
  ∀ (s : State) (r : Ring),
    let g := s.rg r
    let st := s.rst r
    (∀ h : FrameHdr, st ≠ RSt.disabled → st ≠ RSt.sleep →
      (s.cutOff r = true → Gives (.frameHeader r h) s (fun t => t = s)) ∧
      (s.cutOff r = false → s.takes r h.onEast = false →
        Gives (.frameHeader r h) s (fun t => t = if h.onEast then s.set1 (outFld r true) else s)) ∧
      (s.takes r h.onEast = true → g.cur = none →
        let bits := s.foldBits r h.onEast
        let west := s.goesWest r h.onEast
        let rx := s.clk.net - h.age
        let passes := fun (fate : FrameFate) (use : Bool) (t : State) =>
          (t.rg r).cur = some { hdr := h, fold := (h.flags % 4) ||| bits, rx := rx, fate := fate, slots := use, conts := use } ∧
          (st ≠ RSt.lead → t.rd (outFld r west) = 1 ∧ (t.rg r).fwd =
            some { header := if fate = FrameFate.bad then none else hdrAltered h bits, west := west, stamp := rx + 320, trailer := [] })
        let k := s.nearestK r
        let d : Int := (rx : Int) - (4 * s.rd Fld.SX_LAUNCH_JC : Nat) - s.cycleOf h.cycle * s.tCycle
        let far := d < 0 ∨ (4 * (s.shadowFig.dFold - s.shadowFig.dRing) + 2000 : Nat) < d - s.pathDelay r ∨
          d - s.pathDelay r < -((4 * (s.shadowFig.dFold - s.shadowFig.dRing) + 2000 : Nat) : Int)
        (hdrBad h r = true → Gives (.frameHeader r h) s (fun t => passes FrameFate.bad false t ∧ t.rst r = st ∧
          t.rd (Fld.SX_FRAME_ERR_HDR r) = (s.bump (Fld.SX_FRAME_ERR_HDR r)).rd (Fld.SX_FRAME_ERR_HDR r) ∧ t.rd (Fld.SX_STATUS_FRAME_OK r) = 0 ∧
          RegsKept [Reg.SX_FRAME_ERR r, Reg.SX_STATUS r, Reg.SX_PORT_STATUS r] s t)) ∧
        (hdrBad h r = false → h.type ≠ 1 → Gives (.frameHeader r h) s (fun t => (t.rg r).cur = none ∧ t.rst r = st)) ∧
        (hdrBad h r = false → h.type = 1 →
          (st = RSt.integrating → Gives (.frameHeader r h) s (fun t => passes FrameFate.used false t ∧ t.rst r = st)) ∧
          (st < RSt.lead → Gives (.frameHeader r h) s (fun t => passes FrameFate.forward false t ∧ t.rst r = st)) ∧
          (st = RSt.sync ∨ st = RSt.unsync ∨ st = RSt.lead →
            (h.schedId ≠ s.reg Reg.SX_SCHED_ID → Gives (.frameHeader r h) s (fun t => passes FrameFate.mismatch false t ∧ t.rst r = st)) ∧
            (h.schedId = s.reg Reg.SX_SCHED_ID → (h.flags % 4) ||| bits = g.fold →
              (st ≠ RSt.sync ∨ h.cycle = k % 2 ^ 32 ∧ within rx (s.tExp r k) 2000 = true →
                Gives (.frameHeader r h) s (fun t => passes FrameFate.used true t ∧ t.rst r = st)) ∧
              (st = RSt.sync → h.cycle ≠ k % 2 ^ 32 ∨ within rx (s.tExp r k) 2000 = false → Gives (.frameHeader r h) s (fun t =>
                passes FrameFate.used true t ∧ t.rst r = RSt.unsync ∧
                t.rd (Fld.SX_WIN_COUNT_OUTSIDE r) = (s.bump (Fld.SX_WIN_COUNT_OUTSIDE r)).rd (Fld.SX_WIN_COUNT_OUTSIDE r)))) ∧
            (h.schedId = s.reg Reg.SX_SCHED_ID → (h.flags % 4) ||| bits ≠ g.fold →
              (far → Gives (.frameHeader r h) s (fun t => passes FrameFate.used true t ∧ t.rst r = if st = RSt.sync then RSt.unsync else st)) ∧
              (¬ far → Gives (.frameHeader r h) s (fun t => passes (FrameFate.anchor (s.pathDelay r) g.anchored) true t ∧ t.rst r = st ∧
                t.pathDelay r = d.toNat % 2 ^ 32 ∧ (t.rg r).anchored = true))))))) ∧
    (∀ f, g.cur = some f →
      (∀ (n : Fin 256) (data : List Byte) (check : Word), f.slots = true → entEn (s.entry n) = true → entWrite (s.entry n) = false →
        let cls := slotClass f.cycle (entIndex (s.entry n)) data check
        (cls = 2 → s.ringReads r = true → Gives (.slotArrival r n data check) s (fun t => (t.rg r).rx = g.rx ∧
          t.rd (Fld.SX_SLOT_ERR_EMPTY r) = (s.bump (Fld.SX_SLOT_ERR_EMPTY r)).rd (Fld.SX_SLOT_ERR_EMPTY r))) ∧
        (s.ringReads r = false → Gives (.slotArrival r n data check) s (fun t => t = s)) ∧
        (cls = 3 → s.ringReads r = true → Gives (.slotArrival r n data check) s (fun t => (t.rg r).rx = g.rx ∧
          t.rd (Fld.SX_SLOT_ERR_BAD r) = (s.bump (Fld.SX_SLOT_ERR_BAD r)).rd (Fld.SX_SLOT_ERR_BAD r))) ∧
        (cls < 2 → s.ringReads r = true → Gives (.slotArrival r n data check) s (fun t => ∃ p rest,
          (t.rg r).rx = { entry := n, cycle := f.cycle, data := data, pass := p, at_ := s.clk.uptime + 76 } :: rest ∧
          (entSafe (s.entry n) = false → p = true)))) ∧
      (∀ (n : Fin 256) (written : Bool), f.slots = true → st ≠ RSt.lead →
        (∀ o : SlotOut, s.slotOut r n f.cycle written = some o →
          Gives (.ownedSlotPassage r n written) s (fun t => (∃ rest, (t.rg r).wrote = o :: rest) ∧ o.entry = n.val ∧ o.cycle = f.cycle ∧
            (written = true → o.empty = true ∧ t.rd (Fld.SX_STATUS_CLASH r) = 1 ∧
              t.rd (Fld.SX_CLASH_WRITE r) = (s.bump (Fld.SX_CLASH_WRITE r)).rd (Fld.SX_CLASH_WRITE r)) ∧
            (written = false → RegsKept [Reg.SX_SLOT_OK_n r (n.val / 32)] s t) ∧ t.regBit (Reg.SX_SLOT_OK_n r (n.val / 32)) (n.val % 32) = true)) ∧
        (s.slotOut r n f.cycle written = none → Gives (.ownedSlotPassage r n written) s (fun t => t.ring = s.ring ∧
          t.regBit (Reg.SX_SLOT_OK_n r (n.val / 32)) (n.val % 32) = false ∧ RegsKept [Reg.SX_SLOT_OK_n r (n.val / 32)] s t))) ∧
      (∀ (e : TrailerIn) (launch : Nat) (ofs : Int) (fl : Fin 4), f.hdr.onEast = e.onEast → st ≠ RSt.disabled → st ≠ RSt.sleep →
        let err : Int := ((launch + s.pathDelay r : Nat) : Int) - f.rx
        (e.checkOk = false → Gives (.frameTrailer r e launch ofs fl) s (fun t => (t.rg r).cur = none ∧ t.rd (Fld.SX_STATUS_FRAME_OK r) = 0 ∧
          t.rd (Fld.SX_FRAME_ERR_FCS r) = (s.bump (Fld.SX_FRAME_ERR_FCS r)).rd (Fld.SX_FRAME_ERR_FCS r) ∧ t.clk = s.clk ∧
          (s.awaits r = false → t.rst r = st) ∧ ∀ d a, f.fate = FrameFate.anchor d a → t.pathDelay r = d % 2 ^ 32 ∧ (t.rg r).anchored = a)) ∧
        (e.checkOk = true → f.fate = FrameFate.bad → Gives (.frameTrailer r e launch ofs fl) s (fun t => (t.rg r).cur = none ∧ t.clk = s.clk ∧
          t.rd (Fld.SX_FRAME_COUNT_COUNT r) = s.rd (Fld.SX_FRAME_COUNT_COUNT r) ∧ (s.awaits r = false → t.rst r = st))) ∧
        (e.checkOk = true → f.fate ≠ FrameFate.bad → Gives (.frameTrailer r e launch ofs fl) s (fun t =>
          (t.rg r).cur = none ∧ t.rd (Fld.SX_STATUS_FRAME_OK r) = 1 ∧ (∀ x, (t.rg x).missed = 0) ∧
          t.rd (Fld.SX_FRAME_COUNT_COUNT r) = (s.bumpW (Fld.SX_FRAME_COUNT_COUNT r)).rd (Fld.SX_FRAME_COUNT_COUNT r) ∧
          t.rd (Fld.SX_RX_SPAN_VALUE r) = spanOf f.rx ∧
          (f.fate = FrameFate.mismatch → t.rd (Fld.SX_STATUS_SCHED_MISMATCH r) = 1 ∧ t.rst r = if st = RSt.sync then RSt.unsync else st) ∧
          (f.fate = FrameFate.forward → (t.rg r).fold = f.fold ∧ t.rst r = st) ∧
          (f.fate ≠ FrameFate.mismatch → f.fate ≠ FrameFate.forward →
            (st ≠ RSt.integrating → (t.rg r).fold = f.fold ∧ t.rd (Fld.SX_STATUS_SCHED_MISMATCH r) = 0) ∧
            (st = RSt.sync → t.clk.corr = err ∧ t.rst r = RSt.sync) ∧
            (st = RSt.lead → t.rst r = RSt.lead ∧ t.clk = s.clk) ∧
            (∀ c rx e0, st = RSt.unsync → g.last = some (c, rx, e0) → f.cycle = (c + 1) % 2 ^ 32 → -2000 ≤ err - e0 → err - e0 ≤ 2000 →
              s.rateOk = true → t.rst r = RSt.sync) ∧
            (st = RSt.unsync → g.last = none → t.rst r = RSt.unsync ∧ (t.rg r).last = some (f.cycle, f.rx, err)) ∧
            (st = RSt.integrating → s.selectSched r f.hdr.schedId = none → t.rst r = st ∧ t.rd (Fld.SX_CS_STATUS_NO_SCHED r) = 1) ∧
            (∀ y, st = RSt.integrating → s.selectSched r f.hdr.schedId = some y → t.rd (Fld.SX_CS_STATUS_NO_SCHED r) = 0 ∧
              (g.first = none → t.rst r = st ∧ (t.rg r).first = some (f.cycle, f.rx)) ∧
              (∀ c rx, g.first = some (c, rx) → f.cycle = (c + 1) % 2 ^ 32 → within f.rx (rx + y.tCycle) 2000 = true → s.rateOk = true →
                s.rd (Fld.SX_CS_STATUS_DELAY_VALID r) = 1 → t.rst r = RSt.sync))))))) ∧
    (∀ (n : Fin 256) (written : Bool) (x : Launched) (o : SlotOut), st = RSt.lead → g.sent = some x → x.header ≠ [] →
      s.slotOut r n x.cycle false = some o → Gives (.ownedSlotPassage r n written) s (fun t => (∃ rest, (t.rg r).wrote = o :: rest) ∧
        (t.rg r).sent = some { x with slots := x.slots.map (fun y =>
          if y.entry = entIndex (s.entry n) then { o with entry := entIndex (s.entry n) } else y) } ∧
        RegsKept [Reg.SX_SLOT_OK_n r (n.val / 32)] s t)) ∧
    (s.awaits r = true → s.ringEn r = true →
      let lost := ∀ x, s.ringEn x = true → s.awaits x = true → s.rd (Fld.SX_CS_CFG_LOSS_CYCLES x) ≤ (s.rg x).missed + if x = r then 1 else 0
      (g.cur = none → s.tExp r g.expK + 2000 ≤ s.clk.net →
        (¬ lost → Gives (.frameMissed r) s (fun t => (t.rg r).missed = g.missed + 1 ∧ (t.rg r).expK = g.expK + 1 ∧ (∀ x, t.rst x = s.rst x) ∧
          (st = RSt.sync → t.rd (Fld.SX_WIN_COUNT_MISSED r) = (s.bump (Fld.SX_WIN_COUNT_MISSED r)).rd (Fld.SX_WIN_COUNT_MISSED r)))) ∧
        (lost → Gives (.frameMissed r) s (fun t => ∀ x, s.ringEn x = true → t.rst x = RSt.listen ∧
          t.rd (Fld.SX_CS_COUNT_LEADER_LOST x) = (s.bump (Fld.SX_CS_COUNT_LEADER_LOST x)).rd (Fld.SX_CS_COUNT_LEADER_LOST x)))) ∧
      (s.clk.net < s.tExp r g.expK + 2000 → Gives (.frameMissed r) s (fun t => t = s)))

/-- TXC_SUBMIT queues a message with its destination, length, tag, kind and data when fewer than 16 wait, KIND is below 0x8000 and LEN is 1 to
52; otherwise REFUSED is set and the queue is as before. TXC_FLUSH empties the queue. CONTAINER_PASSAGE fills a free container with the
head message within CLAIM_MAX, with this node as its source; a written one for this node goes to the receive FIFO, or by its KIND to the
bridge, also from a frame that returns unless it was seen already; a failed check or a foreign destination is forwarded unchanged. RXC_POP
removes the head. DIRECT_FRAME_DEFERRED starts the oldest waiting frame once none is under way; DIRECT_COMMAND_FRAME applies a bit on
which two or three counted lanes agree, and discards the frame at a lost FQ8. (R46, R47, R217, R219, R220, R221, R407) -/
def Obligations.ContainersAndDirect : Prop :=
  ∀ (s : State) (i : Initiator) (r : Ring) (w : Word),
    let g := s.rg r
    let own := s.rd (Fld.SX_CFG_ADDR r)
    (s.mayWrite i (Reg.SX_TXC_CTRL r) = true →
      let len := s.rd (Fld.SX_TXC_HDR_LEN r)
      let kind := wbits w (Fld.SX_TXC_CTRL_KIND r)
      let data := (((List.range 13).map (fun n => leBytes 4 (s.rd (Fld.SX_TXC_DATA_n_BYTES r n)))).flatten).take len
      (wbits w (Fld.SX_TXC_CTRL_FLUSH r) = 0 →
        (g.queued < 16 → kind < 0x8000 → 1 ≤ len → len ≤ 52 → Gives (.txcSubmit i r w) s (fun t =>
          (t.rg r).txq = g.txq ++ [{ dest := s.rd (Fld.SX_TXC_HDR_DEST r), len := len, tag := s.rd (Fld.SX_TXC_HDR_TAG r), kind := kind, data := data, age := 0 }] ∧
          RegsKept [Reg.SX_TXC_CTRL r, Reg.SX_TXC_STATUS r] s t)) ∧
        (16 ≤ g.queued ∨ 0x8000 ≤ kind ∨ len = 0 ∨ 52 < len → Gives (.txcSubmit i r w) s (fun t => t.rd (Fld.SX_TXC_STATUS_REFUSED r) = 1 ∧
          t.ring = s.ring ∧ RegsKept [Reg.SX_TXC_CTRL r, Reg.SX_TXC_STATUS r] s t))) ∧
      (wbits w (Fld.SX_TXC_CTRL_SUBMIT r) = 0 → Gives (.txcFlush i r w) s (fun t => (t.rg r).txq = [] ∧ t.rd (Fld.SX_TXC_STATUS_QUEUED r) = 0 ∧
        RegsKept [Reg.SX_TXC_CTRL r, Reg.SX_TXC_STATUS r] s t))) ∧
    (s.mayWrite i (Reg.SX_RXC_CTRL r) = true → Gives (.rxcPop i r w) s (fun t => (t.rg r).rxq = g.rxq.drop 1 ∧ t.response i = .done)) ∧
    (∀ (f : FrameIn) (c : Container), g.cur = some f → f.conts = true →
      let mine := (c.dest = own ∨ c.dest = 255) ∧ c.source ≠ own
      let bridge := 0x8000 ≤ c.kind ∧ c.kind ≤ 0x80FF
      let msg : RxMsg := { source := c.source, bcast := c.dest == 255, len := c.len, tag := c.tag, kind := c.kind, data := c.payload.take c.len }
      (c.checkOk = false → Gives (.containerPassage r c) s (fun t => t = s)) ∧
      (c.checkOk = true →
        (c.mark = 0 →
          (∀ m ms, g.txq = m :: ms → g.claimed < s.rd (Fld.SX_CFG_CLAIM_MAX r) → Gives (.containerPassage r c) s (fun t =>
            (t.rg r).txq = ms ∧ (t.rg r).claimed = g.claimed + 1 ∧ (t.rg r).seen = c.index :: g.seen ∧
            (t.rg r).claimOut = { index := c.index, checkOk := true, mark := 0x5A, source := own, dest := m.dest, len := m.len, tag := m.tag,
                                  kind := m.kind, payload := m.data.take m.len } :: g.claimOut ∧
            t.rd (Fld.SX_TXC_COUNT_SENT r) = (s.bumpW (Fld.SX_TXC_COUNT_SENT r)).rd (Fld.SX_TXC_COUNT_SENT r))) ∧
          (g.txq = [] ∨ s.rd (Fld.SX_CFG_CLAIM_MAX r) ≤ g.claimed → Gives (.containerPassage r c) s (fun t => t = s))) ∧
        (c.mark = 0x5A ∨ c.mark = 0xA5 ∧ c.index ∉ g.seenPrev →
          (mine → ¬ bridge → g.rxq.length < 32 → Gives (.containerPassage r c) s (fun t => (t.rg r).rxq = g.rxq ++ [msg] ∧ t.rd (Fld.SX_RXC_STATUS_VALID r) = 1)) ∧
          (mine → ¬ bridge → 32 ≤ g.rxq.length → Gives (.containerPassage r c) s (fun t => (t.rg r).rxq = g.rxq ∧ t.rd (Fld.SX_STATUS_RXC_OVF r) = 1)) ∧
          (mine → 0x8001 ≤ c.kind → c.kind ≤ 0x8004 → Gives (.containerPassage r c) s (fun t => t.gus.inq = s.gus.inq ++ [(r, msg)] ∧
            (t.rg r).rxq = g.rxq ∧ t.regs = s.regs)) ∧
          (mine → bridge → c.kind = 0x8000 ∨ 0x8004 < c.kind → Gives (.containerPassage r c) s (fun t => t.gus = s.gus ∧ (t.rg r).rxq = g.rxq ∧
            t.rd Fld.GB_MSG_COUNT_BAD_KIND = (s.bump Fld.GB_MSG_COUNT_BAD_KIND).rd Fld.GB_MSG_COUNT_BAD_KIND)) ∧
          (¬ mine → Gives (.containerPassage r c) s (fun t => (t.rg r).rxq = g.rxq ∧ t.regs = s.regs))) ∧
        (c.mark = 0xA5 → c.index ∈ g.seenPrev → Gives (.containerPassage r c) s (fun t => t = s)))) ∧
    (∀ q : Fin 4,
      ((∀ d ∈ s.directIn, d.q ≠ q.val) → ∀ d, s.directQ.find? (fun x => x.q == q.val) = some d →
        Gives (.directFrameDeferred q) s (fun t => t = { s with directIn := s.directIn ++ [d], directQ := s.directQ.erase d })) ∧
      ((∃ d ∈ s.directIn, d.q = q.val) → Gives (.directFrameDeferred q) s (fun t => t = s)) ∧
      (∀ (absent : Tri Bool) (flip : Tri Byte) (d : DirectOut), s.directIn.find? (fun d => d.q == q.val) = some d →
        ((s.fqAt q).lost = true → Gives (.directCommandFrame q absent flip) s (fun t => t.fq = s.fq ∧
          t.directIn = s.directIn.filter (fun x => x.q != q.val))) ∧
        (∀ ch b m, d.bits = [(ch, b)] → (s.fqAt q).lost = false → (s.fqAt q).member ≠ none → (s.fqAt q).msg = some m → getAt 3 m.modes (ch % 8) ≠ 3 →
          (∀ l, bitOf (flip.get l).toNat (ch % 8) = false) → 2 ≤ (s.directLanes q absent).length → (s.fqAt q).cmd.length = 8 → q.val < s.fq.length →
          Gives (.directCommandFrame q absent flip) s (fun t => getAt (!b) (t.fqAt q).cmd (ch % 8) = b ∧
            (∀ j, j ≠ ch % 8 → getAt b (t.fqAt q).cmd j = getAt b (s.fqAt q).cmd j) ∧ t.directIn = s.directIn.filter (fun x => x.q != q.val)))))

/-- LISTEN_TIME_END of a unit with a rank and a valid hop delay sends the claim on both pairs of every enabled ring and puts every listening
enabled unit into CLAIMING; not before its time. CLAIM_RECEIVED elects the module when its own claim returns, records a shared address,
counts at a settled unit, and at a contending one yields to a better claim (forwarded, contending units withdraw) or, for an equal rank,
records the rank clash and backs off. CLAIM_TIMEOUT after 1 ms returns to LISTEN, BACKOFF_END claims again. CENSUS_SEND and CENSUS_REPEAT
send the leader's census; CENSUS_RECEIVED gives a member with a valid hop delay its path delay and puts it into INTEGRATING, another
forwards it unchanged; CENSUS_RETURN puts the leader into LEAD with the plug schedule of the composition, or sets NO_SCHED or DELAY_ERR.
(R234, R237, R238, R239, R240, R241, R242, R243, R244) -/
def Obligations.ColdStartElection : Prop :=
  ∀ (s : State) (r : Ring),
    let g := s.rg r
    let st := s.rst r
    let rank := s.rd (Fld.SX_CS_CFG_RANK r)
    let valid := fun x : Ring => s.rd (Fld.SX_CS_STATUS_DELAY_VALID x) = 1
    let nonce := s.clk.uptime % 2 ^ 32
    let claims := fun (from_ : Nat) (t : State) => ∀ x, s.ringEn x = true →
      t.rst x = (if s.rst x = from_ then RSt.claiming else s.rst x) ∧ (t.rg x).nonce = some nonce ∧
      (t.rg x).ctrl = some { bytes := withCheck (claimBody 2 (4 * x.num) (s.rd (Fld.SX_CFG_ADDR x)) (s.rd (Fld.SX_CS_CFG_RANK x)) nonce),
                             at_ := s.clk.uptime, east := true, west := true }
    (st = RSt.listen → rank ≠ 0 → (∀ x, s.ringEn x = true → (s.rg x).withdrawn = false) → valid r → s.addrClash = false →
      (g.since + listenNs rank ≤ s.clk.uptime → Gives (.listenTimeEnd r) s (claims RSt.listen)) ∧
      (s.clk.uptime < g.since + listenNs rank → Gives (.listenTimeEnd r) s (fun t => t = s))) ∧
    (st = RSt.backoff → s.ringEn r = true → s.addrClash = false →
      g.since + backoffNs rank (s.rd (Fld.SX_CFG_ADDR r)) ≤ s.clk.uptime → Gives .backoffEnd s (claims RSt.backoff)) ∧
    Gives .claimTimeout s (fun t => ∀ x, t.rst x = if s.ringEn x = true ∧ s.rst x = RSt.claiming ∧ (s.rg x).since + 1000000 ≤ s.clk.uptime
      then RSt.listen else s.rst x) ∧
    (∀ c : ClaimFrm, c.checkOk = true → st ≠ RSt.disabled →
      (c.source = s.rd (Fld.SX_CFG_ADDR r) →
        (g.nonce = some c.nonce → st = RSt.claiming → Gives (.claimReceived r c) s (fun t => ∀ x, s.ringEn x = true →
          t.rst x = RSt.leadCensus ∧ t.rd (Fld.SX_CS_COUNT_ELECTED x) = (s.bump (Fld.SX_CS_COUNT_ELECTED x)).rd (Fld.SX_CS_COUNT_ELECTED x))) ∧
        (g.nonce ≠ some c.nonce → Gives (.claimReceived r c) s (fun t => t.rd (Fld.SX_CS_STATUS_ADDR_CLASH r) = 1 ∧ t.rst r = st))) ∧
      (c.source ≠ s.rd (Fld.SX_CFG_ADDR r) →
        (st = RSt.leadCensus ∨ st = RSt.lead ∨ st = RSt.sync ∨ st = RSt.unsync ∨ st = RSt.sleep → Gives (.claimReceived r c) s (fun t =>
          t.rd (Fld.SX_CS_COUNT_CLAIMS_SEEN r) = (s.bump (Fld.SX_CS_COUNT_CLAIMS_SEEN r)).rd (Fld.SX_CS_COUNT_CLAIMS_SEEN r) ∧
          RegsKept [Reg.SX_CS_COUNT r] s t ∧ OnlyRegs s t)) ∧
        (st = RSt.backoff ∨ st = RSt.integrating ∨ st = RSt.listen ∧ (rank = 0 ∨ g.withdrawn = true) → Gives (.claimReceived r c) s (fun t =>
          t = s.forwardClaim r c)) ∧
        (st = RSt.claiming ∨ st = RSt.listen ∧ rank ≠ 0 ∧ g.withdrawn = false →
          (c.rank < rank ∨ g.clash = true ∧ c.rank = rank ∧ c.source < s.rd (Fld.SX_CFG_ADDR r) → Gives (.claimReceived r c) s (fun t =>
            (t.rg r).ctrl = ((s.forwardClaim r c).rg r).ctrl ∧ ∀ x, s.ringEn x = true → s.rst x = RSt.claiming ∨ s.rst x = RSt.listen →
              t.rst x = RSt.listen ∧ (t.rg x).withdrawn = true)) ∧
          (c.rank = rank → g.clash = false → Gives (.claimReceived r c) s (fun t => t.rd (Fld.SX_CS_STATUS_RANK_CLASH r) = 1 ∧
            t.rd (Fld.SX_CS_COUNT_CLASHES r) = (s.bump (Fld.SX_CS_COUNT_CLASHES r)).rd (Fld.SX_CS_COUNT_CLASHES r) ∧
            ∀ x, s.ringEn x = true → s.rst x = RSt.claiming ∨ s.rst x = RSt.listen → t.rst x = RSt.backoff))))) ∧
    (st = RSt.leadCensus → s.ringEn r = true →
      (g.census = none → g.since + 100000 ≤ s.clk.uptime → Gives .censusSend s (fun t => (t.rg r).census = some s.clk.uptime ∧ t.regs = s.regs)) ∧
      (∀ a, g.census = some a → a + 100000000 ≤ s.clk.uptime → Gives .censusRepeat s (fun t => (t.rg r).census = some s.clk.uptime ∧ t.regs = s.regs))) ∧
    (∀ c : CensusFrm, c.checkOk = true → s.takes r c.onEast = true →
      (s.rd (Fld.SX_CS_STATUS_DELAY_VALID r) = 0 → st ≠ RSt.disabled → st ≠ RSt.sleep → st ≠ RSt.lead → st ≠ RSt.leadCensus →
        Gives (.censusReceived r c) s (fun t => t = s.forwardOn r c.onEast (censusBody c.flags c.leader c.count c.acc c.list))) ∧
      (valid r → st ≠ RSt.disabled → st ≠ RSt.sleep → st ≠ RSt.lead → st ≠ RSt.leadCensus → Gives (.censusReceived r c) s (fun t =>
        t.pathDelay r = (c.acc + if c.onEast then 32 else s.rd (Fld.SX_HOP_DELAY_NS r)) % 2 ^ 32 ∧
        t.rd (Fld.SX_INAUG_STATUS_POS r) = c.count % 256 ∧
        t.rst r = if st = RSt.listen ∨ st = RSt.unsync ∨ st = RSt.integrating then RSt.integrating else st)) ∧
      (st = RSt.leadCensus → g.census ≠ none → s.ringEn r = true →
        let delay := c.acc + if c.onEast then 0 else s.rd (Fld.SX_HOP_DELAY_NS r)
        (s.schedOfComp (compDigest c.count c.list) = none → Gives (.censusReturn r c) s (fun t => t.rd (Fld.SX_CS_STATUS_NO_SCHED r) = 1 ∧ t.rst r = st)) ∧
        (∀ n p, s.schedOfComp (compDigest c.count c.list) = some (n, p) → (∀ e ∈ p.entries, e.1 < 256) →
          (4 * (planFig p).dRing + 2000 < delay → Gives (.censusReturn r c) s (fun t => t.rd (Fld.SX_CS_STATUS_DELAY_ERR r) = 1 ∧ t.rst r = st)) ∧
          (delay ≤ 4 * (planFig p).dRing + 2000 → Gives (.censusReturn r c) s (fun t => t.sched = some p ∧ t.reg Reg.SX_SCHED_ID = p.id ∧
            t.pathDelay r = delay % 2 ^ 32 ∧
            ∀ x, s.ringEn x = true → t.rst x = RSt.lead ∧ (t.rg x).fresh = true)))))

/-- HOP_DELAY_REQUEST is answered 160 ns later, HOP_DELAY_ANSWER within 10 µs sets half the round trip less 160 ns, HOP_PROBE_RETRY asks again
after 100 µs. LINE_CODE_LOSS and F_SET_RECEIVED open the port, and with both ports open a synchronised unit is UNSYNC; FOLD_ENGAGE 32 ns
after the port opened counts the fold, shows FOLDED while one port is open, forwards no more of the frame in passage and, at an open west
port, ends it. LINE_CODE_RETURN at an open port sends the unit's leader address, at the west one also a hop delay request; HEAL_EXCHANGE
with an equal or absent leader address closes the port, frames on E_RI being taken until the first on W_FI after the west one, with
another it stays open with FOREIGN. REINAUG at a leader puts every enabled unit into LISTEN. Units of a disabled ring only show the line
code. (R236, R242, R250, R251, R253, R257, R258) -/
def Obligations.HopDelaysAndFolds : Prop :=
  ∀ (s : State) (r : Ring) (east : Bool) (addr : Byte) (bad : Nat),
    let g := s.rg r
    let st := s.rst r
    let sent := fun (char data : Nat) (west : Bool) (t : State) => { char := char, data := data, west := west, at_ := s.clk.uptime } ∈ (t.rg r).sets
    let lost := if east then g.eLoss else g.wLoss
    let cut := fun t : State => t.rd (openFld r east) = 1 ∧
      (s.rd (openFld r (!east)) = 1 → st = RSt.sync → t.rst r = RSt.unsync) ∧ (s.rd (openFld r (!east)) = 0 ∨ st ≠ RSt.sync → t.rst r = st) ∧
      (s.rd (openFld r east) = 0 → (t.rg r).openAt = some s.clk.uptime) ∧ (s.rd (openFld r east) = 1 → (t.rg r).openAt = g.openAt)
    (st ≠ RSt.disabled →
      Gives (.hopDelayRequest r) s (fun t => (t.rg r).answer = some (s.clk.uptime + 160) ∧ t = { s with ring := t.ring }) ∧
      Gives (.lineCodeLoss r { east := east, bad := bad }) s (fun t => cut t ∧ t.rd (codeFld r east) = 0 ∧
        (if east then (t.rg r).eLoss else (t.rg r).wLoss) = true ∧ sent 0x1C 1 (!east) t) ∧
      Gives (.fSetReceived r east) s (fun t => cut t ∧ (if east then (t.rg r).eF else (t.rg r).wF) = true) ∧
      (s.rd (openFld r east) = 1 → Gives (.lineCodeReturn r east) s (fun t => t.rd (codeFld r east) = 1 ∧ t.rd (openFld r east) = 1 ∧
        (if east then (t.rg r).eLoss else (t.rg r).wLoss) = false ∧ (east = false → (t.rg r).probe = some s.clk.uptime ∧ sent 0x3C 1 true t) ∧
        sent 0xFC (s.healAddr r) (!east) t))) ∧
    (st = RSt.disabled ∨ s.rd (openFld r east) = 0 → Gives (.lineCodeReturn r east) s (fun t => t.rd (codeFld r east) = 1 ∧
      (if east then (t.rg r).eLoss else (t.rg r).wLoss) = false ∧ (t.rg r).sets = g.sets ∧ RegsKept [Reg.SX_PORT_STATUS r] s t)) ∧
    (st = RSt.disabled →
      Gives (.hopDelayRequest r) s (fun t => t = s) ∧ Gives (.fSetReceived r east) s (fun t => t = s) ∧
      Gives (.lineCodeLoss r { east := east, bad := bad }) s (fun t => t.rd (codeFld r east) = 0 ∧ RegsKept [Reg.SX_PORT_STATUS r] s t ∧ OnlyRegs s t)) ∧
    (∀ a, g.answer = some a → a ≤ s.clk.uptime → Gives (.hopDelayAnswerSend r) s (fun t => (t.rg r).answer = none ∧ t.regs = s.regs ∧
      (s.carries r false = false → sent 0x3C 2 false t) ∧ (s.carries r false = true → (t.rg r).sets = g.sets))) ∧
    (∀ a, g.probe = some a → a ≤ s.clk.uptime →
      (s.clk.uptime ≤ a + 10000 → Gives (.hopDelayAnswer r) s (fun t => t.rd (Fld.SX_HOP_DELAY_NS r) = (s.clk.uptime - a - 160) / 2 ∧
        t.rd (Fld.SX_CS_STATUS_DELAY_VALID r) = 1 ∧ (t.rg r).probe = none ∧ RegsKept [Reg.SX_HOP_DELAY r, Reg.SX_CS_STATUS r] s t)) ∧
      (a + 10000 < s.clk.uptime → Gives (.hopDelayAnswer r) s (fun t => t = s)) ∧
      (a + 100000 ≤ s.clk.uptime → Gives (.hopProbeRetry r) s (fun t => (t.rg r).probe = some s.clk.uptime ∧ sent 0x3C 1 true t ∧ t.regs = s.regs))) ∧
    (∀ a, g.openAt = some a →
      (a + 32 ≤ s.clk.uptime → Gives (.foldEngage r) s (fun t => (t.rg r).openAt = none ∧
        t.rd (Fld.SX_HEM_COUNT_FOLDS r) = (s.bump (Fld.SX_HEM_COUNT_FOLDS r)).rd (Fld.SX_HEM_COUNT_FOLDS r) ∧
        t.rd (Fld.SX_PORT_STATUS_E_FO_FRAME r) = 0 ∧ (t.rg r).fwd = none ∧
        (t.rg r).cur = (if s.rd (Fld.SX_CS_STATUS_W_OPEN r) = 1 then none else g.cur) ∧
        (t.rd (Fld.SX_STATUS_FOLDED r) = 1 ↔ s.rd (Fld.SX_CS_STATUS_E_OPEN r) ≠ s.rd (Fld.SX_CS_STATUS_W_OPEN r) ∨
          g.tail = true ∧ s.cutOff r = false) ∧
        (s.rd (Fld.SX_CS_STATUS_W_OPEN r) = 0 ∨ g.cur = none → RegsKept [Reg.SX_HEM_COUNT r, Reg.SX_STATUS r, Reg.SX_PORT_STATUS r] s t))) ∧
      (s.clk.uptime < a + 32 → Gives (.foldEngage r) s (fun t => t = s))) ∧
    (s.rd (openFld r east) = 1 → lost = false →
      (addr.toNat = s.healAddr r ∨ s.healAddr r = 0 ∨ addr = 0 → Gives (.healExchange r east addr) s (fun t => t.rd (openFld r east) = 0 ∧
        t.rd (Fld.SX_CS_STATUS_FOREIGN r) = 0 ∧ (t.rg r).openAt = none ∧
        (t.rg r).tail = (g.tail || !east) ∧
        (t.rd (Fld.SX_STATUS_FOLDED r) = 1 ↔ s.rd (openFld r (!east)) = 1 ∨ g.tail = true ∨ east = false) ∧ RegsKept [Reg.SX_CS_STATUS r, Reg.SX_STATUS r] s t)) ∧
      (addr.toNat ≠ s.healAddr r → s.healAddr r ≠ 0 → addr ≠ 0 → Gives (.healExchange r east addr) s (fun t => t.rd (openFld r east) = 1 ∧
        t.rd (Fld.SX_CS_STATUS_FOREIGN r) = 1 ∧ t.rd (Fld.SX_CS_STATUS_FOREIGN_LEADER r) = addr.toNat ∧ t.ring = s.ring ∧
        RegsKept [Reg.SX_CS_STATUS r] s t))) ∧
    (∀ (i : Initiator) (w : Word), s.mayWrite i (Reg.SX_INAUG_CTRL r) = true →
      (s.flag (Fld.SX_STATUS_LEADER r) = true → Gives (.reinaug i r w) s (fun t => t.response i = .done ∧ ∀ x, s.ringEn x = true → t.rst x = RSt.listen)) ∧
      (s.flag (Fld.SX_STATUS_LEADER r) = false → Gives (.reinaug i r w) s (fun t => t.ring = s.ring ∧ t.rst r = st)))

/-- CURRENT_LIMIT takes a stage from ON to LIMIT and CURRENT_BELOW_LIMIT back. LIMIT_TRIP after 10 ms in LIMIT, and THERMAL_SHUTDOWN of an
open stage, trip it with cause 1 or 0. A tripped stage in auto-retry mode with a cool die leaves TRIPPED 100 ms after the trip
(AUTO_RETRY, or DIE_COOLED when it cools later), counted; one outside that mode leaves it by CLEAR while its die is cool, and CLEAR is
ignored otherwise; at a terminal that field I/O does not own it is a conflict. A stage that leaves TRIPPED is ON where it is driven, else
OFF. GATE_BOOST_END and GATE_DISCHARGE_END at their times set and clear CONDUCT. PERMIT_LINE_CHANGE takes the line's level: an open stage
no longer driven is OFF, a closed one now driven ON. No event acts before its time or in another state, and no other channel's status
changes. (R42, R49, R108, R293, R294, R306) -/
def Obligations.StageProtection : Prop :=
  ∀ (s : State) (n : Fin 32) (i : Initiator) (w : Word), s.fld.chs.length = 32 →
    let c := s.fch n
    let only := fun t : State => RegsKept [Reg.FIO_CH_n_STAT n, Reg.FIO_CH_n_CNT n, Reg.FIO_CH_n_CTRL n] s t ∧ t.lane = s.lane ∧ t.fq = s.fq
    let tripped := fun (cause : Nat) (t : State) => t.ost n = OSt.tripped ∧ t.rd (Fld.FIO_CH_n_STAT_TRIPPED n) = 1 ∧
      t.rd (Fld.FIO_CH_n_STAT_TRIP_CAUSE n) = cause ∧ t.rd Fld.FIO_STATUS_TRIP_SEEN = 1 ∧ (t.fch n).tripAt = some s.clk.uptime ∧ t.fq = s.fq ∧
      ∀ m : Fin 32, m ≠ n → t.reg (Reg.FIO_CH_n_STAT m) = s.reg (Reg.FIO_CH_n_STAT m)
    let freed := fun t : State => t.ost n = (if s.driven n then OSt.on else OSt.off) ∧ t.rd (Fld.FIO_CH_n_STAT_TRIPPED n) = 0 ∧
      (t.fch n).tripAt = none ∧ only t
    (s.ost n = OSt.on → Gives (.currentLimit n) s (fun t => t.ost n = OSt.limit ∧ t.rd (Fld.FIO_CH_n_STAT_LIMIT n) = 1 ∧
      (t.fch n).limitAt = some s.clk.uptime ∧ only t)) ∧
    (s.ost n ≠ OSt.on → Gives (.currentLimit n) s (fun t => t = s)) ∧
    (s.ost n = OSt.limit → Gives (.currentBelowLimit n) s (fun t => t.ost n = OSt.on ∧ t.rd (Fld.FIO_CH_n_STAT_LIMIT n) = 0 ∧
      (t.fch n).limitAt = none ∧ only t)) ∧
    (s.ost n ≠ OSt.limit → Gives (.currentBelowLimit n) s (fun t => t = s) ∧ Gives (.limitTrip n) s (fun t => t = s)) ∧
    (∀ a, c.limitAt = some a → s.ost n = OSt.limit →
      (a + 10000000 ≤ s.clk.uptime → Gives (.limitTrip n) s (tripped 1)) ∧ (s.clk.uptime < a + 10000000 → Gives (.limitTrip n) s (fun t => t = s))) ∧
    (gateOpen (s.ost n) = true → Gives (.thermalShutdown n) s (fun t => tripped 0 t ∧ (t.fch n).hot = true)) ∧
    (gateOpen (s.ost n) = false → Gives (.thermalShutdown n) s (fun t => (t.fch n).hot = true ∧ t.regs = s.regs)) ∧
    (∀ a, c.tripAt = some a → s.ost n = OSt.tripped → s.flag (Fld.FIO_CH_n_FLT_RETRY n) = true →
      (a + 100000000 ≤ s.clk.uptime →
        let retried := fun t : State => freed t ∧ t.rd (Fld.FIO_CH_n_CNT_RETRIES n) = (s.bump (Fld.FIO_CH_n_CNT_RETRIES n)).rd (Fld.FIO_CH_n_CNT_RETRIES n)
        (c.hot = false → Gives (.autoRetry n) s retried) ∧ Gives (.dieCooled n) s (fun t => retried t ∧ (t.fch n).hot = false)) ∧
      (s.clk.uptime < a + 100000000 ∨ c.hot = true → Gives (.autoRetry n) s (fun t => t = s))) ∧
    (s.mayWrite i (Reg.FIO_CH_n_CTRL n) = true → s.rd (Fld.FIO_CH_n_CFG_OWNER n) = 1 → Gives (.clear i n w) s (fun t =>
      t.rd Fld.FIO_STATUS_OWN_CONFLICT = 1 ∧ t.rd Fld.FIO_OWN_RUN_KIND = 1 ∧ t.rd Fld.FIO_OWN_RUN_INDEX = n.val ∧ t.fld = s.fld ∧
      t.reg (Reg.FIO_CH_n_STAT n) = s.reg (Reg.FIO_CH_n_STAT n))) ∧
    (s.mayWrite i (Reg.FIO_CH_n_CTRL n) = true → s.rd (Fld.FIO_CH_n_CFG_OWNER n) ≠ 1 →
      (s.ost n = OSt.tripped → s.flag (Fld.FIO_CH_n_FLT_RETRY n) = false → c.hot = false → Gives (.clear i n w) s freed) ∧
      (s.flag (Fld.FIO_CH_n_FLT_RETRY n) = true ∨ c.hot = true → Gives (.clear i n w) s (fun t => t.ost n = s.ost n ∧ t.fld = s.fld ∧ only t))) ∧
    (∀ a, c.boostAt = some a →
      (a ≤ s.clk.uptime → Gives (.gateBoostEnd n) s (fun t => t.conducts n = true ∧ (t.fch n).boostAt = none ∧ t.ost n = s.ost n ∧ only t)) ∧
      (s.clk.uptime < a → Gives (.gateBoostEnd n) s (fun t => t = s))) ∧
    (∀ a, c.dischAt = some a →
      (a ≤ s.clk.uptime → Gives (.gateDischargeEnd n) s (fun t => t.conducts n = false ∧ (t.fch n).dischAt = none ∧
        (t.fch n).stopAt = some s.clk.uptime ∧ t.ost n = s.ost n ∧ only t)) ∧
      (s.clk.uptime < a → Gives (.gateDischargeEnd n) s (fun t => t = s))) ∧
    (let b := bitOf s.plane.lines.toNat n
     let s' := s.modFch n (fun c => { c with permit := b })
     (c.permit = b → Gives (.permitLineChange n) s (fun t => t = s)) ∧
     (c.permit ≠ b → Gives (.permitLineChange n) s (fun t => (t.fch n).permit = b ∧ only t ∧
       (s.ost n = OSt.off → s'.driven n = true → t.ost n = OSt.on) ∧ (gateOpen (s.ost n) = true → s'.driven n = false → t.ost n = OSt.off))))

/-- FILTER_TICK of a sealed module, at its time, samples every input of a working FQ8 and steps its counter and filtered state by the filter
rule, the first tick setting both from the sample; the next tick is one tick time after the one due. CAP_ARM of a buffer that field I/O
owns starts it anew; of another it is a conflict and the buffer is left alone. CHANNEL_MEASUREMENT, once per millisecond of uptime, shows
the calibrated values. FIO_COMMIT of a shadow set that passes the checks is pending, of another CFG_ERR with its code; FIO_SHADOW_COPY in
the jc of the tick makes the set the working one, or refuses it with its code and leaves the working set. (R285, R286, R287, R288, R289,
R300, R302, R303) -/
def Obligations.FieldSampling : Prop :=
  ∀ (s : State) (raw : Word) (i : Initiator) (w : Word) (m : Fin 4) (volt curr : List (BitVec 16)),
    (s.isSealed = true → s.ej2Down = false →
      (s.fld.tickAt ≤ s.clk.uptime → Gives (.filterTick raw) s (fun t => t.fld.first = false ∧ t.fld.lastTick = s.clk.uptime ∧
        t.fld.tickAt = s.tickInstant + 1000 * s.rd Fld.FIO_TICK_US ∧ t.fq = s.fq ∧
        ∀ n : Fin 32, s.isInput n = true → (s.fqAt (n.val / 8)).lost = false →
          let b := bitOf raw.toNat n
          let top := s.rd (Fld.FIO_CH_n_FLT_N n)
          let f := if s.fld.first then (railOf top b, b) else filterStep top b (s.rd (Fld.FIO_CH_n_STAT_COUNT n)) (s.flag (Fld.FIO_CH_n_STAT_FILT n))
          t.rd (Fld.FIO_CH_n_STAT_RAW n) = b2n b ∧ t.rd (Fld.FIO_CH_n_STAT_COUNT n) = f.1 ∧ t.rd (Fld.FIO_CH_n_STAT_FILT n) = b2n f.2)) ∧
      (s.clk.uptime < s.fld.tickAt → Gives (.filterTick raw) s (fun t => t = s))) ∧
    (s.mayWrite i (Reg.FIO_CAP_m_CTRL m) = true →
      let owner := s.rd (Fld.FIO_CAP_m_CTRL_OWNER m)
      (owner = 3 → Gives (.capArm i m w) s (fun t => t.rd (Fld.FIO_CAP_m_STAT_BUSY m) = 1 ∧ t.rd (Fld.FIO_CAP_m_STAT_DONE m) = 0 ∧
        t.fld = { s.fld with capPos := setAt s.fld.capPos m 0, capCh := setAt s.fld.capCh m (wbits w (Fld.FIO_CAP_m_CTRL_CH m)) } ∧ t.response i = .done)) ∧
      (owner ≠ 3 → Gives (.capArm i m w) s (fun t => t.rd Fld.FIO_STATUS_OWN_CONFLICT = 1 ∧ t.rd Fld.FIO_OWN_RUN_KIND = 3 ∧
        t.rd Fld.FIO_OWN_RUN_INDEX = m.val ∧ t.rd Fld.FIO_OWN_RUN_HOLDER = owner ∧ t.fld = s.fld ∧
        t.reg (Reg.FIO_CAP_m_CTRL m) = s.reg (Reg.FIO_CAP_m_CTRL m) ∧ t.reg (Reg.FIO_CAP_m_STAT m) = s.reg (Reg.FIO_CAP_m_STAT m)))) ∧
    (s.isSealed = true → s.fld.measN < s.clk.uptime / 1000000 → Gives (.channelMeasurement volt curr) s (fun t =>
      t.fld = { s.fld with measN := s.clk.uptime / 1000000 } ∧ ∀ n : Fin 32,
        ((s.fqAt (n.val / 8)).lost = false →
          t.rd (Fld.FIO_CH_n_MEAS_VOLT n) = ofSigned 16 (calibrate (s.reg (Reg.FIO_CH_n_CALV n)) (getAt (0 : BitVec 16) volt n).toInt (-32768) 32767) ∧
          t.rd (Fld.FIO_CH_n_MEAS_CURR n) = (calibrate (s.reg (Reg.FIO_CH_n_CALI n)) ((getAt (0 : BitVec 16) curr n).toNat : Nat) 0 65535).toNat) ∧
        ((s.fqAt (n.val / 8)).lost = true → t.reg (Reg.FIO_CH_n_MEAS n) = s.reg (Reg.FIO_CH_n_MEAS n)))) ∧
    (s.mayWrite i Reg.FIO_CTRL = true →
      (∀ e, s.fioShadowCheck = some e → Gives (.fioCommit i w) s (fun t => t.rd Fld.FIO_CTRL_CFG_ERR = 1 ∧ t.rd Fld.FIO_CTRL_ERR_CODE = e ∧
        t.rd Fld.FIO_CTRL_BASTE_PENDING = s.rd Fld.FIO_CTRL_BASTE_PENDING)) ∧
      (s.fioShadowCheck = none → Gives (.fioCommit i w) s (fun t => t.rd Fld.FIO_CTRL_BASTE_PENDING = 1 ∧ RegsKept [Reg.FIO_CTRL] s t))) ∧
    (s.rd Fld.FIO_CTRL_BASTE_PENDING = 1 →
      (s.fld.ticked = false ∨ s.fld.lastTick ≠ s.clk.uptime → Gives .fioShadowCopy s (fun t => t = s)) ∧
      (s.fld.ticked = true → s.fld.lastTick = s.clk.uptime →
        (s.fioShadowCheck = none → Gives .fioShadowCopy s (fun t => t.rd Fld.FIO_CTRL_BASTE_PENDING = 0 ∧
          t.rd Fld.FIO_TICK_US = s.rd Fld.FIO_SH_TICK_US ∧ (∀ n : Fin 32, t.reg (Reg.FIO_CH_n_FLT n) = s.reg (Reg.FIO_SH_CH_n_FLT n) ∧
            t.reg (Reg.FIO_CH_n_CALV n) = s.reg (Reg.FIO_SH_CH_n_CALV n) ∧ t.reg (Reg.FIO_CH_n_CALI n) = s.reg (Reg.FIO_SH_CH_n_CALI n)) ∧
          ∀ q : Fin 4, t.reg (Reg.FIO_SUP_q_CAL q) = s.reg (Reg.FIO_SH_SUP_q_CAL q))) ∧
        (∀ e, s.fioShadowCheck = some e → Gives .fioShadowCopy s (fun t => t.rd Fld.FIO_CTRL_BASTE_PENDING = 0 ∧ t.rd Fld.FIO_CTRL_CFG_ERR = 1 ∧
          t.rd Fld.FIO_CTRL_ERR_CODE = e ∧ t.reg Reg.FIO_TICK = s.reg Reg.FIO_TICK ∧
          ∀ n : Fin 32, t.reg (Reg.FIO_CH_n_FLT n) = s.reg (Reg.FIO_CH_n_FLT n)))))

/-- SUPPLY_SAMPLE, once per 100 µs of uptime in a sealed module, shows each working FQ8's calibrated supply; a monitor in NORMAL stays there
while the value is at least U_sag, else it enters SAG; one in SAG with its 21st sample below U_cut in a row enters CUT, with all its
output stages in CUT. G0_CUT_FORWARD brings the other FQ8 of group 0 into CUT with it. GRP_ACK releases each acknowledged group that is
READY: NORMAL again, its cut stages OFF, or TRIPPED where a trip is kept; a group that is not READY stays as it is. (R293, R296, R297,
R298, R299, R300) -/
def Obligations.SupplyGroups : Prop :=
  ∀ (s : State) (v0 v1 v2 v3 : BitVec 16) (i : Initiator) (w : Word), s.fld.sups.length = 4 →
    let cutOut := fun (q : Nat) (t : State) => (t.sup q).st = GSt.cut ∧ ∀ n ∈ fqChannels q, s.isOutput n = true → t.ost n = OSt.cut
    (s.isSealed = true → s.fld.supN < s.clk.uptime / 100000 → Gives (.supplySample v0 v1 v2 v3) s (fun t =>
      t.fld.supN = s.clk.uptime / 100000 ∧ ∀ q : Fin 4, (s.fqAt q).lost = false →
        let x := s.sup q
        let v := (calibrate (s.reg (Reg.FIO_SUP_q_CAL q)) ((getAt 0 [v0, v1, v2, v3] q).toNat : Nat) 0 65535).toNat
        t.rd (Fld.FIO_SUP_q_MEAS_VOLT q) = v ∧
        ((q.val ≠ 3 ∨ v ≤ 3000 ∨ s.wideOutput = false) →
          (x.st = GSt.normal → (t.sup q).st = if s.uSag (fqGroup q) ≤ v then GSt.normal else GSt.sag) ∧
          (x.st = GSt.sag → v < s.uCut (fqGroup q) → 20 ≤ x.low → cutOut q t)))) ∧
    (s.isSealed = true → s.clk.uptime / 100000 ≤ s.fld.supN → Gives (.supplySample v0 v1 v2 v3) s (fun t => t = s)) ∧
    ((s.sup 0).st = GSt.cut → (s.sup 1).st ≠ GSt.cut → Gives .g0CutForward s (fun t => cutOut 1 t ∧ (t.sup 1).cause = (s.sup 0).cause)) ∧
    ((s.sup 1).st = GSt.cut → (s.sup 0).st ≠ GSt.cut → Gives .g0CutForward s (fun t => cutOut 0 t ∧ (t.sup 0).cause = (s.sup 1).cause)) ∧
    (s.mayWrite i Reg.FIO_GRP_ACK = true → Gives (.grpAck i w) s (fun t => t.response i = .done ∧ ∀ m < 3,
      let ack := bitOf w.toNat m = true ∧ s.rd (Fld.FIO_GRP_m_STAT_READY m) = 1
      (ack → t.groupState m = GSt.normal ∧ ∀ n : Fin 32, groupOf n = m → s.ost n = OSt.cut →
        t.ost n = if s.flag (Fld.FIO_CH_n_STAT_TRIPPED n) then OSt.tripped else OSt.off) ∧
      (¬ ack → t.groupState m = s.groupState m ∧ ∀ n : Fin 32, groupOf n = m → t.ost n = s.ost n)))

/-- PLANE_EVALUATION in HOLD, RUN or SAFE with a running clock and a table counts the evaluation and, in RUN, puts the registered permits on
the lines; a line read back wrong twice puts the plane into SAFE with cause 6 and no line. DIGEST_PASS_END with a wrong digest puts it
into SAFE with cause 3. PLANE_STATUS_RECEIVED mirrors the last evaluation's count, permits and state in AX once. PLANE_LINK_SILENT, when
the link has been silent for 10 µs or the plane is SAFE, reports a self-fault of cause 2. EVAL_COUNT_READ answers AX.EVAL_COUNT and
captures the permits and the sense states beside it. (R306, R309, R311, R317, R319, R322, R325, R326, R334) -/
def Obligations.PlaneLink : Prop :=
  ∀ (s : State) (sense readBad : Word) (i : Initiator),
    let p := s.plane
    (PSt.hold ≤ p.st → p.osc = true → p.table ≠ [] →
      let wrong := (p.st = PSt.hold ∨ p.st = PSt.run) ∧ readBad &&& p.bad ≠ 0
      Gives (.planeEvaluation sense readBad) s (fun t => t = { s with plane := t.plane } ∧ t.plane.evals = p.evals + 1 ∧ t.plane.bad = readBad ∧
        t.plane.table = p.table ∧
        (wrong → t.plane.st = PSt.safe ∧ t.plane.cause = 6 ∧ t.plane.lines = 0) ∧
        (¬ wrong → t.plane.st = p.st ∧ t.plane.cause = p.cause ∧ t.plane.lines = if p.st = PSt.run then p.reg else 0))) ∧
    (p.st < PSt.hold ∨ p.osc = false ∨ p.table = [] → Gives (.planeEvaluation sense readBad) s (fun t => t = s)) ∧
    (p.st = PSt.hold ∨ p.st = PSt.run →
      Gives (.digestPassEnd true) s (fun t => t.plane = { p with digestAt := some s.clk.uptime } ∧ t.rd Fld.AX_STATUS_DIGEST_OK = 1 ∧ t.lane = s.lane) ∧
      Gives (.digestPassEnd false) s (fun t => t.plane = { p with digestAt := some s.clk.uptime, st := PSt.safe, cause := 3, lines := 0, sent := true } ∧
        t.rd Fld.AX_STATUS_DIGEST_OK = 0 ∧ t.lane = s.lane)) ∧
    (p.sent = true → Gives .planeStatusReceived s (fun t => t.flag Fld.AX_STATUS_LINK_OK = (s.reg Reg.AX_EVAL_COUNT != BitVec.ofNat 32 p.evals) ∧ t.reg Reg.AX_EVAL_COUNT = BitVec.ofNat 32 p.evals ∧
      t.reg Reg.AX_PERMITS = p.permitsWord ∧ t.reg Reg.AX_SENSE = BitVec.ofNat 32 (chBits p.senseBit) ∧
      t.rd Fld.AX_STATUS_STATE = p.st % 8 ∧ (p.told = false → t.rd Fld.AX_STATUS_CAUSE = p.cause % 256) ∧ t.plane = { p with sent := false, faulted := [], heardAt := s.clk.uptime })) ∧
    (p.sent = false → Gives .planeStatusReceived s (fun t => t = s)) ∧
    (s.planeLost = true → s.flag Fld.DX_STATUS_SF = false → Gives .planeLinkSilent s (fun t => t.plane.told = true ∧ t.rd Fld.DX_STATUS_SF = 1 ∧
      t.rd Fld.DX_STATUS_SF_CAUSE = 2 ∧ t.rd Fld.AX_STATUS_CAUSE ≠ 0 ∧ t.dst = if s.dst = DSt.active then DSt.faulted else s.dst)) ∧
    (s.planeLost = false → Gives .planeLinkSilent s (fun t => t = s)) ∧
    (s.mayRead i Reg.AX_EVAL_COUNT = true → Gives (.evalCountRead i) s (fun t => t.response i = .data (s.reg Reg.AX_EVAL_COUNT) ∧ t.regs = s.regs ∧
      lookupN t.holdR (holdKey i Reg.AX_PERMITS) = some (s.reg Reg.AX_PERMITS) ∧ lookupN t.holdR (holdKey i Reg.AX_SENSE) = some (s.reg Reg.AX_SENSE)))

/-- HEARTBEAT_RECEIVED with a good check on the link shows the partner's claim and state and LINK_OK: a SYNCING unit stays so under a healthy
compatible partner; a READY one without a self-fault takes over with reason 2 when the partner reports its own; a listening unit with
permits follows an active partner into SYNCING; an incompatible partner makes a listening or standby unit INCOMPATIBLE with claim 0.
HEARTBEAT_SEND every 50 µs counts HB_SEQ. HEARTBEAT_MISSED counts; from the fourth in a row on a READY or SYNCING unit is DETACHED where
the ring shows life, else a takeover with reason 1. RING_LIFE_TIMEOUT of a detached unit takes over with reason 4. LISTEN_TIMEOUT after 20
ms makes the primary, SECONDARY_WAIT_END after 30 ms either unit ACTIVE with claim 1. A takeover raises the claim above the partner's and
is counted. The claim wire's word, release or absence sets each FQ8's gate; an active unit whose claim is beaten is SYNCING, or DETACHED
without a link, with claim 0. (R328, R330, R332, R334, R335, R336, R337, R339, R340, R341) -/
def Obligations.DuplexLife : Prop :=
  ∀ s : State,
    let st := s.dst
    let standby := st = DSt.ready ∨ st = DSt.syncing ∨ st = DSt.detached
    let took := fun (reason partner : Nat) (t : State) => t.dst = DSt.active ∧ t.rd Fld.DX_CLAIM_OWN = raiseClaim partner ∧
      t.rd Fld.DX_TAKEOVER_REASON = reason ∧ t.rd Fld.DX_COUNT_TAKEOVERS = (s.bump Fld.DX_COUNT_TAKEOVERS).rd Fld.DX_COUNT_TAKEOVERS
    (∀ h : Heartbeat, h.claim < 65536 → h.state < 16 →
      (h.checkOk = false ∨ s.isSealed = false ∨ s.flag Fld.DX_CFG_DUPLEX = false ∨ s.asleep = true → ∀ onRing,
        Gives (.heartbeatReceived onRing h) s (fun t => t = s)) ∧
      (h.checkOk = true → s.isSealed = true → s.flag Fld.DX_CFG_DUPLEX = true → s.asleep = false →
        let shown := fun t : State => t.rd Fld.DX_CLAIM_PARTNER = h.claim ∧ t.rd Fld.DX_PARTNER_STATE = h.state ∧ t.rd Fld.DX_STATUS_LINK_OK = 1 ∧
          t.dx.missRun = 0 ∧ t.dx.dueAt = some (s.clk.uptime + 50000) ∧ t.dx.seen = true
        let fits := (h.image = s.imageId ∨ s.activating = true) ∧ h.digest = s.cfg.pairDigest
        (fits → st = DSt.syncing → bitOf h.flags 0 = false → bitOf h.flags 3 = false →
          Gives (.heartbeatReceived false h) s (fun t => shown t ∧ t.dst = st ∧ t.rd Fld.DX_PARTNER_COMPAT = 1)) ∧
        (fits → st = DSt.ready → bitOf h.flags 0 = true → s.flag Fld.DX_STATUS_SF = false →
          Gives (.heartbeatReceived false h) s (fun t => shown t ∧ took 2 h.claim t)) ∧
        (fits → st = DSt.listen → s.flag Fld.JC_MOD_STATUS_PERMITS = true → h.state = DSt.active →
          Gives (.heartbeatReceived false h) s (fun t => shown t ∧ t.dst = DSt.syncing)) ∧
        (¬ fits → st = DSt.listen ∨ standby → Gives (.heartbeatReceived false h) s (fun t => shown t ∧ t.dst = DSt.incompatible ∧
          t.rd Fld.DX_CLAIM_OWN = 0)))) ∧
    (s.isSealed = true → s.ej2Down = false → s.asleep = false →
      (s.dx.hbN ≠ s.clk.net / 50000 → Gives .heartbeatSend s (fun t => t.dx.hbN = s.clk.net / 50000 ∧ t.dst = st ∧ t.lane = s.lane ∧
        t.rd Fld.DX_HB_SEQ_SEQ = (s.bumpW Fld.DX_HB_SEQ_SEQ).rd Fld.DX_HB_SEQ_SEQ ∧ RegsKept [Reg.DX_HB_SEQ] s t)) ∧
      (s.dx.hbN = s.clk.net / 50000 → Gives .heartbeatSend s (fun t => t = s))) ∧
    (∀ a, s.dx.dueAt = some a → s.asleep = false →
      (s.clk.uptime < a + 2000 → Gives .heartbeatMissed s (fun t => t = s)) ∧
      (a + 2000 ≤ s.clk.uptime →
        let counted := fun t : State => t.dx.missRun = s.dx.missRun + 1 ∧ t.rd Fld.DX_STATUS_LINK_OK = 0 ∧
          t.rd Fld.DX_PARTNER_MISSES = (s.bump Fld.DX_PARTNER_MISSES).rd Fld.DX_PARTNER_MISSES
        (s.dx.missRun < 3 → Gives .heartbeatMissed s (fun t => counted t ∧ t.dst = st)) ∧
        (3 ≤ s.dx.missRun → st = DSt.ready ∨ st = DSt.syncing →
          (s.dx.lifeSince = true → Gives .heartbeatMissed s (fun t => counted t ∧ t.dst = DSt.detached)) ∧
          (s.dx.lifeSince = false → s.flag Fld.DX_STATUS_SF = false →
            Gives .heartbeatMissed s (fun t => counted t ∧ took 1 (s.rd Fld.DX_CLAIM_PARTNER) t))))) ∧
    (∀ a, s.dx.lifeAt = some a → a + 2 * s.tCycle + 2000 ≤ s.clk.uptime → s.asleep = false → Gives .ringLifeTimeout s (fun t =>
      t.rd Fld.DX_STATUS_RING_LIFE = 0 ∧ (st ≠ DSt.detached → t.dst = st) ∧
      (st = DSt.detached → s.flag Fld.DX_STATUS_SF = false → took 4 (s.rd Fld.DX_CLAIM_PARTNER) t))) ∧
    (∀ a, s.dx.listenAt = some a → st = DSt.listen → s.dx.seen = false → s.flag Fld.DX_STATUS_SF = false →
      let first := fun t : State => t.dst = DSt.active ∧ t.rd Fld.DX_CLAIM_OWN = 1 ∧ t.rd Fld.JC_MOD_STATUS_CLAIM = 1
      (a + 20000000 ≤ s.clk.uptime → s.flag Fld.DX_STATUS_PRIMARY = true → Gives .listenTimeout s first) ∧
      (s.clk.uptime < a + 20000000 ∨ s.flag Fld.DX_STATUS_PRIMARY = false → Gives .listenTimeout s (fun t => t = s)) ∧
      (a + 30000000 ≤ s.clk.uptime → Gives .secondaryWaitEnd s first) ∧ (s.clk.uptime < a + 30000000 → Gives .secondaryWaitEnd s (fun t => t = s))) ∧
    (∀ (q : Fin 4) (c : BitVec 16) (primary : Bool), s.dx.wire.length = 4 →
      let own := s.rd Fld.DX_CLAIM_OWN
      let gate := fun (cls partner : Nat) (t : State) => (cls = 0 → t.rd Fld.DX_CLAIM_PARTNER = partner) ∧
        (t.fqAt q).claimValid = claimGate (s.flag Fld.DX_CFG_DUPLEX) (s.flag Fld.DX_STATUS_PRIMARY) own cls partner ∧
        ((t.fqAt q).claimValid = false → ∀ n ∈ fqChannels q, gateOpen (s.ost n) = true → t.ost n = OSt.off) ∧ t.dst = st ∧ t.rd Fld.DX_CLAIM_OWN = own
      let beaten := beats c.toNat own = true ∨ ties c.toNat own = true ∧ primary = true
      (st ≠ DSt.active → st ≠ DSt.faulted → Gives (.claimWord q c primary) s (gate 0 c.toNat)) ∧
      (st = DSt.active → ¬ beaten → Gives (.claimWord q c primary) s (gate 0 c.toNat)) ∧
      (st = DSt.active → beaten → Gives (.claimWord q c primary) s (fun t => t.rd Fld.DX_CLAIM_OWN = 0 ∧
        t.dst = if s.flag Fld.DX_STATUS_LINK_OK then DSt.syncing else DSt.detached)) ∧
      Gives (.claimLineReleased q) s (gate 1 0) ∧ Gives (.claimLineAbsent q) s (gate 2 0))

/-- PARTNER_IMAGE whole and good is kept by a SYNCING or READY unit for its cycle; others are dropped. HOT_TRANSFER_PASS_END moves to the next
phase, or holds the final copy for the cycle boundary; HOT_TRANSFER_TIMEOUT after 10 s starts over. CHECKPOINT_DUE at the active, every
100 ms, makes a checkpoint due at the next commit; CHECKPOINT_DEFER_END after 20 ms ends its deferral. CHECKPOINT_RECEIVED writes copies A
and B in turn, each with its check (the layout under the check is the model's choice, log 88). COLD_RESTORE_DONE ends the restore, with
RESTORED where a copy was valid. DRILL at an active unit with a READY partner is under way, elsewhere refused; RESYNC puts a READY or
DETACHED unit into SYNCING and is ignored elsewhere. (R329, R340, R342, R345, R346, R348, R351) -/
def Obligations.DuplexTransfers : Prop :=
  ∀ s : State,
    let st := s.dst
    (∀ (voted ok : Bool) (k : Nat) (img : List (Nat × Byte)) (seqs : List (Nat × Nat)),
      let m : Mem := img.foldl (fun m c => m.wb c.1 c.2) []
      (ok = true → st = DSt.syncing ∨ st = DSt.ready → Gives (.partnerImage voted k ok img seqs) s (fun t => t = { s with dx := t.dx } ∧
        (voted = true → t.dx.lastVoted = some m ∧ t.dx.lastSeqs = some (k, seqs) ∧ lookupN t.dx.outImgs k = some m ∧ t.dx.inImgs = s.dx.inImgs) ∧
        (voted = false → lookupN t.dx.inImgs k = some m ∧ t.dx.outImgs = s.dx.outImgs ∧ t.dx.lastVoted = s.dx.lastVoted))) ∧
      (ok = false ∨ st ≠ DSt.syncing ∧ st ≠ DSt.ready → Gives (.partnerImage voted k ok img seqs) s (fun t => t = s))) ∧
    (∀ (last : Bool) (mem : List (Nat × Byte)) (trd : List (Nat × Word)), st = DSt.syncing →
      s.rd Fld.DX_SYNC_STATUS_PHASE = 1 ∨ s.rd Fld.DX_SYNC_STATUS_PHASE = 2 →
      Gives (.hotTransferPassEnd false last mem trd) s (fun t => t.rd Fld.DX_SYNC_STATUS_PHASE = (if last then 2 else 1) ∧ t.dst = st ∧
        t.dx.xferTrd = trd ++ s.dx.xferTrd ∧ t.lane = s.lane ∧ RegsKept [Reg.DX_SYNC_STATUS] s t) ∧
      Gives (.hotTransferPassEnd true last mem trd) s (fun t => t.dx.xferApply = true ∧ t.lane = s.lane ∧ t.regs = s.regs)) ∧
    (∀ a, s.dx.xferAt = some a → st = DSt.syncing →
      (a + 10000000000 ≤ s.clk.uptime → Gives .hotTransferTimeout s (fun t => t.dx.xferAt = some s.clk.uptime ∧ t.dx.xferMem = [] ∧ t.dx.xferTrd = [] ∧
        t.dx.xferApply = false ∧ t.rd Fld.DX_SYNC_STATUS_PHASE = 1 ∧ t.dst = st)) ∧
      (s.clk.uptime < a + 10000000000 → Gives .hotTransferTimeout s (fun t => t = s))) ∧
    (st = DSt.active →
      (s.dx.ckN < s.clk.uptime / 100000000 → s.ej2Down = false → Gives .checkpointDue s (fun t =>
        t = { s with dx := { s.dx with ckN := s.clk.uptime / 100000000, ckDefer := some s.clk.uptime, ckForce := false } })) ∧
      (s.clk.uptime / 100000000 ≤ s.dx.ckN ∨ s.ej2Down = true → Gives .checkpointDue s (fun t => t = s)) ∧
      (∀ a, s.dx.ckDefer = some a →
        (a + 20000000 ≤ s.clk.uptime → Gives .checkpointDeferEnd s (fun t => t = { s with dx := { s.dx with ckForce := true } })) ∧
        (s.clk.uptime < a + 20000000 → Gives .checkpointDeferEnd s (fun t => t = s)))) ∧
    (st ≠ DSt.active → Gives .checkpointDue s (fun t => t = s) ∧ Gives .checkpointDeferEnd s (fun t => t = s)) ∧
    (∀ (ok : Bool) (cycle : Nat) (mem : List (Nat × Byte)) (tables : List (Nat × Word)),
      (st = DSt.syncing ∨ st = DSt.ready → Gives (.checkpointReceived ok cycle mem tables) s (fun t => t.lane = s.lane ∧
        let c0 : Ckpt := { valid := ok, seq := max s.dx.ckA.seq s.dx.ckB.seq + 1, cycle := cycle, crc := 0,
                           mem := mem.foldl (fun m c => m.wb c.1 c.2) [], tables := tables }
        let c := { c0 with crc := s.ckCheck c0 }
        (s.rd Fld.DX_CKPT_STATUS_COPY = 0 → t.dx.ckB = c ∧ t.dx.ckA = s.dx.ckA ∧ t.rd Fld.DX_CKPT_STATUS_COPY = 1) ∧
        (s.rd Fld.DX_CKPT_STATUS_COPY = 1 → t.dx.ckA = c ∧ t.dx.ckB = s.dx.ckB ∧ t.rd Fld.DX_CKPT_STATUS_COPY = 0))) ∧
      (st ≠ DSt.syncing → st ≠ DSt.ready → Gives (.checkpointReceived ok cycle mem tables) s (fun t => t = s))) ∧
    (s.dx.restoring = true → Gives .coldRestoreDone s (fun t => t.dx.restoring = false ∧ t.dx.ckA = s.dx.ckA ∧ t.dx.ckB = s.dx.ckB ∧
      (s.bestCkpt ≠ none → t.rd Fld.DX_CKPT_STATUS_RESTORED = 1))) ∧
    (∀ (i : Initiator) (w : Word), s.mayWrite i Reg.DX_CTRL = true →
      (wbits w Fld.DX_CTRL_RESYNC = 0 →
        (st = DSt.active → s.rd Fld.DX_PARTNER_STATE = DSt.ready → Gives (.drill i w) s (fun t => t.dx = { s.dx with drill := true } ∧ t.dst = st ∧
          RegsKept [Reg.DX_CTRL] s t)) ∧
        (st ≠ DSt.active ∨ s.rd Fld.DX_PARTNER_STATE ≠ DSt.ready → Gives (.drill i w) s (fun t => t.dx = s.dx ∧ t.dst = st ∧
          t.rd Fld.DX_STATUS_DRILL_REFUSED = 1))) ∧
      (wbits w Fld.DX_CTRL_DRILL = 0 →
        (st = DSt.ready ∨ st = DSt.detached → Gives (.resync i w) s (fun t => t.dst = DSt.syncing ∧ t.dx.xferAt = some s.clk.uptime)) ∧
        (st ≠ DSt.ready → st ≠ DSt.detached → Gives (.resync i w) s (fun t => t.dst = st ∧ t.dx = s.dx))))

/-- ETH_FRAME_RECEIVED at an open port: a bad FCS or length, or a VLAN that the port is no member of, counts and drops; a unicast frame for
the module without a process-data entry enters the software ring (the junction's memory holding no placed error), or is counted where no
descriptor is free. At a closed port nothing happens. ETH_FRAME_TRANSMIT sends the oldest frame of the highest queue. LINK_UP gives an
enabled port its link and rate, or DUPLEX_ERR for half duplex only; LINK_DOWN takes link and rate; the waiting frames stay. PD_TRANSMIT
sends a process-data entry once per cycle in entry order; a safe one is held back without synchronisation. TXR_IDX takes every descriptor
up to PROD, RXR_IDX frees those up to CONS, MAC_AGE_OUT forgets addresses not seen for 300 s. (R270, R354, R355, R356, R358, R361, R364,
R381) -/
def Obligations.EthernetFrames : Prop :=
  ∀ (s : State) (p : Fin 8),
    (s.asleep = false → s.ej2Down = false →
      (∀ (f : List Byte) (ok : Bool),
        (s.portOpen p = false → Gives (.ethFrameReceived p f ok) s (fun t => t = s)) ∧
        (s.portOpen p = true →
          (ok = false ∨ frameLen f < 64 ∨ 1522 < frameLen f → Gives (.ethFrameReceived p f ok) s (fun t =>
            t.rd (Fld.ETH_PORT_p_RX_ERR_FCS_LEN p) = (s.bump (Fld.ETH_PORT_p_RX_ERR_FCS_LEN p)).rd (Fld.ETH_PORT_p_RX_ERR_FCS_LEN p) ∧
            RegsKept [Reg.ETH_PORT_p_RX_ERR p] s t ∧ OnlyRegs s t)) ∧
          (ok = true → 64 ≤ frameLen f → frameLen f ≤ 1522 → etypeOf f ≠ 0x8808 → (tagged f = true → beNat (sliceB f 16 2) ≠ 0x8100) →
            let vid := if tagged f && vidOf f != 0 then vidOf f else s.rd (Fld.ETH_PORT_p_CFG_PVID p)
            (s.vlanMember vid p = false → Gives (.ethFrameReceived p f ok) s (fun t =>
              t.rd (Fld.ETH_PORT_p_RX_DROP_VLAN p) = (s.bump (Fld.ETH_PORT_p_RX_DROP_VLAN p)).rd (Fld.ETH_PORT_p_RX_DROP_VLAN p) ∧
              RegsKept [Reg.ETH_PORT_p_RX_DROP p] s t ∧ OnlyRegs s t)) ∧
            (s.vlanMember vid p = true → isGroup (f.take 6) = false → f.take 6 = s.macBytes 0 → etypeOf f ≠ s.rd Fld.ETH_CFG_PD_ETYPE →
              let prod := s.rd Fld.ETH_RXR_IDX_PROD
              ((prod + 1) % 1024 = s.rd Fld.ETH_RXR_IDX_CONS → Gives (.ethFrameReceived p f ok) s (fun t =>
                t.rd (Fld.ETH_PORT_p_RX_DROP_NO_BUF p) = (s.bump (Fld.ETH_PORT_p_RX_DROP_NO_BUF p)).rd (Fld.ETH_PORT_p_RX_DROP_NO_BUF p) ∧
                t.rd Fld.ETH_RXR_IDX_PROD = prod ∧ t.jddr = s.jddr)) ∧
              ((prod + 1) % 1024 ≠ s.rd Fld.ETH_RXR_IDX_CONS → s.jmem.chk = [] → s.jmem.badBitmap = [] → Gives (.ethFrameReceived p f ok) s (fun t =>
                t.rd Fld.ETH_RXR_IDX_PROD = (prod + 1) % 1024 ∧ t.rd Fld.ETH_RXR_IDX_CONS = s.rd Fld.ETH_RXR_IDX_CONS ∧ t.eth.out = s.eth.out)))))) ∧
      (∀ x, s.eth.head p = some x → s.portOpen p = true → Gives (.ethFrameTransmit p) s (fun t =>
        t.eth.out = dropOut p x.fid s.eth.out ∧ lookupN t.eth.sent p = some (s.ethLine x) ∧ t.lane = s.lane)) ∧
      (s.eth.head p = none ∨ s.portOpen p = false → Gives (.ethFrameTransmit p) s (fun t => t = s)) ∧
      (∀ rate : Fin 4, s.flag (Fld.ETH_PORT_p_CFG_EN p) = true →
        let sp := s.rd (Fld.ETH_PORT_p_CFG_SPEED p)
        Gives (.linkUp p true rate) s (fun t => t.rd (Fld.ETH_PORT_p_STAT_DUPLEX_ERR p) = 1 ∧
          t.rd (Fld.ETH_PORT_p_STAT_LINK p) = s.rd (Fld.ETH_PORT_p_STAT_LINK p) ∧ RegsKept [Reg.ETH_PORT_p_STAT p] s t ∧ OnlyRegs s t) ∧
        (rate.val ≠ 0 → sp = 0 ∨ sp = rate.val → Gives (.linkUp p false rate) s (fun t => t.rd (Fld.ETH_PORT_p_STAT_LINK p) = 1 ∧
          t.rd (Fld.ETH_PORT_p_STAT_RATE p) = rate.val ∧ RegsKept [Reg.ETH_PORT_p_STAT p] s t ∧ OnlyRegs s t)) ∧
        (rate.val = 0 ∨ sp ≠ 0 ∧ sp ≠ rate.val → Gives (.linkUp p false rate) s (fun t => t = s)))) ∧
    (s.rd (Fld.ETH_PORT_p_STAT_LINK p) = 1 → Gives (.linkDown p) s (fun t => t.rd (Fld.ETH_PORT_p_STAT_LINK p) = 0 ∧ t.rd (Fld.ETH_PORT_p_STAT_RATE p) = 0 ∧
      t.rd (Fld.ETH_PORT_p_STAT_LINK_DOWNS p) = (s.bump (Fld.ETH_PORT_p_STAT_LINK_DOWNS p)).rd (Fld.ETH_PORT_p_STAT_LINK_DOWNS p) ∧
      t.eth = s.eth ∧ RegsKept [Reg.ETH_PORT_p_STAT p] s t)) ∧
    (s.rd (Fld.ETH_PORT_p_STAT_LINK p) = 0 → Gives (.linkDown p) s (fun t => t = s)) ∧
    Gives .macAgeOut s (fun t => t = { s with eth := { s.eth with macs := s.eth.macs.filter (fun m => decide (s.clk.uptime < m.2.2.2 + 300000000000)) } }) ∧
    (∀ n : Fin 256, n.val ∈ s.pdOut → s.cyc.vrDone = true → s.reached (s.tVr + 8) = true → s.writesPair = true → s.asleep = false → s.vote.voted = true →
      (∀ m ∈ s.pdOut, m < n.val → lookupN s.eth.pdK m = some s.cyc.k) →
      let safe := s.rd (Fld.ETH_PD_n_A_SEL n) = 1
      let synced := s.flag Fld.JC_MOD_STATUS_SYNC = true ∨ s.leads = true
      (lookupN s.eth.pdK n = some s.cyc.k → Gives (.pdTransmit n) s (fun t => t = s)) ∧
      (lookupN s.eth.pdK n ≠ some s.cyc.k →
        (¬ safe ∨ synced → Gives (.pdTransmit n) s (fun t => lookupN t.eth.pdK n = some s.cyc.k ∧
          t.rd (Fld.ETH_PD_n_STAT_FRAMES n) = (s.bumpW (Fld.ETH_PD_n_STAT_FRAMES n)).rd (Fld.ETH_PD_n_STAT_FRAMES n))) ∧
        (safe → ¬ synced → Gives (.pdTransmit n) s (fun t => lookupN t.eth.pdK n = some s.cyc.k ∧ t.eth.out = s.eth.out ∧
          t.rd Fld.SX_SAFE_COUNT_TX_HELD = (s.bump Fld.SX_SAFE_COUNT_TX_HELD).rd Fld.SX_SAFE_COUNT_TX_HELD)))) ∧
    (∀ (i : Initiator) (w : Word),
      (s.mayWrite i Reg.ETH_TXR_IDX = true → Gives (.txrIdx i w) s (fun t => t.rd Fld.ETH_TXR_IDX_PROD = wbits w Fld.ETH_TXR_IDX_PROD ∧
        t.rd Fld.ETH_TXR_IDX_CONS = wbits w Fld.ETH_TXR_IDX_PROD ∧ t.response i = .done)) ∧
      (s.mayWrite i Reg.ETH_RXR_IDX = true → Gives (.rxrIdx i w) s (fun t => t.rd Fld.ETH_RXR_IDX_CONS = wbits w Fld.ETH_RXR_IDX_CONS ∧
        t.rd Fld.ETH_RXR_IDX_PROD = s.rd Fld.ETH_RXR_IDX_PROD ∧ RegsKept [Reg.ETH_RXR_IDX] s t ∧ OnlyRegs s t)))

/-- MASTER_FRAME to an attachment that sends and does not administer is answered with the data of an enabled source port of that F-code and
address, for a poll of the device status with an unstated word, and not at all otherwise; at the administrator it is also a clash.
SLAVE_FRAME counts each line that brought it bad, switches trust from a bad line to the good one, and updates the sink port, FRESH with
age 0; a frame bad on both lines updates none. MVB_BASIC_PERIOD, not before its time, counts the period, and the administrator sends the
due polls. MASTER_CLASH stops the administration; BA_RESUME resumes it. (R353, R365, R366, R367, R368, R369, R389) -/
def Obligations.MvbTraffic : Prop :=
  ∀ s : State,
    (∀ (fc : Fin 16) (addr : BitVec 12),
      (s.mvbSends = true → s.mvbAdmin = false →
        (∀ n, fc.val ≤ 4 → s.mvbSource fc addr.toNat = some n → Gives (.masterFrame fc addr) s (fun t => t.mvb.answer = some (addr.toNat, s.mvbData n))) ∧
        (fc.val ≤ 4 → s.mvbSource fc addr.toNat = none → Gives (.masterFrame fc addr) s (fun t => t = s)) ∧
        (fc.val = 15 → addr.toNat = s.rd Fld.MVB_CFG_DEV_ADDR → Gives (.masterFrame fc addr) s (fun t =>
          ∃ x, t.mvb.answer = some (addr.toNat, leBytes 2 x) ∧ t.regs = s.regs ∧ t.free = s.free + 1)) ∧
        (4 < fc.val → fc.val ≠ 15 ∨ addr.toNat ≠ s.rd Fld.MVB_CFG_DEV_ADDR → Gives (.masterFrame fc addr) s (fun t => t = s))) ∧
      (s.mvbSends = false → Gives (.masterFrame fc addr) s (fun t => t = s)) ∧
      (s.mvbAdmin = true → Gives (.masterFrame fc addr) s (fun t => t.mvb.stopped = true ∧ t.mvbAdmin = false ∧ t.rd Fld.MVB_STATUS_BA_ACTIVE = 0 ∧
        t.rd Fld.MVB_STATUS_MASTER_CLASH = 1 ∧ ∀ n, fc.val ≤ 4 → s.mvbSource fc addr.toNat = some n → t.mvb.answer = some (addr.toNat, s.mvbData n)))) ∧
    (s.mvbOn = true → ∀ (fc : Fin 5) (addr : BitVec 12) (a b : Bool) (data : List Byte),
      let trust := s.flag Fld.MVB_STATUS_TRUSTED
      Gives (.slaveFrame fc addr a b data) s (fun t =>
        t.rd Fld.MVB_LINE_ERR_LINE_A = (if a then s else s.bump Fld.MVB_LINE_ERR_LINE_A).rd Fld.MVB_LINE_ERR_LINE_A ∧
        t.rd Fld.MVB_LINE_ERR_LINE_B = (if b then s else s.bump Fld.MVB_LINE_ERR_LINE_B).rd Fld.MVB_LINE_ERR_LINE_B ∧
        t.flag Fld.MVB_STATUS_TRUSTED = (if trust then !(!b && a) else !a && b) ∧
        (a = false → b = false → t.stage = s.stage ∧ t.gus = s.gus ∧ RegsKept [Reg.MVB_LINE_ERR] s t) ∧
        (a = true ∨ b = true → ∀ n, s.mvbSink fc addr.toNat = some n → t.rd (Fld.MVB_PORT_n_STAT_FRESH n) = 1 ∧ t.rd (Fld.MVB_PORT_n_STAT_AGE n) = 0 ∧
          (s.flag (Fld.MVB_PORT_n_CFG_GUSSET n) = false → t.stage = s.stage.putBytes (4 * s.rd (Fld.MVB_PORT_n_CFG_IMG4 n))
            (sliceB data 0 (fcodeLen (s.rd (Fld.MVB_PORT_n_CFG_FCODE n)))))))) ∧
    (s.mvbOn = true →
      (s.mvb.at_ + s.mvbPeriod ≤ s.clk.uptime → Gives .mvbBasicPeriod s (fun t => t.mvb.count = s.mvb.count + 1 ∧
        t.mvb.at_ = s.mvb.at_ + s.mvbPeriod * ((s.clk.uptime - s.mvb.at_) / s.mvbPeriod) ∧
        t.mvb.polls = (if s.mvbAdmin then s.mvbDue (s.mvb.count + 1) else []) ∧ t.rd Fld.MVB_STATUS_BA_ACTIVE = b2n s.mvbAdmin)) ∧
      (s.clk.uptime < s.mvb.at_ + s.mvbPeriod → Gives .mvbBasicPeriod s (fun t => t = s))) ∧
    (s.mvbAdmin = true → Gives .masterClash s (fun t => t.mvb = { s.mvb with stopped := true } ∧ t.rd Fld.MVB_STATUS_BA_ACTIVE = 0 ∧
      t.rd Fld.MVB_STATUS_MASTER_CLASH = 1 ∧ t.mvbAdmin = false)) ∧
    (s.mvbAdmin = false → Gives .masterClash s (fun t => t = s)) ∧
    (∀ (i : Initiator) (w : Word), s.mayWrite i Reg.MVB_STATUS = true → Gives (.baResume i w) s (fun t => t.mvb = { s.mvb with stopped := false } ∧
      t.rd Fld.MVB_STATUS_BA_ACTIVE = b2n (s.mvbSends && s.flag Fld.MVB_CFG_BA) ∧ RegsKept [Reg.MVB_STATUS] s t ∧ t.response i = .done))

/-- CAN_FRAME_RECEIVED by a working controller puts the data into the first receive mailbox whose identifier matches under its mask, with NEW,
and OVR when the frame before was not read; without a match no mailbox changes; a remote frame is counted and discarded. CAN_SEND of an
event mailbox makes it pending. CAN_FRAME_SENT, in a unit that may send, completes the pending frame of lowest identifier. CAN_BUS_ERROR
records its kind; a sending controller counts 8, and is bus-off beyond 255, a receiving one counts 1; a listening one counts nothing.
CAN_AUTO_RECOVERY makes a bus-off controller with AUTO_REC, or a recovering one, error active with counters 0, no other; CAN_RECOVER
starts a recovery from bus-off only. (R353, R371, R372, R373) -/
def Obligations.CanTraffic : Prop :=
  ∀ (s : State) (c : Fin 4),
    let st := s.canState c
    let tec := s.rd (Fld.CAN_CTL_c_STATUS_TEC c)
    (s.canOn c = true → st < 2 →
      (∀ (xtd fdf : Bool) (ident : BitVec 29) (dlc : Fin 16) (data : List Byte), fdf = false ∨ s.flag (Fld.CAN_CTL_c_CFG_FD c) = true →
        Gives (.canFrameReceived c xtd ident fdf true dlc data) s (fun t => RegsKept [Reg.CAN_CTL_c_ERR c] s t ∧ OnlyRegs s t ∧
          t.rd (Fld.CAN_CTL_c_ERR_RTR c) = (s.bump (Fld.CAN_CTL_c_ERR_RTR c)).rd (Fld.CAN_CTL_c_ERR_RTR c)) ∧
        (s.canMatch c xtd ident.toNat = none → Gives (.canFrameReceived c xtd ident fdf false dlc data) s (fun t =>
          RegsKept [Reg.CAN_CTL_c_STATUS c] s t ∧ OnlyRegs s t)) ∧
        (∀ m, s.canMatch c xtd ident.toNat = some m → Gives (.canFrameReceived c xtd ident fdf false dlc data) s (fun t =>
          t.rd (Fld.CAN_CTL_c_MB_m_STAT_NEW c m) = 1 ∧ t.rd (Fld.CAN_CTL_c_MB_m_CTRL_DLC c m) = dlc.val ∧ 64 * c.val + m ∈ t.can.took ∧
          (s.flag (Fld.CAN_CTL_c_MB_m_STAT_NEW c m) = true → t.rd (Fld.CAN_CTL_c_MB_m_STAT_OVR c m) = 1) ∧
          ∀ k < 16, t.reg (Reg.CAN_CTL_c_MB_m_DATA_w c m k) = BitVec.ofNat 32 (leNat (sliceB (sliceB data 0 (dlcLen fdf dlc)) (4 * k) 4))))) ∧
      (s.canListens c = false → s.flag (Fld.CAN_CTL_c_CFG_REST c) = false →
        (∀ m, s.canOffer c = some m → Gives (.canFrameSent c) s (fun t => t.rd (Fld.CAN_CTL_c_MB_m_STAT_PEND c m) = 0 ∧
          t.rd (Fld.CAN_CTL_c_STATUS_TEC c) = tec - 1 ∧ lookupN t.can.sent c = some (m, s.mbData c m (s.mbLen c m)) ∧
          RegsKept [Reg.CAN_CTL_c_MB_m_STAT c m, Reg.CAN_CTL_c_STATUS c] s t)) ∧
        (s.canOffer c = none → Gives (.canFrameSent c) s (fun t => t = s))) ∧
      (∀ (sending : Bool) (kind : Fin 7),
        (s.canListens c = true → Gives (.canBusError c sending kind) s (fun t => t.rd (Fld.CAN_CTL_c_ERR_LAST_ERR c) = kind.val ∧
          RegsKept [Reg.CAN_CTL_c_ERR c] s t ∧ OnlyRegs s t)) ∧
        (s.canListens c = false →
          (kind.val ≠ 3 ∨ st ≠ Can.passive →
            (tec + 8 ≤ 255 → Gives (.canBusError c true kind) s (fun t => t.rd (Fld.CAN_CTL_c_STATUS_TEC c) = tec + 8 ∧
              t.rd (Fld.CAN_CTL_c_ERR_LAST_ERR c) = kind.val ∧
              t.canState c = if 128 ≤ tec + 8 ∨ 128 ≤ s.rd (Fld.CAN_CTL_c_STATUS_REC c) then Can.passive else Can.active)) ∧
            (255 < tec + 8 → Gives (.canBusError c true kind) s (fun t => t.canState c = Can.busOff ∧ t.rd (Fld.CAN_CTL_c_STATUS_TEC c) = 255 ∧
              t.rd (Fld.CAN_CTL_c_STATUS_BUSOFF_SEEN c) = 1 ∧
              t.rd (Fld.CAN_CTL_c_ERR_BUSOFFS c) = (s.bump (Fld.CAN_CTL_c_ERR_BUSOFFS c)).rd (Fld.CAN_CTL_c_ERR_BUSOFFS c)))) ∧
          Gives (.canBusError c false kind) s (fun t => t.rd (Fld.CAN_CTL_c_STATUS_TEC c) = tec ∧
            t.rd (Fld.CAN_CTL_c_STATUS_REC c) = (s.bump (Fld.CAN_CTL_c_STATUS_REC c)).rd (Fld.CAN_CTL_c_STATUS_REC c))))) ∧
    (st = Can.busOff ∧ s.flag (Fld.CAN_CTL_c_CFG_AUTO_REC c) = true ∨ st = Can.recovering → Gives (.canAutoRecovery c) s (fun t =>
      t.canState c = Can.active ∧ t.rd (Fld.CAN_CTL_c_STATUS_TEC c) = 0 ∧ t.rd (Fld.CAN_CTL_c_STATUS_REC c) = 0 ∧
      RegsKept [Reg.CAN_CTL_c_STATUS c] s t ∧ OnlyRegs s t)) ∧
    (st < 2 ∨ st = Can.busOff ∧ s.flag (Fld.CAN_CTL_c_CFG_AUTO_REC c) = false → Gives (.canAutoRecovery c) s (fun t => t = s)) ∧
    (∀ (i : Initiator) (w : Word),
      (s.mayWrite i (Reg.CAN_CTL_c_ERR c) = true → Gives (.canRecover i c w) s (fun t => RegsKept [Reg.CAN_CTL_c_ERR c, Reg.CAN_CTL_c_STATUS c] s t ∧
        t.canState c = (if st = Can.busOff then Can.recovering else st) ∧ t.response i = .done)) ∧
      (∀ m : Fin 64, s.mayWrite i (Reg.CAN_CTL_c_MB_m_CTRL c m) = true →
        let kind := (s.merge (Reg.CAN_CTL_c_MB_m_CTRL c m) w).rd (Fld.CAN_CTL_c_MB_m_CTRL_KIND c m)
        (kind = 2 → Gives (.canSend i c m w) s (fun t => t.rd (Fld.CAN_CTL_c_MB_m_STAT_PEND c m) = 1 ∧ t.response i = .done ∧ t.can = s.can)) ∧
        (kind ≠ 2 → Gives (.canSend i c m w) s (fun t => t.reg (Reg.CAN_CTL_c_MB_m_STAT c m) = s.reg (Reg.CAN_CTL_c_MB_m_STAT c m)))))

/-- With the port down nothing happens. A command with a failed CHECK, one cut short, and one that arrives while a response is pending or on
its way is discarded, as the LAST bits say. Otherwise READ and WRITE access their words in ascending order: RESULT is 0x00 with COUNT
words done, or 0x03 with fewer; a register word is the host's own register access, a DDR4 word reads back as written and touches no other
byte; COUNT outside 1 to 256 gives 0x06, an unknown OP 0x07, RECOVERY_BLOCK outside Last recovery 0x05, and in it the block lands at
0x5000_0000 + 1024 n. The response is pending after 100 jc and 4 jc a word; FETCH takes it, ABORT discards it. (That a response on its way
counts as held, and when it is pending, are the model's readings, marked in the log.) (R155, R375, R376, R377, R378, R379, R454, R470,
R471) -/
def Obligations.HostWindow : Prop :=
  ∀ (s : State) (tag : Byte) (count addr : Nat) (data : List Word) (ok : Bool),
    let b : State := { s with host := { s.host with status := s.hostStatus } }
    let last := fun (o d c : Bool) => ({ b with host := { b.host with ok := o, dropped := d, checkErr := c } } : State)
    let answers := fun (t : State) (op result n words : Nat) (bytes : List Byte) =>
      t.host.busy = some ({ op := op, tag := tag.toNat, result := result, count := n, data := bytes }, t.clk.uptime + 4 * (100 + 4 * words)) ∧
      t.host.resp = none ∧ t.host.ok = true ∧ t.host.dropped = false ∧ t.host.checkErr = false
    (s.hostUp = false →
      Gives (.hostRead tag count addr ok) s (fun t => t = s) ∧ Gives (.hostWrite tag count addr data ok) s (fun t => t = s) ∧
      Gives (.recoveryBlock tag count addr data ok) s (fun t => t = s) ∧ Gives (.unknownOp 0 tag) s (fun t => t = s) ∧
      Gives .fetch s (fun t => t = s) ∧ Gives .abort s (fun t => t = s) ∧ Gives .transactionCutShort s (fun t => t = s)) ∧
    (s.hostUp = true →
      Gives (.hostRead tag count addr false) s (fun t => t = last false false true) ∧
      (ok = false ∨ data.length < count → Gives (.hostWrite tag count addr data ok) s (fun t => t = last false false true) ∧
        Gives (.recoveryBlock tag count addr data ok) s (fun t => t = last false false true)) ∧
      Gives .transactionCutShort s (fun t => t = last false false true) ∧
      (s.host.resp.isSome = true ∨ s.host.busy.isSome = true → Gives (.hostRead tag count addr true) s (fun t => t = last false true false) ∧
        (count ≤ data.length → Gives (.hostWrite tag count addr data true) s (fun t => t = last false true false) ∧
          Gives (.recoveryBlock tag count addr data true) s (fun t => t = last false true false)) ∧
        Gives (.unknownOp 0 tag) s (fun t => t = last false true false)) ∧
      Gives .abort s (fun t => t = { last true false false with host := { (last true false false).host with resp := none, busy := none } }) ∧
      Gives .fetch s (fun t => t.host.resp = none ∧ t.host.busy = s.host.busy ∧ t.host.ok = true ∧ t = { s with host := t.host } ∧
        (s.host.resp = none → t.host.fetched = []) ∧
        (∀ r, s.host.resp = some r → t.host.fetched.take (8 + r.data.length) =
            leBytes 1 r.op ++ leBytes 1 r.tag ++ leBytes 1 r.result ++ leBytes 1 0 ++ leBytes 4 r.count ++ r.data ∧
          t.host.fetched.drop (8 + r.data.length) = leBytes 4 (crc32 (t.host.fetched.take (8 + r.data.length))).toNat))) ∧
    (s.hostUp = true → s.host.resp = none → s.host.busy = none → count ≤ data.length →
      (count = 0 ∨ 256 < count → Gives (.hostRead tag count addr true) s (fun t => answers t 1 6 0 0 []) ∧
        Gives (.hostWrite tag count addr data true) s (fun t => answers t 2 6 0 0 [])) ∧
      (1 ≤ count → count ≤ 256 →
        Gives (.hostRead tag count addr true) s (fun t => ∃ n bytes, n ≤ count ∧ bytes.length = 4 * n ∧
          answers t 1 (if n = count then 0 else 3) n (min count (n + 1)) bytes) ∧
        Gives (.hostWrite tag count addr data true) s (fun t => ∃ n ≤ count, answers t 2 (if n = count then 0 else 3) n (min count (n + 1)) [])) ∧
      (s.hostReach addr = false → Gives (.hostRead tag 1 addr true) s (fun t => answers t 1 3 0 1 [] ∧ t = { s with host := t.host }) ∧
        ∀ w, Gives (.hostWrite tag 1 addr [w] true) s (fun t => answers t 2 3 0 1 [] ∧ t = { s with host := t.host })) ∧
      (s.hostReach addr = true → inDdr .junction addr = false →
        (s.mayRead .host addr = true → ∃ w, (b.busRead .host addr 4).response .host = .data w ∧
          Gives (.hostRead tag 1 addr true) s (fun t => answers t 1 0 1 1 (leBytes 4 w.toNat) ∧ t = { b.busRead .host addr 4 with host := t.host })) ∧
        (s.mayRead .host addr = false → Gives (.hostRead tag 1 addr true) s (fun t => answers t 1 3 0 1 [])) ∧
        ∀ w, ∃ u, exec (.registerWrite .host addr 4 w) b = .next u ∧
          Gives (.hostWrite tag 1 addr [w] true) s (fun t => t = { u with host := t.host } ∧
            t.host.busy.map (fun r => (r.1.op, r.1.tag, r.1.result)) =
              some (2, tag.toNat, if u.response .host = .done then 0 else 3))) ∧
      (s.hostReach addr = true → inDdr .junction addr = true →
        (inWelt addr 4 = true → ∀ w, Gives (.hostWrite tag 1 addr [w] true) s (fun t => answers t 2 3 0 1 [] ∧ t = { s with host := t.host })) ∧
        (inWelt addr 4 = false → ∀ w : Word, Gives (.hostWrite tag 1 addr [w] true) s (fun t => answers t 2 0 1 1 [] ∧
          t.ddrBytes .junction addr 4 = leBytes 4 w.toNat ∧
          ∀ p, p < s.phys .junction addr ∨ s.phys .junction addr + 4 ≤ p → t.jddr.rb p = s.jddr.rb p)) ∧
        (s.bitmapBad addr = false → (s.burstClass .junction addr).1 = 0 → Gives (.hostRead tag 1 addr true) s (fun t =>
          answers t 1 0 1 1 (s.ddrBytes .junction addr 4) ∧ t = { s with host := t.host }))) ∧
      (s.phase ≠ Phase.recovery → Gives (.recoveryBlock tag count addr data true) s (fun t => answers t 0x30 5 0 0 [] ∧ t = { s with host := t.host })) ∧
      (s.phase = Phase.recovery → 1 ≤ count → count ≤ 256 → 1024 * addr + 4 * count ≤ 0x4000000 →
        Gives (.recoveryBlock tag count addr data true) s (fun t => answers t 0x30 0 count count [] ∧
          (∀ k < count, s.retired .junction ((0x50000000 + 1024 * addr) / 4096) = none →
            t.jddr.num (0x50000000 + 1024 * addr + 4 * k) 4 = (data.getD k 0).toNat))) ∧
      ∀ op : Byte, op.toNat ∉ [0x01, 0x02, 0x10, 0x20, 0x30] → Gives (.unknownOp op tag) s (fun t => answers t op.toNat 7 0 0 [])) ∧
    (∀ r at_, s.host.busy = some (r, at_) → at_ ≤ s.clk.uptime →
      Gives .hostResponseReady s (fun t => t = { s with host := { s.host with resp := some r, busy := none } } ∧ t.hrdy = s.hostUp)) ∧
    (s.host.busy = none → Gives .hostResponseReady s (fun t => t = s))

/-- GUSSET_SOURCE_COMPLETE takes the completed source that is first by its jc, then KIND, then INDEX. A free pipeline with nothing pending
maps it and stays busy 9 jc and one more per entry; otherwise the source is held, replacing and counting one of its own that is held.
GUSSET_PENDING_SERVE serves the first held source once the pipeline is free. A source with one entry writes y = floor(a x / 65 536) + b,
held to the destination's range, into the destination's bits and no other bit of the working bank or of input staging, and a saturation is
counted, flagged and recorded; a CAN or Ethernet message too short for the field skips the entry, counted in SHORT. A ready pipeline with
nothing to serve, or one still busy, changes nothing. (R57, R384, R385, R386, R387) -/
def Obligations.GussetMapping : Prop :=
  ∀ s : State,
    (s.gus.done = [] → Gives .gussetSourceComplete s (fun t => t = s)) ∧
    (s.gus.pend = [] ∨ s.clk.uptime < s.gus.busy → Gives .gussetPendingServe s (fun t => t = s)) ∧
    (s.gus.done ≠ [] → ∃ m ∈ s.gus.done, firstMsg s.gus.done = some m ∧
      (∀ x ∈ s.gus.done, m.at_ < x.at_ ∨ m.at_ = x.at_ ∧ (m.kind < x.kind ∨ m.kind = x.kind ∧ m.index ≤ x.index)) ∧
      (s.clk.uptime < s.gus.busy ∨ s.gus.pend ≠ [] → Gives .gussetSourceComplete s (fun t => t.gus.work = s.gus.work ∧ t.stage = s.stage ∧
        t.gus.busy = s.gus.busy ∧ RegsKept [Reg.GB_COUNT] s t ∧
        ((∀ x ∈ s.gus.pend, x.kind ≠ m.kind ∨ x.index ≠ m.index) → t.gus.pend = s.gus.pend ++ [m] ∧ t.regs = s.regs) ∧
        ((∃ x ∈ s.gus.pend, x.kind = m.kind ∧ x.index = m.index) → t.gus.pend.length = s.gus.pend.length ∧
          (∃ x ∈ t.gus.pend, x.kind = m.kind ∧ x.index = m.index ∧ x.data = m.data) ∧
          t.rd Fld.GB_COUNT_REPLACED = (s.bump Fld.GB_COUNT_REPLACED).rd Fld.GB_COUNT_REPLACED)))) ∧
    ∀ (m : GMsg) (c : Instr), s.gus.busy ≤ s.clk.uptime →
      (c = .gussetSourceComplete ∧ s.gus.pend = [] ∧ firstMsg s.gus.done = some m ∨ c = .gussetPendingServe ∧ firstMsg s.gus.pend = some m) →
      Gives c s (fun t => t.gus.pend.length = s.gus.pend.length - (if c = .gussetPendingServe then 1 else 0) ∧
        t.gus.done.length = s.gus.done.length - (if c = .gussetSourceComplete then 1 else 0) ∧
        RegsKept [Reg.GB_STATUS, Reg.GB_COUNT, Reg.GB_MSG_COUNT, Reg.GB_SAT_LAST] s t ∧ t = { s with regs := t.regs, gus := t.gus, stage := t.stage } ∧
        (s.mapsOf m.kind m.index = [] → t.gus.work = s.gus.work ∧ t.stage = s.stage ∧ t.regs = s.regs) ∧
        (s.mapsOf m.kind m.index ≠ [] → t.gus.busy = s.clk.uptime + 4 * (9 + (s.mapsOf m.kind m.index).length)) ∧
        ∀ e, s.mapsOf m.kind m.index = [e] →
          let w := s.rd (Fld.GB_MAP_e_SRC_WIDTH e) + 1
          let bit := s.rd (Fld.GB_MAP_e_SRC_BIT e)
          let dw := s.rd (Fld.GB_MAP_e_DST_DWIDTH e) + 1
          let short := (m.kind = 3 ∨ m.kind = 4) ∧ 8 * m.data.length < bit + w
          let v := fieldBits m.data bit w
          let f := if s.rd (Fld.GB_MAP_e_SRC_ORDER e) = 1 then beNat (leBytes (w / 8) v) else v
          let x : Int := if s.rd (Fld.GB_MAP_e_SRC_SIGNED e) = 1 ∧ 2 ^ (w - 1) ≤ f then (f : Int) - 2 ^ w else f
          let y0 := (toSigned 32 (s.rd (Fld.GB_MAP_e_A_VALUE e)) * x).fdiv 65536 + toSigned 32 (s.rd (Fld.GB_MAP_e_B_VALUE e))
          let lo : Int := if s.rd (Fld.GB_MAP_e_DST_DSIGNED e) = 1 then -(2 ^ (dw - 1)) else 0
          let hi : Int := if s.rd (Fld.GB_MAP_e_DST_DSIGNED e) = 1 then 2 ^ (dw - 1) - 1 else 2 ^ dw - 1
          let y := max lo (min hi y0)
          let kind := s.rd (Fld.GB_MAP_e_DST_DKIND e)
          let at_ := s.rd (Fld.GB_MAP_e_DST_DBIT e) + (if kind = 1 then 0 else 32 * s.rd Fld.GB_IN_SECT_OFS4)
          let bits := fun (a b : Mem) => ∀ n, (b.rb (n / 8)).toNat.testBit (n % 8) =
            if at_ ≤ n ∧ n < at_ + dw then (y % 2 ^ dw).toNat.testBit (n - at_) else (a.rb (n / 8)).toNat.testBit (n % 8)
          (short → t.gus.work = s.gus.work ∧ t.stage = s.stage ∧ t.rd Fld.GB_MSG_COUNT_SHORT = (s.bump Fld.GB_MSG_COUNT_SHORT).rd Fld.GB_MSG_COUNT_SHORT) ∧
          (¬ short → (s.rd (Fld.GB_MAP_e_SRC_ORDER e) = 1 → w % 8 = 0) →
            (kind = 1 → bits s.gus.work t.gus.work ∧ t.stage = s.stage) ∧ (kind = 0 → bits s.stage t.stage ∧ t.gus.work = s.gus.work) ∧
            (y = y0 → t.regs = s.regs) ∧
            (y ≠ y0 → t.rd Fld.GB_STATUS_SAT_SEEN = 1 ∧ t.rd Fld.GB_SAT_LAST_VALID = 1 ∧ t.rd Fld.GB_SAT_LAST_ENTRY = e ∧
              t.rd Fld.GB_COUNT_SATURATED = (s.bump Fld.GB_COUNT_SATURATED).rd Fld.GB_COUNT_SATURATED)))

/-- APERTURE_WRITE outside every window does nothing; through a non-posted window whose initiator awaits a completion it is an access fault.
Otherwise SEQ advances and, with room in the ring's queue, one container with the window's DEST and TAG and the payload of R393 is queued,
and a non-posted write awaits its completion with RESULT 0. A halted window drops a posted write, counted, and ends a non-posted one with
0xB; a full queue sets REFUSED and makes a FIFO entry of CAUSE 0x8 or ends the write with 0x8, and halts a window with HALT. WIN_SIG
queues the CODE behind the earlier writes. WIN_RESUME leaves HALTED and keeps SEQ. PEF_POP removes the head of the error FIFO. NP_TIMEOUT
ends a write with 0xA after NP_TMO x 100 us. (R392, R393, R394, R395, R398, R399, R400, R401) -/
def Obligations.GussetSending : Prop :=
  ∀ (s : State) (i : Initiator),
    (∀ (w : Fin 8192) (d : Word), s.mayWrite i (Reg.GB_APT_w w) = true →
      (s.winOf w = none → Gives (.apertureWrite i w d) s (fun t => t = s.respond i .done)) ∧
      ∀ n, s.winOf w = some n →
        let init := gbInit i
        let np := s.rd (Fld.GB_WIN_n_CFG_NP n)
        let waits := s.rd (Fld.GB_CPL_i_PENDING init)
        let seq := s.rd (Fld.GB_WIN_n_STAT_SEQ n)
        let tag := s.rd (Fld.GB_WIN_n_CTRL_TAG n)
        let r := if s.rd (Fld.GB_WIN_n_CFG_RING n) = 1 then Ring.Y else Ring.X
        let addr := (s.rd (Fld.GB_WIN_n_REMOTE_REMOTE n) + 4 * (w - s.rd (Fld.GB_WIN_n_CFG_APT_BASE n))) % 2 ^ 32
        let halt := s.rd (Fld.GB_WIN_n_CFG_HALT n) = 1
        let body := leBytes 1 n ++ leBytes 1 (np + 2 * init) ++ leBytes 2 seq ++ leBytes 4 addr ++ leBytes 4 d.toNat ++ leBytes 2 0
        let m : TxMsg := { dest := s.rd (Fld.GB_WIN_n_CFG_DEST n), len := 14, tag := tag, kind := 0x8001, data := body, age := 0, init := init }
        let e : PefEntry := { cause := 8, init := init, win := n, node := s.rd (Fld.SX_CFG_ADDR r), addr := addr, seq := seq, tag := tag }
        n < 16 ∧ s.rd (Fld.GB_WIN_n_CFG_EN n) = 1 ∧ s.rd (Fld.GB_WIN_n_CFG_APT_BASE n) ≤ w ∧
        w < s.rd (Fld.GB_WIN_n_CFG_APT_BASE n) + s.rd (Fld.GB_WIN_n_SIZE_WORDS n) ∧
        (np = 1 → waits = 1 → Gives (.apertureWrite i w d) s (fun t => t = s.respond i .fault)) ∧
        (np = 0 ∨ waits = 0 → Gives (.apertureWrite i w d) s (fun t => t.response i = .done ∧ t.rd (Fld.GB_WIN_n_STAT_SEQ n) = (seq + 1) % 65536 ∧
          (s.halted n = false → (s.rg r).queued < 16 →
            (t.rg r).txq = (s.rg r).txq ++ [m] ∧
            (np = 0 → t.gus = s.gus ∧ t.reg (Reg.GB_CPL_i init) = s.reg (Reg.GB_CPL_i init)) ∧
            (np = 1 → t.rd (Fld.GB_CPL_i_PENDING init) = 1 ∧ t.rd (Fld.GB_CPL_i_RESULT init) = 0 ∧ t.rd (Fld.GB_CPL_i_WIN init) = n ∧
              t.rd (Fld.GB_CPL_i_SEQ init) = seq ∧ lookupN t.gus.npAt init = some s.clk.uptime) ∧
            RegsKept [Reg.GB_WIN_n_STAT n, Reg.GB_CPL_i init, Reg.SX_TXC_STATUS r] s t) ∧
          (s.halted n = true → t.ring = s.ring ∧
            (np = 0 → t.rd (Fld.GB_WIN_n_STAT_DROPPED n) = (s.bump (Fld.GB_WIN_n_STAT_DROPPED n)).rd (Fld.GB_WIN_n_STAT_DROPPED n)) ∧
            (np = 1 → t.rd (Fld.GB_CPL_i_PENDING init) = 0 ∧ t.rd (Fld.GB_CPL_i_RESULT init) = 0xB)) ∧
          (s.halted n = false → 16 ≤ (s.rg r).queued → t.ring = s.ring ∧ t.rd (Fld.SX_TXC_STATUS_REFUSED r) = 1 ∧ (t.halted n = true ↔ halt) ∧
            (np = 1 → t.rd (Fld.GB_CPL_i_PENDING init) = 0 ∧ t.rd (Fld.GB_CPL_i_RESULT init) = 8) ∧
            (np = 0 → s.gus.pef.length < 16 → t.gus.pef = s.gus.pef ++ [e]))))) ∧
    (∀ (n : Fin 16) (w : Word), s.mayWrite i (Reg.GB_WIN_n_SIG n) = true →
      let seq := s.rd (Fld.GB_WIN_n_STAT_SEQ n)
      let r := if s.rd (Fld.GB_WIN_n_CFG_RING n) = 1 then Ring.Y else Ring.X
      let body := leBytes 1 n.val ++ leBytes 1 0 ++ leBytes 2 seq ++ leBytes 4 w.toNat ++ leBytes 4 0 ++ leBytes 2 0
      let m : TxMsg := { dest := s.rd (Fld.GB_WIN_n_CFG_DEST n), len := 14, tag := s.rd (Fld.GB_WIN_n_CTRL_TAG n), kind := 0x8004, data := body, age := 0, init := gbInit i }
      (s.rd (Fld.GB_WIN_n_CFG_EN n) = 0 → Gives (.winSig i n w) s (fun t => t = s.respond i .done)) ∧
      (s.rd (Fld.GB_WIN_n_CFG_EN n) = 1 → s.halted n = false → (s.rg r).queued < 16 → Gives (.winSig i n w) s (fun t =>
        t.response i = .done ∧ t.rd (Fld.GB_WIN_n_STAT_SEQ n) = (seq + 1) % 65536 ∧ t.gus = s.gus ∧
        (t.rg r).txq = (s.rg r).txq ++ [m] ∧
        RegsKept [Reg.GB_WIN_n_STAT n, Reg.SX_TXC_STATUS r] s t)) ∧
      (s.rd (Fld.GB_WIN_n_CFG_EN n) = 1 → s.halted n = true → Gives (.winSig i n w) s (fun t => t.ring = s.ring ∧
        t.rd (Fld.GB_WIN_n_STAT_SEQ n) = (seq + 1) % 65536 ∧
        t.rd (Fld.GB_WIN_n_STAT_DROPPED n) = (s.bump (Fld.GB_WIN_n_STAT_DROPPED n)).rd (Fld.GB_WIN_n_STAT_DROPPED n)))) ∧
    (∀ (n : Fin 16) (w : Word), s.mayWrite i (Reg.GB_WIN_n_CTRL n) = true → Gives (.winResume i n w) s (fun t => t.halted n = false ∧
      (∀ m : Fin 16, m ≠ n → t.halted m = s.halted m) ∧ t.rd (Fld.GB_WIN_n_CTRL_TAG n) = wbits w (Fld.GB_WIN_n_CTRL_TAG n) ∧
      RegsKept [Reg.GB_STATUS, Reg.GB_WIN_n_CTRL n] s t ∧ OnlyRegs s t ∧ t.response i = .done)) ∧
    (∀ w : Word, s.mayWrite i Reg.GB_PEF_CTRL = true → s.gus.pef.length ≤ 16 → Gives (.pefPop i w) s (fun t => t.gus = { s.gus with pef := s.gus.pef.drop 1 } ∧
      t.rd Fld.GB_STATUS_PEF_COUNT = s.gus.pef.length - 1 ∧ t.rd Fld.GB_STATUS_PEF_VALID = b2n (decide (2 ≤ s.gus.pef.length)) ∧
      (∀ a b l, s.gus.pef = a :: b :: l → t.reg Reg.GB_PEF_ADDR = BitVec.ofNat 32 b.addr ∧ t.rd Fld.GB_PEF_TAG_SEQ = b.seq % 65536 ∧
        t.rd Fld.GB_PEF_TAG_TAG = b.tag % 65536 ∧ t.rd Fld.GB_PEF_INFO_CAUSE = b.cause % 16) ∧ t.response i = .done)) ∧
    (∀ (n : Fin 3),
      (∀ at_, lookupN s.gus.npAt n = some at_ → at_ + 100000 * s.rd Fld.GB_CFG_NP_TMO ≤ s.clk.uptime → Gives (.npTimeout n) s (fun t =>
        t.rd (Fld.GB_CPL_i_PENDING n) = 0 ∧ t.rd (Fld.GB_CPL_i_RESULT n) = 0xA ∧ RegsKept [Reg.GB_CPL_i n, Reg.GB_STATUS] s t ∧
        (s.rd (Fld.GB_WIN_n_CFG_HALT (s.rd (Fld.GB_CPL_i_WIN n))) = 1 → t.halted (s.rd (Fld.GB_CPL_i_WIN n)) = true))) ∧
      ((∀ at_, lookupN s.gus.npAt n = some at_ → s.clk.uptime < at_ + 100000 * s.rd Fld.GB_CFG_NP_TMO) → Gives (.npTimeout n) s (fun t => t = s)))

/-- A carried write advances the expected SEQ of its sender window. Outside every inbound window it is answered with 0x2, in a module that
does not write pair entries with 0x3 and a count; else it waits to land, with CAUSE 0x4 at a gap. Landed in its turn, its word stands in
junction DDR4 and no other byte changed, APPLIED counts, and it is answered. A non-posted write is answered by a completion, a posted one
that failed by a report, ahead of every queued message. A completion ends the write that awaits it, or counts as late. A report becomes an
entry of the posted-error FIFO and its word is posted, or it is lost, counted. A signal posts its CODE only when no earlier write of its
sender window still waits; a refused post is reported with 0x5. (R393, R395, R396, R397, R398, R399, R400, R401) -/
def Obligations.GussetReceiving : Prop :=
  ∀ s : State,
    (s.gus.inq = [] → Gives .carriedWriteReceived s (fun t => t = s) ∧ Gives .completionReceived s (fun t => t = s) ∧
      Gives .postedErrorReport s (fun t => t = s) ∧ Gives .carriedSignalReceived s (fun t => t = s)) ∧
    ((∀ x ∈ s.gus.land, x.signal = true) ∨ s.mayGrant 16 = false → Gives .carriedWriteLanded s (fun t => t = s)) ∧
    ((∀ p x q, s.gus.land = p ++ x :: q → x.signal = true → ∃ y ∈ p, y.src = x.src ∧ y.win = x.win) → Gives .signalPost s (fun t => t = s)) ∧
    let urgent := fun (t : State) (r : Ring) (src tag kind : Nat) (data : List Byte) => (t.rg r).txq =
      (s.rg r).txq.filter (fun m => m.kind == 0x8002 || m.kind == 0x8003) ++ [{ dest := src, len := 14, tag := tag, kind := kind, data := data, age := 0 }] ++
      (s.rg r).txq.filter (fun m => !(m.kind == 0x8002 || m.kind == 0x8003))
    let body := fun (win b1 seq addr data : Nat) => leBytes 1 win ++ leBytes 1 b1 ++ leBytes 2 seq ++ leBytes 4 addr ++ leBytes 4 data ++ leBytes 2 0
    let answered := fun (t : State) (r : Ring) (src tag win fl seq addr code : Nat) =>
      (fl % 2 = 1 → urgent t r src tag 0x8002 (body win (if code = 0 then 1 else code) seq addr 0)) ∧
      (fl % 2 = 0 → code ≠ 0 → urgent t r src tag 0x8003 (body win code seq addr fl)) ∧ (fl % 2 = 0 → code = 0 → t.ring = s.ring)
    (∀ (r : Ring) (src tag win fl seq addr data : Nat) (rest : List (Ring × RxMsg)), win < 256 → fl < 256 → seq < 65536 → addr < 2 ^ 32 → data < 2 ^ 32 →
      let gap := ∃ e, lookupN s.gus.exp (256 * src + win) = some e ∧ e ≠ seq
      let hits := fun n => s.rd (Fld.GB_IN_n_CFG_EN n) = 1 ∧ s.rd (Fld.GB_IN_n_CFG_SRC n) = src
      let holds := fun n => s.rd (Fld.GB_IN_n_BASE_BASE n) ≤ addr ∧ addr < s.rd (Fld.GB_IN_n_BASE_BASE n) + 4096 * s.rd (Fld.GB_IN_n_PAGES_PAGES n)
      (s.gus.inq = (r, { source := src, bcast := false, len := 14, tag := tag, kind := 0x8001, data := body win fl seq addr data }) :: rest →
        ((∀ n < 8, ¬ (hits n ∧ holds n)) → Gives .carriedWriteReceived s (fun t => t.gus = { s.gus with inq := rest, exp := t.gus.exp } ∧
          lookupN t.gus.exp (256 * src + win) = some ((seq + 1) % 65536) ∧ answered t r src tag win fl seq addr 2 ∧ t.regs = s.regs)) ∧
        ∀ n < 8, hits n → holds n → (∀ k < n, ¬ (hits k ∧ holds k)) →
          (s.writesPair = true → Gives .carriedWriteReceived s (fun t => ∃ c, (gap → c = 4) ∧ (¬ gap → c = 0) ∧ t.gus = { s.gus with inq := rest, exp := t.gus.exp, land := s.gus.land ++
               [{ ring := r, src := src, win := win, seq := seq, tag := tag, flags := fl, addr := addr, data := data, signal := false, inWin := n, cause := c }] } ∧
            lookupN t.gus.exp (256 * src + win) = some ((seq + 1) % 65536) ∧ t = { s with gus := t.gus })) ∧
          (s.writesPair = false → Gives .carriedWriteReceived s (fun t => t.gus.land = s.gus.land ∧ answered t r src tag win fl seq addr 3 ∧
            t.rd (Fld.GB_IN_n_STAT_REFUSED n) = (s.bump (Fld.GB_IN_n_STAT_REFUSED n)).rd (Fld.GB_IN_n_STAT_REFUSED n)))) ∧
      (s.gus.inq = (r, { source := src, bcast := false, len := 14, tag := tag, kind := 0x8002, data := body win fl seq addr 0 }) :: rest → fl < 16 →
        let waits := fun i => s.rd (Fld.GB_CPL_i_PENDING i) = 1 ∧ s.rd (Fld.GB_CPL_i_WIN i) = win ∧ s.rd (Fld.GB_CPL_i_SEQ i) = seq
        (∀ i < 3, waits i → (∀ k < i, ¬ waits k) → Gives .completionReceived s (fun t => t.rd (Fld.GB_CPL_i_PENDING i) = 0 ∧ t.rd (Fld.GB_CPL_i_RESULT i) = fl ∧
          t.gus.inq = rest ∧ (s.rd (Fld.GB_WIN_n_CFG_HALT win) = 1 → fl ≠ 0 → fl ≠ 1 → fl ≠ 4 → t.halted win = true) ∧ RegsKept [Reg.GB_CPL_i i, Reg.GB_STATUS] s t)) ∧
        ((∀ i < 3, ¬ waits i) → Gives .completionReceived s (fun t => t.gus.inq = rest ∧ RegsKept [Reg.GB_MSG_COUNT] s t ∧
          t.rd Fld.GB_MSG_COUNT_LATE_CPL = (s.bump Fld.GB_MSG_COUNT_LATE_CPL).rd Fld.GB_MSG_COUNT_LATE_CPL))) ∧
      (s.gus.inq = (r, { source := src, bcast := false, len := 14, tag := tag, kind := 0x8003, data := body win fl seq addr data }) :: rest → win < 16 → data < 16 →
        let e : PefEntry := { cause := fl, init := data / 2, win := win, node := src, addr := addr, seq := seq, tag := tag }
        let ch := s.rd Fld.GB_CFG_PE_EY
        (s.gus.pef.length < 16 → Gives .postedErrorReport s (fun t => t.gus.pef = s.gus.pef ++ [e] ∧ t.gus.inq = rest ∧
          t.rd Fld.GB_STATUS_PEF_COUNT = s.gus.pef.length + 1 ∧
          (s.rd (Fld.EY_CH_n_CFG_EN ch) = 1 → s.eyHolds ch = false → (s.contest ch).win = none → s.eyRcv ch ≠ 2 → t.reg (Reg.EY_CH_n_MSG ch) = e.info ∧ t.eyHolds ch = true))) ∧
        (16 ≤ s.gus.pef.length → Gives .postedErrorReport s (fun t => t.gus.pef = s.gus.pef ∧ t.rd Fld.GB_STATUS_PEF_OVF = 1 ∧
          t.rd Fld.GB_PEF_CTRL_LOST = (s.bump Fld.GB_PEF_CTRL_LOST).rd Fld.GB_PEF_CTRL_LOST))) ∧
      (s.gus.inq = (r, { source := src, bcast := false, len := 14, tag := tag, kind := 0x8004, data := body win 0 seq addr 0 }) :: rest →
        ((∀ n < 8, ¬ hits n) → Gives .carriedSignalReceived s (fun t => t.gus.land = s.gus.land ∧ answered t r src tag win 0 seq addr 2)) ∧
        ∀ n < 8, hits n → (∀ k < n, ¬ hits k) → Gives .carriedSignalReceived s (fun t => ∃ c, (gap → c = 4) ∧ (¬ gap → c = 0) ∧
          t.gus.land = s.gus.land ++ [{ ring := r, src := src, win := win, seq := seq, tag := tag, flags := 0, addr := addr, data := 0, signal := true, inWin := n, cause := c }] ∧
          t = { s with gus := t.gus }))) ∧
    ∀ p x q, s.gus.land = p ++ x :: q →
      (x.signal = false → (∀ y ∈ p, y.signal = true) → s.mayGrant 16 = true → x.inWin < 8 → x.addr % 4 = 0 → Gives .carriedWriteLanded s (fun t => t.gus = { s.gus with land := p ++ q } ∧
        t.ddrBytes .junction x.addr 4 = leBytes 4 x.data ∧
        (∀ a, a < s.phys .junction x.addr ∨ s.phys .junction x.addr + 4 ≤ a → t.jddr.rb a = s.jddr.rb a) ∧
        t.rd (Fld.GB_IN_n_STAT_APPLIED x.inWin) = (s.rd (Fld.GB_IN_n_STAT_APPLIED x.inWin) + 1) % 65536 ∧
        answered t x.ring x.src x.tag x.win x.flags x.seq x.addr x.cause)) ∧
      (x.signal = true → x.flags = 0 → (∀ y ∈ p, y.signal = false ∧ (y.src ≠ x.src ∨ y.win ≠ x.win)) →
        let ch := s.rd (Fld.GB_IN_n_CFG_EY x.inWin)
        (s.rd (Fld.EY_CH_n_CFG_EN ch) = 1 → s.eyHolds ch = false → (s.contest ch).win = none → Gives .signalPost s (fun t => t.gus = { s.gus with land := p ++ q } ∧
          answered t x.ring x.src x.tag x.win 0 x.seq x.addr x.cause ∧
          (s.eyRcv ch ≠ 2 → t.reg (Reg.EY_CH_n_MSG ch) = BitVec.ofNat 32 x.addr ∧ t.eyHolds ch = true))) ∧
        (s.rd (Fld.EY_CH_n_CFG_EN ch) = 0 ∨ s.eyHolds ch = true ∧ (s.contest ch).win = none → Gives .signalPost s (fun t => t.gus = { s.gus with land := p ++ q } ∧
          answered t x.ring x.src x.tag x.win 0 x.seq x.addr 5 ∧ t.rd (Fld.EY_CH_n_STAT_REFUSED ch) = 1)))

/-- START in IDLE or ERROR puts the channel into RUN at ENTRY with both offsets, the loop counters and ERR zero, whatever other bits the write
has; in RUN and WAIT it is ignored. STOP in RUN or WAIT is honoured at once outside a transfer, after a copy that is due, at a WAIT that
completed in the same jc, and inside a transfer leaves STOP_PEND; in IDLE and ERROR it is ignored. COMMIT sets BASTE_PENDING. CLEAR leaves
ERROR for IDLE with ERR zero and is ignored elsewhere. SHUTTLE_SHADOW_COPY with a copy due (a COMMIT of an earlier jc) outside a transfer
sets WEIGHT (0 as 1), IRQ and ENTRY, and PC when JUMP is 1; otherwise nothing changes. (R416, R417, R421, R430) -/
def Obligations.ShuttleControl : Prop :=
  ∀ (s : State) (i : Initiator) (c : Fin 16) (w : Word), s.shc.length = 16 →
    let st := s.shState c
    let asks := fun (f : Nat → Field) => wbits w (f c) = 1
    let due := s.basteDue (Fld.SH_CH_c_CTRL_BASTE_PENDING c) = true
    let commits := fun (t : State) => t = { s with regs := t.regs, resp := t.resp, baste := t.baste }
    let weight := s.rd (Fld.SH_SH_CH_c_CFG_WEIGHT c)
    let entry := s.rd (Fld.SH_SH_CH_c_PC_ENTRY c)
    let copied := fun (t : State) => t.rd (Fld.SH_CH_c_CFG_WEIGHT c) = (if weight = 0 then 1 else weight) ∧
      t.rd (Fld.SH_CH_c_CFG_IRQ c) = s.rd (Fld.SH_SH_CH_c_CFG_IRQ c) ∧ t.rd (Fld.SH_CH_c_PC_ENTRY c) = entry ∧
      t.shPc c = (if s.rd (Fld.SH_SH_CH_c_PC_JUMP c) = 1 then entry else s.shPc c) ∧ t.rd (Fld.SH_CH_c_CTRL_BASTE_PENDING c) = 0
    let active := fun (t : State) => bitOf (t.reg Reg.SH_STATUS).toNat c
    (s.mayWrite i (Reg.SH_CH_c_CTRL c) = true →
      (st = 0 ∨ st = 3 → Gives (.shuttleStart i c w) s (fun t => t.shState c = 1 ∧ t.rd (Fld.SH_CH_c_STAT_ERR c) = 0 ∧
        t.shPc c = s.rd (Fld.SH_CH_c_PC_ENTRY c) ∧ t.reg (Reg.SH_CH_c_SOFS c) = 0 ∧ t.reg (Reg.SH_CH_c_DOFS c) = 0 ∧ t.reg (Reg.SH_CH_c_LOOP c) = 0 ∧
        t.shq c = ShSt.none ∧ active t = true ∧ t.response i = .done ∧
        RegsKept [Reg.SH_CH_c_CTRL c, Reg.SH_CH_c_STAT c, Reg.SH_CH_c_PC c, Reg.SH_CH_c_SOFS c, Reg.SH_CH_c_DOFS c, Reg.SH_CH_c_LOOP c, Reg.SH_STATUS] s t)) ∧
      (st = 1 ∨ st = 2 → ¬ asks Fld.SH_CH_c_CTRL_STOP → ¬ asks Fld.SH_CH_c_CTRL_COMMIT → Gives (.shuttleStart i c w) s (fun t => RegsKept [] s t ∧ OnlyRegs s t)) ∧
      (st = 0 ∨ st = 3 → ¬ asks Fld.SH_CH_c_CTRL_START → ¬ asks Fld.SH_CH_c_CTRL_COMMIT → ¬ asks Fld.SH_CH_c_CTRL_CLEAR →
        Gives (.shuttleStopRequest i c w) s (fun t => RegsKept [] s t ∧ OnlyRegs s t)) ∧
      (st = 1 ∨ st = 2 →
        ((s.shq c).xfer.isSome = true → Gives (.shuttleStopRequest i c w) s (fun t => t.shState c = st ∧ t.rd (Fld.SH_CH_c_STAT_STOP_PEND c) = 1 ∧
          t.shc = s.shc ∧ RegsKept [Reg.SH_CH_c_CTRL c, Reg.SH_CH_c_STAT c] s t)) ∧
        ((s.shq c).xfer = none → (∀ x, (s.shq c).waited = some x → x.at_ ≠ s.clk.uptime) → Gives (.shuttleStopRequest i c w) s (fun t => t.shState c = 0 ∧ t.rd (Fld.SH_CH_c_STAT_STOP_PEND c) = 0 ∧
          t.shq c = ShSt.none ∧ active t = false ∧ (due → copied t) ∧
          (¬ due → RegsKept [Reg.SH_CH_c_STAT c, Reg.SH_STATUS, Reg.SH_CH_c_CTRL c] s t))) ∧
        (∀ x, (s.shq c).xfer = none → (s.shq c).waited = some x → x.at_ = s.clk.uptime → ¬ due → Gives (.shuttleStopRequest i c w) s (fun t =>
          t.shState c = 0 ∧ t.shPc c = x.pc % 512 ∧ (x.cond = 1 → s.eyHolds x.index = false → x.index < 32 →
            t.eyHolds x.index = true ∧ t.reg (Reg.EY_CH_n_MSG x.index) = s.reg (Reg.SH_CH_c_MSG c))))) ∧
      (¬ asks Fld.SH_CH_c_CTRL_START → ¬ asks Fld.SH_CH_c_CTRL_STOP → ¬ asks Fld.SH_CH_c_CTRL_CLEAR → Gives (.shuttleCommit i c w) s (fun t =>
        t.rd (Fld.SH_CH_c_CTRL_BASTE_PENDING c) = 1 ∧ RegsKept [Reg.SH_CH_c_CTRL c] s t ∧ commits t)) ∧
      (¬ asks Fld.SH_CH_c_CTRL_START → ¬ asks Fld.SH_CH_c_CTRL_STOP → ¬ asks Fld.SH_CH_c_CTRL_COMMIT →
        (st = 3 → Gives (.shuttleClear i c w) s (fun t => t.shState c = 0 ∧ t.rd (Fld.SH_CH_c_STAT_ERR c) = 0 ∧
          RegsKept [Reg.SH_CH_c_STAT c, Reg.SH_STATUS] s t ∧ OnlyRegs s t ∧ t.response i = .done)) ∧
        (st ≠ 3 → Gives (.shuttleClear i c w) s (fun t => RegsKept [] s t ∧ OnlyRegs s t)))) ∧
    ((s.shq c).xfer = none → due → Gives (.shuttleShadowCopy c) s (fun t => copied t ∧ t.shState c = st ∧
      RegsKept [Reg.SH_CH_c_CFG c, Reg.SH_CH_c_PC c, Reg.SH_CH_c_CTRL c] s t ∧ t = { s with regs := t.regs, shc := t.shc })) ∧
    ((s.shq c).xfer.isSome = true ∨ ¬ due → Gives (.shuttleShadowCopy c) s (fun t => t = s))

/-- Outside RUN and inside a transfer no instruction begins. A reserved OP, a reserved field that is not zero, LOOP's TARGET at or after its
slot, a reserved request line and a wrong INDEX end the channel with 0x4, MOVE2D's unequal or zero totals with 0x5, a side-effect part
that is not word-aligned with 0x3, a MOVE2D or a continuation beyond slot 511 with 0x9, a non-secure channel's post to a secure Eyelet
with 0x7: ERR and ERR_PC say so, and its Thimbles are released. NOP continues at the next slot, a stop request is honoured there, after a
copy that is due. MOVE and MOVE2D begin their transfer at SRC + SOFS and DST + DOFS. LOOP runs its body COUNT times. SIGNAL posts VALUE,
releases a Thimble, or sets the IRQ bit. STOP sets DONE and, when both ask, the IRQ bit. (No PC lies beyond slot 511 in the register; the
clause is for the slot that follows.) (R408, R410, R411, R412, R414, R416, R417, R420, R421, R427, R429) -/
def Obligations.ShuttleProgram : Prop :=
  ∀ (s : State) (c : Fin 16), s.shc.length = 16 →
    let p := s.shPc c
    let w0 := s.shWord p 0
    let op := w0 / 2 ^ 28
    let w := fun j => s.shWord p j
    let quiet := s.rd (Fld.SH_CH_c_CTRL_BASTE_PENDING c) = 0 ∧ s.rd (Fld.SH_CH_c_STAT_STOP_PEND c) = 0
    let fails := fun (t : State) (e : Nat) => t.shState c = 3 ∧ t.rd (Fld.SH_CH_c_STAT_ERR c) = e ∧ t.rd (Fld.SH_CH_c_STAT_ERR_PC c) = p ∧
      t.shq c = ShSt.none ∧ (∀ n : Fin 64, t.thOwner n ≠ 16 + c.val) ∧ t.jddr = s.jddr ∧ t.lane = s.lane
    let goes := fun (t : State) (pc : Nat) => (pc < 512 → t.shPc c = pc ∧ t.shState c = 1) ∧
      (pc = 512 → t.shState c = 3 ∧ t.rd (Fld.SH_CH_c_STAT_ERR c) = 9 ∧ t.rd (Fld.SH_CH_c_STAT_ERR_PC c) = p)
    let badMove := w0 % 2 ^ 16 ≠ 0 ∨ w0 / 2 ^ 22 % 2 = 1 ∨ 10 < bitsOf w0 21 16
    let a := (w 1 + (s.reg (Reg.SH_CH_c_SOFS c)).toNat) % 2 ^ 32
    let b := (w 2 + (s.reg (Reg.SH_CH_c_DOFS c)).toNat) % 2 ^ 32
    let odd := fun (x len stride lines : Nat) => x < 0x130000 ∧ (x % 4 ≠ 0 ∨ len % 4 ≠ 0 ∨ 1 < lines ∧ stride % 4 ≠ 0)
    let all : List Instr := [.nop c, .move c, .move2d c, .loop c, .signal c, .stop c]
    (s.shState c ≠ 1 ∨ (s.shq c).xfer.isSome = true → ∀ i ∈ all, Gives i s (fun t => t = s)) ∧
    (s.shState c = 1 → (s.shq c).xfer = none →
      (6 ≤ op → op ≤ 14 → ∀ i ∈ all, Gives i s (fun t => fails t 4)) ∧
      (op = 0 →
        (w0 ≠ 0 ∨ w 1 ≠ 0 ∨ w 2 ≠ 0 ∨ w 3 ≠ 0 → Gives (.nop c) s (fun t => fails t 4)) ∧
        (w0 = 0 → w 1 = 0 → w 2 = 0 → w 3 = 0 →
          (quiet → Gives (.nop c) s (fun t => goes t (p + 1) ∧ (p < 511 → RegsKept [Reg.SH_CH_c_PC c] s t ∧ t = { s with regs := t.regs, shc := t.shc }))) ∧
          (s.rd (Fld.SH_CH_c_STAT_STOP_PEND c) = 1 → s.rd (Fld.SH_CH_c_CTRL_BASTE_PENDING c) = 0 → Gives (.nop c) s (fun t =>
            t.shState c = 0 ∧ t.rd (Fld.SH_CH_c_STAT_STOP_PEND c) = 0 ∧ (p < 511 → t.shPc c = p + 1))) ∧
          (s.basteDue (Fld.SH_CH_c_CTRL_BASTE_PENDING c) = true → s.rd (Fld.SH_SH_CH_c_PC_JUMP c) = 1 → Gives (.nop c) s (fun t =>
            t.shPc c = s.rd (Fld.SH_SH_CH_c_PC_ENTRY c) ∧ t.shState c = (if s.rd (Fld.SH_CH_c_STAT_STOP_PEND c) = 1 then 0 else 1))))) ∧
      (op = 1 →
        (badMove ∨ w 3 = 0 ∨ 2 ^ 24 ≤ w 3 → Gives (.move c) s (fun t => fails t 4)) ∧
        (¬ badMove → 1 ≤ w 3 → w 3 < 2 ^ 24 →
          (bitOf w0 27 = true ∧ odd a (w 3) 0 1 ∨ bitOf w0 26 = true ∧ odd b (w 3) 0 1 → Gives (.move c) s (fun t => fails t 3)) ∧
          (¬ (bitOf w0 27 = true ∧ odd a (w 3) 0 1 ∨ bitOf w0 26 = true ∧ odd b (w 3) 0 1) → Gives (.move c) s (fun t => t = { s with shc := t.shc } ∧
            ∃ x, (t.shq c).xfer = some x ∧ x.src = a ∧ x.dst = b ∧ x.sLen = w 3 ∧ x.dLen = w 3 ∧ x.total = w 3 ∧ x.done = 0 ∧ x.carry = [] ∧ x.two = false ∧
              x.seSrc = bitOf w0 27 ∧ x.seDst = bitOf w0 26 ∧ x.pace = bitOf w0 25 ∧ x.advS = bitOf w0 24 ∧ x.advD = bitOf w0 23 ∧ x.req = bitsOf w0 21 16)))) ∧
      (op = 2 →
        let sl := w 3 / 2 ^ 16
        let sn := w 3 % 2 ^ 16
        let dl := w 4 / 2 ^ 16
        let dn := w 4 % 2 ^ 16
        let side := bitOf w0 27 = true ∧ odd a sl (w 5) sn ∨ bitOf w0 26 = true ∧ odd b dl (w 6) dn
        let unequal := sl * sn ≠ dl * dn ∨ sl = 0 ∨ sn = 0 ∨ dl = 0 ∨ dn = 0
        (p = 511 → Gives (.move2d c) s (fun t => fails t 9)) ∧
        (p < 511 → badMove ∨ w 7 ≠ 0 → Gives (.move2d c) s (fun t => fails t 4)) ∧
        (p < 511 → ¬ badMove → w 7 = 0 → unequal → Gives (.move2d c) s (fun t => fails t 5)) ∧
        (p < 511 → ¬ badMove → w 7 = 0 → ¬ unequal → side → Gives (.move2d c) s (fun t => fails t 3)) ∧
        (p < 511 → ¬ badMove → w 7 = 0 → ¬ unequal → ¬ side → Gives (.move2d c) s (fun t => t = { s with shc := t.shc } ∧
          ∃ x, (t.shq c).xfer = some x ∧ x.src = a ∧ x.dst = b ∧ x.sLen = sl ∧ x.dLen = dl ∧ x.sStride = toSigned 32 (w 5) ∧ x.dStride = toSigned 32 (w 6) ∧
            x.total = sl * sn ∧ x.done = 0 ∧ x.carry = [] ∧ x.two = true))) ∧
      (op = 3 →
        let target := bitsOf w0 24 16
        let count := w0 % 2 ^ 16
        let lvl := if bitOf w0 27 then (s.reg (Reg.SH_CH_c_LOOP c)).toNat / 2 ^ 16 else (s.reg (Reg.SH_CH_c_LOOP c)).toNat % 2 ^ 16
        let left := (if lvl = 0 then count else lvl) - 1
        let bad := bitsOf w0 26 25 ≠ 0 ∨ p ≤ target ∨ w 1 ≠ 0 ∨ w 2 ≠ 0 ∨ w 3 ≠ 0
        (bad → Gives (.loop c) s (fun t => fails t 4)) ∧
        (¬ bad → quiet → count = 0 → Gives (.loop c) s (fun t => goes t target ∧ RegsKept [Reg.SH_CH_c_PC c] s t)) ∧
        (¬ bad → quiet → count ≠ 0 → Gives (.loop c) s (fun t => goes t (if left ≠ 0 then target else p + 1) ∧
          (t.reg (Reg.SH_CH_c_LOOP c)).toNat = if bitOf w0 27 then left * 2 ^ 16 + (s.reg (Reg.SH_CH_c_LOOP c)).toNat % 2 ^ 16
            else (s.reg (Reg.SH_CH_c_LOOP c)).toNat / 2 ^ 16 * 2 ^ 16 + left))) ∧
      (op = 5 →
        let act := bitsOf w0 27 24
        let n := bitsOf w0 21 16
        let bad := bitsOf w0 23 22 ≠ 0 ∨ w0 % 2 ^ 16 ≠ 0 ∨ w 2 ≠ 0 ∨ w 3 ≠ 0
        (bad ∨ 2 < act ∨ act = 0 ∧ 31 < n → Gives (.signal c) s (fun t => fails t 4)) ∧
        (¬ bad → act = 0 → n < 16 → s.rd (Fld.SH_CH_c_CFG_SECURE c) = 0 → Gives (.signal c) s (fun t => fails t 7)) ∧
        (¬ bad → quiet → act = 0 → n < 32 → 16 ≤ n ∨ s.rd (Fld.SH_CH_c_CFG_SECURE c) = 1 → Gives (.signal c) s (fun t => goes t (p + 1) ∧
          (s.rd (Fld.EY_CH_n_CFG_EN n) = 1 → s.eyHolds n = false → (s.contest n).win = none → s.eyRcv n ≠ 2 →
            t.reg (Reg.EY_CH_n_MSG n) = BitVec.ofNat 32 (w 1) ∧ t.eyHolds n = true) ∧
          (s.rd (Fld.EY_CH_n_CFG_EN n) = 0 ∨ s.eyHolds n = true → t.rd (Fld.EY_CH_n_STAT_REFUSED n) = 1))) ∧
        (¬ bad → quiet → act = 1 → (s.contest (64 + n)).late = [] → Gives (.signal c) s (fun t => goes t (p + 1) ∧ (s.thOwner n = 16 + c.val → t.thOwner n = 0) ∧
          (s.thOwner n ≠ 16 + c.val → (∀ m : Fin 64, p < 511 → t.thOwner m = s.thOwner m) ∧
            t.rd Fld.EY_TH_STAT_BAD_RELEASES = (s.bump Fld.EY_TH_STAT_BAD_RELEASES).rd Fld.EY_TH_STAT_BAD_RELEASES))) ∧
        (¬ bad → quiet → act = 2 → Gives (.signal c) s (fun t => goes t (p + 1) ∧ t.regBit Reg.SH_IRQ c = true))) ∧
      (op = 15 →
        (w0 % 2 ^ 27 ≠ 0 ∨ w 1 ≠ 0 ∨ w 2 ≠ 0 ∨ w 3 ≠ 0 → Gives (.stop c) s (fun t => fails t 4)) ∧
        (w0 % 2 ^ 27 = 0 → w 1 = 0 → w 2 = 0 → w 3 = 0 → Gives (.stop c) s (fun t => t.shState c = 0 ∧ t.rd (Fld.SH_CH_c_STAT_DONE c) = 1 ∧
          t.rd (Fld.SH_CH_c_STAT_STOP_PEND c) = 0 ∧
          t.regBit Reg.SH_IRQ c = (bitOf w0 27 && s.flag (Fld.SH_CH_c_CFG_IRQ c) || s.regBit Reg.SH_IRQ c)))))

/-- WAIT with good fields enters WAIT; a reserved COND or field, an INDEX out of range and an Eyelet whose receiver is not the Shuttle are
error 0x4, a secure Eyelet of a non-secure channel 0x7; a stop request ends it at once. It completes when its condition holds: a full
Eyelet's word goes into MSG and leaves the channel empty, a Thimble becomes the channel's; without it nothing changes, and after TIMEOUT
us the channel ends with 0x8. A burst of junction DDR4 to junction DDR4 that finishes its transfer copies exactly its bytes, counts,
advances SOFS and DOFS when asked and continues. A side-effect region without SE_SRC or SE_DST ends with 0x2, an address outside the map
with 0x1, and writes nothing; without its request line, out of its turn of the round, or with DDR4 in self-refresh, no burst is granted.
(R405, R408, R409, R411, R413, R417, R418, R420, R482) -/
def Obligations.ShuttleWaitsAndBursts : Prop :=
  ∀ (s : State) (c : Fin 16), s.shc.length = 16 →
    let p := s.shPc c
    let w0 := s.shWord p 0
    let cond := bitsOf w0 27 24
    let n := bitsOf w0 21 16
    let quiet := s.rd (Fld.SH_CH_c_CTRL_BASTE_PENDING c) = 0 ∧ s.rd (Fld.SH_CH_c_STAT_STOP_PEND c) = 0
    let fails := fun (t : State) (e : Nat) => t.shState c = 3 ∧ t.rd (Fld.SH_CH_c_STAT_ERR c) = e ∧ t.rd (Fld.SH_CH_c_STAT_ERR_PC c) = p ∧
      t.shq c = ShSt.none ∧ (∀ n : Fin 64, t.thOwner n ≠ 16 + c.val) ∧ t.jddr = s.jddr ∧ t.lane = s.lane
    let reserved := bitsOf w0 23 22 ≠ 0 ∨ s.shWord p 1 ≠ 0 ∨ s.shWord p 2 ≠ 0 ∨ s.shWord p 3 ≠ 0
    let wrong := 5 < cond ∨ cond = 0 ∧ 10 < n ∨ cond = 1 ∧ (31 < n ∨ s.eyRcv n ≠ 3) ∨ cond = 3 ∧ 15 < n ∨ (cond = 4 ∨ cond = 5) ∧ n ≠ 0
    let insecure := cond = 1 ∧ n < 16 ∧ s.rd (Fld.SH_CH_c_CFG_SECURE c) = 0
    (s.shState c ≠ 1 ∨ (s.shq c).xfer.isSome = true → Gives (.wait c) s (fun t => t = s)) ∧
    (s.shState c = 1 → (s.shq c).xfer = none → w0 / 2 ^ 28 = 4 →
      (reserved ∨ wrong → Gives (.wait c) s (fun t => fails t 4)) ∧
      (¬ reserved → ¬ wrong → insecure → Gives (.wait c) s (fun t => fails t 7)) ∧
      (¬ reserved → ¬ wrong → ¬ insecure → s.rd (Fld.SH_CH_c_CTRL_BASTE_PENDING c) = 0 →
        (s.rd (Fld.SH_CH_c_STAT_STOP_PEND c) = 0 → Gives (.wait c) s (fun t => t.shState c = 2 ∧ (t.shq c).wait = some (cond, n, w0 % 2 ^ 16, s.clk.uptime) ∧
          (t.shq c).event = false ∧ RegsKept [Reg.SH_CH_c_STAT c, Reg.SH_STATUS] s t)) ∧
        (s.rd (Fld.SH_CH_c_STAT_STOP_PEND c) = 1 → Gives (.wait c) s (fun t => t.shState c = 0 ∧ t.rd (Fld.SH_CH_c_STAT_STOP_PEND c) = 0)))) ∧
    (s.shState c ≠ 2 ∨ s.waitHolds c = false → Gives (.waitComplete c) s (fun t => t = s)) ∧
    (s.shState c = 2 → quiet → (s.shq c).jumped = false → p < 511 → ∀ cond n tmo since, (s.shq c).wait = some (cond, n, tmo, since) →
      let on := fun (t : State) => t.shState c = 1 ∧ t.shPc c = p + 1 ∧ (t.shq c).wait = none ∧ (t.shq c).xfer = none
      (cond = 0 → s.shLine n = true → Gives (.waitComplete c) s (fun t => on t ∧ RegsKept [Reg.SH_CH_c_STAT c, Reg.SH_CH_c_PC c, Reg.SH_STATUS] s t)) ∧
      (cond = 1 → n < 32 → s.eyHolds n = true → (s.contest n).win = none → (s.contest n).late = [] → (∀ d < c.val, ∀ m x y, (s.shq d).wait = some (1, m, x, y) → m ≠ n) →
        Gives (.waitComplete c) s (fun t => on t ∧ t.reg (Reg.SH_CH_c_MSG c) = s.reg (Reg.EY_CH_n_MSG n) ∧ t.eyHolds n = false)) ∧
      (cond = 2 → n < 64 → s.thOwner n = 0 → Gives (.waitComplete c) s (fun t => on t ∧ t.thOwner n = 16 + c.val ∧ ∀ m : Fin 64, m.val ≠ n → t.thOwner m = s.thOwner m)) ∧
      (cond = 3 ∨ cond = 4 ∨ cond = 5 → (s.shq c).event = true → Gives (.waitComplete c) s (fun t => on t)) ∧
      (cond = 2 → s.thOwner n ≠ 0 → s.thOwner n ≠ 16 + c.val → (s.contest (64 + n)).win = none → Gives (.waitComplete c) s (fun t => t = s))) ∧
    (∀ cond n tmo since, (s.shq c).wait = some (cond, n, tmo, since) → s.shState c = 2 →
      (tmo ≠ 0 → since + 1000 * tmo ≤ s.clk.uptime → s.waitHolds c = false → Gives (.waitTimeout c) s (fun t => fails t 8)) ∧
      (tmo = 0 ∨ s.clk.uptime < since + 1000 * tmo → Gives (.waitTimeout c) s (fun t => t = s))) ∧
    ((s.shq c).wait = none → Gives (.waitTimeout c) s (fun t => t = s)) ∧
    ((s.shq c).xfer = none → ∀ wd, Gives (.shuttleBurst c wd) s (fun t => t = s)) ∧
    ∀ x, (s.shq c).xfer = some x →
      (s.shState c ≠ 1 ∨ s.jddrRefresh = true ∨ s.mayGrant c = false → ∀ wd, Gives (.shuttleBurst c wd) s (fun t => t = s)) ∧
      (x.pace = true → s.shLine x.req = false → Gives (.shuttleBurst c false) s (fun t => t = s)) ∧
      (s.shState c = 1 → s.jddrRefresh = false → s.mayGrant c = true → x.pace = false → x.done = 0 → x.carry = [] → 0 < x.total → x.total ≤ x.sLen → x.total ≤ x.dLen →
        x.src < 2 ^ 32 → x.dst < 2 ^ 32 →
        (x.src < 0x130000 → x.seSrc = false → Gives (.shuttleBurst c false) s (fun t => fails t 2)) ∧
        (0x130000 ≤ x.src → x.src < 0x40000000 → Gives (.shuttleBurst c false) s (fun t => fails t 1)) ∧
        (inDdr .junction x.src = true → x.src % 64 + x.total ≤ 64 → x.dst % 64 + x.total ≤ 64 → s.bitmapBad x.src = false → (s.burstClass .junction x.src).1 = 0 →
          (x.dst < 0x130000 → x.seDst = false → Gives (.shuttleBurst c false) s (fun t => fails t 2)) ∧
          (0x130000 ≤ x.dst → x.dst < 0x40000000 → Gives (.shuttleBurst c false) s (fun t => fails t 1)) ∧
          (inDdr .junction x.dst = true → inWelt x.dst x.total = false → s.bitmapBad x.dst = false → (s.burstClass .junction x.dst).1 = 0 → quiet → p + 2 < 512 →
            Gives (.shuttleBurst c false) s (fun t => t.ddrBytes .junction x.dst x.total = s.ddrBytes .junction x.src x.total ∧
              (∀ a, a < s.phys .junction x.dst ∨ s.phys .junction x.dst + x.total ≤ a → t.jddr.rb a = s.jddr.rb a) ∧
              (t.shq c).xfer = none ∧ t.shState c = 1 ∧ t.shPc c = p + (if x.two then 2 else 1) ∧
              t.reg (Reg.SH_CH_c_SOFS c) = s.reg (Reg.SH_CH_c_SOFS c) + (if x.advS then BitVec.ofNat 32 x.total else 0) ∧
              t.reg (Reg.SH_CH_c_DOFS c) = s.reg (Reg.SH_CH_c_DOFS c) + (if x.advD then BitVec.ofNat 32 x.total else 0) ∧
              t.rd (Fld.SH_CH_c_CNT_BURSTS c) = (s.bump (Fld.SH_CH_c_CNT_BURSTS c)).rd (Fld.SH_CH_c_CNT_BURSTS c) ∧ t.lane = s.lane))))

/-- EYELET_POST stores the word in an enabled channel that holds none, counts it and informs the receiver (the lanes' interrupt, the host
alert, or an event notice, which takes the word); a full or disabled channel keeps its word and counts the refusal. of two posts in one jc
the first in the order of the contest stays. A take by the receiver returns the word and empties the channel; a read by another leaves it.
A Thimble read acquires it when it is free and answers the owner's identity; a release needs the owner's own identity, else it is counted
as bad; TH_FORCE_HI is held, and TH_FORCE_LO by a secure master frees the Thimbles of the set bits of both words, and of another master
none (that reading of the force is the model's, in the log). (Requests that met in the same jc are excluded.) (R423, R424, R425, R426,
R427, R428, R429) -/
def Obligations.EyeletsAndThimbles : Prop :=
  ∀ (s : State) (i : Initiator),
    (∀ (n : Fin 32) (w : Word), s.mayWrite i (Reg.EY_CH_n_POST n) = true →
      (s.rd (Fld.EY_CH_n_CFG_EN n) = 1 → s.eyHolds n = false → (s.contest n).win = none → Gives (.eyeletPost i n w) s (fun t => t.response i = .done ∧
        t.rd (Fld.EY_CH_n_STAT_POSTS n) = (s.rd (Fld.EY_CH_n_STAT_POSTS n) + 1) % 65536 ∧
        (∀ m : Fin 32, m ≠ n → t.eyHolds m = s.eyHolds m ∧ t.reg (Reg.EY_CH_n_MSG m) = s.reg (Reg.EY_CH_n_MSG m)) ∧
        (s.eyRcv n ≠ 2 → t.eyHolds n = true ∧ t.reg (Reg.EY_CH_n_MSG n) = w ∧ t.regBit Reg.EY_FULL n = true) ∧
        (s.eyRcv n = 0 → ∀ l : Lane, t.ln l = s.raiseService.ln l) ∧ (s.eyRcv n = 1 → t.rd Fld.JC_HOST_ALERT_EY = 1) ∧
        (s.eyRcv n = 2 → t.eyHolds n = false))) ∧
      (∀ q, s.rd (Fld.EY_CH_n_CFG_EN n) = 1 → s.eyHolds n = true → (s.contest n).win = some q → Gives (.eyeletPost i n w) s (fun t => t.response i = .done ∧
        t.eyHolds n = true ∧ t.reg (Reg.EY_CH_n_MSG n) =
          if q ≠ 20 ∧ turn (s.contest n).base (placeOf i) < turn (s.contest n).base q then w else s.reg (Reg.EY_CH_n_MSG n))) ∧
      (s.rd (Fld.EY_CH_n_CFG_EN n) = 0 ∨ s.eyHolds n = true ∧ (s.contest n).win = none → Gives (.eyeletPost i n w) s (fun t => t.response i = .done ∧
        t.rd (Fld.EY_CH_n_STAT_REFUSED n) = 1 ∧ t.rd (Fld.EY_CH_n_STAT_REFUSALS n) = (s.bump (Fld.EY_CH_n_STAT_REFUSALS n)).rd (Fld.EY_CH_n_STAT_REFUSALS n) ∧
        RegsKept [Reg.EY_CH_n_STAT n] s t ∧ t = { s with regs := t.regs, resp := t.resp, contests := t.contests }))) ∧
    (∀ n : Fin 32, s.mayRead i (Reg.EY_CH_n_MSG n) = true → (s.contest n).late = [] → Gives (.eyeletTake i n) s (fun t =>
      t.response i = .data (if s.eyTaker i n = true ∧ s.eyReady n = false then 0 else s.reg (Reg.EY_CH_n_MSG n)) ∧ (∀ m : Fin 32, m ≠ n → t.eyHolds m = s.eyHolds m) ∧
      (s.eyReady n = true → i = .host → s.eyRcv n = 1 → t.eyHolds n = false) ∧
      (∀ l, s.eyReady n = true → i = .hart l .h1 → s.svcMaster = some l → s.eyRcv n = 0 → t.eyHolds n = false) ∧
      (s.eyTaker i n = false → t.eyHolds n = s.eyHolds n ∧ OnlyRegs s t ∧ t.regs = s.regs))) ∧
    (∀ n : Fin 64,
      let owner := s.thOwner n
      let me := match i with
        | .host => 1
        | .hart l .h1 => 2 + l.num
        | .shuttle c => 16 + c.val
        | _ => 0
      let others := fun (t : State) => ∀ m : Fin 64, m ≠ n → t.thOwner m = s.thOwner m
      (s.mayRead i (Reg.EY_TH_n n) = true → (s.contest (64 + n)).win = none →
        (owner = 0 → i = .host ∨ (∃ c, i = .shuttle c) ∨ (∃ l, i = .hart l .h1 ∧ s.svcMaster = some l) → Gives (.thimbleAcquire i n) s (fun t =>
          t.thOwner n = me ∧ others t ∧ t.response i = .data (BitVec.ofNat 32 me) ∧
          t = { s with regs := t.regs, resp := t.resp, contests := t.contests })) ∧
        (owner ≠ 0 ∨ ¬ (i = .host ∨ (∃ c, i = .shuttle c) ∨ (∃ l, i = .hart l .h1 ∧ s.svcMaster = some l)) → Gives (.thimbleAcquire i n) s (fun t =>
          t = { s.respond i (.data (BitVec.ofNat 32 owner)) with contests := t.contests }))) ∧
      (∀ w : Word, s.mayWrite i (Reg.EY_TH_n n) = true → (s.contest (64 + n)).late = [] →
        (owner ≠ 0 → owner = me → w.toNat % 256 = me → Gives (.thimbleRelease i n w) s (fun t => t.thOwner n = 0 ∧ others t ∧ t.response i = .done)) ∧
        (owner = 0 ∨ owner ≠ me ∨ w.toNat % 256 ≠ me → Gives (.thimbleRelease i n w) s (fun t => RegsKept [Reg.EY_TH_STAT] s t ∧ OnlyRegs s t ∧
          t.rd Fld.EY_TH_STAT_BAD_RELEASES = (s.bump Fld.EY_TH_STAT_BAD_RELEASES).rd Fld.EY_TH_STAT_BAD_RELEASES)))) ∧
    ∀ w : Word,
      let k := holdKey i Reg.EY_TH_FORCE_HI
      let high := (lookupN s.holdW k).getD 0
      (s.mayWrite i Reg.EY_TH_FORCE_HI = true → Gives (.thForce i true w) s (fun t => t = { s.respond i .done with holdW := setN s.holdW k w })) ∧
      (s.mayWrite i Reg.EY_TH_FORCE_LO = true →
        (s.secure i = true → (∀ n : Fin 64, (s.contest (64 + n)).late = []) → Gives (.thForce i false w) s (fun t => t.response i = .done ∧
          t = { s with regs := t.regs, resp := t.resp, holdW := t.holdW } ∧ lookupN t.holdW k = none ∧
          ∀ n : Fin 64, t.thOwner n = if bitOf (if n.val < 32 then w else high).toNat (n % 32) = true then 0 else s.thOwner n)) ∧
        (s.secure i = false → Gives (.thForce i false w) s (fun t => t.response i = .done ∧ t.regs = s.regs ∧ lookupN t.holdW k = none)))

/-- A result of R x D bits puts v into VALUE and its represented instant into SPAN, counts it, moves MAX, MIN, RMS and ENV as R445 says and
enters the FIFO, or is counted in OVF when 32 entries wait. v is the FIR of the filter inputs, rounded half up and saturated, and in a
fade the mix of both banks, whose last sample makes the new bank active. 4096 equal bits set STUCK and clear VALID; the first other bit
starts the refill after which VALID returns. COMMIT waits for the copy in the jc of a later result, which starts a fade of FADE + 1
samples and never happens within one. A FIFO read gives VALUE, then SPAN, which removes the entry, or 0x8000_0000 when it is empty,
counted; a read of VALUE captures the other fields. (R436, R438, R439, R441, R443, R444, R445, R447, R448, R450) -/
def Obligations.Measurement : Prop :=
  ∀ (s : State) (i : Initiator) (n : Fin 8) (bits : List Bool) (w : Word), s.mcs.length = 8 →
    let m := s.mc n
    let runs := s.rd (Fld.MC_CH_n_CFG_EN n) = 1 ∧ s.rd Fld.JC_MOD_STATUS_SLEEP = 0 ∧ s.ej2Down = false ∧ bits.length = s.mcR n * s.mcD n ∧ bits ≠ []
    let us := (McSt.feed (s.mcPhase n) (s.mcR n) 0 bits m).us
    let fir := fun (h : List Int) => max (-8388608) (min 8388607
      ((((List.range (s.mcN n)).map (fun j => getAt 0 h (min j (s.mcN n - 1 - j)) * getAt 0 us j)).sum + 32768).fdiv 65536))
    let fading := s.rd (Fld.MC_CH_n_CTRL_FADING n) = 1
    let old := fir (s.mcBank n)
    let new := fir m.newBank
    let last := m.fadeJ + 1 = m.fadeK
    let v : Int := if fading then old + ((new - old) * (m.fadeJ + 1 : Nat)).fdiv m.fadeK else old
    let vw : Word := BitVec.ofNat 32 (v % 2 ^ 32).toNat
    let mx := toSigned 32 (s.rd (Fld.MC_CH_n_MAX_VALUE n))
    let mn := toSigned 32 (s.rd (Fld.MC_CH_n_MIN_VALUE n))
    let win := s.rd (Fld.MC_CH_n_DET_WINDOW n)
    let sum := (if m.window = win then m.sum else 0) + v.natAbs * v.natAbs
    let cnt := (if m.window = win then m.cntW else 0) + 1
    let again := s.clk.uptime + ((s.mcN n + 3) * s.mcR n + s.mcPhase n) * (if s.rd Fld.MC_CFG_MCLK = 1 then 50 else 100)
    let e := s.rd (Fld.MC_CH_n_ENV_VALUE n)
    let a := v.natAbs
    (¬ runs → Gives (.mcResult n bits) s (fun t => t = s)) ∧
    (runs → (fading → 0 < m.fadeK ∧ m.fadeJ < m.fadeK) → m.sum < 2 ^ 62 → Gives (.mcResult n bits) s (fun t =>
      -8388608 ≤ v ∧ v ≤ 8388607 ∧ t.reg (Reg.MC_CH_n_VALUE n) = vw ∧ t.reg (Reg.MC_CH_n_SPAN n) = BitVec.ofNat 32 (s.mcSpan n) ∧
      t.rd (Fld.MC_CH_n_STAT_RESULTS n) = (s.rd (Fld.MC_CH_n_STAT_RESULTS n) + 1) % 65536 ∧
      toSigned 32 (t.rd (Fld.MC_CH_n_MAX_VALUE n)) = (if m.clrPeak then v else max mx v) ∧
      toSigned 32 (t.rd (Fld.MC_CH_n_MIN_VALUE n)) = (if m.clrPeak then v else min mn v) ∧ (t.mc n).clrPeak = false ∧
      (win = 0 → t.reg (Reg.MC_CH_n_RMS n) = 0) ∧
      (win ≠ 0 → cnt = win → ∃ r, t.rd (Fld.MC_CH_n_RMS_VALUE n) = r ∧ r * r ≤ sum / win ∧ sum / win < (r + 1) * (r + 1) ∧ (t.mc n).sum = 0) ∧
      (win ≠ 0 → cnt ≠ win → t.reg (Reg.MC_CH_n_RMS n) = s.reg (Reg.MC_CH_n_RMS n) ∧ (t.mc n).sum = sum ∧ (t.mc n).cntW = cnt) ∧
      t.rd (Fld.MC_CH_n_ENV_VALUE n) = (if e < a then e + (a - e) / 2 ^ s.rd (Fld.MC_CH_n_DET_ATT n) else e - (e - a) / 2 ^ s.rd (Fld.MC_CH_n_DET_DEC n)) ∧
      (m.fifo.length < 32 → (t.mc n).fifo = m.fifo ++ [(vw, BitVec.ofNat 32 (s.mcSpan n))] ∧ t.rd (Fld.MC_CH_n_STAT_LEVEL n) = m.fifo.length + 1) ∧
      (32 ≤ m.fifo.length → (t.mc n).fifo = m.fifo ∧ t.rd (Fld.MC_CH_n_CNT_OVF n) = (s.bump (Fld.MC_CH_n_CNT_OVF n)).rd (Fld.MC_CH_n_CNT_OVF n)) ∧
      (fading → last → t.rd (Fld.MC_CH_n_CTRL_FADING n) = 0 ∧ v = new ∧ ∀ j < 32, t.rd (Fld.MC_CH_n_COEF_i_H n j) = (getAt 0 m.newBank j % 2 ^ 18).toNat) ∧
      (fading → ¬ last → (t.mc n).fadeJ = m.fadeJ + 1 ∧ t.rd (Fld.MC_CH_n_CTRL_FADING n) = 1) ∧
      ∀ k : Fin 8, k ≠ n → t.mc k = s.mc k ∧ t.reg (Reg.MC_CH_n_VALUE k) = s.reg (Reg.MC_CH_n_VALUE k))) ∧
    (m.stuckDue = true → s.rd (Fld.MC_CH_n_STAT_STUCK n) = 0 → Gives (.mcStuck n) s (fun t => t.rd (Fld.MC_CH_n_STAT_STUCK n) = 1 ∧
      t.rd (Fld.MC_CH_n_STAT_STUCK_SEEN n) = 1 ∧ t.rd (Fld.MC_CH_n_STAT_VALID n) = 0 ∧ t.regBit Reg.MC_STATUS n = false ∧
      t.regBit Reg.MC_STATUS (8 + n) = true ∧ t.mc n = { m with refillAt := none, stuckDue := false })) ∧
    (m.stuckDue = false ∨ s.rd (Fld.MC_CH_n_STAT_STUCK n) = 1 → Gives (.mcStuck n) s (fun t => t = s)) ∧
    (m.run < 4096 → s.rd (Fld.MC_CH_n_STAT_STUCK n) = 1 → Gives (.mcStuckClear n) s (fun t => t.rd (Fld.MC_CH_n_STAT_STUCK n) = 0 ∧
      t.rd (Fld.MC_CH_n_STAT_VALID n) = 0 ∧ RegsKept [Reg.MC_CH_n_STAT n, Reg.MC_STATUS] s t ∧ t.mc n = { m with refillAt := some (again - s.mcDiffered n) })) ∧
    (4096 ≤ m.run ∨ s.rd (Fld.MC_CH_n_STAT_STUCK n) = 0 → Gives (.mcStuckClear n) s (fun t => t = s)) ∧
    (∀ at_, m.refillAt = some at_ → at_ ≤ s.clk.uptime → Gives (.mcRefillDone n) s (fun t => t.rd (Fld.MC_CH_n_STAT_VALID n) = 1 ∧
      t.regBit Reg.MC_STATUS n = true ∧ (t.mc n).refillAt = none ∧ RegsKept [Reg.MC_CH_n_STAT n, Reg.MC_STATUS] s t)) ∧
    ((∀ at_, m.refillAt = some at_ → s.clk.uptime < at_) → Gives (.mcRefillDone n) s (fun t => t = s)) ∧
    (s.mayWrite i (Reg.MC_CH_n_CTRL n) = true →
      (wbits w (Fld.MC_CH_n_CTRL_PEAK_CLR n) = 0 → Gives (.mcCommit i n w) s (fun t => t.rd (Fld.MC_CH_n_CTRL_BASTE_PENDING n) = 1 ∧ t.rd (Fld.MC_CH_n_CTRL_FADE n) = wbits w (Fld.MC_CH_n_CTRL_FADE n) ∧
        t.rd (Fld.MC_CH_n_CTRL_FADING n) = s.rd (Fld.MC_CH_n_CTRL_FADING n) ∧ RegsKept [Reg.MC_CH_n_CTRL n] s t ∧ t.response i = .done)) ∧
      (m.resultAt ≠ some s.clk.uptime → Gives (.peakClr i n w) s (fun t => (t.mc n) = { m with clrPeak := true } ∧ RegsKept [Reg.MC_CH_n_CTRL n] s t ∧
        t.response i = .done)) ∧
      (m.resultAt = some s.clk.uptime → Gives (.peakClr i n w) s (fun t => t.mc n = m ∧ t.reg (Reg.MC_CH_n_MAX n) = s.reg (Reg.MC_CH_n_VALUE n) ∧
        t.reg (Reg.MC_CH_n_MIN n) = s.reg (Reg.MC_CH_n_VALUE n) ∧ RegsKept [Reg.MC_CH_n_CTRL n, Reg.MC_CH_n_MAX n, Reg.MC_CH_n_MIN n] s t ∧ t.response i = .done))) ∧
    let bound := s.basteDue (Fld.MC_CH_n_CTRL_BASTE_PENDING n) = true ∧ ¬ fading ∧ m.resultAt = some s.clk.uptime ∧ m.fadeEnd ≠ some s.clk.uptime
    (bound → Gives (.mcShadowCopy n) s (fun t => t.rd (Fld.MC_CH_n_CTRL_BASTE_PENDING n) = 0 ∧
      t.rd (Fld.MC_CH_n_CTRL_FADING n) = 1 ∧ RegsKept [Reg.MC_CH_n_CTRL n, Reg.MC_STATUS] s t ∧ (t.mc n).fadeJ = 0 ∧
      (t.mc n).fadeK = s.rd (Fld.MC_CH_n_CTRL_FADE n) + 1 ∧ (∀ j < 32, getAt 0 (t.mc n).newBank j = toSigned 18 (s.rd (Fld.MC_SH_CH_n_COEF_i_H n j))))) ∧
    (¬ bound → Gives (.mcShadowCopy n) s (fun t => t = s)) ∧
    (∀ x : Fin 16, s.mayRead i (Reg.MC_CH_n_FIFO_w n x) = true →
      (m.fifo = [] → Gives (.mcFifoRead i n x) s (fun t => t.response i = .data 0x80000000 ∧ RegsKept [Reg.MC_CH_n_CNT n] s t ∧ OnlyRegs s t ∧
        t.rd (Fld.MC_CH_n_CNT_UNDERRUN n) = (s.bump (Fld.MC_CH_n_CNT_UNDERRUN n)).rd (Fld.MC_CH_n_CNT_UNDERRUN n))) ∧
      (∀ x1, m.fifo = [x1] → s.mcUnread n = true → Gives (.mcFifoRead i n x) s (fun t => t.response i = .data 0x80000000 ∧ t.mc n = m ∧
        t.rd (Fld.MC_CH_n_CNT_UNDERRUN n) = (s.bump (Fld.MC_CH_n_CNT_UNDERRUN n)).rd (Fld.MC_CH_n_CNT_UNDERRUN n))) ∧
      ∀ val sp q, m.fifo = (val, sp) :: q → q ≠ [] ∨ s.mcUnread n = false →
        (m.half = false → Gives (.mcFifoRead i n x) s (fun t => t.response i = .data val ∧ t.mc n = { m with half := true } ∧ t.regs = s.regs)) ∧
        (m.half = true → q.length < 64 → m.spill = none ∨ m.resultAt ≠ some s.clk.uptime → Gives (.mcFifoRead i n x) s (fun t => t.response i = .data sp ∧ t.mc n = { m with half := false, fifo := q } ∧
          t.rd (Fld.MC_CH_n_STAT_LEVEL n) = q.length ∧ RegsKept [Reg.MC_CH_n_STAT n] s t))) ∧
    (s.mayRead i (Reg.MC_CH_n_VALUE n) = true → Gives (.mcValueRead i n) s (fun t => t.response i = .data (s.reg (Reg.MC_CH_n_VALUE n)) ∧
      t = { s with holdR := t.holdR, resp := t.resp } ∧
      ∀ k ∈ [Reg.MC_CH_n_SPAN n, Reg.MC_CH_n_MAX n, Reg.MC_CH_n_MIN n, Reg.MC_CH_n_RMS n, Reg.MC_CH_n_ENV n],
        lookupN t.holdR (holdKey i k) = some (s.reg k)))

/-- WELT_RECORD_WRITE writes the oldest queued event as a 32-byte record with the next SEQ, at the keep area or the circular area, and touches
no other byte; an event equal in SOURCE, CODE and DATA to the last record folds into its REPEAT, but for time steps and freeze ends;
nothing is written while frozen, in self-refresh, before the start record, or in the event's own jc. FREEZE begins a freeze, THAW or 60 s
end it: the held records come first, then the freeze-end record with the counts. FLUSH_READ gives the stream's next word, or 0xFFFF_FFFF,
counted, when nothing is left. TROUBLE_ENTRY_WRITE, in a jc after the cause's and once a jc, puts the oldest waiting cause into the slot
of its TSEQ, advances TSEQ and sets the host alert. (R451, R453, R454, R455, R456, R457, R458, R460, R461) -/
def Obligations.WeltAndTroubleLog : Prop :=
  ∀ (s : State) (i : Initiator) (w : Word),
    (s.frozen = true ∨ s.jddrRefresh = true ∨ s.st.recorded = false ∨ s.welt.queue = [] → Gives .weltRecordWrite s (fun t => t = s)) ∧
    ((∀ e q, s.welt.queue = e :: q → s.clk.uptime ≤ e.at_) → Gives .weltRecordWrite s (fun t => t = s)) ∧
    (s.frozen = false → s.jddrRefresh = false → s.st.recorded = true → s.jmem.chk = [] → s.jmem.badBitmap = [] → ∀ e q, s.welt.queue = e :: q → e.at_ < s.clk.uptime →
      let total := s.wTotal
      let keep := s.rd Fld.WL_CFG_KEEP_N
      let addr := if total < keep then 0x70000000 + 32 * total else 0x60000000 + 32 * ((total - keep) % 2 ^ s.rd Fld.WL_CFG_CIRC_LOG2)
      ((∀ l, s.welt.last = some l → l.src ≠ e.src ∨ l.code ≠ e.code ∨ l.data ≠ e.data ∨ e.code = 0x30 ∨ e.code = 0x31 ∨ e.code = 0xF0 ∨ e.code = 0xF2) →
        total + 1 < 2 ^ 64 → Gives .weltRecordWrite s (fun t => t.welt.queue = q ∧ t.wTotal = total + 1 ∧
          t.ddrBytes .junction addr 32 = leBytes 4 total ++ leBytes 6 e.sec ++ leBytes 1 e.flags ++ leBytes 1 0 ++ leBytes 4 e.ns ++ leBytes 2 e.src ++
            leBytes 2 e.code ++ leBytes 4 0 ++ leBytes 8 e.data ∧
          (∀ a, a < s.phys .junction addr ∨ s.phys .junction addr + 32 ≤ a → t.jddr.rb a = s.jddr.rb a) ∧
          (t.rd Fld.WL_STATUS_KEEP_FULL = b2n (decide (keep ≤ total + 1))) ∧ t.lane = s.lane)) ∧
      (∀ l, s.welt.last = some l → l.src = e.src → l.code = e.code → l.data = e.data → e.code ≠ 0x30 → e.code ≠ 0x31 → e.code ≠ 0xF0 → e.code ≠ 0xF2 →
        total ≤ keep → l.addr % 32 = 0 → Gives .weltRecordWrite s (fun t => t.welt.queue = q ∧ t.wTotal = total ∧
          leNat (t.ddrBytes .junction (l.addr + 20) 4) = min (2 ^ 32 - 1) (leNat (s.ddrBytes .junction (l.addr + 20) 4) + 1) ∧
          ∀ a, a < s.phys .junction l.addr + 20 ∨ s.phys .junction l.addr + 24 ≤ a → t.jddr.rb a = s.jddr.rb a))) ∧
    let thawed := fun (t : State) (limit : Nat) => t.frozen = false ∧ t.welt.frozenAt = none ∧ t.rd Fld.WL_FROZEN_EVENTS_COUNT = 0 ∧ t.welt.held = [] ∧
      ∃ e, e.src = 13 ∧ e.code = 0xF0 ∧ e.data = s.rd Fld.WL_FROZEN_EVENTS_COUNT + 2 ^ 32 * limit + 2 ^ 40 * min s.welt.lostSteps 255 ∧
        t.welt.queue = s.welt.held ++ [e] ++ s.welt.queue
    (s.mayWrite i Reg.WL_CTRL = true →
      (wbits w Fld.WL_CTRL_THAW = 0 → s.frozen = false → Gives (.freeze i w) s (fun t => t.frozen = true ∧ 
        t.welt = { s.welt with frozenAt := some s.clk.uptime, held := [], lostSteps := 0 } ∧ RegsKept [Reg.WL_STATUS] s t ∧ t.response i = .done)) ∧
      (wbits w Fld.WL_CTRL_THAW = 0 → s.frozen = true → Gives (.freeze i w) s (fun t => RegsKept [] s t ∧ OnlyRegs s t)) ∧
      (s.frozen = true → Gives (.thaw i w) s (fun t => thawed t 0 ∧ t.response i = .done ∧ RegsKept [Reg.WL_STATUS, Reg.WL_FROZEN_EVENTS] s t)) ∧
      (s.frozen = false → Gives (.thaw i w) s (fun t => RegsKept [] s t ∧ OnlyRegs s t))) ∧
    (s.frozen = true → ∀ at_, s.welt.frozenAt = some at_ → at_ + 60000000000 ≤ s.clk.uptime → Gives .freezeTimeout s (fun t => thawed t 1)) ∧
    ((∀ at_, s.welt.frozenAt = some at_ → s.clk.uptime < at_ + 60000000000) → Gives .freezeTimeout s (fun t => t = s)) ∧
    (∀ n : Fin 16, s.mayRead i (Reg.WL_FLUSH_w n) = true →
      (s.wTotal ≤ s.flushIdx ∨ s.wTotal ≤ s.rd Fld.WL_CFG_KEEP_N → Gives (.flushRead i n) s (fun t => t.response i = .data 0xFFFFFFFF ∧
        t.rd Fld.WL_FLUSH_CNT_UNDER = (s.bump Fld.WL_FLUSH_CNT_UNDER).rd Fld.WL_FLUSH_CNT_UNDER ∧ RegsKept [Reg.WL_FLUSH_CNT] s t ∧ OnlyRegs s t)) ∧
      (s.flushIdx < s.wTotal → s.rd Fld.WL_CFG_KEEP_N < s.wTotal → s.jmem.chk = [] → s.jmem.badBitmap = [] → Gives (.flushRead i n) s (fun t =>
        t.response i = .data (BitVec.ofNat 32 (leNat (s.ddrBytes .junction (s.recAddr s.flushIdx + 4 * s.welt.flushWord) 4))) ∧ t.jddr = s.jddr ∧
        (s.welt.flushWord ≠ 7 → t.welt = { s.welt with flushWord := s.welt.flushWord + 1 } ∧ t.regs = s.regs) ∧
        (s.welt.flushWord = 7 → t.welt = { s.welt with flushWord := 0 } ∧ t.rd Fld.WL_FLUSH_SEQ_SEQ = (s.flushIdx + 1) % 2 ^ 32 ∧
          RegsKept [Reg.WL_FLUSH_SEQ] s t)))) ∧
    (s.tLast = some s.clk.uptime ∨ (∀ c cs, s.tWait = c :: cs → s.clk.uptime ≤ c.at_) → Gives .troubleEntryWrite s (fun t => t = s)) ∧
    ∀ c cs, s.tWait = c :: cs → c.at_ < s.clk.uptime → s.tLast ≠ some s.clk.uptime →
      let tseq := s.rd Fld.TL_STATUS_TSEQ
      let items := ((c.detail.take 7).map (leBytes 4)).flatten
      Gives .troubleEntryWrite s (fun t => t.tWait = cs ∧ t.rd Fld.TL_STATUS_TSEQ = (tseq + 1) % 2 ^ 32 ∧ t.rd Fld.JC_HOST_ALERT_TROUBLE = 1 ∧
        RegsKept [Reg.TL_STATUS, Reg.JC_HOST_ALERT] s t ∧
        t.tLog.bytes (64 * (tseq % 1024)) 64 = leBytes 4 tseq ++ leBytes 4 c.starts ++ leBytes 8 c.uptime ++ leBytes 6 c.sec ++ leBytes 1 c.flags ++ leBytes 1 0 ++
          leBytes 4 c.ns ++ leBytes 2 c.src ++ leBytes 2 c.code ++ leBytes 2 c.off ++ leBytes 1 c.bit ++ leBytes 1 0 ++ items ++
          List.replicate (28 - items.length) 0 ∧
        ∀ a, a < 64 * (tseq % 1024) ∨ 64 * (tseq % 1024) + 64 ≤ a → t.tLog.rb a = s.tLog.rb a)

/-- A permitted write of a register without an effect of its own completes. Each RW field takes its bits; an RWS field takes them before
configuration seal and keeps its value after it, and a sealed write that would change one leaves a cause for the trouble log; a W1C field
loses the bits written as one; RO and WO fields keep their value. Every other register and every other piece of state stays. (R10, R11,
R12, R16) -/
def Obligations.RegisterClasses : Prop :=
  ∀ (s : State) (i : Initiator) (addr k : Nat) (w : Word) (d : RegDesc), keyOf i addr = some k → k % 4 = 0 → regAt k = some d → s.mayWrite i k = true →
    d.name ∈ ["JC.HOST_CFG", "JC.HOST_ALERT", "JC.MOD_ID", "TT.STATUS", "TT.SEL_n", "SH.CFG", "SH.LW_BASE", "SH.LW_SIZE", "SH.CH_c_STAT", "SH.PROG_w",
      "ETH.CFG", "EY.CH_n_CFG", "EY.STATUS", "GB.CFG", "GB.WIN_n_CFG", "GB.STATUS", "MC.CH_n_CFG", "MC.CH_n_DET", "DX.STATUS", "ETH.IN_BASE"] →
    Gives (.registerWrite i addr 4 w) s (fun t => t.response i = .done ∧ RegsKept [k, Reg.TL_STATUS] s t ∧ (s.tWait.length < 16 → RegsKept [k] s t) ∧ OnlyRegsLog s t ∧
      (∀ f ∈ d.fields, let before := bitsOf (s.reg k).toNat f.hi f.lo
        let asked := bitsOf w.toNat f.hi f.lo
        bitsOf (t.reg k).toNat f.hi f.lo = match f.acc with
          | .rw => asked
          | .rws => if s.isSealed then before else asked
          | .w1c => before &&& (before ^^^ asked)
          | .w1s => before ||| asked
          | .ro | .wo => before) ∧
      (∀ b < 32, (∀ f ∈ d.fields, b < f.lo ∨ f.hi < b) → (t.reg k).getLsbD b = (s.reg k).getLsbD b) ∧
      ((∀ f ∈ d.fields, f.acc ≠ .rws) ∨ s.isSealed = false → t.tWait = s.tWait) ∧
      (s.isSealed = true → s.tWait.length < 16 → (∃ f ∈ d.fields, f.acc = .rws ∧ bitsOf w.toNat f.hi f.lo ≠ bitsOf (s.reg k).toNat f.hi f.lo) →
        ∃ c ∈ t.tWait, c.src = sourceOf k ∧ c.off = k % 0x10000 ∧ c.code = 1))

/-- DISPATCH by a HART_0 that names another task than the one TRD.NEXT shows, or comes while TRD.NEXT shows none, and DONE that names another
task than the running one, or comes while none runs, change no register and nothing else but the answer to the write. (R131) -/
def Obligations.OtherTaskIgnored : Prop :=
  ∀ (s : State) (l : Lane) (w : Word),
    (s.mayWrite (.hart l .h0) (Reg.TRD_DISPATCH l) = true →
      (s.rd (Fld.TRD_NEXT_VALID l) = 0 ∨ s.rd (Fld.TRD_NEXT_TASK l) ≠ wbits w (Fld.TRD_DISPATCH_TASK l)) →
      Gives (.dispatch (.hart l .h0) w) s (fun t => t.response (.hart l .h0) = .done ∧ OnlyRegs s t ∧ RegsKept [] s t)) ∧
    (s.mayWrite (.hart l .h0) (Reg.TRD_DONE l) = true → (s.ln l).curTask ≠ some (wbits w (Fld.TRD_DONE_TASK l)) →
      Gives (.done (.hart l .h0) w) s (fun t => t.response (.hart l .h0) = .done ∧ OnlyRegs s t ∧ RegsKept [] s t))

/-- In a frozen recorder, a write of 1 to WL.CTRL.THAW, alone or together with FREEZE, 60 s in the freeze, and a module reset each end the
freeze: the held time-step records are next in the queue, the freeze-end record 0x00F0 with FROZEN_EVENTS, the limit flag and the lost-
step count follows them, then whatever waited before; FROZEN_EVENTS reads 0. (R457) -/
def Obligations.FreezeEnds : Prop :=
  ∀ (s : State) (i : Initiator) (w : Word), s.frozen = true →
    let ended := fun (t : State) (limit : Nat) => t.frozen = false ∧ t.rd Fld.WL_FROZEN_EVENTS_COUNT = 0 ∧ t.welt.held = [] ∧ t.welt.frozenAt = none ∧
      ∃ e, e.code = 0x00F0 ∧ e.data = s.rd Fld.WL_FROZEN_EVENTS_COUNT + 2 ^ 32 * limit + 2 ^ 40 * min s.welt.lostSteps 255 ∧
        t.welt.queue = s.welt.held ++ [e] ++ s.welt.queue
    (s.mayWrite i Reg.WL_CTRL = true → Gives (.thaw i w) s (fun t => ended t 0) ∧
      (wbits w Fld.WL_CTRL_THAW = 1 → Gives (.freeze i w) s (fun t => ended t 0))) ∧
    (∀ at_, s.welt.frozenAt = some at_ → at_ + 60000000000 ≤ s.clk.uptime → Gives .freezeTimeout s (fun t => ended t 1)) ∧
    Gives .resetContactClose s (fun t => ended t 0)

/-- From every state with canonical registers, an uptime that is a multiple of 4 ns (R178: it advances 4 ns a cycle and nothing sets it but
power-on) and every fixed table at the hardware's size, a step that answers a next state gives one of which the same holds, whatever
command it executes. (R178, 95_what_each_step_holds.md) -/
def Obligations.ShapeKept : Prop :=
  ∀ s t : State, s.shaped → step s = .next t → t.shaped
end

