-- ==== Sys2Proof/Laws/Store.lean ====
section
/-! SUPPORT. The laws of sparse stores: what a store reads after a write, and that every operation keeps the canonical form. -/

namespace Sys2Proof.Machine

variable {β : Type}

/-! ### Reading after a write -/

theorem Store.get_erase (d : Nat → β) (m : Store β) (a b : Nat) :
    Store.get d (Store.erase m a) b = if b = a then d a else Store.get d m b := by
  induction m with
  | nil => simp only [Store.erase, Store.get]; split <;> simp_all
  | cons c r ih =>
    obtain ⟨k, v⟩ := c
    simp only [Store.erase]
    by_cases h : k = a
    · subst h
      rw [if_pos rfl, ih]
      by_cases hb : b = k <;> simp [Store.get, hb, eq_comm]
    · rw [if_neg h]
      simp only [Store.get, ih]
      by_cases hk : k = b
      · subst hk; simp [h]
      · simp [hk]

theorem Store.get_insert (d : Nat → β) (m : Store β) (a b : Nat) (v : β) :
    Store.get d (Store.insert m a v) b = if b = a then v else Store.get d m b := by
  induction m with
  | nil => simp [Store.insert, Store.get, eq_comm]
  | cons c r ih =>
    obtain ⟨k, x⟩ := c
    simp only [Store.insert]
    split
    · simp [Store.get, eq_comm]
    · split
      · rename_i h; subst h
        by_cases hb : b = a
        · simp [Store.get, hb]
        · simp [Store.get, hb, Ne.symm hb]
      · rename_i h1 h2
        simp only [Store.get, ih]
        by_cases hk : k = b
        · subst hk; simp [Ne.symm h2]
        · simp [hk]

/-- A store reads the value last written, and a write leaves every other address alone. -/
theorem Store.get_put [DecidableEq β] (d : Nat → β) (m : Store β) (a b : Nat) (v : β) :
    Store.get d (Store.put d m a v) b = if b = a then v else Store.get d m b := by
  unfold Store.put
  split
  · rename_i h; rw [Store.get_erase, h]
  · rw [Store.get_insert]

/-! ### The canonical form -/

theorem Store.wfFrom_mono [DecidableEq β] (d : Nat → β) {lo lo' : Nat} (h : lo' ≤ lo) :
    ∀ {m : Store β}, Store.wfFrom d lo m = true → Store.wfFrom d lo' m = true
  | [], _ => rfl
  | (k, v) :: r, hm => by
    simp only [Store.wfFrom, Bool.and_eq_true, decide_eq_true_eq] at hm ⊢
    exact ⟨⟨Nat.le_trans h hm.1.1, hm.1.2⟩, hm.2⟩

theorem Store.wfFrom_erase [DecidableEq β] (d : Nat → β) (a : Nat) :
    ∀ {m : Store β} {lo : Nat}, Store.wfFrom d lo m = true → Store.wfFrom d lo (Store.erase m a) = true
  | [], _, _ => rfl
  | (k, v) :: r, lo, hm => by
    simp only [Store.wfFrom, Bool.and_eq_true, decide_eq_true_eq] at hm
    simp only [Store.erase]
    split
    · exact Store.wfFrom_erase d a (Store.wfFrom_mono d (by omega) hm.2)
    · simp only [Store.wfFrom, Bool.and_eq_true, decide_eq_true_eq]
      exact ⟨hm.1, Store.wfFrom_erase d a hm.2⟩

theorem Store.wfFrom_insert [DecidableEq β] (d : Nat → β) (a : Nat) (v : β) (hv : v ≠ d a) :
    ∀ {m : Store β} {lo : Nat}, lo ≤ a → Store.wfFrom d lo m = true → Store.wfFrom d lo (Store.insert m a v) = true
  | [], lo, ha, _ => by simp [Store.insert, Store.wfFrom, ha, hv]
  | (k, x) :: r, lo, ha, hm => by
    simp only [Store.wfFrom, Bool.and_eq_true, decide_eq_true_eq] at hm
    simp only [Store.insert]
    split
    · simp only [Store.wfFrom, Bool.and_eq_true, decide_eq_true_eq]
      exact ⟨⟨ha, hv⟩, ⟨by omega, hm.1.2⟩, hm.2⟩
    · split
      · rename_i h; subst h
        simp only [Store.wfFrom, Bool.and_eq_true, decide_eq_true_eq]
        exact ⟨⟨ha, hv⟩, hm.2⟩
      · simp only [Store.wfFrom, Bool.and_eq_true, decide_eq_true_eq]
        exact ⟨hm.1, Store.wfFrom_insert d a v hv (by omega) hm.2⟩

/-- A write keeps the canonical form. -/
theorem Store.wf_put [DecidableEq β] (d : Nat → β) (m : Store β) (a : Nat) (v : β) (h : Store.wf d m = true) :
    Store.wf d (Store.put d m a v) = true := by
  unfold Store.put
  split
  · exact Store.wfFrom_erase d a h
  · rename_i hv; exact Store.wfFrom_insert d a v hv (Nat.zero_le a) h

theorem Store.wfFrom_filter [DecidableEq β] (d : Nat → β) (p : Nat × β → Bool) :
    ∀ {m : Store β} {lo : Nat}, Store.wfFrom d lo m = true → Store.wfFrom d lo (m.filter p) = true
  | [], _, _ => rfl
  | (k, v) :: r, lo, hm => by
    simp only [Store.wfFrom, Bool.and_eq_true, decide_eq_true_eq] at hm
    simp only [List.filter]
    split
    · simp only [Store.wfFrom, Bool.and_eq_true, decide_eq_true_eq]
      exact ⟨hm.1, Store.wfFrom_filter d p hm.2⟩
    · exact Store.wfFrom_filter d p (Store.wfFrom_mono d (by omega) hm.2)

/-! ### Byte memories -/

/-- A byte of a memory after a byte was written. -/
theorem Mem.rb_wb (m : Mem) (a b : Nat) (v : Byte) : (m.wb a v).rb b = if b = a then v else m.rb b :=
  Store.get_put memZero m a b v

theorem Mem.wf_wb (m : Mem) (a : Nat) (v : Byte) (h : m.wf = true) : (m.wb a v).wf = true :=
  Store.wf_put memZero m a v h

/-- A byte of a memory after bytes were written: inside them the byte written, outside them the byte before. -/
theorem Mem.rb_putBytes : ∀ (bs : List Byte) (m : Mem) (a b : Nat),
    (m.putBytes a bs).rb b = if a ≤ b then (bs[b - a]?).getD (m.rb b) else m.rb b
  | [], m, a, b => by simp [Mem.putBytes]
  | x :: xs, m, a, b => by
    simp only [Mem.putBytes]
    rw [Mem.rb_putBytes xs (m.wb a x) (a + 1) b, Mem.rb_wb]
    rcases Nat.lt_trichotomy b a with h | h | h
    · rw [if_neg (by omega), if_neg (by omega), if_neg (by omega)]
    · subst h; simp [show ¬ b + 1 ≤ b by omega]
    · obtain ⟨n, rfl⟩ : ∃ n, b = a + 1 + n := ⟨b - (a + 1), by omega⟩
      rw [if_pos (by omega), if_neg (by omega), if_pos (by omega)]
      have e1 : a + 1 + n - (a + 1) = n := by omega
      have e2 : a + 1 + n - a = n + 1 := by omega
      rw [e1, e2, List.getElem?_cons_succ]

theorem Mem.wf_putBytes : ∀ (bs : List Byte) (m : Mem) (a : Nat), m.wf = true → (m.putBytes a bs).wf = true
  | [], _, _, h => h
  | b :: bs, m, a, h => Mem.wf_putBytes bs (m.wb a b) (a + 1) (Mem.wf_wb m a b h)

theorem Mem.wf_putNum (m : Mem) (a n v : Nat) (h : m.wf = true) : (m.putNum a n v).wf = true :=
  Mem.wf_putBytes (leBytes n v) m a h

theorem Mem.wf_putWord (m : Mem) (a : Nat) (w : Word) (h : m.wf = true) : (m.putWord a w).wf = true :=
  Mem.wf_putNum m a 4 w.toNat h

theorem Mem.wf_clear (m : Mem) (a b : Nat) (h : m.wf = true) : (m.clear a b).wf = true :=
  Store.wfFrom_filter memZero _ h

theorem Mem.wf_copyRange (dst src : Mem) (a b : Nat) (h : dst.wf = true) : (dst.copyRange src a b).wf = true := by
  unfold Mem.copyRange
  generalize src.filter _ = l
  have hc := Mem.wf_clear dst a b h
  generalize dst.clear a b = m at hc
  induction l generalizing m with
  | nil => exact hc
  | cons c r ih => exact ih _ (Mem.wf_wb m c.1 c.2 hc)

end Sys2Proof.Machine
end

