-- ==== Sys2Proof/Laws/Reg.lean ====
section
/-! SUPPORT. The laws of registers and their fields: what a register and a field read after another was written, and that the register
store keeps its canonical form. -/

namespace Sys2Proof.Machine

/-! ### Bit fields of a number -/

theorem putBits_lt (n hi lo v : Nat) (hn : n < 2 ^ 32) (hh : hi < 32) (hl : lo ≤ hi) : putBits n hi lo v < 2 ^ 32 := by
  unfold putBits
  have e : 2 ^ 32 = 2 ^ (hi + 1) * 2 ^ (31 - hi) := by rw [← Nat.pow_add]; congr 1; omega
  have e2 : 2 ^ (hi + 1) = 2 ^ (hi + 1 - lo) * 2 ^ lo := by rw [← Nat.pow_add]; congr 1; omega
  have h1 : n / 2 ^ (hi + 1) < 2 ^ (31 - hi) := Nat.div_lt_of_lt_mul (by rw [← e]; exact hn)
  have h2 : v % 2 ^ (hi + 1 - lo) + 1 ≤ 2 ^ (hi + 1 - lo) := Nat.mod_lt _ (Nat.two_pow_pos _)
  have h3 : n % 2 ^ lo < 2 ^ lo := Nat.mod_lt _ (Nat.two_pow_pos _)
  have h4 : v % 2 ^ (hi + 1 - lo) * 2 ^ lo + 2 ^ lo ≤ 2 ^ (hi + 1) := by
    rw [e2]; calc _ = (v % 2 ^ (hi + 1 - lo) + 1) * 2 ^ lo := by ring
      _ ≤ _ := Nat.mul_le_mul_right _ h2
  have h5 : n / 2 ^ (hi + 1) * 2 ^ (hi + 1) + 2 ^ (hi + 1) ≤ 2 ^ 32 := by
    rw [e]; calc _ = (n / 2 ^ (hi + 1) + 1) * 2 ^ (hi + 1) := by ring
      _ ≤ 2 ^ (31 - hi) * 2 ^ (hi + 1) := Nat.mul_le_mul_right _ h1
      _ = _ := Nat.mul_comm _ _
  omega

/-- The bits of a number in which a field was replaced, one by one. -/
theorem testBit_putBits (n hi lo v i : Nat) (hl : lo ≤ hi) :
    (putBits n hi lo v).testBit i = if lo ≤ i ∧ i ≤ hi then v.testBit (i - lo) else n.testBit i := by
  have e2 : 2 ^ (hi + 1) = 2 ^ (hi + 1 - lo) * 2 ^ lo := by rw [← Nat.pow_add]; congr 1; omega
  have h3 : n % 2 ^ lo < 2 ^ lo := Nat.mod_lt _ (Nat.two_pow_pos _)
  have h2 : v % 2 ^ (hi + 1 - lo) < 2 ^ (hi + 1 - lo) := Nat.mod_lt _ (Nat.two_pow_pos _)
  have hb : v % 2 ^ (hi + 1 - lo) * 2 ^ lo + n % 2 ^ lo < 2 ^ (hi + 1) := by
    rw [e2]; calc _ < v % 2 ^ (hi + 1 - lo) * 2 ^ lo + 2 ^ lo := by omega
      _ = (v % 2 ^ (hi + 1 - lo) + 1) * 2 ^ lo := by ring
      _ ≤ _ := Nat.mul_le_mul_right _ h2
  have ep : putBits n hi lo v
      = 2 ^ (hi + 1) * (n / 2 ^ (hi + 1)) + (2 ^ lo * (v % 2 ^ (hi + 1 - lo)) + n % 2 ^ lo) := by
    unfold putBits; ring
  rw [ep, Nat.testBit_two_pow_mul_add _ (by rw [Nat.mul_comm]; exact hb), Nat.testBit_two_pow_mul_add _ h3]
  by_cases h1 : i < lo
  · rw [if_pos (by omega), if_pos h1, if_neg (by omega), Nat.testBit_mod_two_pow]; simp [h1]
  · by_cases h4 : i ≤ hi
    · rw [if_pos (by omega), if_neg h1, if_pos (by omega), Nat.testBit_mod_two_pow]
      simp; intro; omega
    · rw [if_neg (by omega), if_neg (by omega), Nat.testBit_div_two_pow]; congr 1; omega

theorem testBit_bitsOf (n hi lo i : Nat) : (bitsOf n hi lo).testBit i = (decide (i < hi + 1 - lo) && n.testBit (i + lo)) := by
  unfold bitsOf; rw [Nat.testBit_mod_two_pow, Nat.testBit_div_two_pow]

theorem bitsOf_lt (n hi lo : Nat) : bitsOf n hi lo < 2 ^ (hi + 1 - lo) := Nat.mod_lt _ (Nat.two_pow_pos _)

/-- A field reads what was put into it. -/
theorem bitsOf_putBits_same (n hi lo v : Nat) (hl : lo ≤ hi) : bitsOf (putBits n hi lo v) hi lo = v % 2 ^ (hi + 1 - lo) := by
  apply Nat.eq_of_testBit_eq; intro i
  rw [testBit_bitsOf, Nat.testBit_mod_two_pow, testBit_putBits _ _ _ _ _ hl]
  by_cases h : i < hi + 1 - lo
  · rw [if_pos (by omega)]; simp
  · simp [h]

/-- A field below or above the one replaced keeps its value. -/
theorem bitsOf_putBits_other (n hi lo v hi' lo' : Nat) (hl : lo ≤ hi) (hd : hi' < lo ∨ hi < lo') :
    bitsOf (putBits n hi lo v) hi' lo' = bitsOf n hi' lo' := by
  apply Nat.eq_of_testBit_eq; intro i
  rw [testBit_bitsOf, testBit_bitsOf, testBit_putBits _ _ _ _ _ hl]
  by_cases h : i < hi' + 1 - lo'
  · rw [if_neg (by omega)]
  · simp [h]

/-! ### Registers -/

/-- A register reads the word last written to it; the others, but for SY's mirror of it, keep theirs. -/
theorem State.reg_setReg (s : State) (k j : Nat) (w : Word) :
    (s.setReg k w).reg j = if homeKey j = homeKey k then w else s.reg j :=
  Store.get_put regReset s.regs (homeKey k) (homeKey j) w

@[simp] theorem State.reg_setReg_same (s : State) (k : Nat) (w : Word) : (s.setReg k w).reg k = w := by
  rw [State.reg_setReg, if_pos rfl]

theorem State.reg_setReg_ne (s : State) (k j : Nat) (w : Word) (h : homeKey j ≠ homeKey k) : (s.setReg k w).reg j = s.reg j := by
  rw [State.reg_setReg, if_neg h]

theorem State.reg_wr_ne (s : State) (f : Field) (v j : Nat) (h : homeKey j ≠ homeKey f.addr) : (s.wr f v).reg j = s.reg j :=
  s.reg_setReg_ne f.addr j _ h

/-- A field reads the value last written to it. -/
theorem State.rd_wr_same (s : State) (f : Field) (v : Nat) (h : f.hi < 32 ∧ f.lo ≤ f.hi) :
    (s.wr f v).rd f = v % 2 ^ (f.hi + 1 - f.lo) := by
  unfold State.rd State.wr
  rw [State.reg_setReg_same, BitVec.toNat_ofNat, Nat.mod_eq_of_lt (putBits_lt _ _ _ _ (s.reg f.addr).isLt h.1 h.2)]
  exact bitsOf_putBits_same _ _ _ _ h.2

/-- A field of another register keeps its value. -/
theorem State.rd_wr_reg (s : State) (f g : Field) (v : Nat) (h : homeKey g.addr ≠ homeKey f.addr) : (s.wr f v).rd g = s.rd g := by
  unfold State.rd; rw [State.reg_wr_ne _ _ _ _ h]

/-- A field beside the one written keeps its value. -/
theorem State.rd_wr_beside (s : State) (f g : Field) (v : Nat) (h : f.hi < 32 ∧ f.lo ≤ f.hi) (ha : g.addr = f.addr)
    (hd : g.hi < f.lo ∨ f.hi < g.lo) : (s.wr f v).rd g = s.rd g := by
  unfold State.rd State.wr
  rw [ha, State.reg_setReg_same, BitVec.toNat_ofNat, Nat.mod_eq_of_lt (putBits_lt _ _ _ _ (s.reg f.addr).isLt h.1 h.2)]
  exact bitsOf_putBits_other _ _ _ _ _ _ h.2 hd

/-- A field that shares no bit with the one written keeps its value. -/
theorem State.rd_wr_ne (s : State) (f g : Field) (v : Nat) (h : f.hi < 32 ∧ f.lo ≤ f.hi)
    (hd : homeKey g.addr ≠ homeKey f.addr ∨ (g.addr = f.addr ∧ (g.hi < f.lo ∨ f.hi < g.lo))) : (s.wr f v).rd g = s.rd g := by
  rcases hd with hd | ⟨ha, hd⟩
  · exact s.rd_wr_reg f g v hd
  · exact s.rd_wr_beside f g v h ha hd

theorem State.rd_lt (s : State) (f : Field) : s.rd f < 2 ^ (f.hi + 1 - f.lo) := bitsOf_lt _ _ _

/-- Every write of a register keeps the register store's canonical form. -/
theorem State.wf_setReg (s : State) (k : Nat) (w : Word) (h : Store.wf regReset s.regs = true) :
    Store.wf regReset (s.setReg k w).regs = true :=
  Store.wf_put regReset s.regs (homeKey k) w h

/-- What a write of a register can change: the register store, no other part of the state. -/
theorem State.setReg_frame (s : State) (k : Nat) (w : Word) : s.setReg k w = { s with regs := (s.setReg k w).regs } := rfl

/-- What a write of a field can change: the register store, no other part of the state. -/
theorem State.wr_frame (s : State) (f : Field) (v : Nat) : s.wr f v = { s with regs := (s.wr f v).regs } := rfl

/-- The home of a register outside SY is the register. -/
theorem homeKey_of_ne (k : Nat) (h : k / 0x10000 ≠ 3) : homeKey k = k := by
  unfold homeKey isSyMirror; simp [h]

end Sys2Proof.Machine
end

