-- ==== Sys2Proof/Laws/State.lean ====
section
/-! SUPPORT. One lemma per field of the state for each of the plainest updates: what a write of a register, of a lane's hidden state, or the
answer to an initiator leaves as it was. -/

namespace Sys2Proof.Machine

/-! ### setReg -/

@[simp] theorem State.setReg_pending (s : State) (k : Nat) (w : Word) : (s.setReg k w).pending = s.pending := rfl
@[simp] theorem State.setReg_holdR (s : State) (k : Nat) (w : Word) : (s.setReg k w).holdR = s.holdR := rfl
@[simp] theorem State.setReg_holdW (s : State) (k : Nat) (w : Word) : (s.setReg k w).holdW = s.holdW := rfl
@[simp] theorem State.setReg_resp (s : State) (k : Nat) (w : Word) : (s.setReg k w).resp = s.resp := rfl
@[simp] theorem State.setReg_free (s : State) (k : Nat) (w : Word) : (s.setReg k w).free = s.free := rfl
@[simp] theorem State.setReg_clk (s : State) (k : Nat) (w : Word) : (s.setReg k w).clk = s.clk := rfl
@[simp] theorem State.setReg_welt (s : State) (k : Nat) (w : Word) : (s.setReg k w).welt = s.welt := rfl
@[simp] theorem State.setReg_tWait (s : State) (k : Nat) (w : Word) : (s.setReg k w).tWait = s.tWait := rfl
@[simp] theorem State.setReg_tLog (s : State) (k : Nat) (w : Word) : (s.setReg k w).tLog = s.tLog := rfl
@[simp] theorem State.setReg_tLast (s : State) (k : Nat) (w : Word) : (s.setReg k w).tLast = s.tLast := rfl
@[simp] theorem State.setReg_cfg (s : State) (k : Nat) (w : Word) : (s.setReg k w).cfg = s.cfg := rfl
@[simp] theorem State.setReg_cyc (s : State) (k : Nat) (w : Word) : (s.setReg k w).cyc = s.cyc := rfl
@[simp] theorem State.setReg_lane (s : State) (k : Nat) (w : Word) : (s.setReg k w).lane = s.lane := rfl
@[simp] theorem State.setReg_memc (s : State) (k : Nat) (w : Word) : (s.setReg k w).memc = s.memc := rfl
@[simp] theorem State.setReg_jmem (s : State) (k : Nat) (w : Word) : (s.setReg k w).jmem = s.jmem := rfl
@[simp] theorem State.setReg_jddr (s : State) (k : Nat) (w : Word) : (s.setReg k w).jddr = s.jddr := rfl
@[simp] theorem State.setReg_vote (s : State) (k : Nat) (w : Word) : (s.setReg k w).vote = s.vote := rfl
@[simp] theorem State.setReg_conns (s : State) (k : Nat) (w : Word) : (s.setReg k w).conns = s.conns := rfl
@[simp] theorem State.setReg_macQ (s : State) (k : Nat) (w : Word) : (s.setReg k w).macQ = s.macQ := rfl
@[simp] theorem State.setReg_ring (s : State) (k : Nat) (w : Word) : (s.setReg k w).ring = s.ring := rfl
@[simp] theorem State.setReg_sched (s : State) (k : Nat) (w : Word) : (s.setReg k w).sched = s.sched := rfl
@[simp] theorem State.setReg_annAt (s : State) (k : Nat) (w : Word) : (s.setReg k w).annAt = s.annAt := rfl
@[simp] theorem State.setReg_oldTab (s : State) (k : Nat) (w : Word) : (s.setReg k w).oldTab = s.oldTab := rfl
@[simp] theorem State.setReg_gus (s : State) (k : Nat) (w : Word) : (s.setReg k w).gus = s.gus := rfl
@[simp] theorem State.setReg_stage (s : State) (k : Nat) (w : Word) : (s.setReg k w).stage = s.stage := rfl
@[simp] theorem State.setReg_eth (s : State) (k : Nat) (w : Word) : (s.setReg k w).eth = s.eth := rfl
@[simp] theorem State.setReg_mvb (s : State) (k : Nat) (w : Word) : (s.setReg k w).mvb = s.mvb := rfl
@[simp] theorem State.setReg_can (s : State) (k : Nat) (w : Word) : (s.setReg k w).can = s.can := rfl
@[simp] theorem State.setReg_host (s : State) (k : Nat) (w : Word) : (s.setReg k w).host = s.host := rfl
@[simp] theorem State.setReg_shc (s : State) (k : Nat) (w : Word) : (s.setReg k w).shc = s.shc := rfl
@[simp] theorem State.setReg_arb (s : State) (k : Nat) (w : Word) : (s.setReg k w).arb = s.arb := rfl
@[simp] theorem State.setReg_contests (s : State) (k : Nat) (w : Word) : (s.setReg k w).contests = s.contests := rfl
@[simp] theorem State.setReg_mcs (s : State) (k : Nat) (w : Word) : (s.setReg k w).mcs = s.mcs := rfl
@[simp] theorem State.setReg_wakeReq (s : State) (k : Nat) (w : Word) : (s.setReg k w).wakeReq = s.wakeReq := rfl
@[simp] theorem State.setReg_baste (s : State) (k : Nat) (w : Word) : (s.setReg k w).baste = s.baste := rfl
@[simp] theorem State.setReg_directQ (s : State) (k : Nat) (w : Word) : (s.setReg k w).directQ = s.directQ := rfl
@[simp] theorem State.setReg_directIn (s : State) (k : Nat) (w : Word) : (s.setReg k w).directIn = s.directIn := rfl
@[simp] theorem State.setReg_directBuilt (s : State) (k : Nat) (w : Word) : (s.setReg k w).directBuilt = s.directBuilt := rfl
@[simp] theorem State.setReg_gTx (s : State) (k : Nat) (w : Word) : (s.setReg k w).gTx = s.gTx := rfl
@[simp] theorem State.setReg_fq (s : State) (k : Nat) (w : Word) : (s.setReg k w).fq = s.fq := rfl
@[simp] theorem State.setReg_fld (s : State) (k : Nat) (w : Word) : (s.setReg k w).fld = s.fld := rfl
@[simp] theorem State.setReg_chg (s : State) (k : Nat) (w : Word) : (s.setReg k w).chg = s.chg := rfl
@[simp] theorem State.setReg_mramA (s : State) (k : Nat) (w : Word) : (s.setReg k w).mramA = s.mramA := rfl
@[simp] theorem State.setReg_mramB (s : State) (k : Nat) (w : Word) : (s.setReg k w).mramB = s.mramB := rfl
@[simp] theorem State.setReg_stations (s : State) (k : Nat) (w : Word) : (s.setReg k w).stations = s.stations := rfl
@[simp] theorem State.setReg_evR (s : State) (k : Nat) (w : Word) : (s.setReg k w).evR = s.evR := rfl
@[simp] theorem State.setReg_evMiss (s : State) (k : Nat) (w : Word) : (s.setReg k w).evMiss = s.evMiss := rfl
@[simp] theorem State.setReg_plane (s : State) (k : Nat) (w : Word) : (s.setReg k w).plane = s.plane := rfl
@[simp] theorem State.setReg_dx (s : State) (k : Nat) (w : Word) : (s.setReg k w).dx = s.dx := rfl
@[simp] theorem State.setReg_pfWarnAt (s : State) (k : Nat) (w : Word) : (s.setReg k w).pfWarnAt = s.pfWarnAt := rfl
@[simp] theorem State.setReg_ej2Down (s : State) (k : Nat) (w : Word) : (s.setReg k w).ej2Down = s.ej2Down := rfl
@[simp] theorem State.setReg_jddrRefresh (s : State) (k : Nat) (w : Word) : (s.setReg k w).jddrRefresh = s.jddrRefresh := rfl
@[simp] theorem State.setReg_st (s : State) (k : Nat) (w : Word) : (s.setReg k w).st = s.st := rfl

/-! ### wr -/

@[simp] theorem State.wr_pending (s : State) (f : Field) (v : Nat) : (s.wr f v).pending = s.pending := rfl
@[simp] theorem State.wr_holdR (s : State) (f : Field) (v : Nat) : (s.wr f v).holdR = s.holdR := rfl
@[simp] theorem State.wr_holdW (s : State) (f : Field) (v : Nat) : (s.wr f v).holdW = s.holdW := rfl
@[simp] theorem State.wr_resp (s : State) (f : Field) (v : Nat) : (s.wr f v).resp = s.resp := rfl
@[simp] theorem State.wr_free (s : State) (f : Field) (v : Nat) : (s.wr f v).free = s.free := rfl
@[simp] theorem State.wr_clk (s : State) (f : Field) (v : Nat) : (s.wr f v).clk = s.clk := rfl
@[simp] theorem State.wr_welt (s : State) (f : Field) (v : Nat) : (s.wr f v).welt = s.welt := rfl
@[simp] theorem State.wr_tWait (s : State) (f : Field) (v : Nat) : (s.wr f v).tWait = s.tWait := rfl
@[simp] theorem State.wr_tLog (s : State) (f : Field) (v : Nat) : (s.wr f v).tLog = s.tLog := rfl
@[simp] theorem State.wr_tLast (s : State) (f : Field) (v : Nat) : (s.wr f v).tLast = s.tLast := rfl
@[simp] theorem State.wr_cfg (s : State) (f : Field) (v : Nat) : (s.wr f v).cfg = s.cfg := rfl
@[simp] theorem State.wr_cyc (s : State) (f : Field) (v : Nat) : (s.wr f v).cyc = s.cyc := rfl
@[simp] theorem State.wr_lane (s : State) (f : Field) (v : Nat) : (s.wr f v).lane = s.lane := rfl
@[simp] theorem State.wr_memc (s : State) (f : Field) (v : Nat) : (s.wr f v).memc = s.memc := rfl
@[simp] theorem State.wr_jmem (s : State) (f : Field) (v : Nat) : (s.wr f v).jmem = s.jmem := rfl
@[simp] theorem State.wr_jddr (s : State) (f : Field) (v : Nat) : (s.wr f v).jddr = s.jddr := rfl
@[simp] theorem State.wr_vote (s : State) (f : Field) (v : Nat) : (s.wr f v).vote = s.vote := rfl
@[simp] theorem State.wr_conns (s : State) (f : Field) (v : Nat) : (s.wr f v).conns = s.conns := rfl
@[simp] theorem State.wr_macQ (s : State) (f : Field) (v : Nat) : (s.wr f v).macQ = s.macQ := rfl
@[simp] theorem State.wr_ring (s : State) (f : Field) (v : Nat) : (s.wr f v).ring = s.ring := rfl
@[simp] theorem State.wr_sched (s : State) (f : Field) (v : Nat) : (s.wr f v).sched = s.sched := rfl
@[simp] theorem State.wr_annAt (s : State) (f : Field) (v : Nat) : (s.wr f v).annAt = s.annAt := rfl
@[simp] theorem State.wr_oldTab (s : State) (f : Field) (v : Nat) : (s.wr f v).oldTab = s.oldTab := rfl
@[simp] theorem State.wr_gus (s : State) (f : Field) (v : Nat) : (s.wr f v).gus = s.gus := rfl
@[simp] theorem State.wr_stage (s : State) (f : Field) (v : Nat) : (s.wr f v).stage = s.stage := rfl
@[simp] theorem State.wr_eth (s : State) (f : Field) (v : Nat) : (s.wr f v).eth = s.eth := rfl
@[simp] theorem State.wr_mvb (s : State) (f : Field) (v : Nat) : (s.wr f v).mvb = s.mvb := rfl
@[simp] theorem State.wr_can (s : State) (f : Field) (v : Nat) : (s.wr f v).can = s.can := rfl
@[simp] theorem State.wr_host (s : State) (f : Field) (v : Nat) : (s.wr f v).host = s.host := rfl
@[simp] theorem State.wr_shc (s : State) (f : Field) (v : Nat) : (s.wr f v).shc = s.shc := rfl
@[simp] theorem State.wr_arb (s : State) (f : Field) (v : Nat) : (s.wr f v).arb = s.arb := rfl
@[simp] theorem State.wr_contests (s : State) (f : Field) (v : Nat) : (s.wr f v).contests = s.contests := rfl
@[simp] theorem State.wr_mcs (s : State) (f : Field) (v : Nat) : (s.wr f v).mcs = s.mcs := rfl
@[simp] theorem State.wr_wakeReq (s : State) (f : Field) (v : Nat) : (s.wr f v).wakeReq = s.wakeReq := rfl
@[simp] theorem State.wr_baste (s : State) (f : Field) (v : Nat) : (s.wr f v).baste = s.baste := rfl
@[simp] theorem State.wr_directQ (s : State) (f : Field) (v : Nat) : (s.wr f v).directQ = s.directQ := rfl
@[simp] theorem State.wr_directIn (s : State) (f : Field) (v : Nat) : (s.wr f v).directIn = s.directIn := rfl
@[simp] theorem State.wr_directBuilt (s : State) (f : Field) (v : Nat) : (s.wr f v).directBuilt = s.directBuilt := rfl
@[simp] theorem State.wr_gTx (s : State) (f : Field) (v : Nat) : (s.wr f v).gTx = s.gTx := rfl
@[simp] theorem State.wr_fq (s : State) (f : Field) (v : Nat) : (s.wr f v).fq = s.fq := rfl
@[simp] theorem State.wr_fld (s : State) (f : Field) (v : Nat) : (s.wr f v).fld = s.fld := rfl
@[simp] theorem State.wr_chg (s : State) (f : Field) (v : Nat) : (s.wr f v).chg = s.chg := rfl
@[simp] theorem State.wr_mramA (s : State) (f : Field) (v : Nat) : (s.wr f v).mramA = s.mramA := rfl
@[simp] theorem State.wr_mramB (s : State) (f : Field) (v : Nat) : (s.wr f v).mramB = s.mramB := rfl
@[simp] theorem State.wr_stations (s : State) (f : Field) (v : Nat) : (s.wr f v).stations = s.stations := rfl
@[simp] theorem State.wr_evR (s : State) (f : Field) (v : Nat) : (s.wr f v).evR = s.evR := rfl
@[simp] theorem State.wr_evMiss (s : State) (f : Field) (v : Nat) : (s.wr f v).evMiss = s.evMiss := rfl
@[simp] theorem State.wr_plane (s : State) (f : Field) (v : Nat) : (s.wr f v).plane = s.plane := rfl
@[simp] theorem State.wr_dx (s : State) (f : Field) (v : Nat) : (s.wr f v).dx = s.dx := rfl
@[simp] theorem State.wr_pfWarnAt (s : State) (f : Field) (v : Nat) : (s.wr f v).pfWarnAt = s.pfWarnAt := rfl
@[simp] theorem State.wr_ej2Down (s : State) (f : Field) (v : Nat) : (s.wr f v).ej2Down = s.ej2Down := rfl
@[simp] theorem State.wr_jddrRefresh (s : State) (f : Field) (v : Nat) : (s.wr f v).jddrRefresh = s.jddrRefresh := rfl
@[simp] theorem State.wr_st (s : State) (f : Field) (v : Nat) : (s.wr f v).st = s.st := rfl

/-! ### setLn -/

@[simp] theorem State.setLn_pending (s : State) (l : Lane) (x : LaneSt) : (s.setLn l x).pending = s.pending := rfl
@[simp] theorem State.setLn_regs (s : State) (l : Lane) (x : LaneSt) : (s.setLn l x).regs = s.regs := rfl
@[simp] theorem State.setLn_holdR (s : State) (l : Lane) (x : LaneSt) : (s.setLn l x).holdR = s.holdR := rfl
@[simp] theorem State.setLn_holdW (s : State) (l : Lane) (x : LaneSt) : (s.setLn l x).holdW = s.holdW := rfl
@[simp] theorem State.setLn_resp (s : State) (l : Lane) (x : LaneSt) : (s.setLn l x).resp = s.resp := rfl
@[simp] theorem State.setLn_free (s : State) (l : Lane) (x : LaneSt) : (s.setLn l x).free = s.free := rfl
@[simp] theorem State.setLn_clk (s : State) (l : Lane) (x : LaneSt) : (s.setLn l x).clk = s.clk := rfl
@[simp] theorem State.setLn_welt (s : State) (l : Lane) (x : LaneSt) : (s.setLn l x).welt = s.welt := rfl
@[simp] theorem State.setLn_tWait (s : State) (l : Lane) (x : LaneSt) : (s.setLn l x).tWait = s.tWait := rfl
@[simp] theorem State.setLn_tLog (s : State) (l : Lane) (x : LaneSt) : (s.setLn l x).tLog = s.tLog := rfl
@[simp] theorem State.setLn_tLast (s : State) (l : Lane) (x : LaneSt) : (s.setLn l x).tLast = s.tLast := rfl
@[simp] theorem State.setLn_cfg (s : State) (l : Lane) (x : LaneSt) : (s.setLn l x).cfg = s.cfg := rfl
@[simp] theorem State.setLn_cyc (s : State) (l : Lane) (x : LaneSt) : (s.setLn l x).cyc = s.cyc := rfl
@[simp] theorem State.setLn_memc (s : State) (l : Lane) (x : LaneSt) : (s.setLn l x).memc = s.memc := rfl
@[simp] theorem State.setLn_jmem (s : State) (l : Lane) (x : LaneSt) : (s.setLn l x).jmem = s.jmem := rfl
@[simp] theorem State.setLn_jddr (s : State) (l : Lane) (x : LaneSt) : (s.setLn l x).jddr = s.jddr := rfl
@[simp] theorem State.setLn_vote (s : State) (l : Lane) (x : LaneSt) : (s.setLn l x).vote = s.vote := rfl
@[simp] theorem State.setLn_conns (s : State) (l : Lane) (x : LaneSt) : (s.setLn l x).conns = s.conns := rfl
@[simp] theorem State.setLn_macQ (s : State) (l : Lane) (x : LaneSt) : (s.setLn l x).macQ = s.macQ := rfl
@[simp] theorem State.setLn_ring (s : State) (l : Lane) (x : LaneSt) : (s.setLn l x).ring = s.ring := rfl
@[simp] theorem State.setLn_sched (s : State) (l : Lane) (x : LaneSt) : (s.setLn l x).sched = s.sched := rfl
@[simp] theorem State.setLn_annAt (s : State) (l : Lane) (x : LaneSt) : (s.setLn l x).annAt = s.annAt := rfl
@[simp] theorem State.setLn_oldTab (s : State) (l : Lane) (x : LaneSt) : (s.setLn l x).oldTab = s.oldTab := rfl
@[simp] theorem State.setLn_gus (s : State) (l : Lane) (x : LaneSt) : (s.setLn l x).gus = s.gus := rfl
@[simp] theorem State.setLn_stage (s : State) (l : Lane) (x : LaneSt) : (s.setLn l x).stage = s.stage := rfl
@[simp] theorem State.setLn_eth (s : State) (l : Lane) (x : LaneSt) : (s.setLn l x).eth = s.eth := rfl
@[simp] theorem State.setLn_mvb (s : State) (l : Lane) (x : LaneSt) : (s.setLn l x).mvb = s.mvb := rfl
@[simp] theorem State.setLn_can (s : State) (l : Lane) (x : LaneSt) : (s.setLn l x).can = s.can := rfl
@[simp] theorem State.setLn_host (s : State) (l : Lane) (x : LaneSt) : (s.setLn l x).host = s.host := rfl
@[simp] theorem State.setLn_shc (s : State) (l : Lane) (x : LaneSt) : (s.setLn l x).shc = s.shc := rfl
@[simp] theorem State.setLn_arb (s : State) (l : Lane) (x : LaneSt) : (s.setLn l x).arb = s.arb := rfl
@[simp] theorem State.setLn_contests (s : State) (l : Lane) (x : LaneSt) : (s.setLn l x).contests = s.contests := rfl
@[simp] theorem State.setLn_mcs (s : State) (l : Lane) (x : LaneSt) : (s.setLn l x).mcs = s.mcs := rfl
@[simp] theorem State.setLn_wakeReq (s : State) (l : Lane) (x : LaneSt) : (s.setLn l x).wakeReq = s.wakeReq := rfl
@[simp] theorem State.setLn_baste (s : State) (l : Lane) (x : LaneSt) : (s.setLn l x).baste = s.baste := rfl
@[simp] theorem State.setLn_directQ (s : State) (l : Lane) (x : LaneSt) : (s.setLn l x).directQ = s.directQ := rfl
@[simp] theorem State.setLn_directIn (s : State) (l : Lane) (x : LaneSt) : (s.setLn l x).directIn = s.directIn := rfl
@[simp] theorem State.setLn_directBuilt (s : State) (l : Lane) (x : LaneSt) : (s.setLn l x).directBuilt = s.directBuilt := rfl
@[simp] theorem State.setLn_gTx (s : State) (l : Lane) (x : LaneSt) : (s.setLn l x).gTx = s.gTx := rfl
@[simp] theorem State.setLn_fq (s : State) (l : Lane) (x : LaneSt) : (s.setLn l x).fq = s.fq := rfl
@[simp] theorem State.setLn_fld (s : State) (l : Lane) (x : LaneSt) : (s.setLn l x).fld = s.fld := rfl
@[simp] theorem State.setLn_chg (s : State) (l : Lane) (x : LaneSt) : (s.setLn l x).chg = s.chg := rfl
@[simp] theorem State.setLn_mramA (s : State) (l : Lane) (x : LaneSt) : (s.setLn l x).mramA = s.mramA := rfl
@[simp] theorem State.setLn_mramB (s : State) (l : Lane) (x : LaneSt) : (s.setLn l x).mramB = s.mramB := rfl
@[simp] theorem State.setLn_stations (s : State) (l : Lane) (x : LaneSt) : (s.setLn l x).stations = s.stations := rfl
@[simp] theorem State.setLn_evR (s : State) (l : Lane) (x : LaneSt) : (s.setLn l x).evR = s.evR := rfl
@[simp] theorem State.setLn_evMiss (s : State) (l : Lane) (x : LaneSt) : (s.setLn l x).evMiss = s.evMiss := rfl
@[simp] theorem State.setLn_plane (s : State) (l : Lane) (x : LaneSt) : (s.setLn l x).plane = s.plane := rfl
@[simp] theorem State.setLn_dx (s : State) (l : Lane) (x : LaneSt) : (s.setLn l x).dx = s.dx := rfl
@[simp] theorem State.setLn_pfWarnAt (s : State) (l : Lane) (x : LaneSt) : (s.setLn l x).pfWarnAt = s.pfWarnAt := rfl
@[simp] theorem State.setLn_ej2Down (s : State) (l : Lane) (x : LaneSt) : (s.setLn l x).ej2Down = s.ej2Down := rfl
@[simp] theorem State.setLn_jddrRefresh (s : State) (l : Lane) (x : LaneSt) : (s.setLn l x).jddrRefresh = s.jddrRefresh := rfl
@[simp] theorem State.setLn_st (s : State) (l : Lane) (x : LaneSt) : (s.setLn l x).st = s.st := rfl

/-! ### respond -/

@[simp] theorem State.respond_pending (s : State) (i : Initiator) (r : BusResp) : (s.respond i r).pending = s.pending := rfl
@[simp] theorem State.respond_regs (s : State) (i : Initiator) (r : BusResp) : (s.respond i r).regs = s.regs := rfl
@[simp] theorem State.respond_holdR (s : State) (i : Initiator) (r : BusResp) : (s.respond i r).holdR = s.holdR := rfl
@[simp] theorem State.respond_holdW (s : State) (i : Initiator) (r : BusResp) : (s.respond i r).holdW = s.holdW := rfl
@[simp] theorem State.respond_free (s : State) (i : Initiator) (r : BusResp) : (s.respond i r).free = s.free := rfl
@[simp] theorem State.respond_clk (s : State) (i : Initiator) (r : BusResp) : (s.respond i r).clk = s.clk := rfl
@[simp] theorem State.respond_welt (s : State) (i : Initiator) (r : BusResp) : (s.respond i r).welt = s.welt := rfl
@[simp] theorem State.respond_tWait (s : State) (i : Initiator) (r : BusResp) : (s.respond i r).tWait = s.tWait := rfl
@[simp] theorem State.respond_tLog (s : State) (i : Initiator) (r : BusResp) : (s.respond i r).tLog = s.tLog := rfl
@[simp] theorem State.respond_tLast (s : State) (i : Initiator) (r : BusResp) : (s.respond i r).tLast = s.tLast := rfl
@[simp] theorem State.respond_cfg (s : State) (i : Initiator) (r : BusResp) : (s.respond i r).cfg = s.cfg := rfl
@[simp] theorem State.respond_cyc (s : State) (i : Initiator) (r : BusResp) : (s.respond i r).cyc = s.cyc := rfl
@[simp] theorem State.respond_lane (s : State) (i : Initiator) (r : BusResp) : (s.respond i r).lane = s.lane := rfl
@[simp] theorem State.respond_memc (s : State) (i : Initiator) (r : BusResp) : (s.respond i r).memc = s.memc := rfl
@[simp] theorem State.respond_jmem (s : State) (i : Initiator) (r : BusResp) : (s.respond i r).jmem = s.jmem := rfl
@[simp] theorem State.respond_jddr (s : State) (i : Initiator) (r : BusResp) : (s.respond i r).jddr = s.jddr := rfl
@[simp] theorem State.respond_vote (s : State) (i : Initiator) (r : BusResp) : (s.respond i r).vote = s.vote := rfl
@[simp] theorem State.respond_conns (s : State) (i : Initiator) (r : BusResp) : (s.respond i r).conns = s.conns := rfl
@[simp] theorem State.respond_macQ (s : State) (i : Initiator) (r : BusResp) : (s.respond i r).macQ = s.macQ := rfl
@[simp] theorem State.respond_ring (s : State) (i : Initiator) (r : BusResp) : (s.respond i r).ring = s.ring := rfl
@[simp] theorem State.respond_sched (s : State) (i : Initiator) (r : BusResp) : (s.respond i r).sched = s.sched := rfl
@[simp] theorem State.respond_annAt (s : State) (i : Initiator) (r : BusResp) : (s.respond i r).annAt = s.annAt := rfl
@[simp] theorem State.respond_oldTab (s : State) (i : Initiator) (r : BusResp) : (s.respond i r).oldTab = s.oldTab := rfl
@[simp] theorem State.respond_gus (s : State) (i : Initiator) (r : BusResp) : (s.respond i r).gus = s.gus := rfl
@[simp] theorem State.respond_stage (s : State) (i : Initiator) (r : BusResp) : (s.respond i r).stage = s.stage := rfl
@[simp] theorem State.respond_eth (s : State) (i : Initiator) (r : BusResp) : (s.respond i r).eth = s.eth := rfl
@[simp] theorem State.respond_mvb (s : State) (i : Initiator) (r : BusResp) : (s.respond i r).mvb = s.mvb := rfl
@[simp] theorem State.respond_can (s : State) (i : Initiator) (r : BusResp) : (s.respond i r).can = s.can := rfl
@[simp] theorem State.respond_host (s : State) (i : Initiator) (r : BusResp) : (s.respond i r).host = s.host := rfl
@[simp] theorem State.respond_shc (s : State) (i : Initiator) (r : BusResp) : (s.respond i r).shc = s.shc := rfl
@[simp] theorem State.respond_arb (s : State) (i : Initiator) (r : BusResp) : (s.respond i r).arb = s.arb := rfl
@[simp] theorem State.respond_contests (s : State) (i : Initiator) (r : BusResp) : (s.respond i r).contests = s.contests := rfl
@[simp] theorem State.respond_mcs (s : State) (i : Initiator) (r : BusResp) : (s.respond i r).mcs = s.mcs := rfl
@[simp] theorem State.respond_wakeReq (s : State) (i : Initiator) (r : BusResp) : (s.respond i r).wakeReq = s.wakeReq := rfl
@[simp] theorem State.respond_baste (s : State) (i : Initiator) (r : BusResp) : (s.respond i r).baste = s.baste := rfl
@[simp] theorem State.respond_directQ (s : State) (i : Initiator) (r : BusResp) : (s.respond i r).directQ = s.directQ := rfl
@[simp] theorem State.respond_directIn (s : State) (i : Initiator) (r : BusResp) : (s.respond i r).directIn = s.directIn := rfl
@[simp] theorem State.respond_directBuilt (s : State) (i : Initiator) (r : BusResp) : (s.respond i r).directBuilt = s.directBuilt := rfl
@[simp] theorem State.respond_gTx (s : State) (i : Initiator) (r : BusResp) : (s.respond i r).gTx = s.gTx := rfl
@[simp] theorem State.respond_fq (s : State) (i : Initiator) (r : BusResp) : (s.respond i r).fq = s.fq := rfl
@[simp] theorem State.respond_fld (s : State) (i : Initiator) (r : BusResp) : (s.respond i r).fld = s.fld := rfl
@[simp] theorem State.respond_chg (s : State) (i : Initiator) (r : BusResp) : (s.respond i r).chg = s.chg := rfl
@[simp] theorem State.respond_mramA (s : State) (i : Initiator) (r : BusResp) : (s.respond i r).mramA = s.mramA := rfl
@[simp] theorem State.respond_mramB (s : State) (i : Initiator) (r : BusResp) : (s.respond i r).mramB = s.mramB := rfl
@[simp] theorem State.respond_stations (s : State) (i : Initiator) (r : BusResp) : (s.respond i r).stations = s.stations := rfl
@[simp] theorem State.respond_evR (s : State) (i : Initiator) (r : BusResp) : (s.respond i r).evR = s.evR := rfl
@[simp] theorem State.respond_evMiss (s : State) (i : Initiator) (r : BusResp) : (s.respond i r).evMiss = s.evMiss := rfl
@[simp] theorem State.respond_plane (s : State) (i : Initiator) (r : BusResp) : (s.respond i r).plane = s.plane := rfl
@[simp] theorem State.respond_dx (s : State) (i : Initiator) (r : BusResp) : (s.respond i r).dx = s.dx := rfl
@[simp] theorem State.respond_pfWarnAt (s : State) (i : Initiator) (r : BusResp) : (s.respond i r).pfWarnAt = s.pfWarnAt := rfl
@[simp] theorem State.respond_ej2Down (s : State) (i : Initiator) (r : BusResp) : (s.respond i r).ej2Down = s.ej2Down := rfl
@[simp] theorem State.respond_jddrRefresh (s : State) (i : Initiator) (r : BusResp) : (s.respond i r).jddrRefresh = s.jddrRefresh := rfl
@[simp] theorem State.respond_st (s : State) (i : Initiator) (r : BusResp) : (s.respond i r).st = s.st := rfl

/-! ### capture -/

@[simp] theorem State.capture_pending (s : State) (i : Initiator) (k : Nat) (w : Word) : (s.capture i k w).pending = s.pending := rfl
@[simp] theorem State.capture_regs (s : State) (i : Initiator) (k : Nat) (w : Word) : (s.capture i k w).regs = s.regs := rfl
@[simp] theorem State.capture_holdW (s : State) (i : Initiator) (k : Nat) (w : Word) : (s.capture i k w).holdW = s.holdW := rfl
@[simp] theorem State.capture_resp (s : State) (i : Initiator) (k : Nat) (w : Word) : (s.capture i k w).resp = s.resp := rfl
@[simp] theorem State.capture_free (s : State) (i : Initiator) (k : Nat) (w : Word) : (s.capture i k w).free = s.free := rfl
@[simp] theorem State.capture_clk (s : State) (i : Initiator) (k : Nat) (w : Word) : (s.capture i k w).clk = s.clk := rfl
@[simp] theorem State.capture_welt (s : State) (i : Initiator) (k : Nat) (w : Word) : (s.capture i k w).welt = s.welt := rfl
@[simp] theorem State.capture_tWait (s : State) (i : Initiator) (k : Nat) (w : Word) : (s.capture i k w).tWait = s.tWait := rfl
@[simp] theorem State.capture_tLog (s : State) (i : Initiator) (k : Nat) (w : Word) : (s.capture i k w).tLog = s.tLog := rfl
@[simp] theorem State.capture_tLast (s : State) (i : Initiator) (k : Nat) (w : Word) : (s.capture i k w).tLast = s.tLast := rfl
@[simp] theorem State.capture_cfg (s : State) (i : Initiator) (k : Nat) (w : Word) : (s.capture i k w).cfg = s.cfg := rfl
@[simp] theorem State.capture_cyc (s : State) (i : Initiator) (k : Nat) (w : Word) : (s.capture i k w).cyc = s.cyc := rfl
@[simp] theorem State.capture_lane (s : State) (i : Initiator) (k : Nat) (w : Word) : (s.capture i k w).lane = s.lane := rfl
@[simp] theorem State.capture_memc (s : State) (i : Initiator) (k : Nat) (w : Word) : (s.capture i k w).memc = s.memc := rfl
@[simp] theorem State.capture_jmem (s : State) (i : Initiator) (k : Nat) (w : Word) : (s.capture i k w).jmem = s.jmem := rfl
@[simp] theorem State.capture_jddr (s : State) (i : Initiator) (k : Nat) (w : Word) : (s.capture i k w).jddr = s.jddr := rfl
@[simp] theorem State.capture_vote (s : State) (i : Initiator) (k : Nat) (w : Word) : (s.capture i k w).vote = s.vote := rfl
@[simp] theorem State.capture_conns (s : State) (i : Initiator) (k : Nat) (w : Word) : (s.capture i k w).conns = s.conns := rfl
@[simp] theorem State.capture_macQ (s : State) (i : Initiator) (k : Nat) (w : Word) : (s.capture i k w).macQ = s.macQ := rfl
@[simp] theorem State.capture_ring (s : State) (i : Initiator) (k : Nat) (w : Word) : (s.capture i k w).ring = s.ring := rfl
@[simp] theorem State.capture_sched (s : State) (i : Initiator) (k : Nat) (w : Word) : (s.capture i k w).sched = s.sched := rfl
@[simp] theorem State.capture_annAt (s : State) (i : Initiator) (k : Nat) (w : Word) : (s.capture i k w).annAt = s.annAt := rfl
@[simp] theorem State.capture_oldTab (s : State) (i : Initiator) (k : Nat) (w : Word) : (s.capture i k w).oldTab = s.oldTab := rfl
@[simp] theorem State.capture_gus (s : State) (i : Initiator) (k : Nat) (w : Word) : (s.capture i k w).gus = s.gus := rfl
@[simp] theorem State.capture_stage (s : State) (i : Initiator) (k : Nat) (w : Word) : (s.capture i k w).stage = s.stage := rfl
@[simp] theorem State.capture_eth (s : State) (i : Initiator) (k : Nat) (w : Word) : (s.capture i k w).eth = s.eth := rfl
@[simp] theorem State.capture_mvb (s : State) (i : Initiator) (k : Nat) (w : Word) : (s.capture i k w).mvb = s.mvb := rfl
@[simp] theorem State.capture_can (s : State) (i : Initiator) (k : Nat) (w : Word) : (s.capture i k w).can = s.can := rfl
@[simp] theorem State.capture_host (s : State) (i : Initiator) (k : Nat) (w : Word) : (s.capture i k w).host = s.host := rfl
@[simp] theorem State.capture_shc (s : State) (i : Initiator) (k : Nat) (w : Word) : (s.capture i k w).shc = s.shc := rfl
@[simp] theorem State.capture_arb (s : State) (i : Initiator) (k : Nat) (w : Word) : (s.capture i k w).arb = s.arb := rfl
@[simp] theorem State.capture_contests (s : State) (i : Initiator) (k : Nat) (w : Word) : (s.capture i k w).contests = s.contests := rfl
@[simp] theorem State.capture_mcs (s : State) (i : Initiator) (k : Nat) (w : Word) : (s.capture i k w).mcs = s.mcs := rfl
@[simp] theorem State.capture_wakeReq (s : State) (i : Initiator) (k : Nat) (w : Word) : (s.capture i k w).wakeReq = s.wakeReq := rfl
@[simp] theorem State.capture_baste (s : State) (i : Initiator) (k : Nat) (w : Word) : (s.capture i k w).baste = s.baste := rfl
@[simp] theorem State.capture_directQ (s : State) (i : Initiator) (k : Nat) (w : Word) : (s.capture i k w).directQ = s.directQ := rfl
@[simp] theorem State.capture_directIn (s : State) (i : Initiator) (k : Nat) (w : Word) : (s.capture i k w).directIn = s.directIn := rfl
@[simp] theorem State.capture_directBuilt (s : State) (i : Initiator) (k : Nat) (w : Word) : (s.capture i k w).directBuilt = s.directBuilt := rfl
@[simp] theorem State.capture_gTx (s : State) (i : Initiator) (k : Nat) (w : Word) : (s.capture i k w).gTx = s.gTx := rfl
@[simp] theorem State.capture_fq (s : State) (i : Initiator) (k : Nat) (w : Word) : (s.capture i k w).fq = s.fq := rfl
@[simp] theorem State.capture_fld (s : State) (i : Initiator) (k : Nat) (w : Word) : (s.capture i k w).fld = s.fld := rfl
@[simp] theorem State.capture_chg (s : State) (i : Initiator) (k : Nat) (w : Word) : (s.capture i k w).chg = s.chg := rfl
@[simp] theorem State.capture_mramA (s : State) (i : Initiator) (k : Nat) (w : Word) : (s.capture i k w).mramA = s.mramA := rfl
@[simp] theorem State.capture_mramB (s : State) (i : Initiator) (k : Nat) (w : Word) : (s.capture i k w).mramB = s.mramB := rfl
@[simp] theorem State.capture_stations (s : State) (i : Initiator) (k : Nat) (w : Word) : (s.capture i k w).stations = s.stations := rfl
@[simp] theorem State.capture_evR (s : State) (i : Initiator) (k : Nat) (w : Word) : (s.capture i k w).evR = s.evR := rfl
@[simp] theorem State.capture_evMiss (s : State) (i : Initiator) (k : Nat) (w : Word) : (s.capture i k w).evMiss = s.evMiss := rfl
@[simp] theorem State.capture_plane (s : State) (i : Initiator) (k : Nat) (w : Word) : (s.capture i k w).plane = s.plane := rfl
@[simp] theorem State.capture_dx (s : State) (i : Initiator) (k : Nat) (w : Word) : (s.capture i k w).dx = s.dx := rfl
@[simp] theorem State.capture_pfWarnAt (s : State) (i : Initiator) (k : Nat) (w : Word) : (s.capture i k w).pfWarnAt = s.pfWarnAt := rfl
@[simp] theorem State.capture_ej2Down (s : State) (i : Initiator) (k : Nat) (w : Word) : (s.capture i k w).ej2Down = s.ej2Down := rfl
@[simp] theorem State.capture_jddrRefresh (s : State) (i : Initiator) (k : Nat) (w : Word) : (s.capture i k w).jddrRefresh = s.jddrRefresh := rfl
@[simp] theorem State.capture_st (s : State) (i : Initiator) (k : Nat) (w : Word) : (s.capture i k w).st = s.st := rfl

/-! ### What each update writes -/

theorem Tri.get_put {α : Type} (t : Tri α) (l m : Lane) (x : α) : (t.put l x).get m = if m = l then x else t.get m := by
  cases l <;> cases m <;> rfl

/-- A lane's hidden state reads what was written to it, the other lanes keep theirs. -/
theorem State.ln_setLn (s : State) (l m : Lane) (x : LaneSt) : (s.setLn l x).ln m = if m = l then x else s.ln m := Tri.get_put s.lane l m x

@[simp] theorem State.reg_setLn (s : State) (l : Lane) (x : LaneSt) (k : Nat) : (s.setLn l x).reg k = s.reg k := rfl
@[simp] theorem State.reg_respond (s : State) (i : Initiator) (r : BusResp) (k : Nat) : (s.respond i r).reg k = s.reg k := rfl
@[simp] theorem State.rd_setLn (s : State) (l : Lane) (x : LaneSt) (f : Field) : (s.setLn l x).rd f = s.rd f := rfl
@[simp] theorem State.rd_respond (s : State) (i : Initiator) (r : BusResp) (f : Field) : (s.respond i r).rd f = s.rd f := rfl
@[simp] theorem State.ln_setReg (s : State) (k : Nat) (w : Word) (l : Lane) : (s.setReg k w).ln l = s.ln l := rfl
@[simp] theorem State.ln_wr (s : State) (f : Field) (v : Nat) (l : Lane) : (s.wr f v).ln l = s.ln l := rfl

theorem lookupN_dropN {β : Type} (m : List (Nat × β)) (a b : Nat) (h : b ≠ a) : lookupN (dropN m a) b = lookupN m b := by
  induction m with
  | nil => rfl
  | cons c r ih =>
    obtain ⟨k, v⟩ := c
    unfold dropN at ih ⊢
    by_cases hk : k = a
    · subst hk; simp [List.filter_cons, lookupN, ih, Ne.symm h]
    · simp [List.filter_cons, lookupN, ih, hk]

/-- An association list gives for a key what was last set, and setting it leaves every other key alone. -/
theorem lookupN_setN {β : Type} (m : List (Nat × β)) (a b : Nat) (v : β) :
    lookupN (setN m a v) b = if b = a then some v else lookupN m b := by
  unfold setN
  by_cases h : b = a
  · subst h; simp [lookupN]
  · simp [lookupN, Ne.symm h, h, lookupN_dropN _ _ _ h]

/-- The answer to an initiator is the one last recorded; the other initiators keep theirs. -/
theorem State.response_respond (s : State) (i j : Initiator) (r : BusResp) :
    (s.respond i r).response j = if j.num = i.num then r else s.response j := by
  unfold State.response State.respond
  simp only [lookupN_setN]
  split <;> rfl

end Sys2Proof.Machine
end

