-- ==== Sys2Proof/Laws/Total.lean ====
section
/-! SUPPORT. Every command completes: no meaning ends in a fault or a refusal, in any state and for any operands. -/

namespace Sys2Proof.Machine

/-- Every command answers a next state. -/
theorem exec_completes (i : Instr) (s : State) : ∃ t, exec i s = .next t := by
  cases i with
  | weltRecordWrite =>
    simp only [exec, execWeltRecordWrite]
    split
    · exact ⟨_, rfl⟩
    · split <;> exact ⟨_, rfl⟩
  | _ => exact ⟨_, rfl⟩

/-- What is left to show of a command is what holds of its next state. -/
theorem gives_of_exec {c : Instr} {s t : State} {P : State → Prop} (h : exec c s = .next t) (hp : P t) : Gives c s P := ⟨t, h, hp⟩

end Sys2Proof.Machine
end

