-- ==== Sys2Proof/WellFormed.lean ====
section
/-! DEFINITION. Which commands are well formed: the operands lie in the ranges that the row's rule gives them. The meanings are total and do
not depend on it. -/

namespace Sys2Proof

/-- An instruction of a hart that RV64GC can encode: jumps and branches go to even offsets (R61). -/
def wfOp : RvOp → Bool
  | .jal _ off => off &&& 1 == 0
  | .branch _ _ _ off => off &&& 1 == 0
  | .lui _ imm => imm &&& 0xFFF == 0
  | .auipc _ imm => imm &&& 0xFFF == 0
  | .jalr .. => true
  | .load b signed _ _ _ => signed || decide (b.val < 3)
  | .store .. => true
  | .aluImm .. => true
  | .alu .. => true
  | .lr .. => true
  | .sc .. => true
  | .amo .. => true
  | .csr .. => true
  | .csri .. => true
  | .fence => true
  | .fenceI => true
  | .ecall => true
  | .ebreak => true
  | .mret => true
  | .wfi => true
  | .fload .. => true
  | .fstore .. => true
  | .fsgn .. => true
  | .fmvToX .. => true
  | .fmvFromX .. => true
  | .farith .. => true
  | .farithX .. => true
  | .illegal _ => true

/-- Whether a command is well formed: access widths (R12), hart instructions, 8 program buffer words (R85), 32 channels (R300), MVB data by
F-code (R369), CAN identifiers (R371), host data by COUNT (R376), digests of 32 bytes (R466), TFTP blocks (R471), plane tables (R316),
fields of ring frames (R207, R216, R235), slot entries of the plug's schedules (R232). -/
def wellFormed : Instr → Bool
  | .registerWrite _ _ width _ => (width == 1 || width == 2 || width == 4 || width == 8)
  | .pairLoRead .. => true
  | .pairHiWrite .. => true
  | .pairLoWrite .. => true
  | .handoverStart .. => true
  | .cyclicCommandFrameSend .. => true
  | .membershipMessage .. => true
  | .fq8Report .. => true
  | .safeRelease .. => true
  | .ownedSlotPassage .. => true
  | .hartInstruction _ _ op _ _ => wfOp op
  | .wfi .. => true
  | .hartInterrupt .. => true
  | .coreMismatch .. => true
  | .delayRegisterFault .. => true
  | .comparatorFault .. => true
  | .l1ParityError .. => true
  | .dualRailFault .. => true
  | .lanePllLoss .. => true
  | .uncorrectableError _ _ _ addr _ => decide (addr < 2 ^ 32)
  | .withdrawalNotice .. => true
  | .forcedMismatchTest .. => true
  | .testReqRun .. => true
  | .clrMissed .. => true
  | .clrL1 .. => true
  | .haltreq .. => true
  | .debugGrantAnswer .. => true
  | .haltNotice .. => true
  | .resumereq .. => true
  | .resethaltreq .. => true
  | .ndmreset .. => true
  | .abstractCommand _ _ _ _ _ _ _ _ prog => decide (prog.length ≤ 16) && prog.all wfOp
  | .triggerArm _ _ _ v _ => decide (v.action < 2)
  | .triggerHit .. => true
  | .singleStep _ _ op _ => wfOp op
  | .replayTimeout .. => true
  | .clrExcl .. => true
  | .vtClrCnt .. => true
  | .readmitStart .. => true
  | .autoReadmit .. => true
  | .readmitAbort .. => true
  | .eventNotice .. => true
  | .eventTaskRelease .. => true
  | .dispatch .. => true
  | .done .. => true
  | .clrResp .. => true
  | .trdClrCnt .. => true
  | .chgSubmit .. => true
  | .changeBlockStaged .. => true
  | .pfCaptureTimeout .. => true
  | .tripleWordRepair .. => true
  | .tripleWordFailed .. => true
  | .inval .. => true
  | .invalidationDone .. => true
  | .memClrCnt .. => true
  | .fillComplete .. => true
  | .scrubBurst .. => true
  | .lapLate .. => true
  | .elogPop .. => true
  | .retireActivate .. => true
  | .retireCopyDone .. => true
  | .diagWrite .. => true
  | .diagRead .. => true
  | .diagRelease .. => true
  | .diagDone .. => true
  | .stepGo .. => true
  | .slewGo .. => true
  | .arm .. => true
  | .disarm .. => true
  | .cmpFire .. => true
  | .tbNsRead .. => true
  | .wallNsRead .. => true
  | .frameLaunch _ slots _ => slots.all (fun x => decide (x.index < 4096))
  | .frameHeader _ h => decide (h.type < 256 ∧ h.flags < 256 ∧ h.leader < 256 ∧ h.nodes < 256 ∧ h.cycle < 2 ^ 32 ∧ h.switchAt < 2 ^ 32
    ∧ h.counts.length = 8)
  | .slotArrival .. => true
  | .directFrameDeferred .. => true
  | .directCommandFrame .. => true
  | .containerPassage _ c => decide (c.index < 512 ∧ c.mark < 256 ∧ c.source < 256 ∧ c.dest < 256 ∧ c.len < 256 ∧ c.tag < 65536 ∧ c.kind < 65536)
  | .frameTrailer .. => true
  | .txcSubmit .. => true
  | .txcFlush .. => true
  | .rxcPop .. => true
  | .schedCommit .. => true
  | .schedCancel .. => true
  | .frameMissed .. => true
  | .listenTimeEnd .. => true
  | .claimReceived _ c => decide (c.flags < 256 ∧ c.source < 256 ∧ c.rank < 256 ∧ c.nonce < 2 ^ 32)
  | .hopDelayRequest .. => true
  | .hopDelayAnswerSend .. => true
  | .hopDelayAnswer .. => true
  | .hopProbeRetry .. => true
  | .censusReceived _ c => decide (c.flags < 256 ∧ c.leader < 256 ∧ c.count < 256 ∧ c.acc < 2 ^ 32)
  | .censusReturn _ c => decide (c.flags < 256 ∧ c.leader < 256 ∧ c.count < 256 ∧ c.acc < 2 ^ 32)
  | .lineCodeLoss .. => true
  | .lineCodeReturn .. => true
  | .fSetReceived .. => true
  | .foldEngage .. => true
  | .healExchange .. => true
  | .reinaug .. => true
  | .inaugSleep .. => true
  | .sleepFrame _ c leader at_ => decide (c.flags < 256 ∧ leader < 256 ∧ at_ < 2 ^ 32)
  | .sleepLineTimeout .. => true
  | .idleFrame _ c h _ _ _ => decide (c.flags < 256 ∧ h.leader < 256 ∧ h.count < 2 ^ 32)
  | .idleMissed .. => true
  | .inaugWake .. => true
  | .wakeCommand .. => true
  | .wakeFrame _ c source nonce => decide (c.flags < 256 ∧ source < 256 ∧ nonce < 2 ^ 32)
  | .resumeFrame _ c leader _ => decide (c.flags < 256 ∧ leader < 256)
  | .wakeTimeout .. => true
  | .rateCorrExceeded .. => true
  | .connAck .. => true
  | .filterTick .. => true
  | .capArm .. => true
  | .currentLimit .. => true
  | .currentBelowLimit .. => true
  | .limitTrip .. => true
  | .thermalShutdown .. => true
  | .dieCooled .. => true
  | .clear .. => true
  | .autoRetry .. => true
  | .gateBoostEnd .. => true
  | .gateDischargeEnd .. => true
  | .supplySample .. => true
  | .grpAck .. => true
  | .channelMeasurement volt curr => volt.length == 32 && curr.length == 32
  | .fioCommit .. => true
  | .fq8ClockLoss .. => true
  | .fq8LinkSilent .. => true
  | .selftestDone .. => true
  | .planeTableReceived table lengthOk => !lengthOk || table.length == 4672
  | .planeEvaluation .. => true
  | .digestPassEnd .. => true
  | .evalCountRead .. => true
  | .permitLineChange .. => true
  | .heartbeatReceived .. => true
  | .claimWord .. => true
  | .claimLineReleased .. => true
  | .claimLineAbsent .. => true
  | .partnerImage .. => true
  | .hotTransferPassEnd .. => true
  | .checkpointReceived .. => true
  | .drill .. => true
  | .resync .. => true
  | .partnerActivation .. => true
  | .ethFrameReceived _ f _ => decide (14 ≤ f.length)
  | .ethFrameTransmit .. => true
  | .linkUp .. => true
  | .linkDown .. => true
  | .pdTransmit .. => true
  | .txrIdx .. => true
  | .rxrIdx .. => true
  | .slaveFrame fcode _ _ _ data => data.length == 2 ^ (fcode.val + 1)
  | .baResume .. => true
  | .canFrameReceived _ xtd ident fdf rtr _ _ => (xtd || decide (ident.toNat < 2048)) && !(fdf && rtr)
  | .canSend .. => true
  | .canFrameSent .. => true
  | .canBusError .. => true
  | .canAutoRecovery .. => true
  | .canRecover .. => true
  | .hostRead .. => true
  | .hostWrite _ count _ data _ => data.length == count
  | .recoveryBlock _ count _ data _ => data.length == count
  | .apertureWrite .. => true
  | .winSig .. => true
  | .winResume .. => true
  | .pefPop .. => true
  | .npTimeout .. => true
  | .shuttleStart .. => true
  | .shuttleStopRequest .. => true
  | .shuttleCommit .. => true
  | .shuttleShadowCopy .. => true
  | .shuttleClear .. => true
  | .nop .. => true
  | .move .. => true
  | .move2d .. => true
  | .loop .. => true
  | .wait .. => true
  | .waitComplete .. => true
  | .waitTimeout .. => true
  | .signal .. => true
  | .stop .. => true
  | .shuttleBurst .. => true
  | .eyeletPost .. => true
  | .eyeletTake .. => true
  | .thimbleAcquire .. => true
  | .thimbleRelease .. => true
  | .thForce .. => true
  | .mcResult _ bits => !bits.isEmpty
  | .mcStuck .. => true
  | .mcStuckClear .. => true
  | .mcRefillDone .. => true
  | .mcCommit .. => true
  | .mcShadowCopy .. => true
  | .peakClr .. => true
  | .mcFifoRead .. => true
  | .mcValueRead .. => true
  | .freeze .. => true
  | .thaw .. => true
  | .flushRead .. => true
  | .restartCold .. => true
  | .restartWarm .. => true
  | .restartRecovery .. => true
  | .plugReadDone p => p.cfg.scheds.all (fun x => x.entries.all (fun e => decide (e.1 < 256)))
  | .laneDigestReport _ digest _ => digest.length == 32
  | .recProgram .. => true
  | .recProgramDone .. => true
  | .memtest .. => true
  | .tftpWriteRequest .. => true
  | .tftpDataBlock _ data => decide (data.length ≤ 512)
  | .flashVerify .. => true
  | .flashWrite .. => true
  | .flashOpDone .. => true
  | .actGo .. => true
  | .laneReady .. => true
  | .jflashGo .. => true
  | .jflashDone .. => true
  | .maintStrapChange .. => true
  | .idcode .. => true
  | .samplePreload .. => true
  | .extest .. => true
  | .clamp .. => true
  | .highz .. => true
  | .bypass .. => true
  | .dtmcs .. => true
  | .dmi _ _ _ _ prog => decide (prog.length ≤ 16) && prog.all wfOp
  | .masterFrame .. => true
  | .unknownOp .. => true
  | .pllLockChange .. => true
  | .cycleStart => true
  | .serviceMasterChange => true
  | .inputInstant => true
  | .releaseInstant => true
  | .commitInstant => true
  | .votedImageReady => true
  | .outputInstant => true
  | .safeLatchClear => true
  | .readmitFillDone => true
  | .bulkPassEnd => true
  | .readmitRejoin => true
  | .readmitTimeout => true
  | .changeStageTimeout => true
  | .retainedSaveDue => true
  | .retainedCaptureDone => true
  | .stepApply => true
  | .scheduleSwitch => true
  | .claimTimeout => true
  | .backoffEnd => true
  | .censusSend => true
  | .censusRepeat => true
  | .sleepSwitch => true
  | .sleepPowerDown => true
  | .idleLaunch => true
  | .resumeInstant => true
  | .refSwitchDone => true
  | .macCheckDone => true
  | .g0CutForward => true
  | .fioShadowCopy => true
  | .ej2SelfFault => true
  | .junctionClockLoss => true
  | .planeRelease => true
  | .planeOscFault => true
  | .planeStatusReceived => true
  | .planeLinkSilent => true
  | .heartbeatSend => true
  | .heartbeatMissed => true
  | .ringLifeTimeout => true
  | .listenTimeout => true
  | .secondaryWaitEnd => true
  | .hotTransferTimeout => true
  | .checkpointDue => true
  | .checkpointDeferEnd => true
  | .coldRestoreDone => true
  | .macAgeOut => true
  | .mvbBasicPeriod => true
  | .masterClash => true
  | .fetch => true
  | .abort => true
  | .hostResponseReady => true
  | .gussetSourceComplete => true
  | .gussetPendingServe => true
  | .carriedWriteReceived => true
  | .carriedWriteLanded => true
  | .completionReceived => true
  | .postedErrorReport => true
  | .carriedSignalReceived => true
  | .signalPost => true
  | .weltRecordWrite => true
  | .freezeTimeout => true
  | .troubleEntryWrite => true
  | .powerOn => true
  | .resetContactClose => true
  | .resetRelease => true
  | .resetExit => true
  | .junctionImageLoaded => true
  | .loadTimeout => true
  | .tftpStatusRead => true
  | .supplyInterrupt => true
  | .powerFailWarning => true
  | .mramCopyDone => true
  | .supplyReturn => true
  | .holdupExhausted => true
  | .overvoltage => true
  | .overvoltageEnd => true
  | .tapReset => true
  | .interruptionBridged => true
  | .transactionCutShort => true
  | .planeClockResume => true

end Sys2Proof
end

