-- ==== Sys2Proof/Tests/Slice0.lean ====
section
/-! SUPPORT. The model's own tests: ill-formed terms refused, single steps on small states, and for the statements a state and operands
that meet the hypotheses of each clause. Expected values are worked out from the rules cited in the statements. -/

open Sys2Proof Sys2Proof.Machine

namespace Sys2Proof.Tests

set_option maxRecDepth 20000

/-- Fields written one after the other. -/
def put (s : State) (l : List (Field × Nat)) : State := l.foldl (fun t x => t.wr x.1 x.2) s

/-- The state after a command; the same state where it does not complete. -/
def after (c : Instr) (s : State) : State := match exec c s with
  | .next t => t
  | _ => s

/-- The state at reset, the start of every small state here. -/
abbrev R : State := State.reset

/-- Sealed, with lanes A, B and C VOTING and RUNNING, and A the service master. -/
def run3 : State := (put R ([(Fld.JC_MOD_STATUS_SEALED, 1), (Fld.UPD_START_STATUS_PHASE, Phase.run)] ++
  lanes.map (fun l => (Fld.LC_LANE_STATUS_EXEC l, Exec.running))) |> fun t => (lanes.foldl (fun t l => t.setMember l Mbr.voting) t)).setSvcMaster (some .A)

/-- The initiator of the witnesses: HART_1 of lane A, the service master in `run3`. -/
abbrev A1 : Initiator := .hart .A .h1

/-! ### Steps, reset and accesses -/

theorem test_step_front : ({ R with pending := [.fetch, .abort] } : State).pending = .fetch :: [.abort] := by decide
def wOff : State := { R with st := { R.st with powered := false } }
theorem test_wit_Idle : R.pending = [] ∧ R.st.powered = true ∧ wOff.st.powered = false ∧ wOff.pending = [] ∧ R.clk.corr = 0 := by decide
theorem test_wit_FaultingAccess : (2 : Nat) ≠ 4 ∧ 0x101 % 4 ≠ 0 ∧ keyOf .host 0x30 = some 0x30 ∧ regAt 0x30 = none ∧ eySecure 0x30 = false ∧
  regAt 0x90FFC = none ∧ eySecure 0x90FFC = true ∧ R.secure .gusset = true := by decide
theorem test_fault_register : (after (.registerWrite .host 0x30 4 1) R) = R.respond .host .fault := by decide
theorem test_wit_RefusedWrite : Reg.VT_READMIT < 0x1000000 ∧ R.svcMaster ≠ some .A ∧ laneOf (Reg.TRD_DISPATCH .B) = some .B ∧
  (∀ k ∈ [Reg.VT_READMIT, Reg.TB_STEP_CTRL, Reg.SX_SCHED_CTRL, Reg.UPD_ACT_CTRL, Reg.WL_CTRL], R.mayWrite (.hart .A .h1) k = false ∧ eySecure k = false ∧
    keyOf (.hart .A .h1) (0x20000000 + k) = some k) := by decide

/-! ### Memory and time -/

def wInval : State := put R [(Fld.MEM_INVAL_BASE_PAGES .junction, 0x7FFFF), (Fld.MEM_INVAL_SIZE_PAGES .junction, 1)]
def wInval2 : State := wInval.setMctl .junction { R.mctl .junction with inval := some (0x7FFFE, 0x80000), valid := [1, 4194287, 4194288] }
def wInval3 : State := run3.setMctl (.lane .B) { R.mctl .junction with inval := some (0x40000, 0x40001), valid := [0, 15, 16] }
theorem test_wit_Invalidation : R.mayWrite .host (Reg.MEM_CMD .junction) = true ∧
  (wInval.rd (Fld.MEM_INVAL_SIZE_PAGES .junction) ≠ 0 ∧ ddrBase .junction ≤ 0x7FFFF * 4096 ∧ (0x7FFFF + 1) * 4096 ≤ ddrEnd .junction ∧
   (wInval.mctl .junction).inval = none ∧ wInval.poolPage .junction = 0) ∧ R.rd (Fld.MEM_INVAL_SIZE_PAGES .junction) = 0 ∧
  (wInval2.mctl .junction).inval = some (0x7FFFE, 0x80000) := by decide
theorem test_inval_last_page : (after (.inval .host .junction 0) wInval).jmem.inval = some (0x7FFFF, 0x80000) := by decide
def wElog : State := run3.setMctl (.lane .A) { R.mctl .junction with elog := [⟨1, 2, 3, 4, 5, 6⟩, ⟨1, 2, 3, 4, 5, 6⟩] }
def wRet : State := (put R [(Fld.MEM_RT_n_ACTIVE .junction 3, 1), (Fld.MEM_RT_n_PAGE .junction 3, 0x40001)]).setMctl .junction { R.mctl .junction with copying := some 3 }
def wRet127 : State := (put R [(Fld.MEM_RT_n_ACTIVE .junction 127, 1), (Fld.MEM_RT_n_PAGE .junction 127, 0x7FFFF)]).setMctl .junction { R.mctl .junction with copying := some 127 }
theorem test_wit_ErrorLog : run3.mayWrite A1 (Reg.MEM_ELOG_CTRL .junction) = true ∧ (run3.mctl .junction).elog.length ≤ 32 ∧
  R.mayWrite .host (Reg.MEM_RT_n .junction 127) = true ∧ R.rd (Fld.MEM_RT_n_ACTIVE .junction 127) = 0 ∧
  wbits 0x8007FFFF (Fld.MEM_RT_n_PAGE .junction 127) = 0x7FFFF ∧ inDdr .junction (0x7FFFF * 4096) = true ∧ R.inPool .junction 0x7FFFF = false ∧
  R.rd (Fld.MEM_STATUS_RETIRE_BUSY .junction) = 0 ∧ inDdr .junction (0x3FFFF * 4096) = false ∧
  (wRet.mctl .junction).copying = some 3 ∧ wRet.rd (Fld.MEM_RT_n_ACTIVE .junction 3) = 1 ∧ (∀ k < 3, wRet.rd (Fld.MEM_RT_n_ACTIVE .junction k) ≠ 1) := by decide
theorem test_retire_active : ∀ k < 128, k ≠ 127 → R.rd (Fld.MEM_RT_n_ACTIVE .junction k) ≠ 1 := by decide
def wDiag : State := put R [(Fld.MEM_DIAG_ADDR_WORD .junction, 0x7FFFFFF8 / 8)]
def wDiagBusy : State := R.setMctl .junction { R.mctl .junction with diagBusy := true, hold := some 0 }
theorem test_wit_Diagnostic : R.mayWrite .host (Reg.MEM_DIAG_CMD .junction) = true ∧ wbits 0 (Fld.MEM_DIAG_CMD_RELEASE .junction) = 0 ∧
  wbits 0 (Fld.MEM_DIAG_CMD_WRITE .junction) = 0 ∧
  (inDdr .junction (wDiag.diagAddr .junction) = true ∧ wDiag.inPool .junction (wDiag.diagAddr .junction / 4096) = false ∧ (wDiag.mctl .junction).hold = none) ∧
  inDdr .junction (R.diagAddr .junction) = false ∧ (wDiagBusy.mctl .junction).diagBusy = true := by decide
def wFill : State := R.setMctl (.lane .B) { R.mctl (.lane .B) with fillStart := some 0, valid := [4, 9] }
def wLap : State := put { run3 with clk := { run3.clk with uptime := 400000000000 } } [(Fld.MEM_CFG_LAP_MAX .junction, 1)]
theorem test_wit_Fills : (wFill.mctl (.lane .B)).fillStart = some 0 ∧ R.readmitPhase ≠ 1 ∧
  R.phase ≠ Phase.recovery ∧ R.phase ≠ Phase.fill ∧ scrubTarget (R.mctl .junction) = none ∧ scrubTarget (wFill.mctl (.lane .B)) = some 16 ∧
  scrubTarget { wFill.mctl (.lane .B) with scrub := 17 } ≠ none ∧
  0 < wLap.rd (Fld.MEM_CFG_LAP_MAX .junction) ∧ wLap.rd (Fld.MEM_CFG_LAP_MAX .junction) < wLap.scrubAge .junction := by decide
def wStep : State := put { run3 with clk := { run3.clk with stepPend := some ⟨false, -5, 1, 0⟩, uptime := 4 } } [(Fld.TB_CFG_WALL_SRC, 1)]
def wStep2 : State := { run3 with clk := { run3.clk with stepPend := some ⟨true, 2000000000, 2, 0⟩, net := 77, uptime := 8 } }
def wWall : State := put run3 [(Fld.TB_CFG_WALL_SRC, 1), (Fld.TB_STEP_NS_VALUE, 999999999), (Fld.TB_STEP_SEC_LO_VALUE, 12), (Fld.TB_SLEW_NS_NS, 4294967295)]
def wRing : State := put run3 [(Fld.TB_CFG_WALL_SRC, 0)]
theorem test_wit_StepAndSlew : wWall.mayWrite A1 Reg.TB_STEP_CTRL = true ∧ wWall.mayWrite A1 Reg.TB_SLEW_CTRL = true ∧ wWall.clk.stepPend = none ∧
  wWall.rd Fld.TB_STEP_NS_VALUE = 999999999 ∧ wbits 0x10 Fld.TB_STEP_CTRL_SOURCE = 2 ∧ wWall.rd Fld.TB_CFG_WALL_SRC = 1 ∧
  (wRing.rd Fld.TB_CFG_WALL_SRC = 0 ∧ wRing.leads = false) ∧ (wStep.clk.stepPend = some ⟨false, -5, 1, 0⟩ ∧ 0 < wStep.clk.uptime) ∧
  (wStep2.clk.stepPend = some ⟨true, 2000000000, 2, 0⟩ ∧ 0 < wStep2.clk.uptime) := by decide
def wCmp : State := put { run3 with clk := { run3.clk with net := 1000, targets := [(0, 999), (8, 1001), (15, 1000)] } } [(Fld.TB_CMP_n_CFG_ARMED 15, 1), (Fld.TB_CMP_n_TARGET_SPAN 15, 1000),
  (Fld.TB_CMP_n_CFG_ARMED 0, 1), (Fld.TB_CMP_n_TARGET_SPAN 0, 999), (Fld.TB_CMP_n_PERIOD_NS 0, 1000000), (Fld.TB_CMP_n_TARGET_SPAN 1, 4000000000),
  (Fld.TB_CMP_n_TARGET_SPAN 8, 1001), (Fld.TB_CMP_n_CFG_ARMED 8, 1)]
theorem test_wit_CompareUnits : run3.mayWrite A1 (Reg.TB_CMP_n_CFG 15) = true ∧ wbits 0x40000000 (Fld.TB_CMP_n_CFG_DISARM 15) = 1 ∧ wbits 0x80000000 (Fld.TB_CMP_n_CFG_DISARM 15) = 0 ∧
  wCmp.rd (Fld.TB_CMP_n_TARGET_SPAN 1) = 4000000000 ∧ wCmp.rd (Fld.TB_CMP_n_CFG_SCALE 15) = 0 ∧ spanDiff 1000 wCmp.netSpan = 0 ∧ spanDiff 999 wCmp.netSpan = -1 ∧
  wCmp.rd (Fld.TB_CMP_n_CFG_ARMED 15) = 1 ∧ spanDiff (wCmp.cmpNow 15) (wCmp.cmpTarget 15) = 0 ∧ wCmp.rd (Fld.TB_CMP_n_PERIOD_NS 15) = 0 ∧ wCmp.rd (Fld.TB_CMP_n_PERIOD_NS 0) ≠ 0 ∧
  wCmp.rd (Fld.TB_CMP_n_CFG_ARMED 1) = 0 ∧ spanDiff (wCmp.cmpNow 8) (wCmp.cmpTarget 8) = -1 ∧ wCmp.rd (Fld.TB_CMP_n_TARGET_SPAN 0) = wCmp.cmpTarget 0 := by decide
def wPair : State := { run3 with holdR := [(holdKey .host Reg.TB_SEC_HI, 7)], holdW := [(holdKey A1 Reg.TB_STEP_SEC_HI, 0x12345678)] }
theorem test_wit_CapturedReads : run3.mayRead .host Reg.TB_NS = true ∧ keyOf .host Reg.TB_UPTIME_LO = some Reg.TB_UPTIME_LO ∧
  lookupN run3.holdR (holdKey .host Reg.TB_UPTIME_LO) = none ∧ regAt Reg.TB_SEC_HI ≠ none ∧ wPair.mayRead .host Reg.TB_SEC_HI = true ∧
  lookupN wPair.holdR (holdKey .host Reg.TB_SEC_HI) = some 7 ∧ keyOf A1 (0x20000000 + Reg.TB_STEP_SEC_HI) = some Reg.TB_STEP_SEC_HI ∧
  keyOf A1 (0x20000000 + Reg.TB_STEP_SEC_LO) = some Reg.TB_STEP_SEC_LO ∧ run3.mayWrite A1 Reg.TB_STEP_SEC_HI = true ∧
  run3.mayWrite A1 Reg.TB_STEP_SEC_LO = true ∧ lookupN wPair.holdW (holdKey A1 Reg.TB_STEP_SEC_HI) = some 0x12345678 := by decide

/-! ### Lanes, cycle, vote -/

/-- `run3` with every hart compared, lane C in core-and-caches mode, in the given time. -/
def wCompared (up : Nat) : State := ({ (put run3 (lanes.flatMap fun l => [(Fld.CMP_STATUS_H0_COMPARED l, 1), (Fld.CMP_STATUS_H1_COMPARED l, 1)])) with
  clk := { run3.clk with uptime := up } } : State).modLn .C (fun n => { n with replMode := 1, testAt := some 0 })
theorem test_wit_LaneFaultCauses : (wCompared 4).ex .A ≠ Exec.held ∧ (wCompared 4).ex .A ≠ Exec.stopped ∧
  (wCompared 4).rd (Fld.CMP_STATUS_H0_COMPARED .A) = 1 ∧ (0x7F#8).toNat % 128 ≠ 0 ∧ (0x80#8).toNat % 128 = 0 ∧ ((wCompared 4).ln .C).replMode = 1 ∧
  (0x80#8).toNat % 256 ≠ 0 ∧ ((wCompared 4).memc.get .A).elog.length < 32 ∧ R.ex .A = Exec.held ∧ (R.ln .A).withdrawal = none := by decide
/-- `run3` with lane A stopped by a fault of this instant whose notice waits. -/
def wSecond : State := (put run3 [(Fld.LC_LANE_STATUS_EXEC .A, Exec.stopped)]).modLn .A (fun n => { n with withdrawal := some (9, 0, run3.clk.uptime) })
theorem test_second_cause : wSecond.ex .A = Exec.stopped ∧ (wSecond.ln .A).withdrawal = some (9, 0, wSecond.clk.uptime) ∧
  ((wSecond.laneFault .A 5 0).ln .A).withdrawal = some (5, 0, wSecond.clk.uptime) := by decide
theorem test_wit_ComparatorTests : ((wCompared 1000000).ln .C).testAt = some 0 ∧ 0 / 1000000 < (wCompared 1000000).clk.uptime / 1000000 ∧
  (wCompared 1000000).testable .C = true ∧ R.testable .A = false ∧ run3.mayWrite A1 (Reg.CMP_TEST_REQ .A) = true ∧
  run3.mayWrite A1 (Reg.LC_CNT_CLEAR .A) = true ∧ (run3.ln .A).replMode ≠ 1 := by decide
/-- Hand-overs of the three lanes. -/
def wHand (a b c : Mem) (pa pb pc : Bool) : State := { (put run3 [(Fld.VT_CFG_SAFE_HOLD, 3), (Fld.VT_STATUS_SAFE_ALL, 0)]) with
  cfg := { run3.cfg with sOut := 12, safety := [1, 2], safeImg := [(0, 9#8)] }
  vote := { run3.vote with hand := ⟨some ⟨a, false⟩, some ⟨b, false⟩, some ⟨c, false⟩⟩, present := ⟨pa, pb, pc⟩ } }
def wVote3 : State := wHand [(0, 1#8), (4, 5#8)] [(0, 3#8), (4, 5#8)] [(4, 5#8), (11, 128#8)] true true true
def wVote3bad : State := wHand [(0, 1#8), (4, 5#8)] [(4, 6#8)] [(4, 3#8)] true true true
def wVote3bad0 : State := put wVote3bad [(Fld.VT_CFG_SAFE_HOLD, 0)]
def wVote3badv : State := { wVote3bad with vote := { wVote3bad.vote with voted := true, out := [(8, 1#8)] } }
def wVote2 : State := wHand [(0, 1#8), (4, 5#8)] [(4, 6#8)] [(0, 1#8), (4, 7#8)] true false true
def wVote2v : State := { wVote2 with vote := { wVote2.vote with voted := true, last := [(4, 2#8)] } }
def wVote1 : State := wHand [(0, 1#8), (4, 5#8)] [(4, 6#8)] [(0, 1#8), (4, 7#8)] false false true
def wVote1v : State := { wVote1 with vote := { wVote2.vote with voted := true, present := ⟨false, true, false⟩, last := [(4, 2#8)], out := [(0, 3#8)] } }
theorem test_wit_VoteOfTheCycle : wVote3.vote.k0 = none ∧ wVote3.numPresent = 3 ∧ lanes.filter (fun l => wVote2.vote.present.get l) = [.A, .C] ∧
  wVote1.numPresent < 2 ∧ wVote1.vote.voted = false ∧ (wVote1v.vote.voted = true ∧ 0 < wVote1v.safeHold ∧ wVote1v.rd Fld.VT_STATUS_SAFE_ALL = 0) ∧
  wVote2v.vote.voted = true ∧ 1 ∉ wVote2v.vote.noVote ∧ wVote2v.outWords = 3 ∧ (wVote2.copyOf .A).word 4 ≠ (wVote2.copyOf .C).word 4 ∧
  (wVote2.copyOf .A).word 0 = (wVote2.copyOf .C).word 0 := by decide
/-- The majority of word 1. -/
def wMaj (s : State) : Word := (s.copyOf .A).word 4 &&& (s.copyOf .B).word 4 ||| (s.copyOf .B).word 4 &&& (s.copyOf .C).word 4 |||
  (s.copyOf .A).word 4 &&& (s.copyOf .C).word 4
theorem test_vote_differ : 1 ∈ wVote3bad.cfg.safety ∧ (wVote3bad.copyOf .B).word 4 ≠ wMaj wVote3bad ∧ (wVote3bad.copyOf .C).word 4 ≠ wMaj wVote3bad ∧
  (wVote3.copyOf .A).word 4 = wMaj wVote3 := by decide
/-- Cycle 5 of 1 ms, its instants all taken or none, at a network time in it. -/
def wCyc (done : Bool) (net : Nat) : State := { (put run3 [(Fld.SX_CFG_T_UNITS .X, 8), (Fld.SX_T_IN_JC, 1000), (Fld.SX_T_COM_JC, 100000)]) with
  clk := { run3.clk with net := net }
  cyc := ⟨true, 5, done, done, done, done, done, done, done, none, none⟩ }
def wCyc1 : State := wCyc false 5900000
def wCyc2 : State := (({ wCyc1 with cyc := { wCyc1.cyc with comDone := true } } : State).modLn .A (fun n => { n with handover := some false, egressOpen := true })).modLn .B
  (fun n => { n with handover := some true, held := some [(0, 1#8)] })
def wCyc3 : State := (wCyc1.modLn .A (fun n => { n with egressOpen := true, cmdLink := true, handover := some false })).modLn .B (fun n => { n with egressOpen := true })
def wCyc4 : State := wCyc true 5900000
def wCyc5 : State := wCyc false 7000000
def wCyc6 : State := wCyc false 5000000
theorem test_wit_CycleInstants : wCyc1.ej2Down = false ∧ wCyc1.cyc.running = true ∧ wCyc5.kNow ≠ wCyc5.cyc.k ∧ wCyc1.kNow = wCyc1.cyc.k ∧ wCyc1.cyc.inDone = false ∧
  (∀ jc ∈ [wCyc1.tIn, wCyc1.tRel, wCyc1.tHand, wCyc1.tCom - 32, wCyc1.tCom, wCyc1.tVr, wCyc1.tOut], wCyc1.cyc.k * wCyc1.tCycle + 4 * jc ≤ wCyc1.clk.net ∧
    ¬ wCyc6.cyc.k * wCyc6.tCycle + 4 * jc ≤ wCyc6.clk.net) ∧ wCyc4.cyc.outDone = true ∧ wCyc2.cyc.comDone = true ∧ wCyc2.cyc.vrDone = false ∧
  wCyc3.handsOver .A = true ∧ wCyc3.inGap = false ∧ wCyc3.cyc.comDone = false := by decide
def wMsg : FqMsg := { member := ⟨true, false, true⟩, only := true, cmds := [], modes := [], presets := [] }
def wNotices : State := { ((run3.modLn .A (fun n => { n with withdrawal := some (5, 0, 7) })).modLn .B (fun n => { n with haltNotice := true })) with
  fq := [FqSt.none, { FqSt.none with inbox := [wMsg, wMsg], reports := [⟨3, 2, true, false⟩] }, { FqSt.none with reports := [⟨0, 1, false, true⟩, ⟨7, 1, true, true⟩] },
    { FqSt.none with inbox := [wMsg] }]
  vote := { run3.vote with release := some 3, latched := [0, 2, 5], disNow := [2], voted := true, haltSeen := ⟨false, true, true⟩ }
  cyc := { run3.cyc with k := 4, svcLeft := some 3 }, clk := { run3.clk with net := 4 * giga } }
def wNotices1 : State := put wNotices [(Fld.SX_CFG_T_UNITS .X, 8)]
theorem test_wit_MembershipAndReports : (wNotices1.ln .B).haltNotice = true ∧ (wNotices1.ln .A).withdrawal = some (5, 0, 7) ∧ wNotices1.loading = false ∧
  wNotices1.member .A = Mbr.voting ∧ wNotices1.freshVoter .A = false ∧ wNotices1.vote.readmit = none ∧ (getAt FqSt.none wNotices1.fq 1).inbox = [wMsg, wMsg] ∧
  (getAt FqSt.none wNotices1.fq 3).lost = false ∧ wNotices1.fq.length = 4 ∧ (getAt FqSt.none wNotices1.fq 2).reports ≠ [] ∧ wNotices1.cyc.svcLeft = some 3 ∧
  3 < wNotices1.kNow ∧ wNotices1.mayWrite A1 Reg.VT_SAFE_RELEASE = true ∧ wNotices1.vote.release = some 3 ∧ 3 < wNotices1.cyc.k ∧ wNotices1.cyc.vrDone = false ∧
  wNotices1.mayWrite A1 Reg.VT_CNT_CLEAR = true := by decide
/-- Lane C is out of the vote. -/
def wExcl : State := put (({ wCyc1 with vote := { wCyc1.vote with autoAt := ⟨none, none, some 4⟩ } } : State).setMember .C Mbr.excluded)
  [(Fld.LC_LANE_STATUS_EXEC .C, Exec.stopped), (lockFld .C, 1), (Fld.VT_CFG_AUTO_READMIT, 1)]
def wExcl1 : State := put (run3.setMember .C Mbr.excluded) []
def wExcl0 : State := put ((wExcl1.setMember .B Mbr.excluded).setMember .A Mbr.excluded) [(Fld.JC_MOD_STATUS_SVC_MASTER, 0)]
def wLocked : State := wExcl1.setMember .C Mbr.locked
def wReadmit (phase : Nat) : State := put { wExcl with vote := { wExcl.vote with readmit := some ⟨.C, .A, 0, [1, 2], [], if phase = 3 then some 4 else none⟩ }
                                                       clk := { wExcl.clk with uptime := 2000000000 } }
  [(Fld.VT_READMIT_STATUS_PHASE, phase), (Fld.VT_CFG_RELAPSE_MAX, 0), (Fld.LC_LANE_STATUS_EXEC .C, Exec.receiving)]
theorem test_wit_Readmission : wExcl.mayWrite A1 Reg.VT_READMIT = true ∧ wbits 0x5 Fld.VT_READMIT_LANE = 2 ∧ wbits 0x5 Fld.VT_READMIT_ABORT = 0 ∧ wbits 0x8 Fld.VT_READMIT_START = 0 ∧
  wExcl0.numVoting < 2 ∧ wExcl0.mayWrite A1 Reg.VT_READMIT = true ∧ 2 ≤ wLocked.numVoting ∧ wLocked.member .C = Mbr.locked ∧ (wReadmit 2).vote.readmit ≠ none ∧
  wExcl.member .C = Mbr.excluded ∧ wExcl.st.act = none ∧ wExcl.vote.readmit = none ∧ 1 ≤ wExcl.pageLimit ∧ wExcl.pllLocked .C = true ∧
  wExcl.vote.autoAt.get .C = some 4 ∧ 4 < wExcl.cyc.k ∧ wExcl.rd Fld.VT_CFG_AUTO_READMIT = 1 := by decide
theorem test_wit_Readmission2 : (wReadmit 1).readmitPhase = 1 ∧ (wReadmit 2).readmitPhase = 2 ∧ [1, 2].length ≤ (wReadmit 2).pageLimit ∧ (wReadmit 3).readmitPhase = 3 ∧
  (wReadmit 3).cyc.k = 4 + 1 ∧ ((wReadmit 3).ln .C).h1.resetHalt = false ∧ (wReadmit 2).mayWrite A1 Reg.VT_READMIT = true ∧ 0 + 2000000000 ≤ (wReadmit 2).clk.uptime ∧
  (wReadmit 2).rd Fld.VT_CFG_RELAPSE_MAX = 0 := by decide
def wNotice (task r : Nat) : Notice := { task := task, te := 900, span := 900, r := r, data := 77, missed := 0 }
def wTasks : State := (put { run3 with clk := { run3.clk with net := 5000 } } [(Fld.TRD_NEXT_VALID .A, 1), (Fld.TRD_NEXT_TASK .A, 3), (⟨taskStat .A 3, 31, 29⟩, Task.ready),
  (⟨taskStat .A 9, 31, 29⟩, Task.running), (⟨taskStat .B 0, 31, 29⟩, Task.running), (⟨taskStat .B 1, 31, 29⟩, Task.running)]) |> fun s => (((s.modLn .A (fun n => { n with curTask := some 9 })).modLn .B
  (fun n => { n with inbox := [wNotice 8 5000, wNotice 23 9000], curTask := some 0, tasks := n.tasks.set 0 { TaskSt.idle with stale := true } })).modLn .C
  (fun n => { n with notices := [wNotice 9 5000, wNotice 23 5000], inbox := [wNotice 9 4000], curTask := some 1 }))
def wHaltRel : State := put wTasks [(Fld.TRD_STATUS_HALT_REL .B, 1), (Fld.LC_LANE_STATUS_EXEC .C, Exec.stopped)]
theorem test_wit_TreadleTasks : (wTasks.ln .B).inbox = [wNotice 8 5000, wNotice 23 9000] ∧ wTasks.treadleOn .B = true ∧ wTasks.rd (Fld.TRD_STATUS_HALT_REL .B) = 0 ∧
  wTasks.taskMayRun 8 = true ∧ (wTasks.ln .B).h0.halted = false ∧ wTasks.paused = false ∧ wHaltRel.rd (Fld.TRD_STATUS_HALT_REL .B) = 1 ∧ wHaltRel.treadleOn .C = false ∧
  (wTasks.ln .C).notices.find? (fun y => y.task == 8 + 15 && decide (y.r ≤ wTasks.clk.net)) = some (wNotice 23 5000) ∧ wTasks.taskState .C 23 = Task.idle ∧
  wTasks.mayWrite (.hart .A .h0) (Reg.TRD_DISPATCH .A) = true ∧ wbits 3 (Fld.TRD_DISPATCH_TASK .A) = 3 ∧ wTasks.rd (Fld.TRD_NEXT_TASK .A) = 3 ∧
  wTasks.rd (Fld.TRD_NEXT_VALID .A) = 1 ∧ run3.rd (Fld.TRD_NEXT_VALID .A) = 0 ∧ wTasks.mayWrite (.hart .B .h0) (Reg.TRD_DONE .B) = true ∧
  (wTasks.ln .B).curTask = some (wbits 0 (Fld.TRD_DONE_TASK .B)) ∧ wTasks.mayWrite (.hart .B .h0) (Reg.TRD_CNT_CLEAR .B) = true := by decide
/-- A change block of one record staged in CHG_DATA: write 7 under mask 0xFF to a changeable variable. -/
def wChg (seq : Nat) (target op : Nat) : State := put { run3 with cfg := { run3.cfg with vars := [⟨5, 4, 0x08000100, false, 0, 100⟩], retPeriod := 4, retBase := 0x08000000, retSize := 8 } } [
  (⟨Reg.UPD_CHG_DATA_w 0, 31, 0⟩, seq + 65536), (⟨Reg.UPD_CHG_DATA_w 2, 31, 0⟩, target + op * 2 ^ 16 + 4 * 2 ^ 24),
  (⟨Reg.UPD_CHG_DATA_w 3, 31, 0⟩, 0xFF), (⟨Reg.UPD_CHG_DATA_w 4, 31, 0⟩, 7)]
def wBlock : ChgBlock := ⟨9, [⟨5, 1, 4, 0xFF, 7⟩]⟩
def wPend : State := { (wChg 9 5 1) with chg := { run3.chg with block := some wBlock, since := 4 }, cyc := { run3.cyc with k := 12 } }
def wPendAck : State := (({ wPend with chg := { wPend.chg with acks := Tri.all true, apply := 9 }, pfWarnAt := some 0, clk := { run3.clk with uptime := 5000000 } } : State).modLn .A
  (fun n => { n with staged := some wBlock }))
def wCapt : State := { run3 with chg := { run3.chg with capture := ⟨some [1], some [1], some [3]⟩, saveSeq := 5 }, mramA := { MramCopy.none with valid := true, seq := 5 } }
def wCapt2 : State := { run3 with chg := { run3.chg with capture := ⟨some [], some [], some []⟩, saveSeq := 6, capIncomplete := true } }
theorem test_wit_Changes : (wChg 9 5 1).mayWrite A1 Reg.UPD_CHG_CTRL = true ∧ wPend.chg.block = some wBlock ∧ wPend.mayWrite A1 Reg.UPD_CHG_CTRL = true ∧
  (wChg 9 5 1).chg.block = none ∧ (wChg 9 5 1).chgBlock = wBlock ∧ (wChg 9 5 1).chgCheckAll wBlock.recs (wChg 9 5 1).forcedWords = none ∧
  (wChg 9 6 1).chgCheckAll (wChg 9 6 1).chgBlock.recs [] = some 2 ∧ wPend.treadleOn .A = true ∧ wPend.chg.since + 8 ≤ wPend.cyc.k ∧ wPend.chg.apply ≠ 9 ∧
  (Lane.A ∈ wPend.stagers ∧ wPend.chg.acks.get .A = false) ∧ (wPend.cfg.retPeriod ≠ 0 ∧ wPend.phase = Phase.run ∧ wPend.cyc.k % 4 = 0) ∧
  wPendAck.pfWarnAt = some 0 ∧ 0 + 5000000 ≤ wPendAck.clk.uptime ∧ (wPendAck.ln .A).pfCaptured = false ∧ wPendAck.votes .A = true ∧
  wCapt.chg.capture = ⟨some [1], some [1], some [3]⟩ := by decide

/-! ### Harts and debug -/

/-- Both harts of every lane at 0x08000100, with some registers. -/
def wHart (x : HartSt) : HartSt := { x with pc := 0x08000100, x := [(1, 0x08000200), (16, 0xFFFFFFFFFFFFFFFF), (31, 5)] }
def wHarts (s : State) (f : HartSt → HartSt) : State := lanes.foldl (fun t l => t.modLn l (fun n => { n with h0 := f (wHart n.h0), h1 := f (wHart n.h1) })) s
def wRun : State := wHarts (put run3 [(Fld.DX_STATUS_STATE, DSt.single), (Fld.JC_MOD_STATUS_PERMITS, 1)]) id
def wUser : State := wHarts wRun (fun x => { x with machine := false, lines := 2 ^ 11, csr := [(0x3A0, 0xF), (0x3B0, 0xFFFFFFFF)], pc := 0x08000100 })
def wIrq : State := wHarts wRun (fun x => { x with lines := 2 ^ 3, csr := [(csrMstatus, 8), (csrMie, 8)], gated := true })
def wIrq2 : State := wHarts wRun (fun x => { x with lines := 2 ^ 3, csr := [(csrMie, 8)], gated := true })
theorem test_wit_HartExecution : wRun.hartUp .A .h0 = true ∧ wRun.hartUp .A .h1 = true ∧ (wRun.hart .A .h0).gated = false ∧ (wRun.hart .A .h0).step = false ∧
  (wRun.hart .A .h0).pc = 0x08000100 ∧ (wRun.hart .A .h0).pmpAllows true 4 0x08000100 2 = true ∧ (wRun.hart .A .h0).pmpAllows true 4 0x08000102 2 = true ∧
  wRun.readmitPhase ≠ 3 ∧ 0x08000000 ≤ ((wRun.hart .A .h0).xr 1 + 8#64).toNat ∧ (wRun.hart .A .h0).dataTrap false .store 0x08000208 8 = none ∧
  (wRun.hart .A .h0).dataTrap false .load 0x08000200 8 = none ∧ (wRun.hart .A .h0).resv = none ∧ wRun.vote.readmit = none ∧ (wRun.hart .A .h0).machine = true ∧
  (wIrq.hart .A .h1).pendingIrq = some 3 ∧ (wIrq.hart .A .h1).irqOpen = true ∧ (wIrq2.hart .A .h1).irqOpen = false ∧ R.hartUp .A .h0 = false := by decide
theorem test_wit_HartUser : (wUser.hart .A .h0).pmpAllows false 4 0x08000100 2 = true ∧ (wUser.hart .A .h0).machine = false ∧ wUser.hartUp .A .h0 = true := by decide
def wStrap (s : State) : State := put s [(Fld.JC_PWR_STATUS_MAINT_STRAP, 1)]
def wTrig (armed : Bool) (action : Nat) : Trigger := ⟨armed, false, action, true, false, false, 0x08000100⟩
def wHalt (f : HartSt → HartSt) : State := wStrap (wHarts wRun (fun x => f { x with halted := true, csr := [(csrDpc, 0x08000300)] }))
def wDbgReq : State := (wStrap wRun).modLn .A (fun n => { n with dbgReq := some (.halt .h0) })
def wDbgReq1 : State := (wStrap wRun).modLn .B (fun n => { n with dbgReq := some (.halt .h1) })
def wDbgReq2 : State := ({ wDbgReq1 with vote := { wDbgReq1.vote with grant := some .C } } : State)
def wDbgReq3 : State := ((wStrap wExcl).modLn .A (fun n => { n with dbgReq := some (.halt .h1) }))
def wNoPermit : State := wHarts (wStrap (put run3 [(Fld.JC_MOD_STATUS_PERMITS, 0)])) (fun x => { x with triggers := [wTrig true 1, wTrig true 0, wTrig false 1, wTrig true 0] })
def wGranted : State := ({ (wStrap wRun) with vote := { wRun.vote with grant := some .A } } : State)
def wReplay : State := (put { wRun with clk := { wRun.clk with uptime := 2000000004 } } [(Fld.LC_LANE_STATUS_EXEC .B, Exec.replayCheck)]).modLn .B (fun n => { n with resumeAt := some 4 })
def wStepping : State := wHalt (fun x => { x with csr := [(csrDcsr, 7), (csrDpc, 0x08000300)], step := true })
theorem test_wit_DebugModule : wRun.strap = false ∧ (wStrap wRun).strap = true ∧ (wStrap wRun).laneLive .A = true ∧ (wRun.hart .A .h0).halted = false ∧
  wNoPermit.mayHalt .A = true ∧ (wStrap wRun).mayHalt .A = false ∧ ((wStrap wRun).ln .A).dbgReq = none ∧ (wDbgReq.ln .A).dbgReq = some (.halt .h0) ∧ wDbgReq.numVoting = 3 ∧
  wDbgReq.vote.grant = none ∧ wDbgReq2.vote.grant = some .C ∧ ((wHalt id).hart .A .h0).halted = true ∧ wGranted.mayHalt .A = true ∧ wGranted.ex .A ≠ Exec.held ∧
  (wRun.ln .A).dm.cmderr = 0 ∧ (0x101F#16).toNat = 0x1000 + (31 : Fin 32).val ∧ (wHalt id).votes .A = true ∧ (wStrap wExcl).votes .C = false ∧
  (wExcl.hart .C .h0).triggers.length = 4 := by decide
theorem test_wit_DebugModule2 : (wNoPermit.hart .A .h0).triggers[0]? = some (wTrig true 1) ∧ (wNoPermit.hart .A .h0).triggers[3]? = some (wTrig true 0) ∧
  wNoPermit.hartUp .A .h0 = true ∧ (wNoPermit.hart .A .h0).gated = false ∧ wNoPermit.mayHalt .A = true ∧ (wStepping.hart .A .h0).halted = true ∧
  ((wStepping.hart .A .h0).csrRaw csrDcsr).toNat.testBit 2 = true ∧ (∀ i < 16, (wStepping.hart .A .h0).pmpMode i = 0) ∧ (wReplay.ln .B).resumeAt = some 4 ∧
  wReplay.ex .B = Exec.replayCheck ∧ 4 + 2000000000 ≤ wReplay.clk.uptime := by decide

/-! ### Start, supply, update -/

def wPhase (p : Nat) (s : State) : State := put s [(Fld.UPD_START_STATUS_PHASE, p)]
def wPlane (p : Nat) (s : State) : State := { s with plane := { s.plane with st := p } }
/-- A plug of one empty section whose header is well-formed and whose digest is that of no bytes. -/
def wPlugBytes : List Byte := [0x54, 0x56, 0x33, 0x38, 1, 0, 1, 0, 0x70, 1, 0, 0] ++ List.replicate 308 0#8 ++ [1, 0, 0, 0, 0x70, 1, 0, 0] ++ List.replicate 8 0#8 ++ sha256 []
def wPlug (signed : Bool) (scheds : List Sched) : PlugRead := ⟨wPlugBytes, signed, [], { Cfg.none with scheds := scheds }, 0x0A000001⟩
def wPlugPhase : State := wPhase Phase.plug R
def wLoaded (s : State) (p : PlugRead) : State := ((s.setPhase Phase.seal).modSt (fun x => { x with plugOk := true, recAddr := p.recAddr })).loadPlug p
theorem test_wit_StartPhases : R.testMode = false ∧ R.phase = Phase.reset ∧ R.st.powered = true ∧ R.st.contact = false ∧ R.st.overvolt = false ∧ R.st.fromPower = true ∧
  (wPhase Phase.junction R).phase = Phase.junction ∧ R.jmem.fillStart = none ∧ R.junctionCopy = some 0 ∧
  ({ R with st := { R.st with copyA := ⟨false, 1⟩, copyB := ⟨false, 2⟩ } } : State).junctionCopy = none ∧ ({ R with st := { R.st with recover := true } } : State).st.recover = true ∧
  wPlugPhase.phase = Phase.plug ∧ plugCode (wPlug false []) = 2 ∧ plugCode (wPlug true []) = 0 ∧ (wPlane PSt.selftest R).plane.st = PSt.selftest ∧ R.phase ≤ Phase.seal ∧
  (wPhase Phase.seal R).phase = Phase.seal ∧ R.startsWarm = false ∧ ({ R with st := { R.st with kind := some true } } : State).startsWarm = true ∧
  tableOk [] = false ∧ ({ (wPlane PSt.hold R) with st := { R.st with relSent := true } } : State).st.relSent = true := by decide
def wLoad (up : Nat) : State := (List.range 8).foldl (fun t n => t.setReg (Reg.AX_DIGEST_n n) (BitVec.ofNat 32 (leNat (sliceB (sha256 []) (4 * n) 4))))
  (put { (wPlane PSt.hold (wPhase Phase.load R)) with clk := { R.clk with uptime := up }, st := { R.st with
    reports := ⟨some ⟨true, List.replicate 32 0#8, true⟩, some ⟨true, List.replicate 32 0#8, true⟩, none⟩ } } (lanes.map (fun l => (Fld.LC_LANE_STATUS_EXEC l, Exec.loading))))
def wLoad1 : State := { (wLoad 5000000000) with st := { R.st with reports := ⟨some ⟨true, [], true⟩, none, none⟩ } }
theorem test_wit_DigestAgreement : (wLoad 8).loading = true ∧ (wLoad 8).laneDone .C = false ∧ wLoad1.laneDone .B = false ∧ wLoad1.loading = true ∧ wLoad1.st.resuming = false ∧
  wLoad1.startsWarm = false ∧ (wLoad 8).phase = Phase.load ∧ (wLoad 8).testMode = false ∧ (wLoad 8).clk.uptime < 0 + 5000000000 ∧
  0 + 5000000000 ≤ wLoad1.clk.uptime ∧ (wPlane PSt.safe (wLoad 5000000000)).planeAgrees = false := by decide
theorem test_wit_DigestAgreement2 : (wLoad 5000000000).planeAgrees = true ∧ lanes.filter (wLoad 5000000000).laneAgrees = [.A, .B] ∧
  wLoad1.planeAgrees = true ∧ lanes.filter wLoad1.laneAgrees = [] := by decide
theorem test_wit_Restarts : run3.mayWrite A1 Reg.UPD_RESTART = true ∧ run3.testMode = false ∧ run3.mayWrite (.hart .A .h0) Reg.UPD_RESTART = false ∧
  ({ R with st := { R.st with contact := true } } : State).st.contact = true := by decide
def wLow (up : Nat) : State := { run3 with st := { R.st with lowAt := some 4 }, clk := { R.clk with uptime := up } }
def wWarn : State := { (wLow 40000000) with pfWarnAt := some 12000000, lane := ⟨{ LaneSt.fresh with pfCaptured := true }, { LaneSt.fresh with pfCaptured := true }, { LaneSt.fresh with pfCaptured := true }⟩ }
def wCopied : State := { wWarn with st := { wWarn.st with copied := true, overvolt := true } }
theorem test_wit_SupplyEvents : R.st.powered = true ∧ R.st.lowAt = none ∧ (wLow 8).st.lowAt = some 4 ∧ (wLow 8).pfWarnAt = none ∧ (wLow 10000003).clk.uptime < 4 + 10000000 ∧
  4 + 10000000 ≤ (wLow 10000004).clk.uptime ∧ wWarn.pfWarnAt = some 12000000 ∧ wWarn.st.copied = false ∧ (∀ m ∈ lanes, wWarn.votes m = true → (wWarn.ln m).pfCaptured = true) ∧
  wCopied.st.copied = true ∧ wCopied.st.overvolt = true ∧ run3.ex .A ≠ Exec.held ∧ run3.ex .A ≠ Exec.stopped ∧ R.ex .A = Exec.held := by decide
def wFlash (wr : Bool) : State := { run3 with st := { R.st with flashOp := some (.B, wr) } }
def wRec : State := { (wPhase Phase.recovery R) with st := { R.st with tftp := some (true, 1, 512), prog := some (7, 1000) } }
def wRec0 : State := { (wPhase Phase.recovery R) with st := { R.st with tftp := some (false, 65535, 0x4000000 - 512), prog := some (0, 1000) } }
def wJf : State := put run3 [(Fld.UPD_JFLASH_BUSY, 1), (Fld.UPD_JFLASH_LOADED, 1)]
def wJf0 : State := put run3 [(Fld.UPD_JFLASH_BUSY, 1)]
theorem test_wit_Flash : run3.mayWrite A1 Reg.UPD_FLASH_CTRL = true ∧ Lane.ofNat? (wbits 2 Fld.UPD_FLASH_CTRL_LANE) = some .C ∧ run3.st.flashOp = none ∧
  (wFlash true).st.flashOp = some (.B, true) ∧ run3.mayWrite A1 Reg.UPD_JFLASH = true ∧ run3.flag Fld.UPD_JFLASH_BUSY = false ∧ wJf.flag Fld.UPD_JFLASH_BUSY = true ∧
  wJf.flag Fld.UPD_JFLASH_LOADED = true ∧ wJf0.flag Fld.UPD_JFLASH_LOADED = false ∧ wRec.phase = Phase.recovery ∧ wRec.mayWrite .host Reg.UPD_REC_CTRL = true ∧
  wRec.flag Fld.UPD_REC_STATUS_BUSY = false ∧ wRec.st.tftp = some (true, 1, 512) ∧ (2#16).toNat = (1 + 1) % 65536 ∧ 512 + 512 ≤ 0x4000000 ∧
  wRec0.st.tftp = some (false, 65535, 0x4000000 - 512) ∧ (0#16).toNat = (65535 + 1) % 65536 ∧ (0x4000000 - 512) + 512 ≤ 0x4000000 ∧
  wRec.st.prog = some (7, 1000) ∧ wRec0.st.prog = some (0, 1000) ∧ wRec.st.plugOk = false ∧ bitOf 5 Lane.B.num = false := by decide
def wImage (budget : Nat) : LaneImage := ⟨0x10002, 1, 4096, 256, 512, 0, 0, 0, budget, [], []⟩
/-- Every lane holds an image with this migration budget staged. -/
def wStaged (budget : Nat) : State := { wCyc1 with st := { R.st with stagedImg := Tri.all (some (wImage budget)) } }
def wStagedBusy : State := put (wStaged 100) [(Fld.VT_READMIT_STATUS_PHASE, 2)]
def wStagedChg : State := { (wStaged 100) with chg := { run3.chg with block := some wBlock } }
def wActPend : State := { (wStaged 100) with st := { (wStaged 100).st with act := some ⟨9, 11, 0x10002, true, ⟨true, false, false⟩⟩ } }
def wReady : State := put run3 [(Fld.DX_STATUS_STATE, DSt.ready)]
theorem test_wit_Activation : run3.mayWrite A1 Reg.UPD_ACT_CTRL = true ∧ run3.stagedImage = none ∧ (wStaged 1501).stagedImage = some (wImage 1501) ∧ 1500 < (wImage 1501).budget ∧
  (wStaged 100).stagedImage = some (wImage 100) ∧ (wImage 100).budget ≤ 1500 ∧ ((wStaged 100).actKr 9 100 - 9) * (wStaged 100).tCycle ≤ 2000000 ∧ wStagedBusy.readmitPhase ≠ 0 ∧
  (wStaged 100).readmitPhase = 0 ∧ wStagedChg.chg.block ≠ none ∧ (wStaged 100).chg.block = none ∧ (wStaged 100).flag Fld.DX_CFG_DUPLEX = false ∧ wActPend.st.act ≠ none ∧
  (wStaged 100).st.act = none ∧ (wStaged 100).mayWrite A1 Reg.UPD_ACT_CTRL = true ∧ wActPend.st.stagedImg.get .B = some (wImage 100) ∧ wActPend.votes .B = true ∧
  wReady.dst = DSt.ready ∧ wReady.st.act = none := by decide

/-! ### Rings, sleep and wake -/

/-- A ring unit X in a state of R234, enabled, cycle 1 ms with the launch at 100 jc, in cycle 5. -/
def wRg (st : Nat) (g : RingSt → RingSt) : State := (put (wCyc true 5900000) [(Fld.SX_LAUNCH_JC, 100), (Fld.SX_CS_CFG_EN .X, 1), (Fld.SX_CS_CFG_LOSS_CYCLES .X, 3),
  (Fld.SX_CS_STATUS_STATE .X, st), (Fld.SX_PATH_DELAY_VALUE .X, 1000)]).modRg .X g
def wSent (c : Nat) (g : RingSt) : RingSt := { g with sent := some ⟨c, [0#8], [], [], 0, [0#8], false⟩ }
def wLead (c : Nat) : State := wRg RSt.lead (wSent c)
def wLeadFrom (t0 : Nat) : State := wRg RSt.lead (fun g => { g with launchFrom := some t0 })
def wLeadSleep : State := wRg RSt.lead (fun g => { wSent 4 g with sleepAt := some 6 })
def wLeadHeal : State := wRg RSt.lead (fun g => { wSent 4 g with healing := true })
def wFollow (st : Nat) : State := wRg st (fun g => { g with eLoss := true, wLoss := true, sleepAt := some 5 })
def wPowerDown : State := { (wRg RSt.sleep id) with cyc := { run3.cyc with running := false }, st := { R.st with sleepFrom := some 4 }, lane := wWarn.lane }
def wAsleep (led anchored : Bool) (missed : Nat) : State := wRg RSt.sleep (fun g => { g with led := led, anchored := anchored, missed := missed, sleepNs := 5000000 })
theorem test_wit_SleepEntry : (wLead 5).mayWrite A1 (Reg.SX_INAUG_CTRL .X) = true ∧ (wLead 5).rst .X = RSt.lead ∧ (wLead 5).ringEn .X = true ∧
  ((wLead 5).clk.net - 4 * (wLead 5).rd Fld.SX_LAUNCH_JC) / (wLead 5).tCycle = 5 ∧ ((wLeadFrom 6000000).rg .X).launchFrom = some 6000000 ∧
  5 * (wLeadFrom 6000000).tCycle < 6000000 ∧ ((wLeadFrom 5000000).rg .X).launchFrom = some 5000000 ∧ (wLead 4).rst .X = RSt.lead ∧
  (wLeadSleep.rg .X).sleepAt = some 6 ∧ wLeadSleep.phase = Phase.run ∧ wLeadSleep.st.sleepFrom = none ∧ (wLeadHeal.rg .X).healing = true ∧ ((wLead 4).rg .X).healing = false ∧
  ((wLead 4).rg .X).sent = some ⟨4, [0#8], [], [], 0, [0#8], false⟩ ∧ (wFollow RSt.sync).rst .X = RSt.sync ∧ ((wFollow RSt.sync).rg .X).eLoss = true ∧ ((wFollow RSt.sync).rg .X).wLoss = true ∧
  ((wFollow RSt.sync).rg .X).sleepAt = some 5 ∧ 5 * (wFollow RSt.sync).tCycle ≤ (wFollow RSt.sync).clk.net := by decide
theorem test_wit_SleepEntry2 : wPowerDown.st.sleepFrom ≠ none ∧ wPowerDown.cyc.running = false ∧ (∀ l ∈ lanes, wPowerDown.votes l = true → (wPowerDown.ln l).pfCaptured = true) ∧
  (wAsleep true false 0).rst .X = RSt.sleep ∧ ((wAsleep true false 0).rg .X).led = true ∧
  ((wAsleep true false 0).rg .X).sleepNs + 10000000 * 0 + 4 * (wAsleep true false 0).rd Fld.SX_LAUNCH_JC ≤ (wAsleep true false 0).clk.net ∧
  ((wAsleep false false 3).rg .X).led = false ∧ ((wAsleep false true 3).rg .X).anchored = true ∧ ((wAsleep false true 3).rg .X).missed = 3 ∧
  (wAsleep false true 3).rd Fld.TB_CFG_WALL_SRC ≠ 0 := by decide
def wWake (g : RingSt → RingSt) : State := { (put (wRg RSt.sleep g) [(Fld.JC_MOD_STATUS_SLEEP, 1), (Fld.UPD_START_STATUS_PHASE, 9), (Fld.SX_CS_CFG_WAKE_EN .X, 1), (lockFld .B, 1)]) with
  wakeReq := true, clk := { R.clk with net := 5900000, uptime := 100000004 } }
def wWakeHeld : State := put (wWake id) [(Fld.SX_CS_CFG_WAKE_EN .X, 0)]
def wWakeLed : State := wWake (fun g => { g with led := true, wakeAt := some 4 })
def wWakeYoung : State := wWake (fun g => { g with wakeAt := some 8 })
def wResume : State := wWake (fun g => { g with led := true, resumeAt := some 5900000, keepDelay := 77 })
def wResumeU : State := wWake (fun g => { g with led := false, resumeAt := some 5900000 })
theorem test_wit_WakeAndResume : (wWake id).mayWrite A1 (Reg.SX_INAUG_CTRL .X) = true ∧ (wWake id).rst .X = RSt.sleep ∧ (wWake id).rd Fld.JC_MOD_STATUS_SLEEP = 1 ∧
  (wWake id).wakeReq = true ∧ (wWake id).ringEn .X = true ∧ (wWake id).flag (Fld.SX_CS_CFG_WAKE_EN .X) = true ∧ wWakeHeld.flag (Fld.SX_CS_CFG_WAKE_EN .X) = false ∧
  wWakeHeld.ringEn .Y = false ∧ (wWakeLed.rg .X).led = true ∧ (wWakeLed.rg .X).resumeAt = none ∧ ((wWake id).rg .X).led = false ∧ (wResume.rg .X).resumeAt = some 5900000 ∧
  5900000 ≤ wResume.clk.net ∧ wResume.phase = 9 ∧ (wWakeLed.rg .X).wakeAt = some 4 ∧ 4 + 100000000 ≤ wWakeLed.clk.uptime ∧ (wWakeYoung.rg .X).wakeAt = some 8 ∧
  wWakeYoung.clk.uptime < 8 + 100000000 ∧ wResume.pllLocked .B = true ∧ (wWakeLed.rg .Y).resumeAt = none := by decide
def wRef (src : Nat) : State := put (wRg RSt.sync id) [(Fld.TB_STATUS_NET_SRC, src)]
def wOscOff (st : Nat) : State := { run3 with plane := { R.plane with osc := false, st := st, lines := 5 } }
theorem test_wit_DeviceFaults : (3 : Fin 4).val < R.fq.length ∧ R.ej2Down = false ∧ (wRef 0).rd Fld.TB_STATUS_NET_SRC < 2 ∧ 2 ≤ (wRef 2).rd Fld.TB_STATUS_NET_SRC ∧
  (20000#16).toInt = 20000 ∧ (0xB1E0#16).toInt = -20000 ∧ 20000 < (20001#16).toInt ∧ (wOscOff PSt.run).plane.osc = false ∧ PSt.selftest ≤ (wOscOff PSt.run).plane.st ∧
  (wOscOff PSt.safe).plane.st = PSt.safe := by decide

/-! ### Schedules, frames, containers -/

/-- A shadow schedule that passes the checks of a looped module. -/
def wShadow : State := put (wRg RSt.sync id) [(Fld.SX_CFG_LOOP .X, 1), (Fld.SX_SH_SCHED_ID_ID, 77), (Fld.SX_SH_LEN4_LEN4, 16), (Fld.SX_SH_LAUNCH_JC, 100),
  (Fld.SX_SH_T_IN_JC, 1000), (Fld.SX_SH_T_COM_JC, 100000), (Fld.SX_CONN_n_STAT_READY 5, 1), (Fld.SX_CONN_n_STAT_READY 1023, 1)]
def wPendSched (at_ : Option Nat) (leader : Nat) : State := { (put wShadow [(Fld.SX_SCHED_CTRL_BASTE_PENDING, 1), (Fld.SX_STATUS_LEADER .X, leader)]) with annAt := at_ }
theorem test_wit_Schedules : wShadow.mayWrite A1 Reg.SX_SCHED_CTRL = true ∧ wbits 0 Fld.SX_SCHED_CTRL_CANCEL = 0 ∧ wbits 0 Fld.SX_SCHED_CTRL_COMMIT = 0 ∧
  wShadow.rd Fld.SX_SCHED_CTRL_BASTE_PENDING = 0 ∧ (wPendSched none 0).rd Fld.SX_SCHED_CTRL_BASTE_PENDING = 1 ∧ (wPendSched (some 9) 1).flag (Fld.SX_STATUS_LEADER .X) = true ∧
  (wPendSched (some 9) 1).annAt = some 9 ∧ (wPendSched (some 5) 0).annAt = some 5 ∧ 5 ≤ (wPendSched (some 5) 0).kNow ∧ (wPendSched (some 9) 1).kNow < 9 ∧
  wShadow.mayWrite A1 (Reg.SX_CONN_n_STAT 1023) = true ∧ wShadow.flag (Fld.SX_CONN_n_STAT_READY 1023) = true ∧ wShadow.flag (Fld.SX_CONN_n_STAT_READY 1022) = false := by decide
theorem test_sched_good : wShadow.shadowFig.failure wShadow.cfg 0 wShadow.chWord true false (some 0) = none ∧
  run3.shadowFig.failure run3.cfg 0 run3.chWord false false (some 0) = some 1 := by decide
def wMac : State := { (put run3 [(Fld.SX_CONN_n_CFG_MAC 5, 1), (Fld.SX_CONN_n_CFG_EN 5, 1)]) with
  macQ := [⟨5, List.replicate 8 1#8 ++ leBytes 4 (safeCheck 0 (List.replicate 8 1#8)).toNat ++ List.replicate 8 0#8, 0, 0⟩, ⟨6, [], 0, 0⟩] }
theorem test_wit_MacCheck : (wMac.macQ.map (·.conn)) = [5, 6] ∧ wMac.flag (Fld.SX_CONN_n_CFG_MAC 5) = true ∧ wMac.connP 5 = 0 ∧
  (∀ j ∈ wMac.macQ, j.conn = 5 → j.msg.length = 0 + 20 ∧ leNat ((j.msg.drop 8).take 4) = (safeCheck (wMac.reg (Reg.SX_CONN_n_ID 5)) (j.msg.take 8)).toNat ∧
    j.msg.drop 12 ≠ wMac.safeMac 5 (j.msg.take 12)) := by decide
def wHdr (ok : Bool) (type flags cycle : Nat) (id : Word) : FrameHdr := ⟨ok, false, 0, type, flags, 1, 2, cycle, id, 0, 0, List.replicate 8 0#8⟩
/-- Frame 5 in passage, of the schedule in use. -/
def wCur : FrameIn := ⟨wHdr true 1 0 5 77, 0, 5002000, .used, true, true⟩
/-- The unit in a state with frame 5 in passage; entry 1 reads index 3, entries 2 and 255 write. -/
def wFrame (st : Nat) (last : Option (Nat × Nat × Int)) : State := put (wRg st (fun g => { g with cur := some wCur, last := last, seenPrev := [2] }))
  [(Fld.SX_SLOT_n_A_EN 1, 1), (Fld.SX_SLOT_n_A_INDEX 1, 3), (Fld.SX_SLOT_n_A_EN 2, 1), (Fld.SX_SLOT_n_A_DIR 2, 1), (Fld.SX_SLOT_n_A_SOURCE 2, 3), (Fld.SX_SLOT_n_B_LEN4 2, 2),
   (Fld.SX_SLOT_n_A_EN 255, 1), (Fld.SX_SLOT_n_A_DIR 255, 1), (Fld.SX_SLOT_n_A_SOURCE 255, 2), (Fld.SX_SCHED_ID_VALUE, 77), (Fld.DX_STATUS_STATE, DSt.single)]
/-- An integrating unit in frame 5 of schedule 77 with a valid hop delay, frame 4 seen; the plug holds schedule 77 or not. -/
def wSelect (held : Bool) (first : Option (Nat × Nat)) : State := { (put (wRg RSt.integrating (fun g => { g with cur := some wCur, first := first }))
  [(Fld.SX_CS_STATUS_DELAY_VALID .X, 1)]) with cfg := { Cfg.none with scheds := if held then [⟨77, 8, 8, 100, 1, 0, 5, 9, [9], [], [], 10, 1000⟩] else [] } }
/-- The leader with frame 5 launched, its entries 2 and 255 writing. -/
def wLeadFrame : State := put (wLead 5) [(Fld.SX_SLOT_n_A_EN 2, 1), (Fld.SX_SLOT_n_A_DIR 2, 1), (Fld.SX_SLOT_n_A_SOURCE 2, 3), (Fld.SX_SLOT_n_A_EN 255, 1),
  (Fld.SX_SLOT_n_A_DIR 255, 1), (Fld.SX_SLOT_n_A_SOURCE 255, 2), (Fld.DX_STATUS_STATE, DSt.single)]
/-- The frame's expected arrival, 5001400 ns into network time, is now. -/
def wExpect (st : Nat) : State := { (put (wRg st (fun g => { g with expK := 5 })) [(Fld.SX_SCHED_ID_VALUE, 77)]) with clk := { R.clk with net := 5001400 } }
def wMissed (st missed : Nat) : State := wRg st (fun g => { g with missed := missed, expK := 5 })
theorem test_wit_FramePassage : (wExpect RSt.sync).rst .X = RSt.sync ∧ (wExpect RSt.sync).nearestK .X = 5 ∧ (wExpect RSt.sync).tExp .X 5 = 5001400 ∧
  within (wExpect RSt.sync).clk.net 5001400 2000 = true ∧ within (wRg RSt.sync id).clk.net 5001400 2000 = false ∧ (wExpect RSt.sync).reg Reg.SX_SCHED_ID = 77 ∧
  (wExpect RSt.lead).rst .X = RSt.lead ∧ bitOf 0 2 = false ∧ ((wExpect RSt.sync).rg .X).fold = 0 := by decide
theorem test_wit_FramePassage2 : ((wFrame RSt.sync none).rg .X).cur = some wCur ∧ entEn ((wFrame RSt.sync none).entry 1) = true ∧
  entWrite ((wFrame RSt.sync none).entry 1) = false ∧ slotClass 5 3 [1, 2] (~~~ (slotCheck 5 3 [0, 0])) = 2 ∧ slotClass 5 3 [1, 2] 0 = 3 ∧
  slotClass 5 3 [1, 2] (slotCheck 5 3 [1, 2]) = 0 ∧ slotClass 5 3 [1, 2] (slotCheck 4 3 [1, 2]) = 1 ∧ (wFrame RSt.sync none).ringReads .X = true ∧ (wFrame RSt.unsync none).ringReads .X = false ∧
  ((wFrame RSt.sync none).slotOut .X 255 5 false).isSome = true ∧ ((wFrame RSt.sync none).slotOut .X 2 5 true).isSome = true := by decide
theorem test_wit_FramePassage3 : ((wFrame RSt.unsync (some (4, 4002000, 100))).rg .X).last = some (4, 4002000, 100) ∧ 5 = (4 + 1) % 2 ^ 32 ∧
  (5001100 + 1000 : Int) - 5002000 - 100 = 0 ∧ (wFrame RSt.unsync (some (4, 4002000, 100))).rateOk = true ∧ (wMissed RSt.sync 0).awaits .X = true ∧
  (wMissed RSt.sync 0).ringEn .X = true ∧ (wMissed RSt.sync 0).tExp .X 5 + 2000 ≤ (wMissed RSt.sync 0).clk.net ∧ (wMissed RSt.sync 0).rd (Fld.SX_CS_CFG_LOSS_CYCLES .X) = 3 ∧
  (wMissed RSt.sync 2).ringEn .Y = false ∧ ((wExpect RSt.sync).rg .X).expK = 5 ∧ (wExpect RSt.sync).clk.net < (wExpect RSt.sync).tExp .X 5 + 2000 := by decide
def wTx (kind : Nat) : TxMsg := ⟨7, 4, 9, kind, [1], 0, 0⟩
def wRx : RxMsg := ⟨3, false, 1, 0, 1, [1]⟩
def wCont (len : Nat) (tx : List TxMsg) (rx claimed : Nat) : State :=
  put (wRg RSt.sync (fun g => { g with cur := some wCur, txq := tx, rxq := List.replicate rx wRx, claimed := claimed, seenPrev := [2] })) [(Fld.SX_TXC_HDR_LEN .X, len), (Fld.SX_TXC_HDR_DEST .X, 9), (Fld.SX_CFG_ADDR .X, 4), (Fld.SX_CFG_CLAIM_MAX .X, 2)]
def wBox (index mark dest kind : Nat) (ok : Bool) : Container := ⟨index, ok, mark, 3, dest, 1, 0, kind, [1, 2]⟩
theorem test_wit_Containers : (wCont 52 [] 0 0).mayWrite A1 (Reg.SX_TXC_CTRL .X) = true ∧ wbits 0 (Fld.SX_TXC_CTRL_FLUSH .X) = 0 ∧ wbits 0 (Fld.SX_TXC_CTRL_SUBMIT .X) = 0 ∧
  ((wCont 52 (List.replicate 15 (wTx 1)) 0 0).rg .X).queued = 15 ∧ wbits 0x7FFF (Fld.SX_TXC_CTRL_KIND .X) = 0x7FFF ∧ (wCont 52 [] 0 0).rd (Fld.SX_TXC_HDR_LEN .X) = 52 ∧
  ((wCont 52 (List.replicate 16 (wTx 1)) 0 0).rg .X).queued = 16 ∧ (wCont 0 [] 0 0).rd (Fld.SX_TXC_HDR_LEN .X) = 0 ∧ (wCont 52 [] 0 0).mayWrite A1 (Reg.SX_RXC_CTRL .X) = true ∧
  ((wCont 1 [wTx 1] 31 1).rg .X).claimed < (wCont 1 [wTx 1] 31 1).rd (Fld.SX_CFG_CLAIM_MAX .X) ∧ (wCont 1 [wTx 1] 31 2).rd (Fld.SX_CFG_CLAIM_MAX .X) ≤ 2 ∧
  (wCont 1 [] 32 0).rd (Fld.SX_CFG_ADDR .X) = 4 ∧ ((wCont 1 [] 31 0).rg .X).rxq.length = 31 ∧ ((wCont 1 [] 32 0).rg .X).rxq.length = 32 ∧ 2 ∈ ((wCont 1 [] 32 0).rg .X).seenPrev ∧
  3 ∉ ((wCont 1 [] 32 0).rg .X).seenPrev := by decide
def wDirect (lost : Bool) (inn : List DirectOut) : State := { (run3.modLn .A (fun n => { n with cmdLink := true })).modLn .C (fun n => { n with cmdLink := true }) with
  directIn := inn, directQ := [⟨1, 0, 5, [(8, true)]⟩, ⟨2, 0, 5, []⟩, ⟨2, 1, 5, [(17, false)]⟩]
  fq := List.replicate 4 { FqSt.none with lost := lost, member := some ⟨true, true, true⟩, msg := some ⟨⟨true, true, true⟩, false, [], List.replicate 8 0, []⟩ } }
theorem test_wit_Direct : (∀ d ∈ (wDirect false []).directIn, d.q ≠ 2) ∧ (wDirect false []).directQ.find? (fun x => x.q == 2) = some ⟨2, 0, 5, []⟩ ∧
  (wDirect false [⟨1, 0, 5, [(15, true)]⟩]).directIn.find? (fun d => d.q == 1) = some ⟨1, 0, 5, [(15, true)]⟩ ∧ ((wDirect true []).fqAt 1).lost = true ∧
  ((wDirect false []).fqAt 1).lost = false ∧ ((wDirect false []).fqAt 1).member ≠ none ∧ getAt 3 (List.replicate 8 0) (15 % 8) ≠ 3 ∧ bitOf (0#8).toNat (15 % 8) = false ∧
  2 ≤ ((wDirect false []).directLanes 1 (Tri.all false)).length ∧ ((wDirect false []).fqAt 1).cmd.length = 8 ∧ 1 < (wDirect false []).fq.length := by decide

/-! ### Cold start, hem, field I/O -/

/-- Unit X of module 4, rank 2, with a valid hop delay, in a state since uptime 0. -/
def wCold (st rank up : Nat) (g : RingSt → RingSt) : State := { (put (wRg st g) [(Fld.SX_CS_CFG_RANK .X, rank), (Fld.SX_CFG_ADDR .X, 4), (Fld.SX_CS_STATUS_DELAY_VALID .X, 1)]) with
  clk := { R.clk with uptime := up } }
def wCensusSched : Sched := ⟨7, compDigest 1 [9], 8, 100, 1, 0, 5, 4, [9], [100, 100], [], 10, 1000⟩
def wCensus (at_ : Option Nat) : State := { (wCold RSt.leadCensus 2 100000004 (fun g => { g with census := at_ })) with cfg := { Cfg.none with scheds := [wCensusSched] } }
def wClaim (source rank nonce : Nat) : ClaimFrm := ⟨true, false, 0, source, rank, nonce⟩
theorem test_wit_ColdStart : (wCold RSt.listen 2 300000 id).rst .X = RSt.listen ∧ (wCold RSt.listen 2 300000 id).rd (Fld.SX_CS_CFG_RANK .X) = 2 ∧
  (wCold RSt.listen 2 300000 id).ringEn .Y = false ∧ ((wCold RSt.listen 2 300000 id).rg .X).withdrawn = false ∧ (wCold RSt.listen 2 300000 id).addrClash = false ∧
  0 + listenNs 2 ≤ 300000 ∧ 299999 < 0 + listenNs 2 ∧ (wCold RSt.backoff 2 78000 id).rst .X = RSt.backoff ∧ 0 + backoffNs 2 4 ≤ 78000 ∧
  (wCold RSt.listen 2 300000 id).rd (Fld.SX_CS_STATUS_DELAY_VALID .X) = 1 ∧ (wClaim 4 2 77).source = (wCold RSt.claiming 2 4 id).rd (Fld.SX_CFG_ADDR .X) ∧
  ((wCold RSt.claiming 2 4 (fun g => { g with nonce := some 77 })).rg .X).nonce = some 77 ∧ ((wCold RSt.claiming 2 4 id).rg .X).nonce ≠ some 77 ∧
  (wClaim 9 1 0).source ≠ 4 ∧ (wClaim 9 1 0).rank < 2 ∧ (wClaim 3 2 0).source < 4 ∧ ((wCold RSt.claiming 2 4 (fun g => { g with clash := true })).rg .X).clash = true ∧
  (wCold RSt.listen 0 4 id).rd (Fld.SX_CS_CFG_RANK .X) = 0 := by decide
theorem test_wit_Census : (wCensus (some 4)).rd (Fld.SX_CS_STATUS_W_OPEN .X) = 0 ∧ (wCensus none).rst .X = RSt.leadCensus ∧ ((wCensus none).rg .X).census = none ∧ 0 + 100000 ≤ (wCensus none).clk.uptime ∧
  ((wCensus (some 4)).rg .X).census = some 4 ∧ 4 + 100000000 ≤ (wCensus (some 4)).clk.uptime ∧ (wCensus (some 4)).schedOfComp (compDigest 1 [9]) = some (0, wCensusSched) ∧
  (wCensus (some 4)).schedOfComp (compDigest 0 []) = none ∧ wCensusSched.entries = [] ∧ 2000 ≤ 4 * (planFig wCensusSched).dRing + 2000 ∧
  4 * (planFig wCensusSched).dRing + 2000 < 100000 ∧ (wCensus (some 4)).ringEn .X = true := by decide
def wHop (st up eOpen wOpen : Nat) (g : RingSt → RingSt) : State := put (wCold st 2 up g) [(Fld.SX_CS_STATUS_E_OPEN .X, eOpen), (Fld.SX_CS_STATUS_W_OPEN .X, wOpen), (Fld.SX_STATUS_LEADER_ADDR .X, 9)]
def wAns : State := wHop RSt.sync 1000 0 0 (fun g => { g with answer := some 1000, probe := some 0, openAt := some 968, eLoss := true, wLoss := true })
def wAnsFo : State := put wAns [(Fld.SX_PORT_STATUS_E_FO_FRAME .X, 1)]
def wLate : State := wHop RSt.sync 100000 1 1 (fun g => { g with probe := some 0, openAt := some 99969 })
def wLeader : State := put (wHop RSt.lead 100000 1 0 (fun g => { g with probe := some 89999 })) [(Fld.SX_STATUS_LEADER .X, 1)]
theorem test_wit_HopDelays : wAns.rst .X ≠ RSt.disabled ∧ wAns.rd (openFld .X true) = 0 ∧ wLate.rd (openFld .X false) = 1 ∧ R.rst .X = RSt.disabled ∧
  (wAns.rg .X).answer = some 1000 ∧ wAns.clk.uptime = 1000 ∧ wAns.rd (Fld.SX_PORT_STATUS_E_FO_FRAME .X) = 0 ∧ wAnsFo.rd (Fld.SX_PORT_STATUS_E_FO_FRAME .X) = 1 ∧
  (wAns.rg .X).probe = some 0 ∧ (wLate.rg .X).probe = some 0 ∧ 0 + 100000 ≤ wLate.clk.uptime ∧ 0 + 10000 < wLate.clk.uptime ∧ 968 + 32 ≤ wAns.clk.uptime ∧
  (wLate.rg .X).openAt = some 99969 ∧ wLate.clk.uptime < 99969 + 32 ∧ (wLate.rg .X).eLoss = false ∧ wLate.healAddr .X = 9 ∧ wLeader.healAddr .X = 4 ∧
  wLeader.mayWrite A1 (Reg.SX_INAUG_CTRL .X) = true ∧ wLeader.flag (Fld.SX_STATUS_LEADER .X) = true ∧ wLate.flag (Fld.SX_STATUS_LEADER .X) = false := by decide
/-- Channel 16, an output, in a protection state at uptime 200 ms. -/
def wStage (st : Nat) (drv : Bool) (c : FieldCh) : State := { (put run3 [(Fld.FIO_CH_n_CFG_DIR 16, 2), (Fld.FIO_CH_n_STAT_OSTATE 16, st), (Fld.FIO_CH_n_CFG_PERMIT_REQ 16, 1)]) with
  clk := { R.clk with uptime := 200000000 }, fld := { R.fld with chs := R.fld.chs.set 16 c }, plane := { R.plane with lines := 0x10000 }
  fq := R.fq.set 2 { FqSt.none with cmd := List.replicate 8 drv, drive := true, claimValid := true } }
def wTrip (retry : Nat) (hot : Bool) (at_ : Nat) : State := put (wStage OSt.tripped true { FieldCh.idle with tripAt := some at_, hot := hot, permit := true })
  [(Fld.FIO_CH_n_FLT_RETRY 16, retry), (Fld.FIO_CH_n_STAT_TRIPPED 16, 1)]
def wLimit (at_ : Nat) : State := wStage OSt.limit true { FieldCh.idle with limitAt := some at_, permit := true, boostAt := some 200000000, dischAt := some 200000000 }
theorem test_wit_StageProtection : R.fld.chs.length = 32 ∧ (wStage OSt.on true FieldCh.idle).ost 16 = OSt.on ∧ (wLimit 190000000).ost 16 = OSt.limit ∧
  ((wLimit 190000000).fch 16).limitAt = some 190000000 ∧ 190000000 + 10000000 ≤ (wLimit 190000000).clk.uptime ∧ (wLimit 190000001).clk.uptime < 190000001 + 10000000 ∧
  ((wTrip 1 false 100000000).fch 16).tripAt = some 100000000 ∧ (wTrip 1 false 100000000).ost 16 = OSt.tripped ∧ (wTrip 1 false 100000000).flag (Fld.FIO_CH_n_FLT_RETRY 16) = true ∧
  100000000 + 100000000 ≤ (wTrip 1 false 100000000).clk.uptime ∧ ((wTrip 1 true 0).fch 16).hot = true ∧ (wTrip 0 false 0).flag (Fld.FIO_CH_n_FLT_RETRY 16) = false ∧
  (wTrip 0 false 0).mayWrite A1 (Reg.FIO_CH_n_CTRL 16) = true ∧ ((wTrip 0 false 0).fch 16).hot = false ∧ (wTrip 1 false 100000000).clk.uptime < 100000001 + 100000000 := by decide
theorem test_wit_StageProtection2 : ((wLimit 190000000).fch 16).boostAt = some 200000000 ∧ (wLimit 190000000).clk.uptime = 200000000 ∧ ((wLimit 190000000).fch 16).dischAt = some 200000000 ∧
  bitOf (wLimit 0).plane.lines.toNat 16 = true ∧ ((wLimit 0).fch 16).permit = true ∧ ((wStage OSt.off true FieldCh.idle).fch 16).permit = false ∧
  (wStage OSt.off true { FieldCh.idle with permit := true }).driven 16 = true ∧ (wStage OSt.on false { FieldCh.idle with permit := true }).driven 16 = false := by decide
/-- A working set and a shadow set with every gain 1.0 and tick times of 100 µs and `tau` µs; channel 0 an input and channel 16 an output. -/
def wFio (tau : Nat) : State := put ((List.range 4).foldl (fun t q => (t.setReg (Reg.FIO_SUP_q_CAL q) 0x80000000#32).setReg (Reg.FIO_SH_SUP_q_CAL q) 0x80000000#32)
  ((List.range 32).foldl (fun t n => (((t.setReg (Reg.FIO_CH_n_CALV n) 0x80000000#32).setReg (Reg.FIO_CH_n_CALI n) 0x80000000#32).setReg
    (Reg.FIO_SH_CH_n_CALV n) 0x80000000#32).setReg (Reg.FIO_SH_CH_n_CALI n) 0x80000000#32)
    { run3 with clk := { R.clk with uptime := 200000000 } }))
  [(Fld.FIO_CH_n_CFG_DIR 0, 1), (Fld.FIO_CH_n_CFG_DIR 16, 2), (Fld.FIO_TICK_US, 100), (Fld.FIO_SH_TICK_US, tau), (Fld.FIO_CH_n_FLT_N 0, 15),
    (Fld.FIO_CH_n_STAT_COUNT 0, 15), (Fld.FIO_CH_n_STAT_FILT 0, 1)]
def wFioPend (tau : Nat) (ticked : Bool) : State := put { (wFio tau) with fld := { R.fld with ticked := ticked, lastTick := 200000000 } } [(Fld.FIO_CTRL_BASTE_PENDING, 1)]
def wLostQ : State := { (wFio 1000) with fq := R.fq.set 0 { FqSt.none with lost := true } }
theorem test_wit_FieldSampling : (wFio 1000).isSealed = true ∧ (wFio 1000).ej2Down = false ∧ (wFio 1000).fld.tickAt ≤ (wFio 1000).clk.uptime ∧
  (wFio 1000).isInput 0 = true ∧ ((wFio 1000).fqAt 0).lost = false ∧ (wLostQ.fqAt 0).lost = true ∧ (wFio 1000).mayWrite A1 (Reg.FIO_CAP_m_CTRL 3) = true ∧
  (wFio 1000).rd (Fld.FIO_CAP_m_CTRL_OWNER 3) ≠ 3 ∧ (put (wFio 2) [(Fld.FIO_CAP_m_CTRL_OWNER 0, 3)]).rd (Fld.FIO_CAP_m_CTRL_OWNER 0) = 3 ∧
  (wFio 2).fld.measN < (wFio 2).clk.uptime / 1000000 ∧ (wFio 2).mayWrite A1 Reg.FIO_CTRL = true := by decide
theorem test_wit_FieldSampling2 : (wFioPend 1000 true).fioShadowCheck = none ∧ (wFioPend 1001 true).fioShadowCheck = some 2 ∧ (wFioPend 2 true).fioShadowCheck = none ∧
  (wFioPend 1 false).fioShadowCheck = some 2 ∧ (wFioPend 2 true).rd Fld.FIO_CTRL_BASTE_PENDING = 1 ∧ (wFioPend 2 true).fld.ticked = true ∧ (wFioPend 2 true).fld.lastTick = (wFioPend 2 true).clk.uptime ∧ (wFio 2).fld.lastTick ≠ (wFio 2).clk.uptime ∧
  (wFioPend 2 false).fld.ticked = false := by decide
/-- Group states at uptime 200 ms: every supply monitor in `x`. -/
def wSup (x : SupSt) : State := { (wFio 100) with fld := { R.fld with sups := List.replicate 4 x, supN := 1999 } }
def wSup2 (a b : SupSt) : State := { (wFio 100) with fld := { R.fld with sups := [a, b, b, b], supN := 2000 } }
def wSagging : SupSt := ⟨GSt.sag, 20, 0, false, 0⟩
def wReadyCut : State := put (wSup ⟨GSt.cut, 21, 0, true, 1⟩) [(Fld.FIO_GRP_m_STAT_READY 1, 1), (Fld.FIO_CH_n_STAT_OSTATE 16, OSt.cut)]
theorem test_wit_SupplyGroups : (wSup wSagging).fld.sups.length = 4 ∧ (wSup wSagging).isSealed = true ∧ (wSup wSagging).fld.supN < (wSup wSagging).clk.uptime / 100000 ∧
  ((wSup wSagging).fqAt 3).lost = false ∧ ((wSup wSagging).sup 3).st = GSt.sag ∧ 0 < (wSup wSagging).uCut (fqGroup 3) ∧ 20 ≤ ((wSup wSagging).sup 3).low ∧
  (wSup wSagging).wideOutput = false ∧ ((wSup ⟨GSt.normal, 0, 0, false, 0⟩).sup 0).st = GSt.normal ∧ (wSup2 wSagging wSagging).clk.uptime / 100000 ≤ (wSup2 wSagging wSagging).fld.supN ∧
  ((wSup2 ⟨GSt.cut, 21, 0, false, 1⟩ wSagging).sup 0).st = GSt.cut ∧ ((wSup2 ⟨GSt.cut, 21, 0, false, 1⟩ wSagging).sup 1).st ≠ GSt.cut ∧
  ((wSup2 wSagging ⟨GSt.cut, 21, 0, false, 1⟩).sup 1).st = GSt.cut ∧ wReadyCut.mayWrite A1 Reg.FIO_GRP_ACK = true ∧ bitOf (2#32).toNat 1 = true ∧
  wReadyCut.rd (Fld.FIO_GRP_m_STAT_READY 1) = 1 ∧ wReadyCut.rd (Fld.FIO_GRP_m_STAT_READY 0) ≠ 1 ∧ wReadyCut.ost 16 = OSt.cut := by decide

/-! ### Plane and duplex -/

/-- The plane in a state with a table of zeros (no element, every permit a constant). -/
def wPl (st : Nat) (bad : Word) (up : Nat) : State := { run3 with clk := { R.clk with uptime := up }, plane := { R.plane with st := st, table := List.replicate 4672 0, osc := true, bad := bad, reg := 5, heardAt := 4 } }
def wSilent (up : Nat) : State := put (wPl PSt.run 0 up) [(Fld.AX_STATUS_STATE, PSt.run), (Fld.DX_STATUS_STATE, DSt.active)]
def wStatus : State := { (wPl PSt.run 0 77) with plane := { (wPl PSt.run 0 77).plane with sent := true, evals := 4294967301 } }
theorem test_wit_PlaneLink : PSt.hold ≤ (wPl PSt.run 3 0).plane.st ∧ (wPl PSt.run 3 0).plane.osc = true ∧ (wPl PSt.run 3 0).plane.table ≠ [] ∧
  (wPl PSt.run 3 0).plane.st = PSt.run ∧ 6#32 &&& (wPl PSt.run 3 0).plane.bad ≠ 0 ∧ 4#32 &&& (wPl PSt.run 3 0).plane.bad = 0 ∧ (wPl PSt.hold 3 0).plane.st ≠ PSt.run ∧
  R.plane.st < PSt.hold ∧ (wPl PSt.hold 3 0).plane.st = PSt.hold ∧ wStatus.plane.sent = true ∧ R.plane.sent = false ∧ (wSilent 10004).planeLost = true ∧
  (wSilent 10004).flag Fld.DX_STATUS_SF = false ∧ (wSilent 10003).planeLost = false ∧ (wSilent 4).mayRead A1 Reg.AX_EVAL_COUNT = true := by decide
/-- A sealed duplex unit in a state, at uptime 10 s. -/
def wDx (st : Nat) (l : List (Field × Nat)) (d : DxSt → DxSt) : State := { (put run3 ([(Fld.DX_STATUS_STATE, st), (Fld.DX_CFG_DUPLEX, 1), (Fld.DX_CLAIM_PARTNER, 0xFFFF)] ++ l)) with
  clk := { R.clk with uptime := 10000000000, net := 100000 }, dx := d R.dx }
def wBeat (state flags claim : Nat) : Heartbeat := ⟨true, 7, claim, state, flags, 0, 0, []⟩
theorem test_wit_DuplexLife : (wBeat 5 0 65535).claim < 65536 ∧ (wBeat 5 0 65535).state < 16 ∧ (wDx DSt.syncing [] id).isSealed = true ∧
  (wDx DSt.syncing [] id).flag Fld.DX_CFG_DUPLEX = true ∧ (wDx DSt.syncing [] id).asleep = false ∧ (wBeat 5 0 1).image = (wDx DSt.syncing [] id).imageId ∧
  (wBeat 5 0 1).digest = (wDx DSt.syncing [] id).cfg.pairDigest ∧ (wDx DSt.syncing [] id).dst = DSt.syncing ∧ bitOf (wBeat 5 0 1).flags 0 = false ∧
  bitOf (wBeat 5 0 1).flags 3 = false ∧ (wDx DSt.ready [] id).dst = DSt.ready ∧ bitOf (wBeat 5 1 1).flags 0 = true ∧ (wDx DSt.ready [] id).flag Fld.DX_STATUS_SF = false ∧
  (wDx DSt.listen [(Fld.JC_MOD_STATUS_PERMITS, 1)] id).flag Fld.JC_MOD_STATUS_PERMITS = true ∧ (wBeat DSt.active 0 1).state = DSt.active ∧
  ¬ (0x10002 = (wDx DSt.listen [] id).imageId ∨ (wDx DSt.listen [] id).activating = true) ∧ (wDx DSt.ready [] id).ej2Down = false := by decide
theorem test_wit_DuplexLife2 : (wDx DSt.ready [] id).dx.hbN ≠ (wDx DSt.ready [] id).clk.net / 50000 ∧
  (wDx DSt.ready [] (fun d => { d with hbN := 2 })).dx.hbN = (wDx DSt.ready [] id).clk.net / 50000 ∧
  9999998000 + 2000 ≤ (wDx DSt.ready [] id).clk.uptime ∧ (wDx DSt.ready [] id).clk.uptime < 9999998001 + 2000 ∧ R.dx.missRun ≠ 3 ∧
  (4 : Nat) + 2 * (wDx DSt.detached [] id).tCycle + 2000 ≤ (wDx DSt.detached [] id).clk.uptime ∧ (wDx DSt.listen [] id).dx.seen = false ∧
  9980000000 + 20000000 ≤ (wDx DSt.listen [] id).clk.uptime ∧ (wDx DSt.listen [] id).clk.uptime < 9980000001 + 20000000 ∧ 9970000000 + 30000000 ≤ (wDx DSt.listen [] id).clk.uptime ∧
  (wDx DSt.listen [(Fld.DX_STATUS_PRIMARY, 1)] id).flag Fld.DX_STATUS_PRIMARY = true ∧ (wDx DSt.listen [] id).flag Fld.DX_STATUS_PRIMARY = false ∧
  R.dx.wire.length = 4 ∧ beats 1 0 = true ∧ beats 1 65535 = true ∧ beats 0 5 = false ∧ ties 0 5 = false ∧ ties 7 7 = true ∧
  (wDx DSt.active [(Fld.DX_STATUS_LINK_OK, 1)] id).flag Fld.DX_STATUS_LINK_OK = true := by decide
def wCk0 : Ckpt := ⟨true, 5, 77, 0, [(0x80000000, 3#8)], []⟩
/-- A checkpoint whose CRC holds. -/
def wCk : Ckpt := { wCk0 with crc := R.ckCheck wCk0 }
def wAct (l : List (Field × Nat)) (d : DxSt → DxSt) : State := (wDx DSt.active ([(Fld.DX_PARTNER_STATE, DSt.ready)] ++ l) d)
theorem test_wit_DuplexTransfers : (wDx DSt.syncing [(Fld.DX_SYNC_STATUS_PHASE, 1)] id).rd Fld.DX_SYNC_STATUS_PHASE = 1 ∧
  (wDx DSt.syncing [(Fld.DX_SYNC_STATUS_PHASE, 2)] id).rd Fld.DX_SYNC_STATUS_PHASE = 2 ∧ 0 + 10000000000 ≤ (wDx DSt.syncing [] id).clk.uptime ∧
  (wDx DSt.syncing [] id).clk.uptime < 1 + 10000000000 ∧ (wAct [] id).svcMaster = some .A ∧ (wAct [] id).dst = DSt.active ∧
  (wAct [] id).dx.ckN < (wAct [] id).clk.uptime / 100000000 ∧ (wAct [] (fun d => { d with ckN := 100 })).clk.uptime / 100000000 ≤ 100 ∧
  (wAct [(Fld.DX_CTRL_CKPT_DEFER, 1)] id).rd Fld.DX_CTRL_CKPT_DEFER = 1 ∧ (wAct [] id).rd Fld.DX_CTRL_CKPT_DEFER = 0 ∧ 9980000000 + 20000000 ≤ (wAct [] id).clk.uptime ∧
  (wDx DSt.ready [(Fld.DX_CKPT_STATUS_COPY, 1)] id).rd Fld.DX_CKPT_STATUS_COPY = 1 ∧ (wDx DSt.ready [] id).rd Fld.DX_CKPT_STATUS_COPY = 0 ∧
  (wDx DSt.listen [] (fun d => { d with restoring := true, ckA := wCk })).bestCkpt ≠ none ∧ (wAct [] id).mayWrite A1 Reg.DX_CTRL = true ∧
  wbits 0x80000000#32 Fld.DX_CTRL_RESYNC = 0 ∧ wbits 0x40000000#32 Fld.DX_CTRL_DRILL = 0 := by decide

/-! ### Ethernet, MVB, CAN -/

/-- Port 3 open, VLAN 5 with ports 3 and 7, a synchronised three-lane unit with permits. -/
def wEth (l : List (Field × Nat)) : State := put run3 ([(Fld.ETH_PORT_p_CFG_EN 3, 1), (Fld.ETH_PORT_p_STAT_LINK 3, 1), (Fld.ETH_PORT_p_CFG_PVID 3, 5), (Fld.ETH_VLAN_v_EN 0, 1),
  (Fld.ETH_VLAN_v_VID 0, 5), (Fld.ETH_VLAN_v_MEMBER 0, 0x88), (Fld.JC_MOD_STATUS_PERMITS, 1)] ++ l)
def wEthFrame (len etype : Nat) (vid : Option Nat) : List Byte := (List.replicate 6 0#8 ++ List.replicate 6 2#8 ++ (match vid with
  | some v => [0x81#8, 0#8] ++ beBytes 2 v
  | none => []) ++ beBytes 2 etype ++ List.replicate 1600 7#8).take len
def wEthOut (queue fid : Nat) : EthOut := ⟨3, queue, [1, 2], fid, none, none, none, false⟩
def wEthTx : State := { (wEth []) with eth := { R.eth with out := [wEthOut 1 8, wEthOut 6 9, { (wEthOut 7 5) with port := 2 }], macs := [(4, [1], 3, 0)] } }
/-- Process-data entries 5 and 255 transmit at t_vr; 255 is safe. -/
def wPd (k : List (Nat × Nat)) (safe : Nat) : State := { (put (wCyc true 7000000) [(Fld.DX_STATUS_STATE, DSt.single), (Fld.ETH_PD_n_A_EN 5, 1), (Fld.ETH_PD_n_A_DIR 5, 1), (Fld.ETH_PD_n_A_EN 255, 1),
  (Fld.ETH_PD_n_A_DIR 255, 1), (Fld.ETH_PD_n_A_SEL 255, safe)]) with eth := { R.eth with pdK := k }, vote := { run3.vote with voted := true } }
theorem test_wit_EthernetFrames : (wEth []).asleep = false ∧ (wEth []).ej2Down = false ∧ (wEth []).portOpen 3 = true ∧ (wEth []).portOpen 7 = false ∧
  frameLen (wEthFrame 59 0x800 none) < 64 ∧ frameLen (wEthFrame 60 0x800 none) = 64 ∧ frameLen (wEthFrame 1518 0x800 none) = 1522 ∧ 1522 < frameLen (wEthFrame 1519 0x800 none) ∧
  etypeOf (wEthFrame 60 0x800 none) ≠ 0x8808 ∧ tagged (wEthFrame 60 0x800 (some 6)) = true ∧ beNat (sliceB (wEthFrame 60 0x800 (some 6)) 16 2) ≠ 0x8100 ∧
  vidOf (wEthFrame 60 0x800 (some 6)) = 6 ∧ (wEth []).vlanMember 6 3 = false ∧ (wEth []).vlanMember 5 3 = true ∧ (wEth []).vlanMember 5 7 = true := by decide
theorem test_wit_EthernetFrames2 : isGroup ((wEthFrame 60 0x800 none).take 6) = false ∧ (wEthFrame 60 0x800 none).take 6 = (wEth []).macBytes 0 ∧
  etypeOf (wEthFrame 60 0x800 none) ≠ (wEth []).rd Fld.ETH_CFG_PD_ETYPE ∧ (0 + 1) % 1024 ≠ (wEth []).rd Fld.ETH_RXR_IDX_CONS ∧
  (1023 + 1) % 1024 = (wEth [(Fld.ETH_RXR_IDX_PROD, 1023)]).rd Fld.ETH_RXR_IDX_CONS ∧ wEthTx.eth.head 3 = some (wEthOut 6 9) ∧ wEthTx.eth.head 5 = none ∧
  wEthTx.portOpen 3 = true ∧ (wEth []).flag (Fld.ETH_PORT_p_CFG_EN 3) = true ∧ (wEth []).rd (Fld.ETH_PORT_p_CFG_SPEED 3) = 0 ∧
  (wEth [(Fld.ETH_PORT_p_CFG_SPEED 3, 2)]).rd (Fld.ETH_PORT_p_CFG_SPEED 3) = 2 ∧ (wEth []).rd (Fld.ETH_PORT_p_STAT_LINK 3) = 1 ∧ R.rd (Fld.ETH_PORT_p_STAT_LINK 7) = 0 ∧
  (wEth []).mayWrite A1 Reg.ETH_TXR_IDX = true ∧ (wEth []).mayWrite A1 Reg.ETH_RXR_IDX = true := by decide
theorem test_wit_EthernetFrames3 : (wPd [] 1).pdOut = [5, 255] ∧ (wPd [] 1).cyc.vrDone = true ∧ (wPd [] 1).reached ((wPd [] 1).tVr + 8) = true ∧ (wPd [] 1).writesPair = true ∧
  (wPd [] 1).asleep = false ∧ (wPd [] 1).vote.voted = true ∧ lookupN [(5, (wPd [] 1).cyc.k)] 5 = some (wPd [] 1).cyc.k ∧ (wPd [] 1).rd (Fld.ETH_PD_n_A_SEL 255) = 1 ∧
  (wPd [] 0).rd (Fld.ETH_PD_n_A_SEL 255) ≠ 1 ∧ ¬ ((wPd [] 1).flag Fld.JC_MOD_STATUS_SYNC = true ∨ (wPd [] 1).leads = true) := by decide
/-- MVB source port 1023 (F-code 4, address 0xFFF) and sink port 0 (F-code 0, address 5). -/
def wMvb (l : List (Field × Nat)) : State := { (put run3 ([(Fld.MVB_CFG_EN, 1), (Fld.JC_MOD_STATUS_PERMITS, 1), (Fld.MVB_CFG_DEV_ADDR, 9), (Fld.DX_STATUS_STATE, DSt.single), (Fld.MVB_PORT_n_CFG_EN 1023, 1), (Fld.MVB_PORT_n_CFG_DIR 1023, 1),
  (Fld.MVB_PORT_n_CFG_FCODE 1023, 4), (Fld.MVB_PORT_n_CFG_ADDR 1023, 0xFFF), (Fld.MVB_PORT_n_CFG_EN 0, 1), (Fld.MVB_PORT_n_CFG_ADDR 0, 5), (Fld.MVB_PORT_n_CFG_IMG4 0, 3)] ++ l)) with
  clk := { R.clk with uptime := 1000000 } }
theorem test_wit_MvbTraffic : (wMvb []).mvbSends = true ∧ (wMvb []).mvbAdmin = false ∧ (wMvb []).mvbSource 4 0xFFF = some 1023 ∧ (wMvb []).mvbSource 0 5 = none ∧
  (wMvb []).rd Fld.MVB_CFG_DEV_ADDR = 9 ∧ (wMvb [(Fld.MVB_CFG_BA, 1)]).mvbAdmin = true ∧ R.mvbSends = false ∧ (wMvb []).mvbOn = true ∧ (wMvb []).mvbSink 0 5 = some 0 ∧
  (wMvb []).flag (Fld.MVB_PORT_n_CFG_GUSSET 0) = false ∧ (wMvb []).mvb.at_ + (wMvb []).mvbPeriod ≤ (wMvb []).clk.uptime ∧
  (wMvb []).clk.uptime < (wMvb [(Fld.MVB_CFG_BP, 1)]).mvb.at_ + (wMvb [(Fld.MVB_CFG_BP, 1)]).mvbPeriod ∧ (wMvb []).mayWrite A1 Reg.MVB_STATUS = true := by decide
/-- Controller 2 with receive mailbox 5, event mailbox 6 and a pending frame in mailbox 63. -/
def wCan (st tec : Nat) (l : List (Field × Nat)) : State := put run3 ([(Fld.CAN_CTL_c_CFG_EN 2, 1), (Fld.CAN_CTL_c_CFG_FD 2, 1), (Fld.DX_STATUS_STATE, DSt.single), (Fld.JC_MOD_STATUS_PERMITS, 1), (Fld.CAN_CTL_c_STATUS_STATE 2, st),
  (Fld.CAN_CTL_c_STATUS_TEC 2, tec), (Fld.CAN_CTL_c_MB_m_CTRL_KIND 2 5, 3), (Fld.CAN_CTL_c_MB_m_ID_ID 2 5, 7), (Fld.CAN_CTL_c_MB_m_MASK_ID 2 5, 0x1FFFFFFF), (Fld.CAN_CTL_c_MB_m_CTRL_KIND 2 6, 2),
  (Fld.CAN_CTL_c_MB_m_STAT_PEND 2 63, 1)] ++ l)
theorem test_wit_CanTraffic : (wCan 0 0 []).canOn 2 = true ∧ (wCan 0 0 []).canState 2 = Can.active ∧ (wCan 0 0 []).flag (Fld.CAN_CTL_c_CFG_FD 2) = true ∧
  (wCan 0 0 []).canMatch 2 false 7 = some 5 ∧ (wCan 0 0 []).canMatch 2 false 8 = none ∧ (wCan 0 0 [(Fld.CAN_CTL_c_MB_m_STAT_NEW 2 5, 1)]).flag (Fld.CAN_CTL_c_MB_m_STAT_NEW 2 5) = true ∧
  (wCan 0 0 []).canListens 2 = false ∧ (wCan 0 0 []).flag (Fld.CAN_CTL_c_CFG_REST 2) = false ∧ (wCan 0 0 []).canOffer 2 = some 63 ∧
  (wCan 0 0 [(Fld.CAN_CTL_c_MB_m_STAT_PEND 2 63, 0)]).canOffer 2 = none ∧ (wCan 0 0 [(Fld.CAN_CTL_c_CFG_MON 2, 1)]).canListens 2 = true ∧
  (wCan 1 247 []).canState 2 = Can.passive ∧ (wCan 1 247 []).rd (Fld.CAN_CTL_c_STATUS_TEC 2) + 8 ≤ 255 ∧ 255 < (wCan 1 248 []).rd (Fld.CAN_CTL_c_STATUS_TEC 2) + 8 ∧
  (wCan 2 255 [(Fld.CAN_CTL_c_CFG_AUTO_REC 2, 1)]).flag (Fld.CAN_CTL_c_CFG_AUTO_REC 2) = true ∧ (wCan 2 255 []).canState 2 = Can.busOff ∧ (wCan 3 255 []).canState 2 = Can.recovering ∧
  (wCan 0 0 []).mayWrite A1 (Reg.CAN_CTL_c_ERR 2) = true ∧ (wCan 0 0 []).mayWrite A1 (Reg.CAN_CTL_c_MB_m_CTRL 2 6) = true ∧
  ((wCan 0 0 []).merge (Reg.CAN_CTL_c_MB_m_CTRL 2 5) 0x40000000#32).rd (Fld.CAN_CTL_c_MB_m_CTRL_KIND 2 5) ≠ 2 ∧
  ((wCan 0 0 []).merge (Reg.CAN_CTL_c_MB_m_CTRL 2 6) 0x40000000#32).rd (Fld.CAN_CTL_c_MB_m_CTRL_KIND 2 6) = 2 := by decide

/-! ### Host port and Gusset -/

/-- The host port up, with a response and a busy response. -/
def wHost (resp : Option HostResp) (busy : Option (HostResp × Nat)) : State := { run3 with host := { R.host with resp := resp, busy := busy }, clk := { R.clk with uptime := 416 } }
def wResp : HostResp := ⟨1, 7, 0, 1, [1, 2, 3, 4]⟩
def wHostRec : State := { (wHost none none) with regs := (put R [(Fld.UPD_START_STATUS_PHASE, Phase.recovery)]).regs }
theorem test_wit_HostWindow : (wHost none none).hostUp = true ∧ wOff.hostUp = false ∧ (wHost (some wResp) none).host.resp.isSome = true ∧ (wHost none none).host.resp = none ∧
  (wHost none none).host.busy = none ∧ (256 : Nat) ≤ (List.replicate 256 (0 : Word)).length ∧ (256 : Nat) < 257 ∧ (wHost none none).hostReach 0x10001 = false ∧
  (wHost none none).hostReach 0x20010 = true ∧ inDdr .junction 0x20010 = false ∧ (wHost none none).mayRead .host 0x20010 = true ∧ (wHost none none).mayRead .host 0x30 = false ∧
  (wHost none none).hostReach 0x7FFFFFFC = true ∧ inDdr .junction 0x7FFFFFFC = true ∧ inWelt 0x701FFFFC 4 = true ∧ inWelt 0x70200000 4 = false ∧
  (wHost none none).bitmapBad 0x40000000 = false ∧ ((wHost none none).burstClass .junction 0x40000000).1 = 0 ∧ (wHost none none).phase ≠ Phase.recovery ∧
  wHostRec.phase = Phase.recovery ∧ 1024 * 65535 + 4 * 256 ≤ 0x4000000 ∧ wHostRec.retired .junction ((0x50000000 + 1024 * 65535) / 4096) = none ∧
  (0x11#8).toNat ∉ [0x01, 0x02, 0x10, 0x20, 0x30] ∧ (416 : Nat) ≤ (wHost none (some (wResp, 416))).clk.uptime := by decide
/-- Entry 767 maps 12 bits of source KIND 1 INDEX 5 from bit 4, entry 3 a CAN message, entries 8 and 9 one source; gains 1.0. -/
def wGb (l : List (Field × Nat)) (g : GussetSt) : State := { (put run3 ([(Fld.GB_MAP_e_SRC_EN 767, 1), (Fld.GB_MAP_e_SRC_KIND 767, 1), (Fld.GB_MAP_e_SIDX_INDEX 767, 5), (Fld.GB_MAP_e_SRC_BIT 767, 4),
  (Fld.GB_MAP_e_SRC_WIDTH 767, 11), (Fld.GB_MAP_e_DST_DWIDTH 767, 11), (Fld.GB_MAP_e_DST_DBIT 767, 9), (Fld.GB_MAP_e_A_VALUE 767, 65536), (Fld.GB_MAP_e_SRC_EN 3, 1),
  (Fld.GB_MAP_e_SRC_KIND 3, 3), (Fld.GB_MAP_e_SIDX_INDEX 3, 7), (Fld.GB_MAP_e_SRC_WIDTH 3, 7), (Fld.GB_MAP_e_DST_DWIDTH 3, 3), (Fld.GB_MAP_e_DST_DKIND 3, 1), (Fld.GB_MAP_e_A_VALUE 3, 65536),
  (Fld.GB_MAP_e_SRC_EN 8, 1), (Fld.GB_MAP_e_SRC_KIND 8, 2), (Fld.GB_MAP_e_SRC_EN 9, 1), (Fld.GB_MAP_e_SRC_KIND 9, 2)] ++ l)) with clk := { R.clk with uptime := 400 }, gus := g }
def wSrc1 : GMsg := ⟨1, 5, [0xF0, 0xFF, 3], 8⟩
def wSrc3 : GMsg := ⟨3, 7, [0x5A], 8⟩
def wSrc3s : GMsg := ⟨3, 7, [], 4⟩
def wGs (done pend : List GMsg) (busy : Nat) : GussetSt := { R.gus with done := done, pend := pend, busy := busy, work := [(2, 7#8)] }
theorem test_wit_GussetMapping : R.gus.done = [] ∧ R.gus.pend = [] ∧ (wGb [] (wGs [wSrc1] [] 401)).clk.uptime < (wGb [] (wGs [wSrc1] [] 401)).gus.busy ∧
  firstMsg [wSrc3, wSrc1] = some wSrc1 ∧ wSrc1 ∈ (wGs [wSrc3, wSrc1] [] 0).done ∧ (wGs [wSrc1] [wSrc3s] 400).pend ≠ [] ∧ (400 : Nat) ≤ (wGb [] R.gus).clk.uptime ∧
  firstMsg (wGs [] [wSrc3s] 400).pend = some wSrc3s ∧ (wGb [] R.gus).mapsOf 1 5 = [767] ∧ (wGb [] R.gus).mapsOf 3 7 = [3] ∧ (wGb [] R.gus).mapsOf 2 0 = [8, 9] ∧
  (wGb [] R.gus).mapsOf 0 5 = [] ∧ 8 * wSrc3s.data.length < 0 + (wGb [] R.gus).rd (Fld.GB_MAP_e_SRC_WIDTH 3) + 1 ∧
  ¬ (8 * wSrc3.data.length < 0 + (wGb [] R.gus).rd (Fld.GB_MAP_e_SRC_WIDTH 3) + 1) ∧ (wGb [] R.gus).rd (Fld.GB_MAP_e_DST_DKIND 767) = 0 := by decide
/-- Window 15 on ring X, words 8 to 11; `np` its NP bit. -/
def wWin (np hlt pending : Nat) (halted : Bool) (q : Nat) : State := put ((wRg RSt.sync (fun g => { g with txq := List.replicate q (wTx 1) })).setReg Reg.GB_STATUS (if halted then 0x8000#32 else 0#32))
  [(Fld.GB_WIN_n_CFG_EN 15, 1), (Fld.GB_WIN_n_CFG_NP 15, np), (Fld.GB_WIN_n_CFG_HALT 15, hlt), (Fld.GB_WIN_n_CFG_APT_BASE 15, 8), (Fld.GB_WIN_n_SIZE_WORDS 15, 4),
   (Fld.GB_WIN_n_REMOTE_REMOTE 15, 0xFFFFFFF8), (Fld.GB_WIN_n_CFG_DEST 15, 9), (Fld.GB_WIN_n_STAT_SEQ 15, 65535), (Fld.GB_CPL_i_PENDING 2, pending), (Fld.GB_CPL_i_WIN 2, 15),
   (Fld.GB_CFG_NP_TMO, 1), (Fld.SX_CFG_ADDR .X, 4)]
def wPef (n : Nat) (s : State) : State := { s with gus := { s.gus with pef := List.replicate n ⟨8, 2, 15, 4, 8, 65535, 3⟩ } }
def wNp (up : Nat) : State := { (wWin 1 1 1 false 0) with gus := { R.gus with npAt := [(2, 4)] }, clk := { R.clk with uptime := up } }
theorem test_wit_GussetSending : (wWin 0 0 0 false 0).mayWrite A1 (Reg.GB_APT_w 8) = true ∧ (wWin 0 0 0 false 0).winOf 7 = none ∧ (wWin 0 0 0 false 0).winOf 8 = some 15 ∧
  (wWin 0 0 0 false 0).winOf 11 = some 15 ∧ (wWin 0 0 0 false 0).winOf 12 = none ∧ (wWin 1 0 1 false 0).rd (Fld.GB_WIN_n_CFG_NP 15) = 1 ∧
  (wWin 1 0 1 false 0).rd (Fld.GB_CPL_i_PENDING (gbInit A1)) = 1 ∧ (wWin 0 0 0 false 0).rd (Fld.GB_WIN_n_CFG_NP 15) = 0 ∧ (wWin 0 0 0 false 15).halted 15 = false ∧
  ((wWin 0 0 0 false 15).rg .X).queued = 15 ∧ (wWin 0 0 0 true 0).halted 15 = true ∧ ((wWin 0 1 0 false 16).rg .X).queued = 16 ∧ (wPef 15 R).gus.pef.length = 15 ∧
  (wWin 0 0 0 false 0).mayWrite A1 (Reg.GB_WIN_n_SIG 15) = true ∧ (wWin 0 0 0 false 0).mayWrite A1 (Reg.GB_WIN_n_CTRL 15) = true ∧
  (wWin 0 0 0 false 0).mayWrite A1 Reg.GB_PEF_CTRL = true ∧ lookupN (wNp 100004).gus.npAt 2 = some 4 ∧ 4 + 100000 * (wNp 100004).rd Fld.GB_CFG_NP_TMO ≤ (wNp 100004).clk.uptime ∧
  (wNp 100003).clk.uptime < 4 + 100000 * (wNp 100003).rd Fld.GB_CFG_NP_TMO ∧ R.rd (Fld.GB_WIN_n_CFG_EN 0) = 0 := by decide
/-- A carried message at the head of the input queue: inbound windows 2 (pages 0x60000 on) and 7 for sender 9, Eyelet channel 5. -/
def wIn (kind win fl seq addr data : Nat) : State := { (put run3 [(Fld.GB_IN_n_CFG_EN 2, 1), (Fld.GB_IN_n_CFG_SRC 2, 9), (Fld.GB_IN_n_BASE_BASE 2, 0x50000000), (Fld.GB_IN_n_PAGES_PAGES 2, 1),
    (Fld.GB_IN_n_CFG_EY 2, 5), (Fld.EY_CH_n_CFG_EN 5, 1), (Fld.DX_STATUS_STATE, DSt.single), (Fld.GB_CFG_PE_EY, 5), (Fld.GB_CPL_i_PENDING 1, 1), (Fld.GB_CPL_i_WIN 1, 15),
    (Fld.GB_CPL_i_SEQ 1, 65535), (Fld.GB_WIN_n_CFG_HALT 15, 1)]) with
  gus := { R.gus with exp := [(256 * 9 + 15, 65535)], inq := [(.X, ⟨9, false, 14, 3, kind, leBytes 1 win ++ leBytes 1 fl ++ leBytes 2 seq ++ leBytes 4 addr ++ leBytes 4 data ++ leBytes 2 0⟩)] } }
def wLand (l : List GLand) : State := { (wIn 0x8001 15 0 0 0 0) with gus := { R.gus with land := l } }
def wL (signal : Bool) (win fl addr cause : Nat) : GLand := { ring := .X, src := 9, win := win, seq := 65535, tag := 3, flags := fl, addr := addr, data := 0x12345678, signal := signal, inWin := 2, cause := cause }
theorem test_wit_GussetReceiving : R.gus.inq = [] ∧ (∀ x ∈ (wLand [wL true 15 0 7 0]).gus.land, x.signal = true) ∧ (wL true 15 0 7 0).signal = true ∧
  (∃ y ∈ [wL false 15 0 7 0], y.src = (wL true 15 0 7 0).src ∧ y.win = (wL true 15 0 7 0).win) ∧
  (wIn 0x8001 15 1 65535 0x50000FFC 5).gus.inq = [(.X, ⟨9, false, 14, 3, 0x8001, leBytes 1 15 ++ leBytes 1 1 ++ leBytes 2 65535 ++ leBytes 4 0x50000FFC ++ leBytes 4 5 ++ leBytes 2 0⟩)] ∧
  lookupN (wIn 0x8001 15 1 65535 0x50000FFC 5).gus.exp (256 * 9 + 15) = some 65535 ∧ (wIn 0x8001 15 1 0 0 5).rd (Fld.GB_IN_n_CFG_EN 2) = 1 ∧
  (wIn 0x8001 15 1 0 0 5).rd (Fld.GB_IN_n_CFG_SRC 2) = 9 ∧ (wIn 0x8001 15 1 0 0 5).rd (Fld.GB_IN_n_BASE_BASE 2) ≤ 0x50000FFC ∧
  0x50000FFC < (wIn 0x8001 15 1 0 0 5).rd (Fld.GB_IN_n_BASE_BASE 2) + 4096 * (wIn 0x8001 15 1 0 0 5).rd (Fld.GB_IN_n_PAGES_PAGES 2) ∧
  (∀ k < 2, (wIn 0x8001 15 1 0 0 5).rd (Fld.GB_IN_n_CFG_EN k) ≠ 1) ∧ (wIn 0x8001 15 1 0 0 5).writesPair = true ∧
  (put (wIn 0x8001 15 1 0 0 5) [(Fld.DX_STATUS_STATE, DSt.listen)]).writesPair = false := by decide
theorem test_wit_GussetReceiving2 : (wIn 0x8002 15 11 65535 0 0).rd (Fld.GB_CPL_i_PENDING 1) = 1 ∧ (wIn 0x8002 15 11 65535 0 0).rd (Fld.GB_CPL_i_WIN 1) = 15 ∧
  (wIn 0x8002 15 11 65535 0 0).rd (Fld.GB_CPL_i_SEQ 1) = 65535 ∧ (∀ k < 1, (wIn 0x8002 15 11 65535 0 0).rd (Fld.GB_CPL_i_PENDING k) ≠ 1) ∧
  (∀ i < 3, (wIn 0x8002 14 11 65535 0 0).rd (Fld.GB_CPL_i_WIN i) ≠ 14) ∧ (wIn 0x8003 15 2 65535 8 4).gus.pef.length < 16 ∧ (wPef 16 (wIn 0x8003 15 2 65535 8 4)).gus.pef.length = 16 ∧
  (wIn 0x8003 15 2 65535 8 4).rd (Fld.EY_CH_n_CFG_EN 5) = 1 ∧ (wIn 0x8003 15 2 65535 8 4).eyHolds 5 = false ∧ (wIn 0x8003 15 2 65535 8 4).eyRcv 5 ≠ 2 ∧
  (wLand [wL true 15 0 7 0, wL false 15 1 0x7FFFFFFC 4]).gus.land = [wL true 15 0 7 0] ++ wL false 15 1 0x7FFFFFFC 4 :: [] ∧ (wL false 15 1 0x7FFFFFFC 4).addr % 4 = 0 ∧
  (wL false 15 1 0x7FFFFFFC 4).inWin < 8 ∧ (wLand [wL true 15 0 7 0]).rd (Fld.GB_IN_n_CFG_EY 2) = 5 ∧ (put (wLand []) [(Fld.EY_CH_n_CFG_EN 5, 0)]).rd (Fld.EY_CH_n_CFG_EN 5) = 0 := by decide

/-! ### Shuttle -/

/-- Channel 5 in a state at `pc`, with one instruction there. -/
def wSh (st pc : Nat) (ws : List Nat) (l : List (Field × Nat)) (q : ShSt → ShSt) : State := { ((ws.zip (List.range 8)).foldl (fun t x => t.setReg (Reg.SH_PROG_w (4 * pc + x.2)) (BitVec.ofNat 32 x.1))
    (put run3 ([(Fld.SH_CH_c_STAT_STATE 5, st), (Fld.SH_CH_c_PC_PC 5, pc), (Fld.EY_CH_n_CFG_EN 16, 1), (Fld.EY_CH_n_CFG_EN 3, 1), (Fld.EY_CH_n_CFG_RCV 16, 3), (Fld.EY_CH_n_CFG_RCV 3, 3)] ++ l))) with
  shc := R.shc.set 5 (q ShSt.none), clk := { R.clk with uptime := 5000 } }
def wX : ShXfer := ⟨0x50000010, 0, 16, 0x50001000, 0, 16, 0, 16, false, false, false, 8, true, false, false, []⟩
theorem test_wit_ShuttleControl : R.shc.length = 16 ∧ (wSh 0 0 [] [] id).mayWrite A1 (Reg.SH_CH_c_CTRL 5) = true ∧ (wSh 0 0 [] [] id).shState 5 = 0 ∧ (wSh 3 0 [] [] id).shState 5 = 3 ∧
  (wSh 1 0 [] [] id).shState 5 = 1 ∧ (wSh 2 0 [] [] id).shState 5 = 2 ∧ wbits 0 (Fld.SH_CH_c_CTRL_STOP 5) ≠ 1 ∧ wbits 0 (Fld.SH_CH_c_CTRL_COMMIT 5) ≠ 1 ∧
  wbits 0 (Fld.SH_CH_c_CTRL_START 5) ≠ 1 ∧ wbits 0 (Fld.SH_CH_c_CTRL_CLEAR 5) ≠ 1 ∧ wbits 0xFFFFFFFF (Fld.SH_CH_c_CTRL_COMMIT 5) = 1 ∧
  ((wSh 1 0 [] [] (fun x => { x with xfer := some wX })).shq 5).xfer.isSome = true ∧ ((wSh 1 0 [] [] id).shq 5).xfer = none ∧
  (wSh 1 0 [] [(Fld.SH_CH_c_CTRL_BASTE_PENDING 5, 1)] id).rd (Fld.SH_CH_c_CTRL_BASTE_PENDING 5) = 1 ∧ (wSh 1 0 [] [] id).rd (Fld.SH_CH_c_CTRL_BASTE_PENDING 5) = 0 := by decide
def wOp (pc : Nat) (ws : List Nat) : State := wSh 1 pc ws [] id
theorem test_wit_ShuttleProgram : (wOp 511 [0]).shState 5 = 1 ∧ ((wOp 511 [0]).shq 5).xfer = none ∧ (wOp 511 [0]).shPc 5 = 511 ∧ (wOp 0 [0xE0000000]).shWord 0 0 / 2 ^ 28 = 14 ∧
  (wOp 7 [1]).shWord 7 0 ≠ 0 ∧ (wOp 7 [0]).rd (Fld.SH_CH_c_CTRL_BASTE_PENDING 5) = 0 ∧ (wOp 7 [0]).rd (Fld.SH_CH_c_STAT_STOP_PEND 5) = 0 ∧
  (wOp 7 [0x10000001]).shWord 7 0 % 2 ^ 16 ≠ 0 ∧ (wOp 7 [0x100B0000]).shWord 7 0 / 2 ^ 28 = 1 ∧ 10 < bitsOf ((wOp 7 [0x100B0000]).shWord 7 0) 21 16 ∧
  (wOp 7 [0x18000000, 2, 0, 4]).shWord 7 1 < 0x130000 ∧ (wOp 7 [0x18000000, 2, 0, 4]).shWord 7 1 % 4 ≠ 0 ∧ bitOf ((wOp 7 [0x18000000, 2, 0, 4]).shWord 7 0) 27 = true ∧
  (wOp 7 [0x10000000, 0, 0, 0xFFFFFF]).shWord 7 3 < 2 ^ 24 ∧ (wOp 510 [0x20000000, 0, 0, 0x20003, 0x30002]).shWord 510 4 = 0x30002 ∧
  (3 : Nat) * 2 = 2 * 3 ∧ (4 : Nat) * 2 ≠ 2 * 3 ∧ bitsOf 0x30060002 24 16 = 6 ∧ bitsOf 0x36060002 26 25 ≠ 0 := by decide
theorem test_wit_ShuttleProgram2 : bitsOf 0x51000000 27 24 = 1 ∧ bitsOf 0x501F0000 21 16 = 31 ∧ bitsOf 0x503F0000 21 16 = 63 ∧ bitsOf 0x50C00000 23 22 ≠ 0 ∧
  (wOp 7 [0x500F0000]).rd (Fld.SH_CH_c_CFG_SECURE 5) = 0 ∧ (wSh 1 7 [0x50030000, 9] [(Fld.SH_CH_c_CFG_SECURE 5, 1)] id).rd (Fld.SH_CH_c_CFG_SECURE 5) = 1 ∧
  (wOp 7 [0x50100000, 9]).rd (Fld.EY_CH_n_CFG_EN 16) = 1 ∧ (wOp 7 [0x50100000, 9]).eyHolds 16 = false ∧ (wOp 7 [0x50100000, 9]).eyRcv 16 ≠ 2 ∧
  (wSh 1 7 [0x51070000] [(Fld.EY_TH_n_OWNER 7, 21)] id).thOwner 7 = 16 + 5 ∧ (wOp 7 [0x51070000]).thOwner 7 ≠ 16 + 5 ∧ (0xF8000000 : Nat) % 2 ^ 27 = 0 ∧
  (0xF0000001 : Nat) % 2 ^ 27 ≠ 0 ∧ (wSh 1 7 [0] [(Fld.SH_SH_CH_c_PC_JUMP 5, 1)] id).rd (Fld.SH_SH_CH_c_PC_JUMP 5) = 1 := by decide
def wWait (cond n tmo : Nat) (event : Bool) (l : List (Field × Nat)) : State := wSh 2 510 [] l (fun x => { x with wait := some (cond, n, tmo, 2000), event := event })
def wBurst (x : ShXfer) : State := wSh 1 9 [] [] (fun q => { q with xfer := some x })
theorem test_wit_ShuttleWaits : (wOp 7 [0x40000000]).shWord 7 0 / 2 ^ 28 = 4 ∧ (wOp 7 [0x46000000]).shState 5 = 1 ∧ bitsOf 0x46000000 27 24 = 6 ∧ bitsOf 0x45000000 27 24 = 5 ∧
  bitsOf 0x41030000 21 16 = 3 ∧ (wOp 7 [0x41030000]).eyRcv 3 = 3 ∧ (wOp 7 [0x41030000]).rd (Fld.SH_CH_c_CFG_SECURE 5) = 0 ∧ (wWait 0 8 3 false []).shState 5 = 2 ∧
  ((wWait 0 8 3 false []).shq 5).wait = some (0, 8, 3, 2000) ∧ (wWait 0 8 3 false []).waitHolds 5 = false ∧ ((wWait 0 8 3 false []).shq 5).jumped = false ∧
  (wWait 0 8 3 false []).shPc 5 < 511 ∧ (wWait 0 10 0 false []).shLine 10 = true ∧ (wWait 1 16 0 false [(Fld.EY_CH_n_STAT_FULL 16, 1)]).eyHolds 16 = true ∧
  (∀ d < 5, ((wWait 1 16 0 false []).shq d).wait = none) ∧ (wWait 2 63 0 false []).thOwner 63 = 0 ∧ (wWait 2 63 0 false [(Fld.EY_TH_n_OWNER 63, 1)]).thOwner 63 ≠ 0 ∧
  (wWait 2 63 0 false [(Fld.EY_TH_n_OWNER 63, 1)]).thOwner 63 ≠ 16 + 5 ∧ ((wWait 5 0 0 true []).shq 5).event = true ∧ 2000 + 1000 * 3 ≤ (wWait 0 8 3 false []).clk.uptime ∧
  (wWait 0 8 4 false []).clk.uptime < 2000 + 1000 * 4 := by decide
theorem test_wit_ShuttleBursts : ((wBurst wX).shq 5).xfer = some wX ∧ (wBurst wX).shState 5 = 1 ∧ (wBurst wX).jddrRefresh = false ∧ { wX with pace := true }.pace = true ∧
  (wBurst { wX with pace := true }).shLine 8 = false ∧ wX.pace = false ∧ wX.done = 0 ∧ wX.carry = [] ∧ 0 < wX.total ∧ wX.total ≤ wX.sLen ∧ wX.total ≤ wX.dLen ∧ wX.src < 2 ^ 32 ∧
  wX.dst < 2 ^ 32 ∧ { wX with src := 0x12FFFC }.src < 0x130000 ∧ { wX with dst := 0x3FFFFFFC }.dst < 0x40000000 ∧ inDdr .junction wX.src = true ∧ wX.src % 64 + wX.total ≤ 64 ∧
  wX.dst % 64 + wX.total ≤ 64 ∧ (wBurst wX).bitmapBad wX.src = false ∧ ((wBurst wX).burstClass .junction wX.src).1 = 0 ∧ inDdr .junction wX.dst = true ∧
  inWelt wX.dst wX.total = false ∧ (wBurst wX).shPc 5 + 2 < 512 := by decide

/-! ### Eyelets, measurement, records, registers -/

def wEy (l : List (Field × Nat)) : State := put run3 ([(Fld.EY_CH_n_CFG_EN 31, 1), (Fld.EY_CH_n_CFG_EN 16, 1), (Fld.EY_CH_n_CFG_RCV 16, 1), (Fld.EY_CH_n_CFG_EN 17, 1), (Fld.EY_CH_n_CFG_RCV 17, 2)] ++ l)
theorem test_wit_Eyelets : (wEy []).mayWrite A1 (Reg.EY_CH_n_POST 31) = true ∧ (wEy []).rd (Fld.EY_CH_n_CFG_EN 31) = 1 ∧ (wEy []).eyHolds 31 = false ∧ (wEy []).eyRcv 31 = 0 ∧
  (wEy []).eyRcv 16 = 1 ∧ (wEy []).eyRcv 17 = 2 ∧ (wEy []).rd (Fld.EY_CH_n_CFG_EN 20) = 0 ∧ (wEy [(Fld.EY_CH_n_STAT_FULL 31, 1)]).eyHolds 31 = true ∧
  (wEy []).mayRead A1 (Reg.EY_CH_n_MSG 31) = true ∧ (wEy []).mayRead .host (Reg.EY_CH_n_MSG 16) = true ∧ run3.svcMaster = some .A ∧ (wEy []).eyTaker A1 16 = false := by decide
theorem test_wit_Thimbles : (wEy []).mayRead .host (Reg.EY_TH_n 63) = true ∧ (wEy []).thOwner 63 = 0 ∧ (wEy [(Fld.EY_TH_n_OWNER 63, 2)]).thOwner 63 = 2 ∧
  (wEy []).mayWrite A1 (Reg.EY_TH_n 63) = true ∧ (2#32).toNat % 256 = 2 ∧ (wEy []).mayRead (.shuttle 3) (Reg.EY_TH_n 63) = true ∧
  (wEy []).mayWrite A1 Reg.EY_TH_FORCE_HI = true ∧ run3.secure A1 = true ∧ (wEy []).mayWrite .host Reg.EY_TH_FORCE_LO = true ∧ (wEy []).secure .host = false := by decide
/-- Channel 7 with R 4, D 1 and N 2. -/
def wMc (l : List (Field × Nat)) (g : McSt → McSt) : State := { (put run3 ([(Fld.MC_CH_n_CFG_EN 7, 1), (Fld.MC_CH_n_CFG_R 7, 4), (Fld.MC_CH_n_CFG_D 7, 1), (Fld.MC_CH_n_CFG_NM1 7, 1), (Fld.MC_CH_n_COEF_i_H 7 0, 65536),
  (Fld.MC_CH_n_COEF_i_H 7 1, 200000)] ++ l)) with mcs := R.mcs.set 7 (g McSt.fresh), clk := { R.clk with uptime := 1000000 } }
def wFade (j k : Nat) : State := wMc [(Fld.MC_CH_n_CTRL_FADING 7, 1)] (fun x => { x with fadeJ := j, fadeK := k, newBank := (List.range 32).map (fun i => Int.ofNat i * 5000 - 60000) })
def wFifo (n : Nat) (half : Bool) : State := wMc [(Fld.MC_CH_n_DET_WINDOW 7, 3)] (fun x => { x with fifo := List.replicate n (5, 6), half := half, window := 3, cntW := 2, sum := 77 })
theorem test_wit_Measurement : R.mcs.length = 8 ∧ (wMc [] id).rd (Fld.MC_CH_n_CFG_EN 7) = 1 ∧ (wMc [] id).rd Fld.JC_MOD_STATUS_SLEEP = 0 ∧ (wMc [] id).ej2Down = false ∧
  ([true, false, true, true] : List Bool).length = (wMc [] id).mcR 7 * (wMc [] id).mcD 7 ∧ ((wMc [] id).mc 7).sum < 2 ^ 62 ∧ (wFade 0 4).rd (Fld.MC_CH_n_CTRL_FADING 7) = 1 ∧
  0 < ((wFade 0 4).mc 7).fadeK ∧ ((wFade 0 4).mc 7).fadeJ < ((wFade 0 4).mc 7).fadeK ∧ ((wFade 3 4).mc 7).fadeJ + 1 = ((wFade 3 4).mc 7).fadeK ∧
  ((wFifo 31 false).mc 7).fifo.length = 31 ∧ ((wFifo 32 true).mc 7).fifo.length = 32 ∧ ((wFifo 32 true).mc 7).half = true ∧ (wFifo 32 true).rd (Fld.MC_CH_n_DET_WINDOW 7) = 3 ∧
  ((wFifo 32 true).mc 7).cntW + 1 = 3 ∧ R.rd (Fld.MC_CH_n_DET_WINDOW 0) = 0 ∧ ((wFifo 1 true).mc 7).fifo = (5, 6) :: [] := by decide
theorem test_wit_Measurement2 : (4096 : Nat) ≤ ((wMc [] (fun x => { x with run := 4096 })).mc 7).run ∧ (wMc [] id).rd (Fld.MC_CH_n_STAT_STUCK 7) = 0 ∧
  (wMc [(Fld.MC_CH_n_STAT_STUCK 7, 1)] (fun x => { x with run := 4095 })).rd (Fld.MC_CH_n_STAT_STUCK 7) = 1 ∧ ((wMc [] (fun x => { x with run := 4095 })).mc 7).run < 4096 ∧
  ((wMc [] (fun x => { x with refillAt := some 1000000 })).mc 7).refillAt = some (wMc [] id).clk.uptime ∧ (wMc [] id).clk.uptime < 1000001 ∧
  (wMc [] id).mayWrite A1 (Reg.MC_CH_n_CTRL 7) = true ∧ (wMc [(Fld.MC_CH_n_CTRL_BASTE_PENDING 7, 1)] id).rd (Fld.MC_CH_n_CTRL_BASTE_PENDING 7) = 1 ∧
  (wMc [] id).mayRead A1 (Reg.MC_CH_n_FIFO_w 7 15) = true ∧ (wMc [] id).mayRead A1 (Reg.MC_CH_n_VALUE 7) = true := by decide
/-- A Welt with records to write: total and keep count given. -/
def wEv (code data : Nat) : WEvent := ⟨4, 13, code, data, 9, 1, 77⟩
def wWelt (total keep : Nat) (q : List WEvent) (last : Option WLast) (word : Nat) : State := { (put (run3.setReg Reg.WL_TOTAL_LO (BitVec.ofNat 32 total)) [(Fld.WL_CFG_KEEP_N, keep), (Fld.WL_CFG_CIRC_LOG2, 10),
  (Fld.WL_FLUSH_SEQ_SEQ, 3)]) with welt := { R.welt with queue := q, last := last, flushWord := word }, st := { run3.st with recorded := true }, clk := { R.clk with uptime := 60000000004 } }
def wFrozen (up : Nat) : State := { (put (wWelt 5 2 [wEv 7 8] none 0) [(Fld.WL_STATUS_FROZEN, 1), (Fld.WL_FROZEN_EVENTS_COUNT, 9)]) with
  welt := { R.welt with queue := [wEv 7 8], held := [wEv 0x30 1], lostSteps := 300, frozenAt := some 4 }, clk := { R.clk with uptime := up } }
def wTrouble : State := { (put run3 [(Fld.TL_STATUS_TSEQ, 0xFFFFFFFF)]) with tWait := [⟨4, 13, 2, 8, 5, [1, 2], 3, 4, 5, 1, 6⟩], clk := { R.clk with uptime := 5000 } }
theorem test_wit_Welt : (wFrozen 60000000004).frozen = true ∧ (wWelt 5 2 [] none 0).welt.queue = [] ∧ (wWelt 5 2 [wEv 7 8] none 0).frozen = false ∧
  (wWelt 5 2 [wEv 7 8] none 0).jddrRefresh = false ∧ (wWelt 5 2 [wEv 7 8] none 0).st.recorded = true ∧ (wWelt 5 2 [wEv 7 8] none 0).welt.queue = wEv 7 8 :: [] ∧
  (wWelt 2 2 [] none 0).wTotal = 2 ∧ 5 + 1 < 2 ^ 64 ∧ (wEv 0x30 8).code = 0x30 ∧
  (wWelt 5 9 [wEv 7 8] (some ⟨13, 7, 8, 0x70000080, 4⟩) 0).welt.last = some ⟨13, 7, 8, 0x70000080, 4⟩ ∧ (wWelt 5 9 [] none 0).wTotal ≤ 9 ∧ 0x70000080 % 32 = 0 ∧
  (wFrozen 60000000004).mayWrite A1 Reg.WL_CTRL = true ∧ wbits 0 Fld.WL_CTRL_THAW = 0 ∧ (wFrozen 60000000004).welt.frozenAt = some 4 ∧
  4 + 60000000000 ≤ (wFrozen 60000000004).clk.uptime ∧ (wFrozen 60000000000).clk.uptime < 4 + 60000000000 ∧ (wWelt 5 2 [] none 7).mayRead A1 (Reg.WL_FLUSH_w 15) = true ∧
  (wWelt 5 2 [] none 7).flushIdx = 3 ∧ (wWelt 3 2 [] none 7).wTotal ≤ (wWelt 3 2 [] none 7).flushIdx ∧ (wWelt 2 2 [] none 7).wTotal ≤ (wWelt 2 2 [] none 7).rd Fld.WL_CFG_KEEP_N ∧
  wTrouble.tWait = ⟨4, 13, 2, 8, 5, [1, 2], 3, 4, 5, 1, 6⟩ :: [] ∧ R.tWait = [] := by decide
theorem test_wit_RegisterClasses : keyOf A1 (0x20000000 + Reg.GB_CFG) = some Reg.GB_CFG ∧ Reg.GB_CFG % 4 = 0 ∧ ((regAt Reg.GB_CFG).map (·.name)) = some "GB.CFG" ∧
  run3.mayWrite A1 Reg.GB_CFG = true ∧ run3.isSealed = true ∧ run3.tWait.length < 16 ∧ R.isSealed = false ∧ R.mayWrite .host (Reg.MC_CH_n_DET 7) = true ∧
  ((regAt (Reg.MC_CH_n_DET 7)).map (·.name)) = some "MC.CH_n_DET" ∧ ((regAt Reg.JC_HOST_ALERT).map (·.name)) = some "JC.HOST_ALERT" := by decide
theorem test_wit_OtherTask : wTasks.mayWrite (.hart .A .h0) (Reg.TRD_DISPATCH .A) = true ∧ wTasks.rd (Fld.TRD_NEXT_TASK .A) ≠ wbits 5 (Fld.TRD_DISPATCH_TASK .A) ∧
  R.rd (Fld.TRD_NEXT_VALID .B) = 0 ∧ wTasks.mayWrite (.hart .A .h0) (Reg.TRD_DONE .A) = true ∧ (R.ln .A).curTask ≠ some (wbits 5 (Fld.TRD_DONE_TASK .A)) := by decide
theorem test_wit_FreezeEnds : (wFrozen 60000000004).frozen = true ∧ wbits 0xFFFFFFFF Fld.WL_CTRL_THAW = 1 := by decide
theorem test_wit_TestAccess : R.st.taps.length = 8 ∧ R.st.tapLock.length = 8 ∧ R.st.scan.length = 8 ∧ (wStrap R).strap = true ∧ R.strap = false ∧
  R.rd Fld.JC_MOD_STATUS_PERMITS = 0 ∧ wRun.rd Fld.JC_MOD_STATUS_PERMITS = 1 ∧ (0x20#8).toNat % 2 ^ tapBits 1 = 0 ∧ (0xFF#8).toNat % 2 ^ tapBits 0 = 0xFF := by decide
theorem test_wit_ShapeKept : Store.wf regReset R.regs = true ∧ R.clk.uptime % 4 = 0 ∧ R.shc.length = 16 ∧ R.mcs.length = 8 ∧ R.fq.length = 4 ∧ (∀ q ∈ R.fq, q.cmd.length = 8) ∧
  R.fld.chs.length = 32 ∧ R.fld.sups.length = 4 ∧ R.dx.wire.length = 4 ∧ (R.ln .C).h0.triggers.length = 4 ∧ (R.ln .C).h1.triggers.length = 4 := by decide
theorem test_wit_ShapeKept_step : step { R with pending := [.fetch] } = exec .fetch R := rfl

/-! ### Further clauses -/

/-- A step asked for in this very jc. -/
def wStepNow : State := { run3 with clk := { run3.clk with stepPend := some ⟨false, -5, 1, 4⟩, uptime := 4 } }
/-- A step pending while unit 15 is due. -/
def wStepDue : State := { wCmp with clk := { wCmp.clk with stepPend := some ⟨false, 7, 1, 0⟩, uptime := 4 } }
theorem test_wit_StepTimes : wStepNow.clk.stepPend = some ⟨false, -5, 1, 4⟩ ∧ wStepNow.clk.uptime ≤ 4 ∧ wStepDue.clk.stepPend = some ⟨false, 7, 1, 0⟩ ∧
  0 < wStepDue.clk.uptime ∧ wStepDue.cmpDue 15 = true ∧ (∀ n < 16, wStep.cmpDue n = false) := by decide
/-- Lane A just tested, so that its compared bits of before stand in `testUndo`. -/
def wTested : State := after (.forcedMismatchTest .A 0xFFFF 0xFFFF true true) (wCompared 1000000)
/-- Lanes B and C stopped: B's notice waits with a cause of this jc, C's with one of before. -/
def wStopped : State := (((put run3 [(Fld.LC_LANE_STATUS_EXEC .B, Exec.stopped), (Fld.LC_LANE_STATUS_EXEC .C, Exec.stopped)]).modLn .B
  (fun n => { n with withdrawal := some (9, 2, 8) })).modLn .C (fun n => { n with withdrawal := some (9, 2, 4) })) |> fun t => { t with clk := { t.clk with uptime := 8 } }
theorem test_wit_SecondCause : wStopped.ex .B = Exec.stopped ∧ (wStopped.ln .B).withdrawal = some (9, 2, wStopped.clk.uptime) ∧ wStopped.ex .C = Exec.stopped ∧
  (wStopped.ln .C).withdrawal = some (9, 2, 4) ∧ wStopped.clk.uptime ≠ 4 ∧ ((wCompared 4).ln .A).testUndo = none := by decide
/-- Cycle 5 of a unit that follows its partner, with the partner's input image of cycle 4 or without. -/
def wCycF (imgs : List (Nat × Mem)) : State := { (put wCyc1 [(Fld.DX_STATUS_STATE, DSt.ready), (Fld.DX_CFG_DUPLEX, 1)]) with
  cfg := { run3.cfg with sIn := 8 }, dx := { R.dx with inImgs := imgs } }
def wCycI : State := { wCyc1 with cyc := { wCyc1.cyc with image := some 5 }, cfg := { run3.cfg with sIn := 8 } }
/-- Hand-overs done, the command link of lane A open. -/
def wCycH : State := wCyc3.modLn .A (fun n => { n with held := some [(0, 1#8)] }) |> fun t => { t with cyc := { t.cyc with handDone := true } }
theorem test_wit_CycleInstants2 : (wCycF [(4, [(4, 1#8)])]).follows = true ∧ lookupN (wCycF [(4, [(4, 1#8)])]).dx.inImgs (5 - 1) = some [(4, 1#8)] ∧ (wCycF []).follows = true ∧
  lookupN (wCycF []).dx.inImgs (5 - 1) = none ∧ (wCycF []).ej2Down = false ∧ wCyc1.follows = false ∧ wCycI.cyc.image = some 5 ∧ wCycI.treadleOn .A = true ∧ wCycI.cyc.relDone = false ∧
  wCyc1.cyc.image = none ∧ (wCycH.ln .A).cmdLink = true ∧ wCycH.cyc.handDone = true ∧ wCycH.cyc.cmdDone = false ∧ (wCycH.ln .B).cmdLink = false ∧
  wCyc3.cyc.handDone = false ∧ wCyc3.handsOver .C = false ∧ (0 : Nat) < wCyc1.fq.length ∧ (wCyc1.fqAt 0).lost = false := by decide
/-- Eyelet 31 full, posted in this jc by lane B (place 3); and full since before. -/
def wPosted : State := { (wEy [(Fld.EY_CH_n_STAT_FULL 31, 1), (Fld.EY_CH_n_STAT_FULL 16, 1)]) with contests := [(31, ⟨R.clk.uptime, none, some 3, false, [], true⟩)] }
/-- Thimble 63 obtained in this jc by the host (place 0), a Shuttle channel late. -/
def wThLate : State := { (wEy [(Fld.EY_TH_n_OWNER 63, 2), (Fld.EY_TH_n_OWNER 62, 2)]) with contests := [(64 + 63, ⟨R.clk.uptime, none, some 0, true, [(8, 0#32)], true⟩)] }
theorem test_wit_Contests : wPosted.rd (Fld.EY_CH_n_CFG_EN 31) = 1 ∧ wPosted.eyHolds 31 = true ∧ (wPosted.contest 31).win = some 3 ∧ ((wEy []).contest 31).win = none ∧
  ((wEy []).contest 31).late = [] ∧ ((wEy []).contest (64 + 63)).win = none ∧ (∀ n < 64, ((wEy []).contest (64 + n)).late = []) ∧ wPosted.eyReady 16 = true ∧
  wPosted.eyReady 31 = false ∧ wPosted.eyTaker .host 16 = true ∧ wPosted.eyTaker A1 31 = true ∧ (wThLate.contest (64 + 62)).late = [] ∧ wThLate.thOwner 62 = 2 := by decide
/-- Lane A's debug module active under the strap; lane B's not. -/
def wDmOn : State := (wStrap run3).modLn .A (fun n => { n with dm := { n.dm with active := true } })
theorem test_wit_TestAccess2 : wDmOn.strap = true ∧ (wDmOn.ln .A).dm.active = true ∧ wDmOn.st.taps.length = 8 ∧ wDmOn.st.tapLock.length = 8 ∧ wDmOn.st.scan.length = 8 := by decide
/-- Channel 5, whose WAIT completed in this jc, taking Eyelet 16; and one of before. -/
def wWaited (at_ : Nat) : State := wSh 1 11 [] [] (fun q => { q with waited := some ⟨at_, 1, 16, 9, 10, true⟩ })
theorem test_wit_Waited : ((wWaited 5000).shq 5).waited = some ⟨5000, 1, 16, 9, 10, true⟩ ∧ (wWaited 5000).clk.uptime = 5000 ∧ ((wWaited 5000).shq 5).xfer = none ∧
  (wWaited 5000).shState 5 = 1 ∧ (wWaited 5000).eyHolds 16 = false ∧ ((wWaited 4996).shq 5).waited = some ⟨4996, 1, 16, 9, 10, true⟩ ∧ (4996 : Nat) ≠ (wWaited 4996).clk.uptime ∧
  (wWaited 5000).basteDue (Fld.SH_CH_c_CTRL_BASTE_PENDING 5) = false := by decide
/-- A word of a diagnostic address whose check bits stand in the list. -/
def wDiagChk : State := wDiag.setMctl .junction { wDiag.mctl .junction with chk := [(0x7FFFFFF8 / 8, 0x5A#8)] }
theorem test_wit_DiagnosticChk : lookupN (wDiagChk.mctl .junction).chk (wDiagChk.phys .junction (wDiagChk.diagAddr .junction) / 8) = some 0x5A#8 ∧
  lookupN (wDiag.mctl .junction).chk (wDiag.phys .junction (wDiag.diagAddr .junction) / 8) = none ∧ wDiagChk.mayWrite .host (Reg.MEM_DIAG_CMD .junction) = true := by decide
/-- Channel 7 with a result in this jc, a copy pending since before; and its one FIFO entry of this jc. -/
def wMcNow (l : List (Field × Nat)) (g : McSt → McSt) : State := wMc l (fun x => g { x with resultAt := some 1000000 })
def wMcDue : State := { (wMcNow [(Fld.MC_CH_n_CTRL_BASTE_PENDING 7, 1), (Fld.MC_CH_n_CTRL_FADE 7, 255), (Fld.MC_SH_CH_n_COEF_i_H 7 3, 200000)] id) with baste := [((Fld.MC_CH_n_CTRL_BASTE_PENDING 7).addr, 999996)] }
def wMcNew : State := { wMcDue with baste := [((Fld.MC_CH_n_CTRL_BASTE_PENDING 7).addr, 1000000)] }
def wMcOne : State := wMcNow [] (fun x => { x with fifo := [(5, 6)] })
def wMcStuck : State := wMc [] (fun x => { x with stuckDue := true, run := 4096 })
theorem test_wit_MeasurementTimes : wMcStuck.mc 7 = { McSt.fresh with stuckDue := true, run := 4096 } ∧ wMcStuck.rd (Fld.MC_CH_n_STAT_STUCK 7) = 0 ∧
  wMcDue.basteDue (Fld.MC_CH_n_CTRL_BASTE_PENDING 7) = true ∧ wMcDue.rd (Fld.MC_CH_n_CTRL_FADING 7) ≠ 1 ∧ (wMcDue.mc 7).resultAt = some wMcDue.clk.uptime ∧
  (wMcDue.mc 7).fadeEnd ≠ some wMcDue.clk.uptime ∧ wMcNew.basteDue (Fld.MC_CH_n_CTRL_BASTE_PENDING 7) = false ∧ wMcOne.mcUnread 7 = true ∧ (wMcOne.mc 7).fifo = [(5, 6)] ∧
  (wFifo 1 true).mcUnread 7 = false ∧ (wMc [] id).mayWrite A1 (Reg.MC_CH_n_CTRL 7) = true ∧ ((wMc [] id).mc 7).resultAt ≠ some (wMc [] id).clk.uptime ∧ (wMcOne.mc 7).spill = none := by decide
/-- Frame 5 in passage with another fate; its trailer fails or holds. -/
def wFate (st : Nat) (f : FrameFate) : State := (wFrame st none).modRg .X (fun g => { g with cur := some { wCur with fate := f } })
/-- The unit with an open west or east port, or both. -/
def wPorts (e w : Nat) : State := put (wExpect RSt.sync) [(Fld.SX_CS_STATUS_E_OPEN .X, e), (Fld.SX_CS_STATUS_W_OPEN .X, w)]
theorem test_wit_FramePorts : (wPorts 1 1).cutOff .X = true ∧ (wPorts 0 0).cutOff .X = false ∧ (wPorts 0 0).takes .X true = false ∧ (wPorts 0 0).takes .X false = true ∧
  (wPorts 0 1).takes .X true = true ∧ (wPorts 0 1).takes .X false = false ∧ ((wPorts 0 0).rg .X).cur = none ∧ hdrBad (wHdr false 1 0 5 77) .X = true ∧
  hdrBad (wHdr true 1 0 5 77) .X = false ∧ hdrBad (wHdr true 2 0 5 77) .X = false ∧ (wPorts 1 0).foldBits .X false = 1 ∧ ((wPorts 1 0).rg .X).fold = 0 ∧
  (wExpect RSt.integrating).rst .X = RSt.integrating ∧ (wExpect RSt.claiming).rst .X < RSt.lead := by decide
theorem test_wit_FrameFates : ((wFate RSt.sync (.anchor 900 false)).rg .X).cur = some { wCur with fate := .anchor 900 false } ∧ ((wFate RSt.sync .bad).rg .X).cur = some { wCur with fate := .bad } ∧
  ((wFate RSt.sync .mismatch).rg .X).cur = some { wCur with fate := .mismatch } ∧ ((wFate RSt.listen .forward).rg .X).cur = some { wCur with fate := .forward } ∧
  wCur.hdr.onEast = false ∧ (wFate RSt.lead .used).rst .X = RSt.lead ∧ (wFate RSt.lead .used).awaits .X = false := by decide
theorem test_wit_FrameSelect : ((wSelect true none).selectSched .X 77).isSome = true ∧ (wSelect false none).selectSched .X 77 = none ∧ ((wSelect true none).rg .X).first = none ∧
  ((wSelect true (some (4, 4002000))).rg .X).first = some (4, 4002000) ∧ (5 : Nat) = (4 + 1) % 2 ^ 32 ∧ (wSelect true (some (4, 4002000))).rateOk = true ∧
  ((wSelect true none).selectSched .X 77).map (fun y => within 5002000 (4002000 + y.tCycle) 2000) = some true ∧
  (wSelect true none).rd (Fld.SX_CS_STATUS_DELAY_VALID .X) = 1 ∧ wLeadFrame.rst .X = RSt.lead ∧ ((wLeadFrame.rg .X).sent).map (fun x => x.header) = some [0#8] ∧
  (wLeadFrame.slotOut .X 2 5 false).isSome = true := by decide
theorem test_wit_Bridge : wbits 0x7FFF (Fld.SX_TXC_CTRL_KIND .X) < 0x8000 ∧ ((wBox 3 0x5A 4 0x8001 true).kind = 0x8001 ∧ (wBox 3 0x5A 4 0x8004 true).kind = 0x8004) ∧
  (0x8000 ≤ (wBox 3 0x5A 4 0x80FF true).kind ∧ (wBox 3 0x5A 4 0x80FF true).kind ≤ 0x80FF ∧ 0x8004 < (wBox 3 0x5A 4 0x80FF true).kind) ∧ (wBox 3 0x5A 4 0x8000 true).kind = 0x8000 ∧
  (wCont 52 [] 0 0).rd (Fld.SX_CFG_ADDR .X) = (wBox 3 0x5A 4 0x8001 true).dest ∧ (wBox 3 0x5A 4 0x8001 true).source ≠ 4 := by decide

/-! ### Clauses on memory without placed check bits, and others -/

theorem test_wit_MacConn : ∀ j ∈ wMac.macQ, j.conn < 1024 := by decide
theorem test_wit_ChangeBlock : (wChg 9 5 1).chg.block = none ∧ 1 ≤ (wChg 9 5 1).chgBlock.recs.length ∧ (wChg 9 5 1).chgBlock.recs.length ≤ 16 ∧
  (wChg 9 5 1).chgCheckAll (wChg 9 5 1).chgBlock.recs (wChg 9 5 1).forcedWords = none ∧ wPend.chg.announced = false ∧
  ((wChg 9 77 1).chgCheckAll (wChg 9 77 1).chgBlock.recs (wChg 9 77 1).forcedWords).any (· < 16) = true := by decide
theorem test_wit_NoCheckBits : (∀ l ∈ lanes, (R.memc.get l).chk = []) ∧ R.jmem.chk = [] ∧ R.jmem.badBitmap = [] ∧ (wReadmit 2).memc = R.memc ∧ wTasks.memc = R.memc ∧
  wPendAck.memc = R.memc ∧ (wFlash true).memc = R.memc ∧ wActPend.memc = R.memc ∧ (wEth []).jmem = R.jmem ∧ (wWelt 5 2 [] none 0).jmem = R.jmem := by decide
theorem test_wit_CleanPage : (∀ j < 64, (wRet.burstClass .junction (0x40001 * 4096 + 64 * j)).1 = 0) ∧ (∀ j < 64, (wRet127.burstClass .junction (0x7FFFF * 4096 + 64 * j)).1 ≠ 2) := by decide
/-- Lane B's request of this jc beside lane A's of the same jc; lane A's comes first. -/
def wDbgTwo : State := ((wStrap run3).modLn .A (fun n => { n with dbgReq := some (.halt .h0), dbgAt := 8 })).modLn .B (fun n => { n with dbgReq := some (.halt .h1), dbgAt := 8 })
theorem test_wit_DebugOrder : wDbgTwo.vote.grant = none ∧ (∀ o ∈ lanes, o.num < Lane.A.num → (wDbgTwo.ln o).dbgReq = none ∨ (wDbgTwo.ln o).dbgAt ≠ (wDbgTwo.ln .A).dbgAt) ∧
  ¬ (∀ o ∈ lanes, o.num < Lane.B.num → (wDbgTwo.ln o).dbgReq = none ∨ (wDbgTwo.ln o).dbgAt ≠ (wDbgTwo.ln .B).dbgAt) ∧ wReplay.vote.agree.get .B < 8 ∧
  (∀ l ∈ lanes, ((wStrap run3).hart l .h0).triggers.length = 4 ∧ ((wStrap run3).hart l .h1).triggers.length = 4) ∧ ((wTrig true 1).m = true ∧ (wNoPermit.hart .A .h0).machine = true) := by decide
theorem test_wit_Paused : wActPend.st.act = some ⟨9, 11, 0x10002, true, ⟨true, false, false⟩⟩ ∧ wActPend.votes .B = true ∧ (wActPend.st.stagedImg.get .B).isSome = true := by decide
/-- Channel 6 ready as well, channel 5 with its grants of the round used. -/
def wTurns : State := { wBurst wX with shc := List.replicate 16 { ShSt.none with xfer := some wX }, arb := ⟨[], [5]⟩ }
theorem test_wit_Grants : (wBurst wX).mayGrant 5 = true ∧ (wLand []).mayGrant 16 = true ∧ wTurns.mayGrant 5 = false ∧
  ({ wTurns with gus := (wLand [wL false 15 0 0 0]).gus, arb := ⟨[], [16]⟩ } : State).mayGrant 16 = false := by decide
theorem test_wit_TroubleTimes : wTrouble.tLast ≠ some wTrouble.clk.uptime ∧ (∀ c ∈ wTrouble.tWait, c.at_ < wTrouble.clk.uptime) ∧
  (∀ c ∈ ({ wTrouble with clk := { wTrouble.clk with uptime := 4 } } : State).tWait, 4 ≤ c.at_) ∧ (∀ e ∈ (wWelt 5 2 [wEv 7 8] none 0).welt.queue, e.at_ < (wWelt 5 2 [wEv 7 8] none 0).clk.uptime) := by decide
theorem test_wit_NoEgress : ∀ l, (R.ln l).egress = [] := fun l => by cases l <;> rfl
theorem test_wit_MissRun : ((wDx DSt.ready [] (fun d => { d with missRun := 3 })).dx.missRun = 3) ∧ (wDx DSt.ready [] id).dx.missRun < 3 := by decide
theorem test_wit_TakenPair : (wFollow RSt.sync).takes .X false ≠ (wFollow RSt.sync).takes .X true ∧ (wAsleep false true 0).takes .X false ≠ (wAsleep false true 0).takes .X true ∧
  (wWake id).takes .X false ≠ (wWake id).takes .X true ∧ ((wWake id).rg .X).led = false ∧ (wWake id).rst .X = RSt.sleep := by decide

/-! ### Ill-formed terms, one for each check -/

theorem test_wf_op : (wfOp (.jal 1 3) || wfOp (.branch .eq 1 2 1) || wfOp (.lui 1 0x1001) || wfOp (.auipc 1 1) || wfOp (.load 3 false 1 2 0)) = false ∧
  (wfOp (.jal 1 2) && wfOp (.branch .eq 1 2 4) && wfOp (.lui 1 0x1000) && wfOp (.load 2 false 1 2 0) && wfOp .ecall) = true := by decide
theorem test_wf_width : wellFormed (.registerWrite .host 8 3 0) = false ∧ wellFormed (.registerWrite .host 8 4 0) = true := by decide
theorem test_wf_hart : wellFormed (.hartInstruction .A .h0 (.jal 1 1) false []) = false ∧ wellFormed (.singleStep .A .h0 (.auipc 1 1) false) = false ∧
  wellFormed (.hartInstruction .A .h0 (.jal 1 8) false []) = true := by decide
theorem test_wf_addr : wellFormed (.uncorrectableError .A 1 1 0x100000000 0) = false ∧ wellFormed (.uncorrectableError .A 1 1 0xFFFFFFFF 0) = true := by decide
theorem test_wf_trigger : wellFormed (.triggerArm .A .h0 0 ⟨true, false, 2, true, false, false, 0⟩ none) = false ∧ wellFormed (.triggerArm .A .h0 0 ⟨true, false, 1, true, false, false, 0⟩ none) = true := by decide
theorem test_wf_frames : wellFormed (.frameHeader .X { wHdr true 1 3 5 77 with type := 256 }) = false ∧ wellFormed (.frameHeader .X (wHdr true 1 3 5 77)) = true ∧
  wellFormed (.containerPassage .X ⟨512, true, 0, 3, 4, 1, 0, 1, []⟩) = false ∧ wellFormed (.containerPassage .X (wBox 1 0 4 1 true)) = true ∧
  wellFormed (.claimReceived .X (wClaim 256 1 0)) = false ∧ wellFormed (.claimReceived .X (wClaim 255 1 0)) = true ∧
  wellFormed (.censusReceived .X ⟨true, true, 0, 1, 256, 0, []⟩) = false ∧ wellFormed (.censusReturn .X ⟨true, true, 0, 1, 2, 0x100000000, []⟩) = false ∧
  wellFormed (.censusReturn .X ⟨true, true, 0, 1, 2, 7, []⟩) = true := by decide
theorem test_wf_plane : wellFormed (.planeTableReceived [1] true) = false ∧ wellFormed (.planeTableReceived [1] false) = true := by decide
theorem test_wf_channels : wellFormed (.channelMeasurement [] []) = false ∧ wellFormed (.channelMeasurement (List.replicate 32 0) (List.replicate 32 5)) = true := by decide
theorem test_wf_buses : wellFormed (.ethFrameReceived 0 (List.replicate 13 0) true) = false ∧ wellFormed (.ethFrameReceived 0 (List.replicate 14 0) true) = true ∧
  wellFormed (.slaveFrame 4 5 true true [1]) = false ∧ wellFormed (.slaveFrame 0 5 true true [1, 2]) = true ∧
  wellFormed (.canFrameReceived 0 false 2048 false false 1 [5]) = false ∧ wellFormed (.canFrameReceived 0 true 2048 true true 1 [5]) = false ∧
  wellFormed (.canFrameReceived 0 true 2048 false false 1 [5]) = true := by decide
theorem test_wf_host : wellFormed (.hostWrite 1 2 8 [5] true) = false ∧ wellFormed (.recoveryBlock 1 0 8 [5] true) = false ∧ wellFormed (.hostWrite 1 1 8 [5] true) = true ∧
  wellFormed (.mcResult 1 []) = false ∧ wellFormed (.mcResult 1 [true]) = true ∧ wellFormed (.laneDigestReport .A [1] true) = false ∧
  wellFormed (.tftpDataBlock 1 (List.replicate 513 0)) = false ∧ wellFormed (.tftpDataBlock 1 (List.replicate 512 0)) = true := by decide

theorem test_wf_lists : wellFormed (.abstractCommand .A .h0 true false false true 0 0 (List.replicate 17 .fence)) = false ∧ wellFormed (.dmi .A 0x20 0 2 [.jal 1 1]) = false ∧
  wellFormed (.dmi .A 0x20 0 2 (List.replicate 16 .fence)) = true ∧ wellFormed (.frameLaunch .X [⟨4096, [], true⟩] []) = false ∧ wellFormed (.frameLaunch .X [⟨4095, [], true⟩] []) = true ∧
  wellFormed (.plugReadDone (wPlug true [{ wCensusSched with entries := [(256, (0, 0, 0))] }])) = false ∧
  wellFormed (.plugReadDone (wPlug true [{ wCensusSched with entries := [(255, (0, 0, 0))] }])) = true := by decide

/-! ### Decoding and single steps -/

theorem test_decode_none : decodeTableWord 0 0 = none ∧ decodeTableWord 32 0xFFFFFFFF = none := by decide
theorem test_withFetchWord : R.withFetchWord 16 5 = R := rfl
/-- R178: an idle step passes one jc of 4 ns. -/
theorem test_idle_uptime : (match step R with | .next t => t.clk.uptime | _ => 0) = 4 := by decide
/-- R12: a write of an offset that holds no register is an access fault. -/
theorem test_write_hole : (after (.registerWrite .host 0x30 4 7) R).response .host = .fault := by decide
/-- R447: the 33rd result finds the FIFO full. -/
theorem test_mc_overflow : ((after (.mcResult 7 [true, false, true, true]) (wFifo 32 false)).mc 7).fifo.length = 32 := by decide
/-- R423: a full Eyelet keeps its word. -/
theorem test_eyelet_full : (after (.eyeletPost .host 31 9) (wEy [(Fld.EY_CH_n_STAT_FULL 31, 1)])).reg (Reg.EY_CH_n_MSG 31) = 0 ∧
  (after (.eyeletPost .host 31 9) (wEy [])).reg (Reg.EY_CH_n_MSG 31) = 9 := by decide
/-- R412: NOP at slot 511 has no next slot: error 0x9. -/
theorem test_nop_end : (after (.nop 5) (wOp 511 [0])).rd (Fld.SH_CH_c_STAT_ERR 5) = 9 ∧ (after (.nop 5) (wOp 510 [0])).shPc 5 = 511 := by decide
/-- R372: the eighth count beyond 247 is bus-off, 247 itself is not. -/
theorem test_can_busoff : (after (.canBusError 2 true 1) (wCan 1 248 [])).canState 2 = 2 ∧ (after (.canBusError 2 true 1) (wCan 1 247 [])).canState 2 = 1 := by decide

end Sys2Proof.Tests
end

section
/-! PROOF. Register accesses at the bus (R12, R28, R29, R424): permitted ones, what a refusal leaves behind, and that a faulting access and a
write that its initiator may not make are refusals (O4, O5). -/

namespace Sys2Proof.Machine

/-! ### The rows that are register accesses -/

theorem exec_registerWrite (i : Initiator) (addr width : Nat) (w : Word) (s : State) :
    exec (.registerWrite i addr width w) s = .next (s.busWrite i addr width w) := rfl

theorem exec_pairLoRead (i : Initiator) (addr : Nat) (s : State) : exec (.pairLoRead i addr) s = .next (s.busRead i addr 4) := rfl

theorem exec_pairHiWrite (i : Initiator) (addr : Nat) (w : Word) (s : State) :
    exec (.pairHiWrite i addr w) s = .next (s.busWrite i addr 4 w) := rfl

theorem exec_pairLoWrite (i : Initiator) (addr : Nat) (w : Word) (s : State) :
    exec (.pairLoWrite i addr w) s = .next (s.busWrite i addr 4 w) := rfl

/-! ### Permitted accesses -/

/-- A permitted read of a register at its key. -/
theorem State.keyRead_of_may (s : State) {i : Initiator} {k : Nat} {d : RegDesc} (hd : regAt k = some d) (h : s.mayRead i k = true) :
    s.keyRead i k = (s.regRead i k d).1.respond i (.data (s.regRead i k d).2) := by
  simp only [State.keyRead, hd, h, if_true]

/-- A permitted write of a register at its key, where the write ends in no fault. -/
theorem State.keyWrite_of_may (s : State) {i : Initiator} {k : Nat} {d : RegDesc} {w : Word} {t : State} (hd : regAt k = some d)
    (h : s.mayWrite i k = true) (ht : s.writeReg i k w d = some t) : s.keyWrite i k w = t.respond i .done := by
  simp only [State.keyWrite, hd, h, ht, if_true]

theorem State.busRead_aligned (s : State) {i : Initiator} {addr k : Nat} (hk : keyOf i addr = some k) (hal : k % 4 = 0) :
    s.busRead i addr 4 = s.keyRead i k := by
  simp only [State.busRead, hk, hal, and_self, if_true]

theorem State.busWrite_aligned (s : State) {i : Initiator} {addr k : Nat} (w : Word) (hk : keyOf i addr = some k) (hal : k % 4 = 0) :
    s.busWrite i addr 4 w = s.keyWrite i k w := by
  simp only [State.busWrite, hk, hal, and_self, if_true]

/-! ### What a refusal leaves -/

/-- Where no violation note of R424 is due, a refusal changes only the answer. -/
theorem State.deny_eq_respond (s : State) (i : Initiator) (k : Nat) (h : eySecure k = false ∨ s.secure i = true) :
    s.deny i k = s.respond i .fault := by
  unfold State.deny
  rcases h with h | h <;> simp [h]

@[simp] theorem State.response_respond_same (s : State) (i : Initiator) (r : BusResp) : (s.respond i r).response i = r := by
  rw [State.response_respond, if_pos rfl]

@[simp] theorem State.response_deny (s : State) (i : Initiator) (k : Nat) : (s.deny i k).response i = .fault := by
  unfold State.deny
  split <;> exact State.response_respond_same _ _ _

/-! ### When an access is refused -/

/-- The access cannot name a whole register (R12): another width than 4, a misaligned address, or no register there. -/
def badAccess (i : Initiator) (addr width : Nat) : Prop :=
  width ≠ 4 ∨ addr % 4 ≠ 0 ∨ ∀ k, keyOf i addr = some k → regAt k = none

/-- A register's key is aligned as the address that names it. -/
theorem keyOf_mod_four {i : Initiator} {addr k : Nat} (h : keyOf i addr = some k) : k % 4 = addr % 4 := by
  cases i with
  | hart l h =>
    simp only [keyOf, decide_eq_true_eq] at h
    split at h
    · cases l <;> simp only [laneKey, Option.some.injEq] at h <;> omega
    · split at h
      · simp only [Option.some.injEq] at h; omega
      · cases h
  | _ =>
    simp only [keyOf] at h
    split at h
    · simp only [Option.some.injEq] at h; omega
    · cases h

theorem State.keyRead_of_no_register (s : State) (i : Initiator) {k : Nat} (h : regAt k = none) : s.keyRead i k = s.deny i k := by
  unfold State.keyRead; rw [h]

theorem State.keyWrite_of_no_register (s : State) (i : Initiator) {k : Nat} (w : Word) (h : regAt k = none) :
    s.keyWrite i k w = s.deny i k := by
  unfold State.keyWrite; rw [h]

theorem State.keyWrite_of_may_not (s : State) (i : Initiator) {k : Nat} (w : Word) (h : s.mayWrite i k = false) :
    s.keyWrite i k w = s.deny i k := by
  unfold State.keyWrite
  cases regAt k with
  | none => rfl
  | some d => simp [h]

/-- The two forms of a refused access: outside the initiator's windows the plain fault, inside them the refusal at the key. -/
def Refused (s : State) (i : Initiator) (addr : Nat) (t : State) : Prop :=
  (keyOf i addr = none ∧ t = s.respond i .fault) ∨ ∃ k, keyOf i addr = some k ∧ t = s.deny i k

theorem Refused.response {s t : State} {i : Initiator} {addr : Nat} (h : Refused s i addr t) : t.response i = .fault := by
  rcases h with ⟨_, rfl⟩ | ⟨k, _, rfl⟩
  · exact s.response_respond_same i .fault
  · exact s.response_deny i k

theorem Refused.eq_respond {s t : State} {i : Initiator} {addr : Nat} (h : Refused s i addr t)
    (hey : ∀ k, keyOf i addr = some k → eySecure k = false ∨ s.secure i = true) : t = s.respond i .fault := by
  rcases h with ⟨_, rfl⟩ | ⟨k, hk, rfl⟩
  · rfl
  · exact s.deny_eq_respond i k (hey k hk)

theorem State.busWrite_refused (s : State) {i : Initiator} {addr width : Nat} (w : Word) (h : badAccess i addr width) :
    Refused s i addr (s.busWrite i addr width w) := by
  unfold State.busWrite
  cases hk : keyOf i addr with
  | none => exact .inl ⟨hk, rfl⟩
  | some k =>
    refine .inr ⟨k, hk, ?_⟩
    have hmod := keyOf_mod_four hk
    by_cases hw : width = 4 ∧ k % 4 = 0
    · have hnone : regAt k = none := (h.resolve_left (by omega)).resolve_left (by omega) k hk
      simp only [hw, and_self, if_true]
      exact s.keyWrite_of_no_register i w hnone
    · simp only [hw, if_false]

theorem State.busRead_refused (s : State) {i : Initiator} {addr width : Nat} (h : badAccess i addr width) :
    Refused s i addr (s.busRead i addr width) := by
  unfold State.busRead
  cases hk : keyOf i addr with
  | none => exact .inl ⟨hk, rfl⟩
  | some k =>
    refine .inr ⟨k, hk, ?_⟩
    have hmod := keyOf_mod_four hk
    by_cases hw : width = 4 ∧ k % 4 = 0
    · have hnone : regAt k = none := (h.resolve_left (by omega)).resolve_left (by omega) k hk
      simp only [hw, and_self, if_true]
      exact s.keyRead_of_no_register i hnone
    · simp only [hw, if_false]

/-- Settles O4: an access that names no whole register is refused, and a refusal leaves the answer (and R424's note). -/
theorem faultingAccessChangesNothing : Obligations.FaultingAccessChangesNothing := by
  unfold Obligations.FaultingAccessChangesNothing
  intro s i addr width w h
  have hw := s.busWrite_refused w h
  have hr := s.busRead_refused h
  exact ⟨gives_of_exec rfl ⟨hw.response, hw.eq_respond⟩, hr.response, hr.eq_respond⟩

/-! ### Writes that an initiator may not make -/

theorem laneOf_of_junction {k : Nat} (h : k < 0x1000000) : laneOf k = none := by
  unfold laneOf; rw [if_pos h]

/-- A hart writes the junction window only as HART_1 of the service master's lane (R28, R29). -/
theorem State.mayWrite_junction_hart (s : State) (l : Lane) (h : Hart) {k : Nat} (hk : laneOf k = none)
    (hno : h = .h0 ∨ s.svcMaster ≠ some l) : s.mayWrite (.hart l h) k = false := by
  have hside : (decide (h = Hart.h1) && decide (s.svcMaster = some l)) = false := by
    rcases hno with rfl | hno
    · rfl
    · simp [hno]
  simp only [State.mayWrite, hk, hside, Bool.and_false, Bool.false_and]

/-- No hart writes a register of another lane (R28). -/
theorem State.mayWrite_other_lane (s : State) {l m : Lane} (h : Hart) {k : Nat} (hk : laneOf k = some m) (hne : l ≠ m) :
    s.mayWrite (.hart l h) k = false := by
  simp only [State.mayWrite, hk, hne, decide_false, Bool.false_and, Bool.and_false]

/-- No hart reads a register of another lane (R28). -/
theorem State.mayRead_other_lane (s : State) {l m : Lane} (h : Hart) {k : Nat} (hk : laneOf k = some m) (hne : l ≠ m) :
    s.mayRead (.hart l h) k = false := by
  simp only [State.mayRead, hk, hne, decide_false, Bool.false_and, Bool.and_false]

/-- Only HART_0 writes its lane's Treadle (R28). -/
theorem State.mayWrite_treadle_h1 (s : State) (l : Lane) {k : Nat} (hk : laneOf k = some l) (ht : k % 0x10000000 / 0x10000 = 2) :
    s.mayWrite (.hart l .h1) k = false := by
  have hside : (k % 0x10000000 / 0x10000 != 2 || decide (Hart.h1 = Hart.h0)) = false := by simp [ht]
  simp only [State.mayWrite, hk, hside, Bool.and_false, Bool.false_and]

/-- A write at the bus by an initiator without the right is a refusal. -/
theorem State.busWrite_of_may_not (s : State) {i : Initiator} {addr k : Nat} (w : Word) (hk : keyOf i addr = some k)
    (h : s.mayWrite i k = false) : s.busWrite i addr 4 w = s.deny i k := by
  unfold State.busWrite
  rw [hk]
  show (if 4 = 4 ∧ k % 4 = 0 then s.keyWrite i k w else s.deny i k) = s.deny i k
  rw [s.keyWrite_of_may_not i w h, ite_self]

/-- A command of the junction's table by an initiator without the right is a refusal. -/
theorem State.regCmd_of_may_not (s : State) {i : Initiator} {k : Nat} (w : Word) (eff : State → State) (h : s.mayWrite i k = false) :
    s.regCmd i k w eff = s.deny i k := by
  simp [State.regCmd, h]

theorem State.regCmdRaw_of_may_not (s : State) {i : Initiator} {k : Nat} (eff : State → State) (h : s.mayWrite i k = false) :
    s.regCmdRaw i k eff = s.deny i k := by
  simp [State.regCmdRaw, h]

/-- Settles O5: the rights of R28 and R29 side by side, and every write without its right is a refusal. -/
theorem refusedWriteNoEffect : Obligations.RefusedWriteNoEffect := by
  unfold Obligations.RefusedWriteNoEffect
  intro s i k w
  refine ⟨fun l hk => ?_, fun l m h hk hne => ?_, fun l => ?_, fun hno hey => ?_⟩
  · have hj := laneOf_of_junction hk
    exact ⟨s.mayWrite_junction_hart l .h0 hj (.inl rfl), fun hm => s.mayWrite_junction_hart l .h1 hj (.inr hm)⟩
  · exact ⟨s.mayWrite_other_lane h hk hne, s.mayRead_other_lane h hk hne⟩
  · exact s.mayWrite_treadle_h1 l (by cases l <;> decide) (by cases l <;> decide)
  · have hd := s.deny_eq_respond i k hey
    refine ⟨fun addr hk => gives_of_exec rfl ((s.busWrite_of_may_not w hk hno).trans hd), ?_, ?_, ?_, ?_, ?_⟩
    · rintro rfl; exact gives_of_exec rfl ((s.regCmd_of_may_not w _ hno).trans hd)
    · rintro rfl; exact gives_of_exec rfl ((s.regCmdRaw_of_may_not _ hno).trans hd)
    · rintro rfl; exact gives_of_exec rfl ((s.regCmd_of_may_not w _ hno).trans hd)
    · rintro rfl p; exact gives_of_exec rfl ((s.regCmd_of_may_not w _ hno).trans hd)
    · rintro rfl; exact gives_of_exec rfl ((s.regCmd_of_may_not w _ hno).trans hd)

end Sys2Proof.Machine
end

section
/-! PROOF. What a write does to a register's fields (R10, R11, R16): the word that `mergeFields` gives, field by field and bit by bit, and
what the trouble entry of a sealed write leaves. -/

namespace Sys2Proof.Machine

/-! ### The fields of a merged word -/

/-- The value that a field with value `o` takes in a write of `w`, by its access class. -/
def fieldAfter (s : State) (k w : Nat) (f : RField) (o : Nat) : Nat :=
  match f.acc with
  | .rw => if s.locked k f then o else clampField k f (bitsOf w f.hi f.lo)
  | .rws => if s.isSealed || factoryMac k || isSyT k f then o else bitsOf w f.hi f.lo
  | .w1c => o - (o &&& bitsOf w f.hi f.lo)
  | .w1s => o ||| bitsOf w f.hi f.lo
  | .ro | .wo => o

theorem mergeFields_cons (s : State) (k w : Nat) (f : RField) (fs : List RField) (n : Nat) :
    mergeFields s k w (f :: fs) n
      = mergeFields s k w fs (putBits n f.hi f.lo (fieldAfter s k w f (bitsOf n f.hi f.lo))) := by
  cases h : f.acc <;> simp only [mergeFields, fieldAfter, h]

/-- Every field lies inside the word, and no two share a bit. -/
def laidOut : List RField → Bool
  | [] => true
  | f :: fs => decide (f.lo ≤ f.hi ∧ f.hi < 32) && fs.all (fun g => decide (g.hi < f.lo ∨ f.hi < g.lo)) && laidOut fs

theorem laidOut_cons {f : RField} {fs : List RField} :
    laidOut (f :: fs) = true ↔ (f.lo ≤ f.hi ∧ f.hi < 32) ∧ (∀ g ∈ fs, g.hi < f.lo ∨ f.hi < g.lo) ∧ laidOut fs = true := by
  simp [laidOut, and_assoc]

theorem mergeFields_lt (s : State) (k w : Nat) : ∀ (fs : List RField) (n : Nat), laidOut fs = true → n < 2 ^ 32 →
    mergeFields s k w fs n < 2 ^ 32
  | [], _, _, hn => hn
  | f :: fs, n, h, hn => by
    obtain ⟨⟨hlo, hhi⟩, _, hfs⟩ := laidOut_cons.mp h
    rw [mergeFields_cons]
    exact mergeFields_lt s k w fs _ hfs (putBits_lt n f.hi f.lo _ hn hhi hlo)

/-- Bits that share none with the fields written keep their value. -/
theorem bitsOf_mergeFields_apart (s : State) (k w hi lo : Nat) : ∀ (fs : List RField) (n : Nat), laidOut fs = true →
    (∀ f ∈ fs, hi < f.lo ∨ f.hi < lo) → bitsOf (mergeFields s k w fs n) hi lo = bitsOf n hi lo
  | [], _, _, _ => rfl
  | f :: fs, n, h, hd => by
    obtain ⟨⟨hlo, _⟩, _, hfs⟩ := laidOut_cons.mp h
    rw [mergeFields_cons, bitsOf_mergeFields_apart s k w hi lo fs _ hfs (fun g hg => hd g (.tail _ hg)),
      bitsOf_putBits_other _ _ _ _ _ _ hlo (hd f (.head _))]

/-- Each field of a merged word holds what its access class makes of it. -/
theorem bitsOf_mergeFields (s : State) (k w : Nat) {f : RField} : ∀ (fs : List RField) (n : Nat), laidOut fs = true → f ∈ fs →
    bitsOf (mergeFields s k w fs n) f.hi f.lo = fieldAfter s k w f (bitsOf n f.hi f.lo) % 2 ^ (f.hi + 1 - f.lo)
  | g :: fs, n, h, hf => by
    obtain ⟨⟨hlo, _⟩, hapart, hfs⟩ := laidOut_cons.mp h
    rw [mergeFields_cons]
    rcases List.mem_cons.mp hf with rfl | hmem
    · rw [bitsOf_mergeFields_apart s k w f.hi f.lo fs _ hfs (fun g hg => (hapart g hg).symm), bitsOf_putBits_same _ _ _ _ hlo]
    · rw [bitsOf_mergeFields s k w fs _ hfs hmem, bitsOf_putBits_other _ _ _ _ _ _ hlo (hapart f hmem)]

/-- A bit that no field covers keeps its value. -/
theorem testBit_mergeFields_outside (s : State) (k w b : Nat) : ∀ (fs : List RField) (n : Nat), laidOut fs = true →
    (∀ f ∈ fs, b < f.lo ∨ f.hi < b) → (mergeFields s k w fs n).testBit b = n.testBit b
  | [], _, _, _ => rfl
  | f :: fs, n, h, hd => by
    obtain ⟨⟨hlo, _⟩, _, hfs⟩ := laidOut_cons.mp h
    have hf := hd f (.head _)
    rw [mergeFields_cons, testBit_mergeFields_outside s k w b fs _ hfs (fun g hg => hd g (.tail _ hg)), testBit_putBits _ _ _ _ _ hlo,
      if_neg (by omega)]

/-- The bits of `o` that `v` shares and those that it does not share make up `o`. -/
theorem and_add_and_xor (o : Nat) : ∀ v, (o &&& v) + (o &&& (o ^^^ v)) = o := by
  induction o using Nat.strongRecOn with
  | ind o ih =>
    intro v
    rcases Nat.eq_zero_or_pos o with rfl | hpos
    · simp
    · have hhalf := ih (o / 2) (by omega) (v / 2)
      rw [← Nat.xor_div_two, ← Nat.and_div_two, ← Nat.and_div_two] at hhalf
      have hlow : (o &&& v) % 2 + (o &&& (o ^^^ v)) % 2 = o % 2 := by
        have h1 := Nat.and_mod_two_pow (a := o) (b := v) (n := 1)
        have h2 := Nat.and_mod_two_pow (a := o) (b := o ^^^ v) (n := 1)
        have h3 := Nat.xor_mod_two_pow (a := o) (b := v) (n := 1)
        rw [Nat.pow_one] at h1 h2 h3
        rw [h1, h2, h3]
        rcases Nat.mod_two_eq_zero_or_one o with ho | ho <;> rcases Nat.mod_two_eq_zero_or_one v with hv | hv <;> rw [ho, hv] <;> rfl
      omega

/-- Clearing the bits written as one, as a subtraction and bit by bit. -/
theorem sub_and_eq_and_xor (o v : Nat) : o - (o &&& v) = o &&& (o ^^^ v) := by
  have h := and_add_and_xor o v
  omega

/-- A register's word rests on the register store alone. -/
theorem State.reg_of_regs {s t : State} (h : t.regs = s.regs) (k : Nat) : t.reg k = s.reg k := by
  unfold State.reg; rw [h]

/-! ### The causes of a refused field -/

/-- The two states agree but for registers and the causes that wait for the trouble log. -/
def LogOnly (s t : State) : Prop := ∃ r w, t = { s with regs := r, tWait := w }

theorem LogOnly.refl (s : State) : LogOnly s s := ⟨s.regs, s.tWait, rfl⟩

theorem LogOnly.setReg {s t : State} (h : LogOnly s t) (k : Nat) (v : Word) : LogOnly s (t.setReg k v) := by
  obtain ⟨r, w, rfl⟩ := h
  exact ⟨_, w, rfl⟩

/-- After the answer to the initiator only registers, answers and waiting causes can differ. -/
theorem LogOnly.onlyRegsLog {s t : State} (h : LogOnly s t) (i : Initiator) (r : BusResp) : OnlyRegsLog s (t.respond i r) := by
  obtain ⟨_, _, rfl⟩ := h
  rfl

theorem State.trouble_logOnly (s : State) (src off bit code : Nat) (detail : List Nat) :
    LogOnly s (s.trouble src off bit code detail) := by
  unfold State.trouble
  split
  · exact (LogOnly.refl s).setReg _ _
  · exact ⟨s.regs, _, rfl⟩

/-- A cause for the trouble log touches no register but TL.STATUS. -/
theorem State.reg_trouble (s : State) (src off bit code : Nat) (detail : List Nat) {j : Nat} (h : homeKey j ≠ homeKey Reg.TL_STATUS) :
    (s.trouble src off bit code detail).reg j = s.reg j := by
  unfold State.trouble
  split
  · exact s.reg_wr_ne _ _ j h
  · rfl

/-- While fewer than 16 causes wait, a cause touches no register at all. -/
theorem State.regs_trouble_of_room (s : State) (src off bit code : Nat) (detail : List Nat) (h : s.tWait.length < 16) :
    (s.trouble src off bit code detail).regs = s.regs := by
  unfold State.trouble; rw [if_neg (by omega)]

theorem mem_insertCause (c : TCause) : ∀ xs : List TCause, c ∈ insertCause c xs
  | [] => .head _
  | x :: xs => by
    unfold insertCause
    split
    · exact .head _
    · exact .tail _ (mem_insertCause c xs)

/-- While fewer than 16 causes wait, the cause given waits afterwards. -/
theorem State.trouble_waits (s : State) (src off bit code : Nat) (detail : List Nat) (h : s.tWait.length < 16) :
    ∃ c ∈ (s.trouble src off bit code detail).tWait, c.src = src ∧ c.off = off ∧ c.code = code := by
  unfold State.trouble
  rw [if_neg (by omega)]
  exact ⟨_, mem_insertCause _ _, rfl, rfl, rfl⟩

/-- The two things that the note of a sealed write can be (R11): nothing, or one cause with CODE 1 at the register. -/
theorem State.noteSealed_cases (s : State) {k : Nat} {d : RegDesc} (w : Word) (hd : regAt k = some d) :
    (refusedField s k w.toNat d.fields = none ∧ s.noteSealed k w = s) ∨
    ∃ f, refusedField s k w.toNat d.fields = some f ∧ s.noteSealed k w = s.trouble (sourceOf k) (k % 0x10000) f.lo 1 [] := by
  unfold State.noteSealed
  rw [hd]
  cases h : refusedField s k w.toNat d.fields with
  | none => exact .inl ⟨rfl, by simp only [h]⟩
  | some f => exact .inr ⟨f, rfl, by simp only [h]⟩

theorem State.noteSealed_logOnly (s : State) {k : Nat} {d : RegDesc} (w : Word) (hd : regAt k = some d) : LogOnly s (s.noteSealed k w) := by
  rcases s.noteSealed_cases w hd with ⟨_, h⟩ | ⟨f, _, h⟩ <;> rw [h]
  · exact LogOnly.refl s
  · exact s.trouble_logOnly _ _ _ _ _

theorem State.reg_noteSealed (s : State) {k j : Nat} {d : RegDesc} (w : Word) (hd : regAt k = some d)
    (h : homeKey j ≠ homeKey Reg.TL_STATUS) : (s.noteSealed k w).reg j = s.reg j := by
  rcases s.noteSealed_cases w hd with ⟨_, hn⟩ | ⟨f, _, hn⟩ <;> rw [hn]
  exact s.reg_trouble _ _ _ _ _ h

theorem State.regs_noteSealed_of_room (s : State) {k : Nat} {d : RegDesc} (w : Word) (hd : regAt k = some d) (h : s.tWait.length < 16) :
    (s.noteSealed k w).regs = s.regs := by
  rcases s.noteSealed_cases w hd with ⟨_, hn⟩ | ⟨f, _, hn⟩ <;> rw [hn]
  exact s.regs_trouble_of_room _ _ _ _ _ h

/-- No field is refused where none is sealed. -/
theorem refusedField_eq_none (s : State) (k w : Nat) {fs : List RField} (h : (∀ f ∈ fs, f.acc ≠ .rws) ∨ s.isSealed = false) :
    refusedField s k w fs = none := by
  unfold refusedField
  rcases h with h | h
  · split
    · rw [List.find?_eq_none]
      intro f hf
      simp [h f (List.mem_reverse.mp hf)]
    · rfl
  · rw [h]; rfl

/-- A sealed write that would change an RWS field refuses some field. -/
theorem refusedField_isSome (s : State) {k w : Nat} {fs : List RField} {f : RField} (hs : s.isSealed = true) (hf : f ∈ fs)
    (hacc : f.acc = .rws) (hT : isSyT k f = false) (hne : bitsOf w f.hi f.lo ≠ bitsOf (s.reg k).toNat f.hi f.lo) :
    (refusedField s k w fs).isSome = true := by
  unfold refusedField
  rw [if_pos hs, List.find?_isSome]
  exact ⟨f, List.mem_reverse.mpr hf, by simp [hacc, hT, hne]⟩

theorem State.noteSealed_eq_self (s : State) {k : Nat} {d : RegDesc} (w : Word) (hd : regAt k = some d)
    (h : (∀ f ∈ d.fields, f.acc ≠ .rws) ∨ s.isSealed = false) : s.noteSealed k w = s := by
  have hnone := refusedField_eq_none s k w.toNat h
  rcases s.noteSealed_cases w hd with ⟨_, hn⟩ | ⟨f, hsome, _⟩
  · exact hn
  · rw [hnone] at hsome; cases hsome

/-- A sealed write that would change an RWS field leaves a cause with CODE 1 at the register (R11). -/
theorem State.noteSealed_waits (s : State) {k : Nat} {d : RegDesc} (w : Word) (hd : regAt k = some d) {f : RField} (hs : s.isSealed = true)
    (hroom : s.tWait.length < 16) (hf : f ∈ d.fields) (hacc : f.acc = .rws) (hT : isSyT k f = false)
    (hne : bitsOf w.toNat f.hi f.lo ≠ bitsOf (s.reg k).toNat f.hi f.lo) :
    ∃ c ∈ (s.noteSealed k w).tWait, c.src = sourceOf k ∧ c.off = k % 0x10000 ∧ c.code = 1 := by
  have hsome := refusedField_isSome s hs hf hacc hT hne
  rcases s.noteSealed_cases w hd with ⟨hnone, _⟩ | ⟨g, _, hn⟩
  · rw [hnone] at hsome; cases hsome
  · rw [hn]; exact s.trouble_waits _ _ _ _ _ hroom

/-! ### The plain write of a register -/

/-- The plain write of a register that is neither SY's mirror of one, nor a counter cleared by ones, nor SX.SCHED_CTRL: the note of
R11, then the merged word. -/
theorem State.merge_eq (s : State) {k : Nat} {d : RegDesc} (w : Word) (hd : regAt k = some d) (hm : isSyMirror k = false)
    (hc : clearsOnOnes k = false) (hl : k ≠ Reg.SX_SCHED_CTRL) :
    s.merge k w = (s.noteSealed k w).setReg k (BitVec.ofNat 32 (mergeFields s k w.toNat d.fields (s.reg k).toNat)) := by
  have hlead : ∀ t : State, t.noteLead k w = t := fun t => by simp [State.noteLead, hl]
  unfold State.merge
  simp only [hm, hd, hc, hlead, Bool.false_eq_true, if_false]

end Sys2Proof.Machine
end

section
/-! PROOF. The registers of plain fields (R10, R11, R16): where they lie, and that a permitted write of one is the write of its fields. -/

namespace Sys2Proof.Machine

/-- Registers whose write has no effect of its own, by name. -/
def plainNames : List String :=
  ["JC.HOST_CFG", "JC.HOST_ALERT", "JC.MOD_ID", "TT.STATUS", "TT.SEL_n", "SH.CFG", "SH.LW_BASE", "SH.LW_SIZE", "SH.CH_c_STAT", "SH.PROG_w",
    "ETH.CFG", "EY.CH_n_CFG", "EY.STATUS", "GB.CFG", "GB.WIN_n_CFG", "GB.STATUS", "MC.CH_n_CFG", "MC.CH_n_DET", "DX.STATUS", "ETH.IN_BASE"]

/-- Where they lie: the unit's block number, the offset of the first one and the dimensions. -/
def plainPlaces : List (Nat × Nat × List (Nat × Nat)) :=
  [(0, 0x20, []), (0, 0x100, []), (0, 0x104, []), (6, 0x100, [(8, 0x40)]), (6, 0x108, [(8, 0x40)]), (7, 0, []), (7, 4, []),
    (7, 0x100, [(16, 0x20)]), (8, 4, []), (8, 8, []), (8, 0xC, []), (8, 0x10C, [(16, 0x40)]), (8, 0x8000, [(2048, 4)]),
    (9, 0, [(2, 0x1000), (16, 0x20)]), (9, 0x3000, []), (10, 0, []), (10, 4, []), (14, 0, []), (17, 0, []), (17, 0x10, [(8, 4)])]

/-- What the register map must say of a plain register of unit `u`: its place, fields that share no bit, none under a name whose value a
rule replaces or keeps. -/
def plainOk (u : Nat) (d : RegDesc) : Bool :=
  decide ((u, d.off, d.dims) ∈ plainPlaces) && laidOut d.fields &&
    d.fields.all (fun f => decide (f.name ∉ ["PAGE", "LEAD", "WEIGHT", "T_UNITS"]))

theorem plainOk_unitRegs : ∀ u < 19, ∀ d ∈ unitRegs u, d.name ∈ plainNames → plainOk u d = true := by decide

theorem memRegs_not_plain : ∀ d ∈ RegMap.mem, d.name ∉ plainNames := by decide

theorem laneRegs_not_plain : ∀ u < 4, ∀ d ∈ laneRegs u, d.name ∉ plainNames := by decide

/-! ### Where a plain register's key lies -/

theorem unitRegs_eq_nil {u : Nat} (h : 19 ≤ u) : unitRegs u = [] := by
  unfold unitRegs
  split
  case h_20 => rfl
  all_goals omega

theorem laneRegs_eq_nil {u : Nat} (h : 4 ≤ u) : laneRegs u = [] := by
  unfold laneRegs
  split
  case h_5 => rfl
  all_goals omega

/-- A plain register is a register of a junction unit outside JC.JM_, and its key hits it. -/
theorem plain_hit {k : Nat} {d : RegDesc} (hd : regAt k = some d) (hn : d.name ∈ plainNames) :
    k < 0x1000000 ∧ plainOk (k / 0x10000) d = true ∧ d.hit (k % 0x10000) = true := by
  unfold regAt at hd
  simp only [decide_eq_true_eq] at hd
  by_cases hj : k < 0x1000000
  · rw [if_pos hj] at hd
    by_cases hm : 0x1000 ≤ k ∧ k < 0x2000
    · rw [if_pos hm] at hd
      exact absurd hn (memRegs_not_plain d (List.mem_of_find?_eq_some hd))
    · rw [if_neg hm] at hd
      have hmem := List.mem_of_find?_eq_some hd
      have hu : k / 0x10000 < 19 := by
        by_contra hge
        rw [unitRegs_eq_nil (by omega)] at hmem
        cases hmem
      exact ⟨hj, plainOk_unitRegs _ hu d hmem hn, by simpa using List.find?_some hd⟩
  · rw [if_neg hj] at hd
    split at hd
    · have hmem := List.mem_of_find?_eq_some hd
      by_cases hu : k % 0x10000000 / 0x10000 < 4
      · exact absurd hn (laneRegs_not_plain _ hu d hmem)
      · rw [laneRegs_eq_nil (by omega)] at hmem
        cases hmem
    · cases hd

/-- Where a unit's plain registers lie: its block number `u` and their offsets `o`. -/
def plainOffset (u o : Nat) : Prop :=
  (u = 0 ∧ (o = 0x20 ∨ o = 0x100 ∨ o = 0x104)) ∨ (u = 6 ∧ (o % 64 = 0 ∨ o % 64 = 8)) ∨ (u = 7 ∧ (o < 8 ∨ 0x100 ≤ o)) ∨
  (u = 8 ∧ (o < 0x100 ∨ o % 64 = 12 ∨ 0x8000 ≤ o)) ∨ (u = 9 ∧ o % 32 = 0 ∧ (o < 0x2000 ∨ o = 0x3000)) ∨ (u = 10 ∧ o < 8) ∨
  (u = 14 ∧ o = 0) ∨ u = 17

theorem plainOffset_of_place : ∀ p ∈ plainPlaces, ∀ o, p.2.1 ≤ o → dimsHit p.2.2 (o - p.2.1) = true → plainOffset p.1 o := by
  simp only [plainPlaces, List.forall_mem_cons, List.not_mem_nil, false_implies, implies_true, and_true]
  and_intros <;> intro o hoff hdims
  all_goals simp only [dimsHit, beq_iff_eq, Bool.and_eq_true, decide_eq_true_eq] at hdims
  all_goals simp only [plainOffset, Nat.reduceEqDiff, reduceCtorEq, false_and, false_or, or_false, true_and]
  all_goals omega

/-- A plain register's key: a junction unit's, at an offset of `plainOffset`. -/
structure PlainKey (k : Nat) : Prop where
  junction : k < 0x1000000
  offset : plainOffset (k / 0x10000) (k % 0x10000)

namespace PlainKey

variable {k : Nat}

/-- No plain register lies in JC.JM_, TB, SX, SY, VT, FIO, MVB, CAN, WL or AX, past the first words of ETH, or at the Eyelets' pairs. -/
theorem range (h : PlainKey k) : (k < 0x1000 ∨ 0x60000 ≤ k ∧ k < 0xA0008 ∨ 0xE0000 ≤ k ∧ k < 0x120000) ∧
    k ≠ 0x92100 ∧ k ≠ 0x92108 := by
  have ho := h.offset
  unfold plainOffset at ho
  omega

theorem laneOf (h : PlainKey k) : Machine.laneOf k = none := laneOf_of_junction h.junction

theorem memOff (h : PlainKey k) : Machine.memOff k = none := by
  have hr := h.range
  rw [Machine.memOff, if_pos h.junction, if_neg (by omega)]

theorem not_mirror (h : PlainKey k) : isSyMirror k = false := by
  have hr := h.range
  have hu : k / 0x10000 ≠ 3 := by omega
  simp [isSyMirror, hu]

theorem not_held (h : PlainKey k) : heldHi k = false := by
  have hr := h.range
  have h1 : k ≠ Reg.TB_STEP_SEC_HI := by unfold Reg.TB_STEP_SEC_HI; omega
  have h2 : ¬(0xA0300 ≤ k ∧ k < 0xA0380) := by omega
  simp [heldHi, h.memOff, h1, h2]

theorem not_pair (h : PlainKey k) : pairHi k = none := by
  have hr := h.range
  have h1 : k ∉ [0x1000C, 0x1001C, 0x1002C, 0x10034, 0x10054, 0x10064, 0xD0010] := by
    simp only [List.mem_cons, List.not_mem_nil, or_false]; omega
  have h2 : ¬(0xA0300 ≤ k ∧ k < 0xA0380 ∧ k % 8 = 4) := by omega
  have h3 : ¬(0x121000 ≤ k ∧ k < 0x122000 ∧ k % 8 = 4) := by omega
  have h4 : k ≠ Reg.EY_TH_OWNED_LO := by unfold Reg.EY_TH_OWNED_LO; omega
  have h5 : k ≠ Reg.EY_TH_FORCE_LO := by unfold Reg.EY_TH_FORCE_LO; omega
  simp only [pairHi, h.laneOf, h.memOff, h1, h2, h3, h4, h5, ne_eq, not_true_eq_false, false_and, or_self, reduceCtorEq, if_false]

theorem not_cleared (h : PlainKey k) : clearsOnOnes k = false := by
  have ho := h.offset
  unfold plainOffset at ho
  generalize hu : k / 0x10000 = u at ho
  generalize hq : k % 0x10000 = o at ho
  unfold clearsOnOnes
  simp only [hu, hq]
  rcases ho with ⟨rfl, ho⟩ | ⟨rfl, ho⟩ | ⟨rfl, ho⟩ | ⟨rfl, ho⟩ | ⟨rfl, ho⟩ | ⟨rfl, ho⟩ | ⟨rfl, ho⟩ | rfl
  all_goals simp
  all_goals omega

theorem not_factoryMac (h : PlainKey k) : factoryMac k = false := by
  have hr := h.range
  have h1 : k ≠ 0xA0300 := by omega
  have h2 : k ≠ 0xA0304 := by omega
  simp [factoryMac, h1, h2]

theorem ne_schedCtrl (h : PlainKey k) : k ≠ Reg.SX_SCHED_CTRL := by
  have hr := h.range
  unfold Reg.SX_SCHED_CTRL; omega

/-- No field of a plain register is kept by a rule of its own, unless its name is PAGE. -/
theorem not_locked (h : PlainKey k) (s : State) {f : RField} (hf : f.name ≠ "PAGE") : s.locked k f = false := by
  have hr := h.range
  have h1 : ¬(0x20040 ≤ k ∧ k < 0x20060) := by omega
  have h2 : ¬(0x23000 ≤ k ∧ k < 0x24000) := by omega
  simp [State.locked, hf, h1, h2, h.ne_schedCtrl]

/-- No field of a plain register takes another value than the one written, unless its name is WEIGHT. -/
theorem not_clamped (h : PlainKey k) {f : RField} (hf : f.name ≠ "WEIGHT") (v : Nat) : clampField k f v = v := by
  have hr := h.range
  have h1 : k ≠ Reg.TB_WALL_RATE := by unfold Reg.TB_WALL_RATE; omega
  have h2 : k ≠ Reg.TB_SLEW_CTRL := by unfold Reg.TB_SLEW_CTRL; omega
  have h3 : ¬(0x10100 ≤ k ∧ k < 0x10200) := by omega
  have h4 : k ≠ Reg.WL_FLUSH_CFG := by unfold Reg.WL_FLUSH_CFG; omega
  simp [clampField, hf, h1, h2, h3, h4, h.ne_schedCtrl]

end PlainKey

end Sys2Proof.Machine
end

section
/-! PROOF. A permitted write of a plain register, as a whole: the dispatch by unit and name, and the fields by access class (O57). -/

namespace Sys2Proof.Machine

/-! ### No unit gives a plain register's write an effect of its own -/

section
variable (s : State) (i : Initiator) (k : Nat) (w : Word) (n : Nat) {name : String} (hn : name ∈ plainNames)
include hn

theorem State.writeMem_plain (m : MemSel) : s.writeMem m k w name n = s.merge k w := by
  unfold State.writeMem
  split
  case h_5 => rfl
  all_goals exact absurd hn (by decide)

theorem State.writeGb_plain : s.writeGb i k w name n = some (s.merge k w) := by
  unfold State.writeGb
  split
  case h_5 => rfl
  all_goals exact absurd hn (by decide)

theorem State.writeEy_plain : s.writeEy i k w name n = s.merge k w := by
  unfold State.writeEy
  split
  case h_5 => rfl
  all_goals exact absurd hn (by decide)

theorem State.writeOther_plain : s.writeOther k w name n = s.merge k w := by
  unfold State.writeOther
  dsimp only
  split
  case h_10 => rfl
  all_goals exact absurd hn (by decide)

end

/-- A write of a plain register is the plain write of its fields. -/
theorem State.writeReg_plain (s : State) (i : Initiator) {k : Nat} (w : Word) {d : RegDesc} (hk : PlainKey k) (hn : d.name ∈ plainNames) :
    s.writeReg i k w d = some (s.merge k w) := by
  have ho := hk.offset
  unfold plainOffset at ho
  simp only [State.writeReg, hk.not_held, hk.not_pair, hk.laneOf, Bool.false_eq_true, if_false]
  generalize k / 0x10000 = u at ho
  rcases ho with ⟨rfl, _⟩ | ⟨rfl, _⟩ | ⟨rfl, _⟩ | ⟨rfl, _⟩ | ⟨rfl, _⟩ | ⟨rfl, _⟩ | ⟨rfl, _⟩ | rfl
  · exact congrArg some (s.writeMem_plain k w _ hn _)
  · exact congrArg some (s.writeOther_plain k w _ hn)
  · exact s.writeGb_plain i k w _ hn
  · exact congrArg some (s.writeOther_plain k w _ hn)
  · exact congrArg some (s.writeEy_plain i k w _ hn)
  · exact congrArg some (s.writeOther_plain k w _ hn)
  · exact congrArg some (s.writeOther_plain k w _ hn)
  · exact congrArg some (s.writeOther_plain k w _ hn)

/-! ### Plain registers -/

/-- A plain register: where its key lies, and what the register map says of its fields. -/
structure PlainReg (k : Nat) (d : RegDesc) : Prop where
  at_key : regAt k = some d
  named : d.name ∈ plainNames
  key : PlainKey k
  laid : laidOut d.fields = true
  names : ∀ f ∈ d.fields, f.name ∉ ["PAGE", "LEAD", "WEIGHT", "T_UNITS"]

theorem plainReg_of_regAt {k : Nat} {d : RegDesc} (hd : regAt k = some d) (hn : d.name ∈ plainNames) : PlainReg k d := by
  obtain ⟨hj, hok, hhit⟩ := plain_hit hd hn
  simp only [plainOk, Bool.and_eq_true, decide_eq_true_eq, List.all_eq_true] at hok
  obtain ⟨⟨hplace, hlaid⟩, hnames⟩ := hok
  simp only [RegDesc.hit, Bool.and_eq_true, decide_eq_true_eq] at hhit
  exact ⟨hd, hn, ⟨hj, plainOffset_of_place _ hplace _ hhit.1 hhit.2⟩, hlaid, hnames⟩

namespace PlainReg

variable {k : Nat} {d : RegDesc}

theorem not_syT (h : PlainReg k d) {f : RField} (hf : f ∈ d.fields) : isSyT k f = false := by
  have hname : f.name ≠ "T_UNITS" := fun he => h.names f hf (by simp [he])
  simp [isSyT, hname]

/-- The state after a plain register's write: the note of R11, then the merged word. -/
theorem merge (h : PlainReg k d) (s : State) (w : Word) :
    s.merge k w = (s.noteSealed k w).setReg k (BitVec.ofNat 32 (mergeFields s k w.toNat d.fields (s.reg k).toNat)) :=
  s.merge_eq w h.at_key h.key.not_mirror h.key.not_cleared h.key.ne_schedCtrl

/-- The word of a plain register after its write. -/
theorem toNat_reg_merge (h : PlainReg k d) (s : State) (w : Word) :
    ((s.merge k w).reg k).toNat = mergeFields s k w.toNat d.fields (s.reg k).toNat := by
  rw [h.merge, State.reg_setReg_same, BitVec.toNat_ofNat, Nat.mod_eq_of_lt (mergeFields_lt s k _ _ _ h.laid (s.reg k).isLt)]

/-- The value of each field after the write, by access class: no plain register has a field that another rule keeps or replaces. -/
theorem bitsOf_merge (h : PlainReg k d) (s : State) (w : Word) {f : RField} (hf : f ∈ d.fields) :
    bitsOf ((s.merge k w).reg k).toNat f.hi f.lo = match f.acc with
      | .rw => bitsOf w.toNat f.hi f.lo
      | .rws => if s.isSealed then bitsOf (s.reg k).toNat f.hi f.lo else bitsOf w.toNat f.hi f.lo
      | .w1c => bitsOf (s.reg k).toNat f.hi f.lo &&& (bitsOf (s.reg k).toNat f.hi f.lo ^^^ bitsOf w.toNat f.hi f.lo)
      | .w1s => bitsOf (s.reg k).toNat f.hi f.lo ||| bitsOf w.toNat f.hi f.lo
      | .ro | .wo => bitsOf (s.reg k).toNat f.hi f.lo := by
  have hpage : f.name ≠ "PAGE" := fun he => h.names f hf (by simp [he])
  have hweight : f.name ≠ "WEIGHT" := fun he => h.names f hf (by simp [he])
  have hold := bitsOf_lt (s.reg k).toNat f.hi f.lo
  have hnew := bitsOf_lt w.toNat f.hi f.lo
  rw [h.toNat_reg_merge, bitsOf_mergeFields s k _ _ _ h.laid hf]
  unfold fieldAfter
  cases f.acc with
  | rw => simp only [h.key.not_locked s hpage, h.key.not_clamped hweight, Bool.false_eq_true, if_false, Nat.mod_eq_of_lt hnew]
  | rws =>
    simp only [h.key.not_factoryMac, h.not_syT hf, Bool.or_false]
    cases s.isSealed
    · exact Nat.mod_eq_of_lt hnew
    · exact Nat.mod_eq_of_lt hold
  | w1c => simp only [sub_and_eq_and_xor]; exact Nat.mod_eq_of_lt (Nat.lt_of_le_of_lt Nat.and_le_left hold)
  | w1s => exact Nat.mod_eq_of_lt (Nat.or_lt_two_pow hold hnew)
  | ro => exact Nat.mod_eq_of_lt hold
  | wo => exact Nat.mod_eq_of_lt hold

/-- A bit outside the fields keeps its value. -/
theorem getLsbD_merge_outside (h : PlainReg k d) (s : State) (w : Word) {b : Nat} (hb : ∀ f ∈ d.fields, b < f.lo ∨ f.hi < b) :
    ((s.merge k w).reg k).getLsbD b = (s.reg k).getLsbD b := by
  rw [← BitVec.testBit_toNat, ← BitVec.testBit_toNat, h.toNat_reg_merge]
  exact testBit_mergeFields_outside s k _ b _ _ h.laid hb

theorem regsKept_merge (h : PlainReg k d) (s : State) (w : Word) : RegsKept [k, Reg.TL_STATUS] s (s.merge k w) := by
  intro j hj
  rw [h.merge, State.reg_setReg_ne _ _ _ _ (hj k (.head _))]
  exact s.reg_noteSealed w h.at_key (hj Reg.TL_STATUS (.tail _ (.head _)))

/-- While a cause finds room, not even TL.STATUS changes. -/
theorem regsKept_merge_of_room (h : PlainReg k d) (s : State) (w : Word) (hroom : s.tWait.length < 16) : RegsKept [k] s (s.merge k w) := by
  intro j hj
  rw [h.merge, State.reg_setReg_ne _ _ _ _ (hj k (.head _))]
  exact State.reg_of_regs (s.regs_noteSealed_of_room w h.at_key hroom) j

theorem merge_logOnly (h : PlainReg k d) (s : State) (w : Word) : LogOnly s (s.merge k w) := by
  rw [h.merge]
  exact (s.noteSealed_logOnly w h.at_key).setReg _ _

end PlainReg

/-- A permitted write of a plain register at the bus: its plain write, answered. -/
theorem State.busWrite_plain (s : State) {i : Initiator} {addr k : Nat} {d : RegDesc} (w : Word) (h : PlainReg k d)
    (hk : keyOf i addr = some k) (hal : k % 4 = 0) (hmay : s.mayWrite i k = true) :
    s.busWrite i addr 4 w = (s.merge k w).respond i .done :=
  (s.busWrite_aligned w hk hal).trans (s.keyWrite_of_may h.at_key hmay (s.writeReg_plain i w h.key h.named))

/-- Settles O57: a plain register's write is the merge of its fields, whose word is known field by field. -/
theorem registerClasses : Obligations.RegisterClasses := by
  unfold Obligations.RegisterClasses
  intro s i addr k w d hk hal hd hmay hn
  have h := plainReg_of_regAt hd hn
  have hexec : exec (.registerWrite i addr 4 w) s = .next ((s.merge k w).respond i .done) := by
    rw [exec_registerWrite, s.busWrite_plain w h hk hal hmay]
  refine gives_of_exec hexec ⟨State.response_respond_same _ _ _, h.regsKept_merge s w,
    h.regsKept_merge_of_room s w, (h.merge_logOnly s w).onlyRegsLog i _, fun f hf => ?_, fun b _ hb => h.getLsbD_merge_outside s w hb,
    fun hno => ?_, fun hs hroom => ?_⟩
  · refine (h.bitsOf_merge s w hf).trans ?_
    cases f.acc <;> rfl
  · rw [h.merge, s.noteSealed_eq_self w hd hno]
    rfl
  · rintro ⟨f, hf, hacc, hne⟩
    rw [h.merge]
    exact s.noteSealed_waits w hd hs hroom hf hacc (h.not_syT hf) hne

end Sys2Proof.Machine
end

section
/-! PROOF. Register pairs and captured words (R13, R178, R179, R182, R183, R197): the holding registers of each initiator, the reads that
capture, the one later read that a captured word answers, and the pair of TB.STEP_SEC (O12). -/

namespace Sys2Proof.Machine

/-! ### Holding registers -/

/-- An initiator's holding registers are its own, one per register. -/
theorem holdKey_inj (i : Initiator) {a b : Nat} : holdKey i a = holdKey i b ↔ a = b := by
  unfold holdKey; omega

theorem holdKey_ne_of_num {i j : Initiator} {a b : Nat} (h : j.num ≠ i.num) (ha : a < 2 ^ 40) (hb : b < 2 ^ 40) : holdKey j b ≠ holdKey i a := by
  unfold holdKey; omega

/-- A word captured for a register stands in that holding register, and the initiator's others keep theirs. -/
theorem State.lookup_capture (s : State) (i : Initiator) (a b : Nat) (w : Word) :
    lookupN (s.capture i a w).holdR (holdKey i b) = if b = a then some w else lookupN s.holdR (holdKey i b) := by
  simp only [State.capture, lookupN_setN, holdKey_inj]

/-- A capture leaves the holding registers of the other initiators. -/
theorem State.lookup_capture_other (s : State) {i j : Initiator} {a b : Nat} (w : Word) (h : j.num ≠ i.num) (ha : a < 2 ^ 40) (hb : b < 2 ^ 40) :
    lookupN (s.capture i a w).holdR (holdKey j b) = lookupN s.holdR (holdKey j b) := by
  simp only [State.capture, lookupN_setN, if_neg (holdKey_ne_of_num h ha hb)]

theorem lookupN_dropN_same {β : Type} (m : List (Nat × β)) (a : Nat) : lookupN (dropN m a) a = none := by
  induction m with
  | nil => rfl
  | cons c r ih =>
    obtain ⟨k, v⟩ := c
    unfold dropN at ih ⊢
    by_cases hk : k = a
    · simpa [hk] using ih
    · simpa [hk, lookupN] using ih

/-! ### TB.NS and TB.WALL_NS -/

theorem exec_tbNsRead (i : Initiator) (s : State) (h : s.mayRead i Reg.TB_NS = true) : exec (.tbNsRead i) s = .next (s.readNs i) := by
  show Host.Outcome.next (if s.mayRead i Reg.TB_NS then _ else _) = _
  rw [h]; rfl

/-- Whoever reads TB.NS reads TB.WALL_NS as well: the junction window shows both to all (R28). -/
theorem State.mayRead_wallNs (s : State) (i : Initiator) : s.mayRead i Reg.TB_WALL_NS = true := by
  have h1 : (regAt Reg.TB_WALL_NS).isSome = true := by decide
  have h2 : laneOf Reg.TB_WALL_NS = none := by decide
  have h3 : eySecure Reg.TB_WALL_NS = false := by decide
  cases i <;> simp [State.mayRead, h1, h2, h3]

theorem exec_wallNsRead (i : Initiator) (s : State) : exec (.wallNsRead i) s = .next (s.readWallNs i) := by
  show Host.Outcome.next (if s.mayRead i Reg.TB_WALL_NS then _ else _) = _
  rw [s.mayRead_wallNs i]; rfl

/-- What TB.NS captures for the reader. -/
theorem State.lookup_readNs (s : State) (i : Initiator) :
    lookupN (s.readNs i).holdR (holdKey i Reg.TB_SEC_HI) = some (BitVec.ofNat 32 (s.netSec / 2 ^ 32)) ∧
    lookupN (s.readNs i).holdR (holdKey i Reg.TB_SEC_LO) = some (BitVec.ofNat 32 s.netSec) ∧
    lookupN (s.readNs i).holdR (holdKey i Reg.TB_SPAN) = some (BitVec.ofNat 32 s.netSpan) := by
  simp [State.readNs, State.lookup_capture, Reg.TB_SEC_HI, Reg.TB_SEC_LO, Reg.TB_SPAN]

theorem State.lookup_readNs_other (s : State) {i j : Initiator} {k : Nat} (h : j.num ≠ i.num) (hk : k < 2 ^ 40) :
    lookupN (s.readNs i).holdR (holdKey j k) = lookupN s.holdR (holdKey j k) := by
  have ha : ∀ a ∈ [Reg.TB_SEC_HI, Reg.TB_SEC_LO, Reg.TB_SPAN], a < 2 ^ 40 := by decide
  rw [State.readNs, State.respond_holdR, State.lookup_capture_other _ _ h (ha _ (by decide)) hk,
    State.lookup_capture_other _ _ h (ha _ (by decide)) hk, State.lookup_capture_other _ _ h (ha _ (by decide)) hk]

/-- What TB.WALL_NS captures for the reader. -/
theorem State.lookup_readWallNs (s : State) (i : Initiator) :
    lookupN (s.readWallNs i).holdR (holdKey i Reg.TB_WALL_SEC_HI) = some (BitVec.ofNat 32 (s.wall / giga / 2 ^ 32)) ∧
    lookupN (s.readWallNs i).holdR (holdKey i Reg.TB_WALL_SEC_LO) = some (BitVec.ofNat 32 (s.wall / giga)) ∧
    lookupN (s.readWallNs i).holdR (holdKey i Reg.TB_WALL_SPAN) = some (BitVec.ofNat 32 s.wallSpan) := by
  simp [State.readWallNs, State.lookup_capture, Reg.TB_WALL_SEC_HI, Reg.TB_WALL_SEC_LO, Reg.TB_WALL_SPAN]

/-! ### Reads of pairs -/

/-- The _HI word of a pair lies below its _LO word or, for the Eyelets' bit sets, above it: it is another register. -/
theorem pairHi_ne {k h : Nat} (hp : pairHi k = some h) : h ≠ k := by
  unfold pairHi at hp
  split at hp
  next hc =>
    have hk : k ≠ 0 := by
      rintro rfl
      revert hc
      decide
    simp only [Option.some.injEq] at hp
    omega
  next =>
    split at hp
    next hk => subst hk; simp only [Option.some.injEq] at hp; subst hp; decide
    next =>
      split at hp
      next hk => subst hk; simp only [Option.some.injEq] at hp; subst hp; decide
      next => cases hp

/-- A read of a register captures no word for that register itself. -/
theorem State.lookup_holdHi_same (s : State) (i : Initiator) (k : Nat) :
    lookupN (s.holdHi i k).holdR (holdKey i k) = lookupN s.holdR (holdKey i k) := by
  unfold State.holdHi
  cases hp : pairHi k with
  | none => rfl
  | some h =>
    cases hr : regAt h with
    | none => simp only [hr]
    | some d => simp only [hr]; rw [State.lookup_capture, if_neg (pairHi_ne hp).symm]

/-- A captured word answers the read and is used up by it. -/
theorem State.regRead_captured (s : State) (i : Initiator) (k : Nat) (d : RegDesc) {v : Word} (h : lookupN s.holdR (holdKey i k) = some v) :
    (s.regRead i k d).2 = v ∧ lookupN (s.regRead i k d).1.holdR (holdKey i k) = none := by
  unfold State.regRead
  rw [h]
  refine ⟨rfl, ?_⟩
  dsimp only
  split
  · exact lookupN_dropN_same _ _
  · rw [State.lookup_holdHi_same]; exact lookupN_dropN_same _ _

/-- The descriptors of the registers that the statements name. -/
def uptimeLoDesc : RegDesc := ⟨"TB.UPTIME_LO", 0x2C, [], [⟨"NS", 31, 0, .ro, 0⟩]⟩
def uptimeHiDesc : RegDesc := ⟨"TB.UPTIME_HI", 0x28, [], [⟨"NS", 31, 0, .ro, 0⟩]⟩
def stepSecHiDesc : RegDesc := ⟨"TB.STEP_SEC_HI", 0x50, [], [⟨"VALUE", 15, 0, .rw, 0⟩]⟩
def stepSecLoDesc : RegDesc := ⟨"TB.STEP_SEC_LO", 0x54, [], [⟨"VALUE", 31, 0, .rw, 0⟩]⟩

theorem regAt_uptimeLo : regAt Reg.TB_UPTIME_LO = some uptimeLoDesc := by decide
theorem regAt_uptimeHi : regAt Reg.TB_UPTIME_HI = some uptimeHiDesc := by decide
theorem regAt_stepSecHi : regAt Reg.TB_STEP_SEC_HI = some stepSecHiDesc := by decide
theorem regAt_stepSecLo : regAt Reg.TB_STEP_SEC_LO = some stepSecLoDesc := by decide

/-- A read of UPTIME_LO that finds no captured word answers uptime's low word and captures its high word (R178). -/
theorem State.regRead_uptimeLo (s : State) (i : Initiator) (h : lookupN s.holdR (holdKey i Reg.TB_UPTIME_LO) = none) :
    s.regRead i Reg.TB_UPTIME_LO uptimeLoDesc
      = (s.capture i Reg.TB_UPTIME_HI (BitVec.ofNat 32 (s.clk.uptime / 2 ^ 32)), BitVec.ofNat 32 s.clk.uptime) := by
  have hp : pairHi Reg.TB_UPTIME_LO = some Reg.TB_UPTIME_HI := by decide
  have hhold : s.holdHi i Reg.TB_UPTIME_LO = s.capture i Reg.TB_UPTIME_HI (BitVec.ofNat 32 (s.clk.uptime / 2 ^ 32)) := by
    simp only [State.holdHi, hp, regAt_uptimeHi]; rfl
  unfold State.regRead
  rw [h, ← hhold]
  rfl

/-! ### Writes of TB.STEP_SEC -/

/-- The plain write of a register of one RW field is the write of that field. -/
theorem State.merge_eq_wr (s : State) {k hi lo r : Nat} {d : RegDesc} {name : String} (w : Word) (hd : regAt k = some d)
    (hf : d.fields = [⟨name, hi, lo, .rw, r⟩]) (hm : isSyMirror k = false) (hc : clearsOnOnes k = false) (hl : k ≠ Reg.SX_SCHED_CTRL)
    (hlock : s.locked k ⟨name, hi, lo, .rw, r⟩ = false) (hclamp : ∀ v, clampField k ⟨name, hi, lo, .rw, r⟩ v = v) :
    s.merge k w = s.wr ⟨k, hi, lo⟩ (bitsOf w.toNat hi lo) := by
  have hrws : ∀ g ∈ d.fields, g.acc ≠ .rws := by rw [hf]; simp
  rw [s.merge_eq w hd hm hc hl, s.noteSealed_eq_self w hd (.inl hrws), hf, mergeFields_cons]
  simp only [fieldAfter, hlock, hclamp, Bool.false_eq_true, if_false]
  rfl

/-- Neither word of TB.STEP_SEC has a field that a rule keeps or whose value a rule replaces. -/
theorem State.stepSec_free (s : State) {k : Nat} {f : RField} (hk : k = Reg.TB_STEP_SEC_HI ∨ k = Reg.TB_STEP_SEC_LO) (hf : f.name = "VALUE") :
    s.locked k f = false ∧ ∀ v, clampField k f v = v := by
  rcases hk with rfl | rfl
  · exact ⟨by simp [State.locked, hf, Reg.TB_STEP_SEC_HI, Reg.SX_SCHED_CTRL],
      fun v => by simp [clampField, hf, Reg.TB_STEP_SEC_HI, Reg.SX_SCHED_CTRL, Reg.TB_WALL_RATE, Reg.TB_SLEW_CTRL, Reg.WL_FLUSH_CFG]⟩
  · exact ⟨by simp [State.locked, hf, Reg.TB_STEP_SEC_LO, Reg.SX_SCHED_CTRL],
      fun v => by simp [clampField, hf, Reg.TB_STEP_SEC_LO, Reg.SX_SCHED_CTRL, Reg.TB_WALL_RATE, Reg.TB_SLEW_CTRL, Reg.WL_FLUSH_CFG]⟩

theorem State.merge_stepSecHi (s : State) (w : Word) :
    s.merge Reg.TB_STEP_SEC_HI w = s.wr Fld.TB_STEP_SEC_HI_VALUE (bitsOf w.toNat 15 0) := by
  obtain ⟨hlock, hclamp⟩ := s.stepSec_free (f := ⟨"VALUE", 15, 0, .rw, 0⟩) (.inl rfl) rfl
  exact s.merge_eq_wr w regAt_stepSecHi rfl (by decide) (by decide) (by decide) hlock hclamp

theorem State.merge_stepSecLo (s : State) (w : Word) :
    s.merge Reg.TB_STEP_SEC_LO w = s.wr Fld.TB_STEP_SEC_LO_VALUE (bitsOf w.toNat 31 0) := by
  obtain ⟨hlock, hclamp⟩ := s.stepSec_free (f := ⟨"VALUE", 31, 0, .rw, 0⟩) (.inr rfl) rfl
  exact s.merge_eq_wr w regAt_stepSecLo rfl (by decide) (by decide) (by decide) hlock hclamp

/-- A write of STEP_SEC_HI is held for its initiator (R13). -/
theorem State.writeReg_stepSecHi (s : State) (i : Initiator) (v : Word) :
    s.writeReg i Reg.TB_STEP_SEC_HI v stepSecHiDesc = some { s with holdW := setN s.holdW (holdKey i Reg.TB_STEP_SEC_HI) v } := by
  have hh : heldHi Reg.TB_STEP_SEC_HI = true := by decide
  unfold State.writeReg
  rw [if_pos hh]

/-- The state after a write of STEP_SEC_LO by an initiator whose _HI word `v` was held: both words, and the held one is used up (R13). -/
def State.stepSecPair (s : State) (i : Initiator) (v w : Word) : State :=
  (({ s with holdW := dropN s.holdW (holdKey i Reg.TB_STEP_SEC_HI) } : State).wr Fld.TB_STEP_SEC_HI_VALUE (bitsOf v.toNat 15 0)).wr
    Fld.TB_STEP_SEC_LO_VALUE (bitsOf w.toNat 31 0)

theorem State.writeReg_stepSecLo (s : State) (i : Initiator) (w : Word) {v : Word}
    (h : lookupN s.holdW (holdKey i Reg.TB_STEP_SEC_HI) = some v) :
    s.writeReg i Reg.TB_STEP_SEC_LO w stepSecLoDesc = some (s.stepSecPair i v w) := by
  have hh : heldHi Reg.TB_STEP_SEC_LO = false := by decide
  have hp : pairHi Reg.TB_STEP_SEC_LO = some Reg.TB_STEP_SEC_HI := by decide
  have hl : laneOf Reg.TB_STEP_SEC_LO = none := by decide
  unfold State.writeReg
  simp only [hh, hp, h, hl, Bool.false_eq_true, if_false]
  show some (State.merge _ _ _) = _
  rw [State.merge_stepSecHi, State.merge_stepSecLo]
  rfl

section
variable (s : State) (i : Initiator) (v w : Word)

theorem State.rd_stepSecPair_lo : (s.stepSecPair i v w).rd Fld.TB_STEP_SEC_LO_VALUE = w.toNat := by
  have hw := w.isLt
  rw [State.stepSecPair, State.rd_wr_same _ _ _ (by decide)]
  simp only [bitsOf, Fld.TB_STEP_SEC_LO_VALUE]
  omega

theorem State.rd_stepSecPair_hi : (s.stepSecPair i v w).rd Fld.TB_STEP_SEC_HI_VALUE = v.toNat % 65536 := by
  rw [State.stepSecPair, State.rd_wr_reg _ _ _ _ (by decide), State.rd_wr_same _ _ _ (by decide)]
  simp only [bitsOf, Fld.TB_STEP_SEC_HI_VALUE]
  omega

theorem State.lookup_stepSecPair : lookupN (s.stepSecPair i v w).holdW (holdKey i Reg.TB_STEP_SEC_HI) = none := by
  rw [State.stepSecPair, State.wr_holdW, State.wr_holdW]
  exact lookupN_dropN_same _ _

theorem State.regsKept_stepSecPair : RegsKept [Reg.TB_STEP_SEC_HI, Reg.TB_STEP_SEC_LO] s (s.stepSecPair i v w) := by
  intro j hj
  have h1 : homeKey j ≠ homeKey Fld.TB_STEP_SEC_LO_VALUE.addr := hj Reg.TB_STEP_SEC_LO (.tail _ (.head _))
  have h2 : homeKey j ≠ homeKey Fld.TB_STEP_SEC_HI_VALUE.addr := hj Reg.TB_STEP_SEC_HI (.head _)
  rw [State.stepSecPair, State.reg_wr_ne _ _ _ _ h1, State.reg_wr_ne _ _ _ _ h2]
  exact State.reg_of_regs rfl j

end

/-- Settles O12: each clause is one of the reads and writes above, seen at the bus. -/
theorem capturedReads : Obligations.CapturedReads := by
  unfold Obligations.CapturedReads
  intro s i w v
  refine ⟨fun hns => ⟨?_, ?_⟩, fun addr hk hmay hnone => ?_, fun k d hd hmay hv => ?_, fun addr hk hmay => ?_, fun addr hk hmay hv => ?_⟩
  · obtain ⟨hhi, hlo, hspan⟩ := s.lookup_readNs i
    exact gives_of_exec (exec_tbNsRead i s hns) ⟨State.response_respond_same _ _ _, rfl, rfl, hhi, hlo, hspan,
      fun j k hj hk => s.lookup_readNs_other hj hk⟩
  · exact gives_of_exec (exec_wallNsRead i s) ⟨State.response_respond_same _ _ _, rfl, rfl, s.lookup_readWallNs i⟩
  · have hread : s.busRead i addr 4 = _ := (s.busRead_aligned hk (by decide)).trans (s.keyRead_of_may regAt_uptimeLo hmay)
    rw [s.regRead_uptimeLo i hnone] at hread
    refine gives_of_exec ((exec_pairLoRead i addr s).trans (congrArg _ hread)) ⟨State.response_respond_same _ _ _, rfl, ?_⟩
    rw [State.respond_holdR, State.lookup_capture, if_pos rfl]
  · obtain ⟨hword, hused⟩ := s.regRead_captured i k d hv
    rw [s.keyRead_of_may hd hmay, hword]
    exact ⟨State.response_respond_same _ _ _, hused⟩
  · have hwrite : s.busWrite i addr 4 v = _ :=
      (s.busWrite_aligned v hk (by decide)).trans (s.keyWrite_of_may regAt_stepSecHi hmay (s.writeReg_stepSecHi i v))
    refine gives_of_exec ((exec_pairHiWrite i addr v s).trans (congrArg _ hwrite)) ⟨rfl, State.response_respond_same _ _ _, ?_⟩
    rw [State.respond_holdW, lookupN_setN, if_pos rfl]
  · have hwrite : s.busWrite i addr 4 w = _ :=
      (s.busWrite_aligned w hk (by decide)).trans (s.keyWrite_of_may regAt_stepSecLo hmay (s.writeReg_stepSecLo i w hv))
    refine gives_of_exec ((exec_pairLoWrite i addr w s).trans (congrArg _ hwrite)) ?_
    rw [State.rd_respond, State.rd_respond, State.respond_holdW, s.rd_stepSecPair_lo, s.rd_stepSecPair_hi, s.lookup_stepSecPair]
    exact ⟨rfl, rfl, rfl, fun j hj => (State.reg_respond _ _ _ j).trans (s.regsKept_stepSecPair i v w j hj)⟩

end Sys2Proof.Machine
end

section
/-! PROOF. The step on an empty queue (R4, R80, R178, R187): what one jc and a step applied in it leave as they were (O2). -/

namespace Sys2Proof.Machine

/-! ### What applying a step leaves -/

/-- The parts of the state that the passing of a jc rests on: queue, uptime, the pending step and its flag, the egress gates. -/
structure JcKept (s t : State) : Prop where
  pending : t.pending = s.pending
  uptime : t.clk.uptime = s.clk.uptime
  stepPend : t.clk.stepPend = s.clk.stepPend
  egress : ∀ l, (t.ln l).egress = (s.ln l).egress
  flag : t.rd Fld.TB_STATUS_STEP_PEND = s.rd Fld.TB_STATUS_STEP_PEND

/-- A field that shares no bit with TB.STATUS.STEP_PEND. -/
def besideStepPend (f : Field) : Prop :=
  homeKey Reg.TB_STATUS ≠ homeKey f.addr ∨ (f.addr = Reg.TB_STATUS ∧ f.hi < 32 ∧ f.lo ≤ f.hi ∧ (6 < f.lo ∨ f.hi < 6))

/-- The fields of the compare units' registers lie beside it. -/
theorem besideStepPend_cmp {f : Field} {n : Nat} (hn : n < 16)
    (h : f.addr = Reg.TB_CMP_n_CFG n ∨ f.addr = Reg.TB_CMP_n_TARGET n ∨ f.addr = Reg.TB_CMP_n_STAT n) : besideStepPend f := by
  unfold Reg.TB_CMP_n_CFG Reg.TB_CMP_n_TARGET Reg.TB_CMP_n_STAT at h
  refine .inl ?_
  rw [homeKey_of_ne f.addr (by omega), homeKey_of_ne _ (by decide)]
  unfold Reg.TB_STATUS
  omega

namespace JcKept

variable {s t : State}

theorem refl (s : State) : JcKept s s := ⟨rfl, rfl, rfl, fun _ => rfl, rfl⟩

theorem trans {u : State} (h1 : JcKept s t) (h2 : JcKept t u) : JcKept s u :=
  ⟨h2.pending.trans h1.pending, h2.uptime.trans h1.uptime, h2.stepPend.trans h1.stepPend, fun l => (h2.egress l).trans (h1.egress l),
    h2.flag.trans h1.flag⟩

theorem ite {c : Prop} [Decidable c] {u : State} (ht : JcKept s t) (hu : JcKept s u) : JcKept s (if c then t else u) := by
  split
  · exact ht
  · exact hu

theorem foldl {α : Type} {g : State → α → State} (xs : List α) (h : JcKept s t) (hg : ∀ u, ∀ x ∈ xs, JcKept u (g u x)) :
    JcKept s (xs.foldl g t) := by
  induction xs generalizing t with
  | nil => exact h
  | cons x xs ih => exact ih (h.trans (hg t x (.head _))) (fun u y hy => hg u y (.tail _ hy))

theorem wr (h : JcKept s t) {f : Field} (v : Nat) (hf : besideStepPend f) : JcKept s (t.wr f v) := by
  refine h.trans ⟨rfl, rfl, rfl, fun _ => rfl, ?_⟩
  rcases hf with hf | ⟨ha, hhi, hlo, hd⟩
  · exact t.rd_wr_reg f _ v hf
  · exact t.rd_wr_beside f _ v ⟨hhi, hlo⟩ ha.symm hd

theorem setReg (h : JcKept s t) {k : Nat} (w : Word) (hk : homeKey Fld.TB_STATUS_STEP_PEND.addr ≠ homeKey k) : JcKept s (t.setReg k w) :=
  h.trans ⟨rfl, rfl, rfl, fun _ => rfl, by simp only [State.rd, t.reg_setReg_ne k _ w hk]⟩

theorem modLn (h : JcKept s t) (l : Lane) {g : LaneSt → LaneSt} (hg : ∀ n, (g n).egress = n.egress) : JcKept s (t.modLn l g) := by
  refine h.trans ⟨rfl, rfl, rfl, fun m => ?_, rfl⟩
  rw [State.modLn, State.ln_setLn]
  split
  next hm => rw [hm, hg]
  next => rfl

theorem raise (h : JcKept s t) (l : Lane) (a : Hart) (line : Nat) : JcKept s (t.raise l a line) := by
  refine ite h ?_
  cases a
  · exact h.modLn l (g := fun n => { n with h0 := _ }) (fun _ => rfl)
  · exact h.modLn l (g := fun n => { n with h1 := _ }) (fun _ => rfl)

theorem raiseService (h : JcKept s t) : JcKept s t.raiseService := h.foldl lanes (fun u l _ => (refl u).raise l .h1 11)

theorem notifyTask (h : JcKept s t) (n te : Nat) (data : Word) : JcKept s (t.notifyTask n te data) := by
  have hinbox : ∀ (u : State) (l : Lane) (x : Notice), JcKept u (u.modLn l (fun y => { y with inbox := y.inbox ++ [x] })) :=
    fun u l x => (refl u).modLn l (g := fun y => { y with inbox := y.inbox ++ [x] }) (fun _ => rfl)
  have hmarks : ∀ r m, JcKept s { t with evR := r, evMiss := m } := fun r m => h.trans ⟨rfl, rfl, rfl, fun _ => rfl, rfl⟩
  unfold State.notifyTask
  split
  · exact ite (hmarks t.evR _) ((hmarks _ _).foldl lanes (fun u l _ => hinbox u l _))
  · exact (hmarks _ _).foldl lanes (fun u l _ => hinbox u l _)

theorem notify (h : JcKept s t) (src sel edge te : Nat) (data : Word) : JcKept s (t.notify src sel edge te data) :=
  h.foldl _ (fun u n _ => ite ((refl u).notifyTask n te data) (refl u))

theorem shEvent (h : JcKept s t) (cond index : Nat) : JcKept s (t.shEvent cond index) := h.trans ⟨rfl, rfl, rfl, fun _ => rfl, rfl⟩

theorem setTarget (h : JcKept s t) (n x : Nat) : JcKept s (t.setTarget n x) := h.trans ⟨rfl, rfl, rfl, fun _ => rfl, rfl⟩

theorem fire (h : JcKept s t) {n : Nat} (hn : n < 16) : JcKept s (t.fire n) := by
  have hcfg : besideStepPend (Fld.TB_CMP_n_CFG_ARMED n) := besideStepPend_cmp hn (.inl rfl)
  have htarget : besideStepPend (Fld.TB_CMP_n_TARGET_SPAN n) := besideStepPend_cmp hn (.inr (.inl rfl))
  have hfired : besideStepPend (Fld.TB_CMP_n_STAT_FIRED n) := besideStepPend_cmp hn (.inr (.inr rfl))
  have hmissed : besideStepPend (Fld.TB_CMP_n_STAT_MISSED n) := besideStepPend_cmp hn (.inr (.inr rfl))
  have hbit : besideStepPend ⟨Reg.TB_STATUS, 16 + n, 16 + n⟩ := .inr ⟨rfl, show 16 + n < 32 by omega, le_refl _, .inl (show 6 < 16 + n by omega)⟩
  have hnoted := (((h.wr 1 hfired).wr (b2n true) hbit).shEvent 3 n).notify 1 n 0 (t.netOfSpan (t.cmpTarget n)) (BitVec.ofNat 32 n)
  have hraised := ite (c := t.flag (Fld.TB_CMP_n_CFG_IRQ n) = true) hnoted.raiseService hnoted
  exact ite (hraised.wr _ hcfg) (((ite (hraised.wr _ htarget) hraised).setTarget n _).wr _ hmissed)

theorem fireDue (h : JcKept s t) : JcKept s t.fireDue :=
  h.foldl _ (fun u _ hn => ite ((refl u).fire (List.mem_range.mp hn)) (refl u))

theorem enqueue (h : JcKept s t) (e : WEvent) : JcKept s (t.enqueue e) := by
  have hqueue : ∀ q, JcKept s { t with welt := q } := fun q => h.trans ⟨rfl, rfl, rfl, fun _ => rfl, rfl⟩
  exact ite (h.wr _ (f := Fld.WL_LOST_COUNT) (.inl (by decide))) ((hqueue _).wr _ (f := Fld.WL_STATUS_QUEUED) (.inl (by decide)))

theorem weltEvent (h : JcKept s t) (src code data : Nat) : JcKept s (t.weltEvent src code data) := by
  have hwelt : ∀ q, JcKept s { t with welt := q } := fun q => h.trans ⟨rfl, rfl, rfl, fun _ => rfl, rfl⟩
  exact ite (ite (ite (hwelt _) (hwelt _)) (h.wr _ (f := Fld.WL_FROZEN_EVENTS_COUNT) (.inl (by decide)))) (h.enqueue _)

theorem recordStep (h : JcKept s t) (size : Int) (source code : Nat) : JcKept s (t.recordStep size source code) := by
  have hlast : JcKept s (t.wr64 Reg.TB_LAST_STEP_HI Reg.TB_LAST_STEP_LO (ofSigned 64 (satSigned 64 size))) :=
    (h.setReg _ (by decide)).setReg _ (by decide)
  exact ((hlast.wr _ (f := Fld.TB_STEP_COUNT_COUNT) (.inl (by decide))).wr _ (f := Fld.TB_STEP_CTRL_SOURCE) (.inl (by decide))).weltEvent _ _ _

theorem disarmStepped (h : JcKept s t) (size : Int) (both : Bool) : JcKept s (t.disarmStepped size both) := by
  refine ite (h.foldl _ (fun u n hn => ?_)) h
  have hn := List.mem_range.mp hn
  exact ite (((refl u).wr _ (besideStepPend_cmp hn (.inl rfl))).wr _ (besideStepPend_cmp hn (.inr (.inr rfl)))) (refl u)

/-- A wall-time step changes neither queue nor uptime nor what is pending. -/
theorem wallStep (h : JcKept s t) (size : Int) (source : Nat) : JcKept s (t.wallStep size source) := by
  have hofs : ∀ u : State, JcKept u { u with clk := { u.clk with ofs := wrapOfs (u.clk.ofs + size) } } :=
    fun u => ⟨rfl, rfl, rfl, fun _ => rfl, rfl⟩
  exact (((h.fireDue.trans (hofs _)).wr _ (f := Fld.TB_STATUS_WALL_VALID) (.inr (by decide))).recordStep _ _ _).disarmStepped _ _

end JcKept

/-! ### The pending step -/

/-- A step pending from an earlier jc is applied: nothing stays pending, and its flag is down (R187). -/
theorem State.applyStep_due (s : State) {q : StepReq} (hq : s.clk.stepPend = some q) (hdue : q.at_ < s.clk.uptime) :
    s.applyStep.clk.stepPend = none ∧ s.applyStep.rd Fld.TB_STATUS_STEP_PEND = 0 := by
  have happly : s.applyStep = (({ s with clk := { s.clk with stepPend := none } } : State).wr Fld.TB_STATUS_STEP_PEND 0).wallStep
      (if q.absolute then q.value - (s.wall : Int) else q.value) q.source := by
    unfold State.applyStep
    rw [hq]
    exact if_pos hdue
  have hkept := (JcKept.refl (({ s with clk := { s.clk with stepPend := none } } : State).wr Fld.TB_STATUS_STEP_PEND 0)).wallStep
    (if q.absolute then q.value - (s.wall : Int) else q.value) q.source
  rw [happly, hkept.stepPend, hkept.flag, State.rd_wr_same _ _ _ (by decide)]
  exact ⟨rfl, rfl⟩

/-- Where no step is pending from an earlier jc, none is applied. -/
theorem State.applyStep_none (s : State) (h : ∀ q, s.clk.stepPend = some q → s.clk.uptime ≤ q.at_) : s.applyStep = s := by
  unfold State.applyStep
  cases hq : s.clk.stepPend with
  | none => rfl
  | some q => exact if_neg (Nat.not_lt.mpr (h q hq))

/-- Applying a step, or none, changes neither queue, uptime nor egress gates. -/
theorem State.applyStep_frame (s : State) :
    s.applyStep.pending = s.pending ∧ s.applyStep.clk.uptime = s.clk.uptime ∧ ∀ l, (s.applyStep.ln l).egress = (s.ln l).egress := by
  unfold State.applyStep
  split
  · exact ⟨rfl, rfl, fun _ => rfl⟩
  next q hq =>
    dsimp only
    split
    · have hkept := (JcKept.refl (({ s with clk := { s.clk with stepPend := none } } : State).wr Fld.TB_STATUS_STEP_PEND 0)).wallStep
        (if q.absolute then q.value - (s.wall : Int) else q.value) q.source
      exact ⟨hkept.pending, hkept.uptime, hkept.egress⟩
    · exact ⟨rfl, rfl, fun _ => rfl⟩

/-! ### Registers of one unit -/

/-- Nothing changed but registers of the junction unit with block number `u`. -/
structure OnlyUnit (u : Nat) (s t : State) : Prop where
  frame : ∃ r, t = { s with regs := r }
  others : ∀ f : Field, f.addr / 0x10000 ≠ u → t.rd f = s.rd f

/-- Registers of different units are different registers, also by way of SY's mirror. -/
theorem homeKey_ne_of_unit {j k : Nat} (h2 : k / 0x10000 ≠ 2) (h3 : k / 0x10000 ≠ 3) (h : j / 0x10000 ≠ k / 0x10000) : homeKey j ≠ homeKey k := by
  rw [homeKey_of_ne k h3]
  unfold homeKey
  split
  next hm =>
    have hj : j / 0x10000 = 3 := by
      simp only [isSyMirror, Bool.and_eq_true, beq_iff_eq] at hm
      exact hm.1
    omega
  next => intro he; exact h (he ▸ rfl)

namespace OnlyUnit

variable {u : Nat} {s t : State}

theorem refl (u : Nat) (s : State) : OnlyUnit u s s := ⟨⟨s.regs, rfl⟩, fun _ _ => rfl⟩

theorem wr (h : OnlyUnit u s t) {f : Field} (v : Nat) (hf : f.addr / 0x10000 = u) (h2 : u ≠ 2) (h3 : u ≠ 3) : OnlyUnit u s (t.wr f v) := by
  obtain ⟨⟨r, rfl⟩, hothers⟩ := h
  exact ⟨⟨_, rfl⟩, fun g hg => (State.rd_wr_reg _ f g v (homeKey_ne_of_unit (hf ▸ h2) (hf ▸ h3) (hf ▸ hg))).trans (hothers g hg)⟩

theorem bump (h : OnlyUnit u s t) {f : Field} (hf : f.addr / 0x10000 = u) (h2 : u ≠ 2) (h3 : u ≠ 3) : OnlyUnit u s (t.bump f) :=
  h.wr _ hf h2 h3

theorem ite {c : Prop} [Decidable c] {v : State} (ht : OnlyUnit u s t) (hv : OnlyUnit u s v) : OnlyUnit u s (if c then t else v) := by
  split
  · exact ht
  · exact hv

theorem foldl {α : Type} {g : State → α → State} (xs : List α) (h : OnlyUnit u s t) (hg : ∀ v, ∀ x ∈ xs, OnlyUnit u s v → OnlyUnit u s (g v x)) :
    OnlyUnit u s (xs.foldl g t) := by
  induction xs generalizing t with
  | nil => exact h
  | cons x xs ih => exact ih (hg t x (.head _) h) (fun v y hy => hg v y (.tail _ hy))

theorem withArb (h : OnlyUnit u s t) (a : ArbSt) : OnlyUnit u { s with arb := a } { t with arb := a } := by
  obtain ⟨⟨r, rfl⟩, hothers⟩ := h
  exact ⟨⟨r, rfl⟩, hothers⟩

end OnlyUnit

/-! ### One jc -/

/-- The tick writes registers of the time base and the clock, and nothing else. -/
theorem State.tick_onlyUnit (s : State) : OnlyUnit 1 { s with clk := s.tick.clk } s.tick :=
  ((OnlyUnit.refl 1 _).wr _ (f := Fld.TB_STATUS_NET_SLEW) rfl (by decide) (by decide)).wr _ (f := Fld.TB_STATUS_SLEW_BUSY) rfl (by decide)
    (by decide)

theorem State.tick_uptime (s : State) : s.tick.clk.uptime = s.clk.uptime + 4 := rfl

theorem State.tick_stepPend (s : State) : s.tick.clk.stepPend = s.clk.stepPend := rfl

/-- The tick's own two flags lie beside STEP_PEND. -/
theorem State.tick_flag (s : State) : s.tick.rd Fld.TB_STATUS_STEP_PEND = s.rd Fld.TB_STATUS_STEP_PEND :=
  (((JcKept.refl { s with clk := s.tick.clk }).wr _ (f := Fld.TB_STATUS_NET_SLEW) (.inr (by decide))).wr _ (f := Fld.TB_STATUS_SLEW_BUSY)
    (.inr (by decide))).flag

/-- Without a phase error network time is 4 ns on (R178, R181). -/
theorem State.tick_net (s : State) (h : s.clk.corr = 0) : s.tick.clk.net = (s.clk.net + 4) % (2 ^ 48 * giga) := by
  have hadj : (if (s.clk.corrCnt + 1) % 250 = 0 then signI s.clk.corr else 0) = 0 := by
    rw [h]; split <;> rfl
  show (s.clk.net + (4 + (if (s.clk.corrCnt + 1) % 250 = 0 then signI s.clk.corr else 0)).toNat) % (2 ^ 48 * giga) = _
  rw [hadj]
  rfl

/-- The stall count writes registers of the Shuttle and ends the jc's grants, and nothing else. -/
theorem State.stallTick_onlyUnit (s : State) : OnlyUnit 8 { s with arb := s.stallTick.arb } s.stallTick := by
  have hchannels := (OnlyUnit.refl 8 s).foldl (g := fun t c => if s.shReady c && !s.arb.granted.contains c then t.bump (Fld.SH_CH_c_STALL_JC c) else t)
    (List.range 16) (fun v c hc hv => by
      have hc := List.mem_range.mp hc
      have hunit : (Fld.SH_CH_c_STALL_JC c).addr / 0x10000 = 8 := by
        simp only [Fld.SH_CH_c_STALL_JC, Reg.SH_CH_c_STALL]; omega
      exact OnlyUnit.ite (hv.bump hunit (by decide) (by decide)) hv)
  have hgusset := OnlyUnit.ite (c := (s.shReady 16 && !s.arb.granted.contains 16) = true)
    (hchannels.bump (f := Fld.SH_GB_STALL_JC) rfl (by decide) (by decide)) hchannels
  exact hgusset.withArb _

theorem State.releaseEgress_of_empty (s : State) (l : Lane) (h : (s.ln l).egress = []) : s.releaseEgress l = s := by
  unfold State.releaseEgress
  rw [h]
  rfl

/-- With empty egress gates a jc of a powered module is a step where one is due, the tick and the Shuttle's stall count. -/
theorem State.idle_of_no_egress (s : State) (hp : s.st.powered = true) (h : ∀ l, (s.ln l).egress = []) :
    s.idle = s.applyStep.tick.stallTick := by
  obtain ⟨_, _, hegress⟩ := s.applyStep_frame
  have hnone : ∀ l, (s.applyStep.tick.ln l).egress = [] := fun l => (hegress l).trans (h l)
  have hgates : lanes.foldl (fun t l => t.releaseEgress l) s.applyStep.tick = s.applyStep.tick := by
    simp only [lanes, List.foldl_cons, List.foldl_nil, State.releaseEgress_of_empty _ _ (hnone _)]
  unfold State.idle
  rw [if_pos hp, hgates]

/-- What tick and stall count leave: everything but the clock, registers and the Shuttle's arbitration. -/
theorem State.jc_frame (s : State) : ∃ r a, s.tick.stallTick = { s with clk := s.tick.clk, regs := r, arb := a } := by
  obtain ⟨r, hr⟩ := s.tick_onlyUnit.frame
  obtain ⟨r', hr'⟩ := s.tick.stallTick_onlyUnit.frame
  refine ⟨r', s.tick.stallTick.arb, ?_⟩
  generalize s.tick.stallTick = u at hr' ⊢
  generalize s.tick = v at hr hr' ⊢
  rw [hr', hr]

/-- Fields outside the time base and the Shuttle keep their value over a jc. -/
theorem State.jc_rd (s : State) {f : Field} (h1 : f.addr / 0x10000 ≠ 1) (h8 : f.addr / 0x10000 ≠ 8) : s.tick.stallTick.rd f = s.rd f :=
  (s.tick.stallTick_onlyUnit.others f h8).trans (s.tick_onlyUnit.others f h1)

/-- STEP_PEND keeps its value over a jc. -/
theorem State.jc_flag (s : State) : s.tick.stallTick.rd Fld.TB_STATUS_STEP_PEND = s.rd Fld.TB_STATUS_STEP_PEND :=
  (s.tick.stallTick_onlyUnit.others _ (by decide)).trans s.tick_flag

/-- Settles O2: the empty queue's step is `State.idle`, whose parts change what the lemmas above leave open. -/
theorem idlePassesOneJc : Obligations.IdlePassesOneJc := by
  unfold Obligations.IdlePassesOneJc
  intro s hq
  have hstep : step s = .next s.idle := by unfold step; rw [hq]
  refine ⟨fun hp => ?_, fun hp hg => ?_, fun hp hg hnot => ?_⟩
  · rw [hstep, State.idle, hp]
    rfl
  · obtain ⟨hpend, huptime, _⟩ := s.applyStep_frame
    obtain ⟨r, a, hjc⟩ := s.applyStep.jc_frame
    rw [s.idle_of_no_egress hp hg] at hstep
    refine ⟨_, hstep, ?_, ?_, fun q hsome hdue => ⟨?_, ?_⟩⟩
    · rw [hjc, ← huptime]; rfl
    · rw [hjc]; exact hpend.trans hq
    · rw [hjc]; exact (s.applyStep_due hsome hdue).1
    · rw [State.jc_flag]; exact (s.applyStep_due hsome hdue).2
  · obtain ⟨r, a, hjc⟩ := s.jc_frame
    rw [s.idle_of_no_egress hp hg, s.applyStep_none hnot] at hstep
    refine ⟨_, hstep, ?_, fun hcorr => ?_, fun f h1 h8 => s.jc_rd h1 h8, ?_⟩
    · rw [hjc]; rfl
    · rw [hjc]; exact s.tick_net hcorr
    · rw [hjc]
      exact ⟨rfl, rfl, rfl, rfl, rfl, rfl, rfl, rfl, rfl, rfl, rfl, rfl, rfl, rfl⟩

end Sys2Proof.Machine
end

section
/-! PROOF. The reset state, part by part (R21, R61, R83, R110, R159, R178, R307, R465): O3. -/

namespace Sys2Proof.Machine

/-! ### Fields of the reset state -/

/-- A hart out of reset has its four trigger registers. -/
theorem HartSt.fresh_triggers_length : HartSt.fresh.triggers.length = 4 := rfl

/-- Every lane's hidden state at reset is the fresh one. -/
theorem State.ln_reset (l : Lane) : State.reset.ln l = LaneSt.fresh := by cases l <;> rfl

/-- Every lane starts HELD, outside the vote, with an empty memory controller (R83, R110, R159). -/
theorem State.lane_reset (l : Lane) :
    State.reset.ex l = Exec.held ∧ State.reset.votes l = false ∧ (State.reset.memc.get l).valid = [] := by
  cases l <;> exact ⟨by decide, by decide, rfl⟩

theorem LaneSt.fresh_canonical : LaneSt.fresh.canonical = true := by decide

/-- The empty stores of the reset state are canonical. -/
theorem State.canonical_reset : State.reset.canonical = true := by
  have hlane : ∀ l : Lane, State.reset.lane.get l = LaneSt.fresh := State.ln_reset
  have ha : State.reset.lane.a = LaneSt.fresh := hlane .A
  have hb : State.reset.lane.b = LaneSt.fresh := hlane .B
  have hc : State.reset.lane.c = LaneSt.fresh := hlane .C
  unfold State.canonical
  rw [ha, hb, hc, LaneSt.fresh_canonical]
  decide

/-- The reset state has the shape that every step keeps. -/
theorem State.shaped_reset : State.reset.shaped := by
  unfold State.shaped
  refine ⟨rfl, rfl, rfl, rfl, rfl, by decide, rfl, rfl, rfl, rfl, rfl, rfl, fun l => ?_⟩
  rw [State.ln_reset l]
  exact ⟨HartSt.fresh_triggers_length, HartSt.fresh_triggers_length⟩

/-- Settles O3: each clause is a field of the reset state; the lanes, the stores and the shape by the lemmas above. -/
theorem resetState : Obligations.ResetState := by
  unfold Obligations.ResetState
  refine ⟨rfl, rfl, rfl, rfl, by decide, by decide, fun l => ?_, rfl, rfl, by decide, State.canonical_reset, State.shaped_reset⟩
  obtain ⟨hex, hvotes, hvalid⟩ := State.lane_reset l
  rw [State.ln_reset l]
  exact ⟨hex, hvotes, hvalid, rfl, rfl⟩

end Sys2Proof.Machine
end

section
/-! PROOF. How writes of registers add up: what `RegsKept` gives along a sequence of writes, what a fold leaves as it was, and what lies
beside a field written. -/

namespace Sys2Proof.Machine

/-! ### Folds -/

/-- What every step of a fold keeps, the fold keeps. -/
theorem foldl_keeps {α β σ : Type} (φ : σ → β) {g : σ → α → σ} (xs : List α) (s : σ) (h : ∀ u, ∀ x ∈ xs, φ (g u x) = φ u) :
    φ (xs.foldl g s) = φ s := by
  induction xs generalizing s with
  | nil => rfl
  | cons x xs ih => exact (ih (g s x) (fun u y hy => h u y (.tail _ hy))).trans (h s x (.head _))

/-! ### Registers kept along a sequence of writes -/

namespace RegsKept

variable {ks : List Nat} {s t u : State}

theorem refl (ks : List Nat) (s : State) : RegsKept ks s s := fun _ _ => rfl

theorem of_regs (h : t.regs = s.regs) : RegsKept ks s t := fun k _ => State.reg_of_regs h k

theorem trans (h1 : RegsKept ks s t) (h2 : RegsKept ks t u) : RegsKept ks s u := fun k hk => (h2 k hk).trans (h1 k hk)

theorem mono {js : List Nat} (h : RegsKept ks s t) (hsub : ∀ k ∈ ks, k ∈ js) : RegsKept js s t :=
  fun k hk => h k (fun j hj => hk j (hsub j hj))

theorem setReg (h : RegsKept ks s t) {k : Nat} (w : Word) (hk : k ∈ ks) : RegsKept ks s (t.setReg k w) :=
  fun j hj => (t.reg_setReg_ne k j w (hj k hk)).trans (h j hj)

theorem wr (h : RegsKept ks s t) {f : Field} (v : Nat) (hf : f.addr ∈ ks) : RegsKept ks s (t.wr f v) := h.setReg _ hf

theorem wr64 (h : RegsKept ks s t) {hi lo : Nat} (v : Nat) (hhi : hi ∈ ks) (hlo : lo ∈ ks) : RegsKept ks s (t.wr64 hi lo v) :=
  (h.setReg _ hhi).setReg _ hlo

theorem ite {c : Prop} [Decidable c] (ht : RegsKept ks s t) (hu : RegsKept ks s u) : RegsKept ks s (if c then t else u) := by
  split
  · exact ht
  · exact hu

theorem foldl {α : Type} {g : State → α → State} (xs : List α) (h : RegsKept ks s t)
    (hg : ∀ u, ∀ x ∈ xs, RegsKept ks u (g u x)) : RegsKept ks s (xs.foldl g t) := by
  induction xs generalizing t with
  | nil => exact h
  | cons x xs ih => exact ih (h.trans (hg t x (.head _))) (fun u y hy => hg u y (.tail _ hy))

theorem modLn (h : RegsKept ks s t) (l : Lane) (g : LaneSt → LaneSt) : RegsKept ks s (t.modLn l g) := h

/-- A field of a register kept. -/
theorem rd (h : RegsKept ks s t) {f : Field} (hf : ∀ j ∈ ks, homeKey f.addr ≠ homeKey j) : t.rd f = s.rd f := by
  unfold State.rd; rw [h f.addr hf]

end RegsKept

/-! ### Registers and nothing else -/

/-- Nothing differs but registers. -/
def RegsOnly (s t : State) : Prop := ∃ r, t = { s with regs := r }

namespace RegsOnly

variable {s t u : State}

theorem refl (s : State) : RegsOnly s s := ⟨s.regs, rfl⟩

theorem trans (h1 : RegsOnly s t) (h2 : RegsOnly t u) : RegsOnly s u := by
  obtain ⟨_, rfl⟩ := h1
  obtain ⟨r, rfl⟩ := h2
  exact ⟨r, rfl⟩

theorem setReg (h : RegsOnly s t) (k : Nat) (w : Word) : RegsOnly s (t.setReg k w) := by
  obtain ⟨_, rfl⟩ := h
  exact ⟨_, rfl⟩

theorem wr (h : RegsOnly s t) (f : Field) (v : Nat) : RegsOnly s (t.wr f v) := h.setReg _ _

theorem bump (h : RegsOnly s t) (f : Field) : RegsOnly s (t.bump f) := h.wr _ _

theorem wr64 (h : RegsOnly s t) (hi lo v : Nat) : RegsOnly s (t.wr64 hi lo v) := (h.setReg _ _).setReg _ _

theorem ite {c : Prop} [Decidable c] (ht : RegsOnly s t) (hu : RegsOnly s u) : RegsOnly s (if c then t else u) := by
  split
  · exact ht
  · exact hu

theorem foldl {α : Type} {g : State → α → State} (xs : List α) (h : RegsOnly s t) (hg : ∀ u, ∀ x ∈ xs, RegsOnly u (g u x)) :
    RegsOnly s (xs.foldl g t) := by
  induction xs generalizing t with
  | nil => exact h
  | cons x xs ih => exact ih (h.trans (hg t x (.head _))) (fun u y hy => hg u y (.tail _ hy))

/-- What does not look at the registers is as before. -/
theorem keeps {β : Type} (h : RegsOnly s t) (φ : State → β) (hφ : ∀ r, φ { s with regs := r } = φ s) : φ t = φ s := by
  obtain ⟨r, rfl⟩ := h
  exact hφ r

theorem lane (h : RegsOnly s t) : t.lane = s.lane := h.keeps _ fun _ => rfl
theorem clk (h : RegsOnly s t) : t.clk = s.clk := h.keeps _ fun _ => rfl
theorem fq (h : RegsOnly s t) : t.fq = s.fq := h.keeps _ fun _ => rfl
theorem vote (h : RegsOnly s t) : t.vote = s.vote := h.keeps _ fun _ => rfl
theorem cyc (h : RegsOnly s t) : t.cyc = s.cyc := h.keeps _ fun _ => rfl
theorem ln (h : RegsOnly s t) (l : Lane) : t.ln l = s.ln l := congrArg (fun x => x.get l) h.lane

theorem onlyRegs (h : RegsOnly s t) : OnlyRegs s t := by
  obtain ⟨_, rfl⟩ := h
  rfl

end RegsOnly

/-! ### Fields -/

/-- A field rests on its register's word. -/
theorem State.rd_of_reg {s t : State} {f : Field} (h : t.reg f.addr = s.reg f.addr) : t.rd f = s.rd f := by
  unfold State.rd; rw [h]

theorem State.rd_setReg_ne (s : State) {f : Field} {k : Nat} (w : Word) (h : homeKey f.addr ≠ homeKey k) : (s.setReg k w).rd f = s.rd f :=
  State.rd_of_reg (s.reg_setReg_ne _ _ _ h)

/-! ### Flags and counters -/

/-- A one-bit field reads the Bool last written to it. -/
theorem State.rd_wrB_same (s : State) (f : Field) (b : Bool) (h : f.hi < 32 ∧ f.lo ≤ f.hi) : (s.wrB f b).rd f = b2n b := by
  have hb : b2n b < 2 ^ (f.hi + 1 - f.lo) := by
    have h1 : b2n b ≤ 1 := by cases b <;> decide
    have h2 : 2 ^ 1 ≤ 2 ^ (f.hi + 1 - f.lo) := Nat.pow_le_pow_right (by decide) (by omega)
    omega
  unfold State.wrB
  rw [State.rd_wr_same _ _ _ h, Nat.mod_eq_of_lt hb]

/-- A counter that counts up by one stops at its field's greatest value. -/
theorem State.rd_bump_same (s : State) (f : Field) (h : f.hi < 32 ∧ f.lo ≤ f.hi) :
    (s.bump f).rd f = min (2 ^ (f.hi + 1 - f.lo) - 1) (s.rd f + 1) := by
  have hpos : 0 < 2 ^ (f.hi + 1 - f.lo) := Nat.two_pow_pos _
  unfold State.bump State.bumpBy
  rw [State.rd_wr_same _ _ _ h, Nat.mod_eq_of_lt] <;> unfold satAdd <;> split <;> omega

/-- A one-bit field that is not 0 is 1. -/
theorem State.flag_eq_decide (s : State) (f : Field) (h : f.hi = f.lo) : s.flag f = decide (s.rd f = 1) := by
  have hlt := s.rd_lt f
  rw [h, Nat.add_sub_cancel_left] at hlt
  unfold State.flag
  by_cases h0 : s.rd f = 0
  · simp [h0]
  · have h1 : s.rd f = 1 := by omega
    simp [h1]

end Sys2Proof.Machine
end

section
/-! PROOF. A lane fault as a whole (R70, R72, R74, R78, R79, R154, R157, R167, R506): what `laneFault` declares, the registers that it may
touch, and every cause of it (O13). -/

namespace Sys2Proof.Machine

/-! ### The registers of a lane fault -/

/-- The Treadle's registers that a lane's stop clears (R79). -/
def taskKeys (l : Lane) : List Nat := Reg.TRD_STATUS l :: Reg.TRD_NEXT l :: (List.range 24).map (taskStat l)

/-- The registers that a lane's stop touches (R79). -/
def stopKeys (l : Lane) : List Nat := Reg.LC_LANE_STATUS l :: Reg.CMP_STATUS l :: taskKeys l

/-- The registers that the record of a lane's first cause touches (R31, R78). -/
def causeKeys (l : Lane) : List Nat := [Reg.LC_FAULT_CAUSE l, Reg.LC_FAULT_TIME_HI l, Reg.LC_FAULT_TIME_LO l, Reg.JC_MOD_STATUS]

theorem taskKeys_sub_stopKeys (l : Lane) : ∀ k ∈ taskKeys l, k ∈ stopKeys l := fun _ hk => .tail _ (.tail _ hk)

theorem taskStat_mem (l : Lane) {n : Nat} (hn : n < 24) : taskStat l n ∈ taskKeys l :=
  .tail _ (.tail _ (List.mem_map_of_mem (List.mem_range.mpr hn)))

/-! ### The state beside the registers -/

/-- Changing one lane's hidden state leaves the others'. -/
theorem State.ln_modLn (s : State) (l m : Lane) (g : LaneSt → LaneSt) : (s.modLn l g).ln m = if m = l then g (s.ln l) else s.ln m :=
  s.ln_setLn l m _

@[simp] theorem State.ln_modLn_same (s : State) (l : Lane) (g : LaneSt → LaneSt) : (s.modLn l g).ln l = g (s.ln l) := by
  rw [State.ln_modLn, if_pos rfl]

theorem State.ln_modLn_ne (s : State) {l m : Lane} (g : LaneSt → LaneSt) (h : m ≠ l) : (s.modLn l g).ln m = s.ln m := by
  rw [State.ln_modLn, if_neg h]

/-- A hart's state is replaced inside its own lane. -/
theorem State.ln_setHart_ne (s : State) {l m : Lane} (h : Hart) (x : HartSt) (hm : m ≠ l) : (s.setHart l h x).ln m = s.ln m := by
  cases h
  · exact s.ln_modLn_ne _ hm
  · exact s.ln_modLn_ne _ hm

/-- An interrupt line that falls changes a hart of its own lane and nothing else of the lane. -/
theorem State.ln_drop_ne (s : State) {l m : Lane} (h : Hart) (line : Nat) (hm : m ≠ l) : (s.drop l h line).ln m = s.ln m := by
  unfold State.drop
  dsimp only
  split
  · exact s.ln_setHart_ne h _ hm
  · rfl

theorem State.ln_drop_h0 (s : State) (l : Lane) (line : Nat) : ∃ x : HartSt, (s.drop l .h0 line).ln l = { s.ln l with h0 := x } := by
  unfold State.drop
  dsimp only
  split
  · exact ⟨_, s.ln_modLn_same l _⟩
  · exact ⟨(s.ln l).h0, rfl⟩

theorem State.regs_drop (s : State) (l : Lane) (h : Hart) (line : Nat) : (s.drop l h line).regs = s.regs := by
  unfold State.drop
  dsimp only
  split
  · cases h <;> rfl
  · rfl

/-! ### Parts of a lane fault -/

/-- The device fault summary touches JC.MOD_STATUS alone (R31). -/
theorem State.showFaultDev_kept (s : State) : RegsKept [Reg.JC_MOD_STATUS] s s.showFaultDev :=
  (RegsKept.refl _ s).wr (f := Fld.JC_MOD_STATUS_FAULT_DEV) _ (.head _)

theorem State.showFaultDev_regsOnly (s : State) : RegsOnly s s.showFaultDev := (RegsOnly.refl s).wr _ _

/-- The tasks' registers cleared, before the Treadle's own. -/
def State.clearTaskStats (s : State) (l : Lane) : State :=
  (List.range 24).foldl (fun t n => (t.wr ⟨taskStat l n, 31, 29⟩ 0).wr ⟨taskStat l n, 27, 27⟩ 0) s

theorem State.clearTaskStats_kept (s : State) (l : Lane) : RegsKept (taskKeys l) s (s.clearTaskStats l) :=
  (RegsKept.refl _ s).foldl _ (fun u n hn =>
    have hmem := taskStat_mem l (List.mem_range.mp hn)
    ((RegsKept.refl _ u).wr (f := ⟨taskStat l n, 31, 29⟩) _ hmem).wr (f := ⟨taskStat l n, 27, 27⟩) _ hmem)

theorem State.clearTaskStats_regsOnly (s : State) (l : Lane) : RegsOnly s (s.clearTaskStats l) :=
  (RegsOnly.refl s).foldl _ (fun u _ _ => ((RegsOnly.refl u).wr _ _).wr _ _)

/-- The Treadle's registers with no task left. -/
def State.showNoTask (s : State) (l : Lane) : State :=
  (((s.clearTaskStats l).wr (Fld.TRD_STATUS_QUIET l) 1).wr (Fld.TRD_STATUS_CUR_TASK l) 0x1F).setReg (Reg.TRD_NEXT l) 0x1F

theorem State.showNoTask_regsOnly (s : State) (l : Lane) : RegsOnly s (s.showNoTask l) :=
  (((s.clearTaskStats_regsOnly l).wr _ _).wr _ _).setReg _ _

theorem State.showNoTask_kept (s : State) (l : Lane) : RegsKept (taskKeys l) s (s.showNoTask l) :=
  (((s.clearTaskStats_kept l).wr (f := Fld.TRD_STATUS_QUIET l) _ (.head _)).wr (f := Fld.TRD_STATUS_CUR_TASK l) _ (.head _)).setReg
    (k := Reg.TRD_NEXT l) _ (.tail _ (.head _))

/-- The hidden state of a Treadle with no task left. -/
def LaneSt.noTask (n : LaneSt) : LaneSt := { n with tasks := List.replicate 24 TaskSt.idle, notices := [], curTask := none }

theorem State.clearTasks_eq (s : State) (l : Lane) : s.clearTasks l = ((s.showNoTask l).modLn l LaneSt.noTask).drop l .h0 11 := rfl

theorem State.clearTasks_kept (s : State) (l : Lane) : RegsKept (taskKeys l) s (s.clearTasks l) := by
  rw [s.clearTasks_eq l]
  exact (s.showNoTask_kept l).trans (RegsKept.of_regs (State.regs_drop _ l .h0 11))

theorem State.ln_clearTasks_ne (s : State) {l m : Lane} (h : m ≠ l) : (s.clearTasks l).ln m = s.ln m := by
  rw [s.clearTasks_eq l, State.ln_drop_ne _ .h0 11 h, State.ln_modLn_ne _ _ h, (s.showNoTask_regsOnly l).ln]

/-- The lane itself after its tasks were cleared: no task, no notices, HART_0's external line down, the rest as before. -/
theorem State.ln_clearTasks (s : State) (l : Lane) : ∃ x : HartSt, (s.clearTasks l).ln l = { (s.ln l).noTask with h0 := x } := by
  obtain ⟨x, hx⟩ := State.ln_drop_h0 ((s.showNoTask l).modLn l LaneSt.noTask) l 11
  refine ⟨x, ?_⟩
  rw [s.clearTasks_eq l, hx, State.ln_modLn_same, (s.showNoTask_regsOnly l).ln]

/-- The registers of a lane that stops, before its tasks are cleared (R79). -/
def State.showStopped (s : State) (l : Lane) : State :=
  let s1 := ((s.wr (Fld.LC_LANE_STATUS_EXEC l) Exec.stopped).wr (Fld.LC_LANE_STATUS_IN_STEP l) 0).wr (Fld.LC_LANE_STATUS_H0_HALTED l) 0
  ((s1.wr (Fld.LC_LANE_STATUS_H1_HALTED l) 0).wr (Fld.LC_LANE_STATUS_REPLAY_HALT l) 0).setReg (Reg.CMP_STATUS l)
    (s1.reg (Reg.CMP_STATUS l) &&& 0x3C)

/-- The hidden state of a lane that stops (R79). -/
def LaneSt.stopped (n : LaneSt) : LaneSt :=
  { n with
    h0 := { HartSt.fresh with resetHalt := n.h0.resetHalt }
    h1 := { HartSt.fresh with resetHalt := n.h1.resetHalt }
    egressOpen := false, cmdLink := false, egress := [], l2 := [], dbgReq := none, inbox := [] }

/-- A lane's frame that is not yet complete at the FQ8s is aborted (R79). -/
def State.dropFrames (s : State) (l : Lane) : State := { s with fq := s.fq.map (fun q => { q with arrived := q.arrived.put l none }) }

/-- A stop is its registers, its tasks and its hidden state, and the frames under way dropped or not (R79). -/
theorem State.stopLane_eq (s : State) (l : Lane) :
    s.stopLane l = ((s.showStopped l).clearTasks l).modLn l LaneSt.stopped ∨
    s.stopLane l = (((s.showStopped l).clearTasks l).modLn l LaneSt.stopped).dropFrames l := by
  unfold State.stopLane
  dsimp only
  split
  · exact .inr rfl
  · exact .inl rfl

theorem State.showStopped_kept (s : State) (l : Lane) : RegsKept (stopKeys l) s (s.showStopped l) := by
  have hstatus : Reg.LC_LANE_STATUS l ∈ stopKeys l := .head _
  exact ((((((RegsKept.refl _ s).wr (f := Fld.LC_LANE_STATUS_EXEC l) _ hstatus).wr (f := Fld.LC_LANE_STATUS_IN_STEP l) _ hstatus).wr
    (f := Fld.LC_LANE_STATUS_H0_HALTED l) _ hstatus).wr (f := Fld.LC_LANE_STATUS_H1_HALTED l) _ hstatus).wr
    (f := Fld.LC_LANE_STATUS_REPLAY_HALT l) _ hstatus).setReg (k := Reg.CMP_STATUS l) _ (.tail _ (.head _))

theorem State.stopLane_kept (s : State) (l : Lane) : RegsKept (stopKeys l) s (s.stopLane l) := by
  have hstop : RegsKept (stopKeys l) s (((s.showStopped l).clearTasks l).modLn l LaneSt.stopped) :=
    (s.showStopped_kept l).trans (((s.showStopped l).clearTasks_kept l).mono (taskKeys_sub_stopKeys l))
  rcases s.stopLane_eq l with h | h
  · rw [h]; exact hstop
  · rw [h]; exact hstop

theorem State.ex_showStopped (s : State) (l : Lane) : (s.showStopped l).ex l = Exec.stopped := by
  have hcmp : homeKey (Reg.LC_LANE_STATUS l) ≠ homeKey (Reg.CMP_STATUS l) := by cases l <;> decide
  have hbeside : ∀ (u : State) (f : Field) (v : Nat), f.addr = Reg.LC_LANE_STATUS l → (f.hi < 8 ∧ f.lo ≤ f.hi) →
      (u.wr f v).rd (Fld.LC_LANE_STATUS_EXEC l) = u.rd (Fld.LC_LANE_STATUS_EXEC l) := fun u f v ha hf =>
    u.rd_wr_beside f _ v ⟨by omega, hf.2⟩ ha.symm (.inr hf.1)
  unfold State.ex State.showStopped
  dsimp only
  rw [State.rd_setReg_ne _ _ (f := Fld.LC_LANE_STATUS_EXEC l) hcmp, hbeside _ (Fld.LC_LANE_STATUS_REPLAY_HALT l) 0 rfl (show 6 < 8 ∧ 6 ≤ 6 by decide),
    hbeside _ (Fld.LC_LANE_STATUS_H1_HALTED l) 0 rfl (show 4 < 8 ∧ 4 ≤ 4 by decide),
    hbeside _ (Fld.LC_LANE_STATUS_H0_HALTED l) 0 rfl (show 3 < 8 ∧ 3 ≤ 3 by decide),
    hbeside _ (Fld.LC_LANE_STATUS_IN_STEP l) 0 rfl (show 0 < 8 ∧ 0 ≤ 0 by decide), State.rd_wr_same _ _ _ (show 11 < 32 ∧ 8 ≤ 11 by decide)]
  rfl

theorem State.ex_stopLane (s : State) (l : Lane) : (s.stopLane l).ex l = Exec.stopped := by
  have htasks : ((s.showStopped l).clearTasks l).ex l = (s.showStopped l).ex l :=
    ((s.showStopped l).clearTasks_kept l).rd (f := Fld.LC_LANE_STATUS_EXEC l) (by cases l <;> decide)
  rw [← s.ex_showStopped l, ← htasks]
  rcases s.stopLane_eq l with h | h
  · rw [h]; rfl
  · rw [h]; rfl

theorem State.ln_stopLane (s : State) (l m : Lane) :
    (s.stopLane l).ln m = (((s.showStopped l).clearTasks l).modLn l LaneSt.stopped).ln m := by
  rcases s.stopLane_eq l with h | h
  · rw [h]
  · rw [h]; rfl

theorem State.showStopped_regsOnly (s : State) (l : Lane) : RegsOnly s (s.showStopped l) :=
  ((((((RegsOnly.refl s).wr _ _).wr _ _).wr _ _).wr _ _).wr _ _).setReg _ _

theorem State.ln_stopLane_ne (s : State) {l m : Lane} (h : m ≠ l) : (s.stopLane l).ln m = s.ln m := by
  rw [s.ln_stopLane l m, State.ln_modLn_ne _ _ h, State.ln_clearTasks_ne _ h, (s.showStopped_regsOnly l).ln]

/-- A lane that has stopped: harts, tasks, notices and links are discarded, the rest is as before. -/
theorem State.ln_stopLane_same (s : State) (l : Lane) : ∃ x : HartSt, (s.stopLane l).ln l = { (s.ln l).noTask with h0 := x }.stopped := by
  obtain ⟨x, hx⟩ := (s.showStopped l).ln_clearTasks l
  refine ⟨x, ?_⟩
  rw [s.ln_stopLane l l, State.ln_modLn_same, hx, (s.showStopped_regsOnly l).ln]

/-- The record of a cause touches its own registers and the device fault summary. -/
theorem State.recordCause_kept (s : State) (l : Lane) (cause group : Nat) : RegsKept (causeKeys l) s (s.recordCause l cause group) := by
  have hcause : Reg.LC_FAULT_CAUSE l ∈ causeKeys l := .head _
  unfold State.recordCause
  refine (RegsKept.refl _ s).ite ?_
  have hwritten := ((((RegsKept.refl (causeKeys l) s).wr (f := Fld.LC_FAULT_CAUSE_VALID l) 1 hcause).wr
    (f := Fld.LC_FAULT_CAUSE_CAUSE l) cause hcause).wr (f := Fld.LC_FAULT_CAUSE_GROUP l) group hcause).wr64 s.clk.uptime
    (.tail _ (.head _)) (.tail _ (.tail _ (.head _)))
  exact hwritten.trans ((State.showFaultDev_kept _).mono (fun k hk => .tail _ (.tail _ (.tail _ hk))))

theorem State.recordCause_regsOnly (s : State) (l : Lane) (cause group : Nat) : RegsOnly s (s.recordCause l cause group) :=
  (RegsOnly.refl s).ite (((((RegsOnly.refl s).wr _ _).wr _ _).wr _ _).wr64 _ _ _ |>.trans (State.showFaultDev_regsOnly _))

/-- A cause already recorded stays (R78). -/
theorem State.recordCause_of_valid (s : State) (l : Lane) (cause group : Nat) (h : s.rd (Fld.LC_FAULT_CAUSE_VALID l) = 1) :
    s.recordCause l cause group = s := by
  unfold State.recordCause State.flag
  rw [h]
  rfl

/-- The first cause is recorded with its group (R78). -/
theorem State.recordCause_of_first (s : State) (l : Lane) {cause group : Nat} (hc : cause < 256) (hg : group < 8)
    (h : s.rd (Fld.LC_FAULT_CAUSE_VALID l) = 0) :
    (s.recordCause l cause group).rd (Fld.LC_FAULT_CAUSE_VALID l) = 1 ∧ (s.recordCause l cause group).rd (Fld.LC_FAULT_CAUSE_CAUSE l) = cause ∧
      (s.recordCause l cause group).rd (Fld.LC_FAULT_CAUSE_GROUP l) = group := by
  have hkept : ∀ (u : State) (f : Field), f.addr = Reg.LC_FAULT_CAUSE l →
      ((u.wr64 (Reg.LC_FAULT_TIME_HI l) (Reg.LC_FAULT_TIME_LO l) s.clk.uptime).showFaultDev).rd f = u.rd f := fun u f hf => by
    have h64 : RegsKept [Reg.LC_FAULT_TIME_HI l, Reg.LC_FAULT_TIME_LO l, Reg.JC_MOD_STATUS] u
        (u.wr64 (Reg.LC_FAULT_TIME_HI l) (Reg.LC_FAULT_TIME_LO l) s.clk.uptime).showFaultDev :=
      ((RegsKept.refl _ u).wr64 _ (.head _) (.tail _ (.head _))).trans ((State.showFaultDev_kept _).mono (fun k hk => .tail _ (.tail _ hk)))
    exact h64.rd (by rw [hf]; cases l <;> decide)
  have hfirst : s.recordCause l cause group = ((((s.set1 (Fld.LC_FAULT_CAUSE_VALID l)).wr (Fld.LC_FAULT_CAUSE_CAUSE l) cause).wr
      (Fld.LC_FAULT_CAUSE_GROUP l) group).wr64 (Reg.LC_FAULT_TIME_HI l) (Reg.LC_FAULT_TIME_LO l) s.clk.uptime).showFaultDev := by
    unfold State.recordCause State.flag
    rw [h]
    rfl
  have hin : (31 < 32 ∧ 31 ≤ 31) ∧ (15 < 32 ∧ 8 ≤ 15) ∧ (2 < 32 ∧ 0 ≤ 2) := by decide
  rw [hfirst]
  refine ⟨?_, ?_, ?_⟩
  · rw [hkept _ _ rfl, State.rd_wr_beside _ (Fld.LC_FAULT_CAUSE_GROUP l) (Fld.LC_FAULT_CAUSE_VALID l) _ hin.2.2 rfl (.inr (show 2 < 31 by decide)),
      State.rd_wr_beside _ (Fld.LC_FAULT_CAUSE_CAUSE l) (Fld.LC_FAULT_CAUSE_VALID l) _ hin.2.1 rfl (.inr (show 15 < 31 by decide))]
    exact State.rd_wr_same _ _ _ hin.1
  · rw [hkept _ _ rfl, State.rd_wr_beside _ (Fld.LC_FAULT_CAUSE_GROUP l) (Fld.LC_FAULT_CAUSE_CAUSE l) _ hin.2.2 rfl (.inr (show 2 < 8 by decide)),
      State.rd_wr_same _ (Fld.LC_FAULT_CAUSE_CAUSE l) _ hin.2.1]
    exact Nat.mod_eq_of_lt hc
  · rw [hkept _ _ rfl, State.rd_wr_same _ (Fld.LC_FAULT_CAUSE_GROUP l) _ hin.2.2]
    exact Nat.mod_eq_of_lt hg

/-! ### The lane fault itself -/

/-- In HELD and STOPPED no fault is declared but a second cause in the lc of the first (R78, R506). -/
theorem State.laneFault_of_down (s : State) {l : Lane} (cause group : Nat) (h : s.ex l = Exec.held ∨ s.ex l = Exec.stopped) :
    s.laneFault l cause group = s.sameLc l cause group := by
  have hdown : (s.ex l == Exec.held || s.ex l == Exec.stopped) = true := by simpa using h
  unfold State.laneFault
  rw [if_pos hdown]

theorem State.laneFault_of_up (s : State) {l : Lane} (cause group : Nat) (hheld : s.ex l ≠ Exec.held) (hstopped : s.ex l ≠ Exec.stopped) :
    s.laneFault l cause group =
      ((s.recordCause l cause group).stopLane l).modLn l (fun n => { n with withdrawal := some (cause, group, s.clk.uptime) }) := by
  have hup : ¬ (s.ex l == Exec.held || s.ex l == Exec.stopped) = true := by simpa using ⟨hheld, hstopped⟩
  unfold State.laneFault
  rw [if_neg hup]

/-- A second cause is resolved in its own record and notice (R78). -/
theorem State.sameLc_kept (s : State) (l : Lane) (cause group : Nat) : RegsKept (causeKeys l) s (s.sameLc l cause group) := by
  have hcause : Reg.LC_FAULT_CAUSE l ∈ causeKeys l := .head _
  unfold State.sameLc
  split
  · dsimp only
    split
    · split
      · exact (((RegsKept.refl (causeKeys l) s).wr (f := Fld.LC_FAULT_CAUSE_CAUSE l) _ hcause).wr (f := Fld.LC_FAULT_CAUSE_GROUP l) _ hcause)
      · exact RegsKept.refl _ s
    · exact RegsKept.refl _ s
  · exact RegsKept.refl _ s

/-- The registers that a lane fault may touch. -/
theorem State.laneFault_kept (s : State) (l : Lane) (cause group : Nat) : RegsKept (causeKeys l ++ stopKeys l) s (s.laneFault l cause group) := by
  unfold State.laneFault
  refine RegsKept.ite ((s.sameLc_kept l cause group).mono (fun _ hk => List.mem_append_left _ hk)) ?_
  have hstop : RegsKept (causeKeys l ++ stopKeys l) s ((s.recordCause l cause group).stopLane l) :=
    ((s.recordCause_kept l cause group).mono (fun _ hk => List.mem_append_left _ hk)).trans
      ((State.stopLane_kept _ l).mono (fun _ hk => List.mem_append_right _ hk))
  exact hstop

/-- A lane that is neither HELD nor STOPPED faults as R78 and R79 say. -/
theorem State.laneFaulted_laneFault (s : State) {l : Lane} {cause group : Nat} (hc : cause < 256) (hg : group < 8)
    (hheld : s.ex l ≠ Exec.held) (hstopped : s.ex l ≠ Exec.stopped) : LaneFaulted s (s.laneFault l cause group) l cause group := by
  have hreg : ((s.recordCause l cause group).stopLane l).reg (Reg.LC_FAULT_CAUSE l) = (s.recordCause l cause group).reg (Reg.LC_FAULT_CAUSE l) :=
    State.stopLane_kept _ l _ (by cases l <;> decide)
  have hrd : ∀ f : Field, f.addr = Reg.LC_FAULT_CAUSE l →
      ((s.recordCause l cause group).stopLane l).rd f = (s.recordCause l cause group).rd f := fun f hf => by
    unfold State.rd; rw [hf, hreg]
  obtain ⟨x, hln⟩ := (s.recordCause l cause group).ln_stopLane_same l
  have hex : ((s.recordCause l cause group).stopLane l).ex l = Exec.stopped := State.ex_stopLane _ l
  have hothers : ∀ m, m ≠ l → ((s.recordCause l cause group).stopLane l).ln m = s.ln m := fun m hm =>
    (State.ln_stopLane_ne _ hm).trans ((s.recordCause_regsOnly l cause group).ln m)
  have hone : ((s.recordCause l cause group).stopLane l).rd (Fld.LC_FAULT_CAUSE_VALID l) = 1 := by
    rw [hrd _ rfl]
    rcases Nat.lt_succ_iff_lt_or_eq.mp (s.rd_lt (Fld.LC_FAULT_CAUSE_VALID l)) with h0 | h1
    · exact (s.recordCause_of_first l hc hg (Nat.lt_one_iff.mp h0)).1
    · rw [s.recordCause_of_valid l cause group h1]; exact h1
  rw [s.laneFault_of_up cause group hheld hstopped]
  generalize hu : (s.recordCause l cause group).stopLane l = u at hreg hrd hln hex hothers hone ⊢
  unfold LaneFaulted
  rw [State.ln_modLn_same, hln]
  refine ⟨hex, rfl, rfl, rfl, rfl, rfl, rfl, rfl, rfl, rfl, hone, fun h => ?_, fun h => ?_, fun m hm => ?_⟩
  · obtain ⟨_, hcause, hgroup⟩ := s.recordCause_of_first l hc hg h
    exact ⟨(hrd (Fld.LC_FAULT_CAUSE_CAUSE l) rfl).trans hcause, (hrd (Fld.LC_FAULT_CAUSE_GROUP l) rfl).trans hgroup⟩
  · rw [s.recordCause_of_valid l cause group h] at hreg
    exact hreg
  · exact (u.ln_modLn_ne _ hm).trans (hothers m hm)

/-- What came before the fault and left the record, the uptime and the other lanes alone does not show in it. -/
theorem LaneFaulted.of_before {r s t : State} {l : Lane} {cause group : Nat} (h : LaneFaulted s t l cause group)
    (htime : s.clk.uptime = r.clk.uptime) (hreg : s.reg (Reg.LC_FAULT_CAUSE l) = r.reg (Reg.LC_FAULT_CAUSE l))
    (hln : ∀ m, m ≠ l → s.ln m = r.ln m) : LaneFaulted r t l cause group := by
  obtain ⟨hex, hw, he, hc, h0x, h0p, h1x, h1p, htask, hnotes, hvalid, hfirst, hlater, hothers⟩ := h
  have hrd : s.rd (Fld.LC_FAULT_CAUSE_VALID l) = r.rd (Fld.LC_FAULT_CAUSE_VALID l) := State.rd_of_reg hreg
  exact ⟨hex, htime ▸ hw, he, hc, h0x, h0p, h1x, h1p, htask, hnotes, hvalid, fun h0 => hfirst (hrd.trans h0),
    fun h1 => (hlater (hrd.trans h1)).trans hreg, fun m hm => (hothers m hm).trans (hln m hm)⟩

/-- What follows the fault and leaves the lanes and their status alone keeps it. -/
theorem LaneFaulted.of_after {s t u : State} {l : Lane} {cause group : Nat} (h : LaneFaulted s t l cause group)
    (hlane : u.lane = t.lane) (hstatus : u.reg (Reg.LC_LANE_STATUS l) = t.reg (Reg.LC_LANE_STATUS l))
    (hcause : u.reg (Reg.LC_FAULT_CAUSE l) = t.reg (Reg.LC_FAULT_CAUSE l)) : LaneFaulted s u l cause group := by
  have hex : u.ex l = t.ex l := State.rd_of_reg hstatus
  have hvalid : u.rd (Fld.LC_FAULT_CAUSE_VALID l) = t.rd (Fld.LC_FAULT_CAUSE_VALID l) := State.rd_of_reg hcause
  have hcode : u.rd (Fld.LC_FAULT_CAUSE_CAUSE l) = t.rd (Fld.LC_FAULT_CAUSE_CAUSE l) := State.rd_of_reg hcause
  have hgroup : u.rd (Fld.LC_FAULT_CAUSE_GROUP l) = t.rd (Fld.LC_FAULT_CAUSE_GROUP l) := State.rd_of_reg hcause
  unfold LaneFaulted State.ln
  rw [hex, hvalid, hcode, hgroup, hcause, hlane]
  exact h

/-- Without a notice of the same instant a second cause changes nothing (R78). -/
theorem State.sameLc_of_no_notice (s : State) {l : Lane} (cause group : Nat)
    (h : ∀ c g, (s.ln l).withdrawal ≠ some (c, g, s.clk.uptime)) : s.sameLc l cause group = s := by
  unfold State.sameLc
  split
  next c g t hw => exact if_neg (fun ht : t = s.clk.uptime => h c g (ht ▸ hw))
  next => rfl

end Sys2Proof.Machine
end

section
/-! PROOF. The causes of a lane fault one by one (R25, R70, R72, R74, R78, R154, R157, R167, R506): O13. -/

namespace Sys2Proof.Machine

/-! ### The error log of a store -/

/-- The registers that an uncorrectable error of a store touches (R167). -/
def errorKeys (m : MemSel) : List Nat :=
  [Reg.MEM_STATUS m, Reg.MEM_ELOG_CTRL m, Reg.MEM_UNCORR_COUNT m, Reg.MEM_ELOG_INFO m, Reg.MEM_ELOG_ADDR m, Reg.MEM_ELOG_TIME_HI m,
    Reg.MEM_ELOG_TIME_LO m]

/-- Nothing differs but registers and memory controllers. -/
def MemOnly (s t : State) : Prop := ∃ r c j, t = { s with regs := r, memc := c, jmem := j }

theorem MemOnly.of_regsOnly {s t u : State} (h : MemOnly s t) (hu : RegsOnly t u) : MemOnly s u := by
  obtain ⟨_, c, j, rfl⟩ := h
  obtain ⟨r, rfl⟩ := hu
  exact ⟨r, c, j, rfl⟩

theorem MemOnly.setMctl (s : State) (m : MemSel) (x : MemCtl) : MemOnly s (s.setMctl m x) := by
  cases m
  · exact ⟨s.regs, _, s.jmem, rfl⟩
  · exact ⟨s.regs, s.memc, _, rfl⟩

theorem State.regs_setMctl (s : State) (m : MemSel) (x : MemCtl) : (s.setMctl m x).regs = s.regs := by cases m <;> rfl

@[simp] theorem State.mctl_setMctl (s : State) (m : MemSel) (x : MemCtl) : (s.setMctl m x).mctl m = x := by
  cases m with
  | lane l => exact (Tri.get_put s.memc l l x).trans (if_pos rfl)
  | junction => rfl

theorem RegsOnly.mctl {s t : State} (h : RegsOnly s t) (m : MemSel) : t.mctl m = s.mctl m := h.keeps (fun x => x.mctl m) fun _ => by cases m <;> rfl

section
variable (s : State) (m : MemSel) (type source syndrome addr : Nat)

theorem State.logError_kept : RegsKept [Reg.MEM_STATUS m, Reg.MEM_ELOG_CTRL m] s (s.logError m type source syndrome addr) := by
  unfold State.logError
  dsimp only
  split
  · exact RegsKept.of_regs (s.regs_setMctl m _)
  · split
    · exact (RegsKept.refl _ s).wr (f := Fld.MEM_ELOG_CTRL_LOST m) _ (.tail _ (.head _))
    · exact (RegsKept.of_regs (s.regs_setMctl m _)).wr (f := Fld.MEM_STATUS_ELOG_COUNT m) _ (.head _)

theorem State.logError_memOnly : MemOnly s (s.logError m type source syndrome addr) := by
  unfold State.logError
  dsimp only
  split
  · exact MemOnly.setMctl s m _
  · split
    · exact ⟨_, s.memc, s.jmem, rfl⟩
    · exact (MemOnly.setMctl s m _).of_regsOnly ((RegsOnly.refl _).wr _ _)

/-- While the log has room, an error stands in it with its type and address (R167). -/
theorem State.mem_logError (h : (s.mctl m).elog.length < 32) :
    ∃ e ∈ ((s.logError m type source syndrome addr).mctl m).elog, e.type = type ∧ e.addr = addr := by
  unfold State.logError
  dsimp only
  split
  next hany =>
    obtain ⟨e, he, hmatch⟩ := List.any_eq_true.mp hany
    obtain ⟨htype, haddr⟩ : e.type = type ∧ e.addr = addr := by simpa using hmatch
    rw [State.mctl_setMctl]
    exact ⟨_, List.mem_map_of_mem he, by rw [if_pos hmatch]; exact ⟨htype, haddr⟩⟩
  next =>
    rw [if_neg (by omega), RegsOnly.mctl ((RegsOnly.refl _).wr _ _), State.mctl_setMctl]
    exact ⟨_, List.mem_append_right _ (.head _), rfl, rfl⟩

theorem State.showElog_regsOnly : RegsOnly s (s.showElog m) := by
  unfold State.showElog
  split
  · exact (((RegsOnly.refl s).setReg _ _).setReg _ _).wr64 _ _ _
  · exact (((((((RegsOnly.refl s).wr _ _).wr _ _).wr _ _).wr _ _).wr _ _).wr _ _).wr64 _ _ _

theorem State.showElog_kept :
    RegsKept [Reg.MEM_ELOG_INFO m, Reg.MEM_ELOG_ADDR m, Reg.MEM_ELOG_TIME_HI m, Reg.MEM_ELOG_TIME_LO m] s (s.showElog m) := by
  have hinfo : Reg.MEM_ELOG_INFO m ∈ [Reg.MEM_ELOG_INFO m, Reg.MEM_ELOG_ADDR m, Reg.MEM_ELOG_TIME_HI m, Reg.MEM_ELOG_TIME_LO m] := .head _
  have haddr : Reg.MEM_ELOG_ADDR m ∈ [Reg.MEM_ELOG_INFO m, Reg.MEM_ELOG_ADDR m, Reg.MEM_ELOG_TIME_HI m, Reg.MEM_ELOG_TIME_LO m] :=
    .tail _ (.head _)
  unfold State.showElog
  split
  · exact (((RegsKept.refl _ s).setReg _ hinfo).setReg _ haddr).wr64 _ (.tail _ (.tail _ (.head _))) (.tail _ (.tail _ (.tail _ (.head _))))
  · exact (((((((RegsKept.refl _ s).wr (f := Fld.MEM_ELOG_INFO_VALID m) _ hinfo).wr (f := Fld.MEM_ELOG_INFO_TYPE m) _ hinfo).wr
      (f := Fld.MEM_ELOG_INFO_SOURCE m) _ hinfo).wr (f := Fld.MEM_ELOG_INFO_REPEAT m) _ hinfo).wr (f := Fld.MEM_ELOG_INFO_SYNDROME m) _
      hinfo).wr (f := Fld.MEM_ELOG_ADDR_ADDR m) _ haddr).wr64 _ (.tail _ (.tail _ (.head _))) (.tail _ (.tail _ (.tail _ (.head _))))

/-- An uncorrectable error is logged, counted and shown (R167). -/
theorem State.memError_eq : s.memError m type source syndrome addr true =
    ((s.logError m type source syndrome addr).bump (Fld.MEM_UNCORR_COUNT_COUNT m)).showElog m := rfl

theorem State.memError_memOnly : MemOnly s (s.memError m type source syndrome addr true) := by
  rw [State.memError_eq]
  exact ((s.logError_memOnly m type source syndrome addr).of_regsOnly ((RegsOnly.refl _).wr _ _)).of_regsOnly (State.showElog_regsOnly _ m)

theorem State.memError_kept : RegsKept (errorKeys m) s (s.memError m type source syndrome addr true) := by
  rw [State.memError_eq]
  have hlog := (s.logError_kept m type source syndrome addr).mono (js := errorKeys m) (by
    rintro k (_ | ⟨_, _ | ⟨_, ⟨⟩⟩⟩)
    · exact .head _
    · exact .tail _ (.head _))
  have hcount := hlog.wr (f := Fld.MEM_UNCORR_COUNT_COUNT m) (satAdd (2 ^ 32 - 1) ((s.logError m type source syndrome addr).rd
    (Fld.MEM_UNCORR_COUNT_COUNT m)) 1) (.tail _ (.tail _ (.head _)))
  exact hcount.trans ((State.showElog_kept _ m).mono (fun k hk => .tail _ (.tail _ (.tail _ hk))))

/-- The counter of uncorrectable errors goes up by one, saturating. -/
theorem State.rd_memError (l : Lane) : (s.memError (.lane l) type source syndrome addr true).rd (Fld.MEM_UNCORR_COUNT_COUNT (.lane l)) =
    min (2 ^ 32 - 1) (s.rd (Fld.MEM_UNCORR_COUNT_COUNT (.lane l)) + 1) := by
  rw [State.memError_eq, (State.showElog_kept _ (.lane l)).rd (f := Fld.MEM_UNCORR_COUNT_COUNT (.lane l)) (by cases l <;> decide),
    State.rd_bump_same _ (Fld.MEM_UNCORR_COUNT_COUNT (.lane l)) (show 31 < 32 ∧ 0 ≤ 31 by decide),
    (s.logError_kept (.lane l) type source syndrome addr).rd (f := Fld.MEM_UNCORR_COUNT_COUNT (.lane l)) (by cases l <;> decide)]
  rfl

theorem State.mem_memError (h : (s.mctl m).elog.length < 32) :
    ∃ e ∈ ((s.memError m type source syndrome addr true).mctl m).elog, e.type = type ∧ e.addr = addr := by
  rw [State.memError_eq, (State.showElog_regsOnly _ m).mctl, ((RegsOnly.refl _).bump _).mctl]
  exact s.mem_logError m type source syndrome addr h

end

/-! ### What a lane fault leaves beside its lane -/

theorem State.memc_drop (s : State) (l : Lane) (h : Hart) (line : Nat) : (s.drop l h line).memc = s.memc := by
  unfold State.drop
  dsimp only
  split
  · cases h <;> rfl
  · rfl

theorem State.memc_clearTasks (s : State) (l : Lane) : (s.clearTasks l).memc = s.memc := by
  rw [s.clearTasks_eq l, State.memc_drop, State.modLn, State.setLn_memc]
  exact (s.showNoTask_regsOnly l).keeps State.memc fun _ => rfl

theorem State.memc_stopLane (s : State) (l : Lane) : (s.stopLane l).memc = s.memc := by
  have hstop : (((s.showStopped l).clearTasks l).modLn l LaneSt.stopped).memc = s.memc := by
    rw [State.modLn, State.setLn_memc]
    exact ((s.showStopped l).memc_clearTasks l).trans ((s.showStopped_regsOnly l).keeps State.memc fun _ => rfl)
  rcases s.stopLane_eq l with h | h
  · rw [h]; exact hstop
  · rw [h]; exact hstop

/-- A lane fault leaves the memory controllers alone. -/
theorem State.memc_laneFault (s : State) {l : Lane} (cause group : Nat) (hheld : s.ex l ≠ Exec.held) (hstopped : s.ex l ≠ Exec.stopped) :
    (s.laneFault l cause group).memc = s.memc := by
  rw [s.laneFault_of_up cause group hheld hstopped]
  exact (State.memc_stopLane _ l).trans ((s.recordCause_regsOnly l cause group).keeps State.memc fun _ => rfl)

/-! ### CORE_MISMATCH -/

theorem bitOf_eq_testBit (n b : Nat) : bitOf n b = n.testBit b := by
  rw [Nat.testBit_eq_decide_div_mod_eq]
  exact Bool.beq_eq_decide_eq _ _

/-- The lowest group of a non-empty mask below 8 bits (R78). -/
theorem lowGroup_spec {n : Nat} (h0 : n ≠ 0) (h : n < 256) : lowGroup n < 8 ∧ n.testBit (lowGroup n) = true ∧ ∀ j < lowGroup n, n.testBit j = false := by
  obtain ⟨i, hi⟩ := Nat.exists_testBit_of_ne_zero h0
  have hi8 : i < 8 := by
    by_contra hge
    have hbig : n < 2 ^ i := lt_of_lt_of_le h (Nat.pow_le_pow_right (show 0 < 2 by decide) (show 8 ≤ i by omega))
    rw [Nat.testBit_lt_two_pow hbig] at hi
    cases hi
  cases hfind : (List.range 8).find? (bitOf n) with
  | none => exact absurd hi (bitOf_eq_testBit n i ▸ List.find?_eq_none.mp hfind i (List.mem_range.mpr hi8))
  | some j =>
    obtain ⟨hj, hj8, hleast⟩ := List.find?_range_eq_some.mp hfind
    have hlow : lowGroup n = j := by unfold lowGroup; rw [hfind]; rfl
    rw [hlow]
    refine ⟨List.mem_range.mp hj8, bitOf_eq_testBit n j ▸ hj, fun i hi => ?_⟩
    rw [← bitOf_eq_testBit]
    exact (Bool.not_eq_true' _).mp (hleast i hi)

/-- The groups that count for a hart: those that differ, without group 7 in core-only mode, where the hart is compared (R72, R73). -/
def State.countedGroups (s : State) (l : Lane) (h : Hart) (g : BitVec 8) : Nat :=
  if s.wasCompared l h = true then g.toNat % (if (s.ln l).replMode = 1 then 256 else 128) else 0

theorem toNat_and_low (g : BitVec 8) (c : Prop) [Decidable c] :
    (g &&& (if c then 0xFF else 0x7F : BitVec 8)).toNat = g.toNat % (if c then 256 else 128) := by
  split
  · exact (Nat.and_two_pow_sub_one_eq_mod g.toNat 8)
  · exact (Nat.and_two_pow_sub_one_eq_mod g.toNat 7)

theorem State.countedGroups_lt (s : State) (l : Lane) (h : Hart) (g : BitVec 8) : s.countedGroups l h g < 256 := by
  have hg := g.isLt
  unfold State.countedGroups
  split <;> [split; skip] <;> omega

theorem execCoreMismatch_eq (l : Lane) (g0 g1 : BitVec 8) (s : State) : exec (.coreMismatch l g0 g1) s =
    .next (if s.countedGroups l .h0 g0 = 0 ∧ s.countedGroups l .h1 g1 = 0 then s
      else (s.discardTest l).laneFault l (b2n (s.countedGroups l .h0 g0 != 0) + 2 * b2n (s.countedGroups l .h1 g1 != 0))
        (lowGroup (s.countedGroups l .h0 g0 ||| s.countedGroups l .h1 g1))) := by
  show execCoreMismatch l g0 g1 s = _
  unfold execCoreMismatch State.countedGroups
  simp only [toNat_and_low]

/-- A discarded test result touches the comparator's registers and the test's own record (R77). -/
theorem State.discardTest_kept (s : State) (l : Lane) :
    RegsKept [Reg.CMP_STATUS l, Reg.CMP_TEST_LAST l, Reg.CMP_TEST_COUNT l] s (s.discardTest l) := by
  unfold State.discardTest
  split
  · exact ((((RegsKept.refl _ s).setReg _ (.head _)).setReg _ (.tail _ (.head _))).setReg _ (.tail _ (.tail _ (.head _)))).modLn l _
  · exact RegsKept.refl _ s

theorem State.discardTest_beside (s : State) (l : Lane) : (s.discardTest l).clk = s.clk ∧ ∀ m, m ≠ l → (s.discardTest l).ln m = s.ln m := by
  unfold State.discardTest
  split
  next u _ =>
    have hregs := (((RegsOnly.refl s).setReg (Reg.CMP_STATUS l) (s.reg (Reg.CMP_STATUS l) &&& 0xFFFFFFC3 ||| u.status &&& 0x3C)).setReg
      (Reg.CMP_TEST_LAST l) u.last).setReg (Reg.CMP_TEST_COUNT l) u.count
    exact ⟨(State.setLn_clk _ _ _).trans hregs.clk, fun m hm => (State.ln_modLn_ne _ _ hm).trans (hregs.ln m)⟩
  next => exact ⟨rfl, fun _ _ => rfl⟩

/-- A mismatch that counts faults the lane with the cause of its harts and the lowest group (R72, R78). -/
theorem State.laneFaulted_coreMismatch (s : State) {l : Lane} {a b : Nat} (ha : a < 256) (hb : b < 256) (hab : a ≠ 0 ∨ b ≠ 0)
    (hheld : s.ex l ≠ Exec.held) (hstopped : s.ex l ≠ Exec.stopped) :
    LaneFaulted s ((s.discardTest l).laneFault l (b2n (a != 0) + 2 * b2n (b != 0)) (lowGroup (a ||| b))) l
      (if a = 0 then 2 else if b = 0 then 1 else 3) (lowGroup (a ||| b)) := by
  have hcause : b2n (a != 0) + 2 * b2n (b != 0) = if a = 0 then 2 else if b = 0 then 1 else 3 := by
    by_cases h0 : a = 0 <;> by_cases h1 : b = 0 <;> simp_all [b2n]
  have hor : a ||| b ≠ 0 := by simpa [Nat.or_eq_zero_iff] using (not_and_or.mpr hab)
  have hlt : a ||| b < 2 ^ 8 := Nat.or_lt_two_pow ha hb
  have hkept := s.discardTest_kept l
  have hex : (s.discardTest l).ex l = s.ex l := hkept.rd (f := Fld.LC_LANE_STATUS_EXEC l) (by cases l <;> decide)
  obtain ⟨hclk, hln⟩ := s.discardTest_beside l
  rw [hcause]
  exact ((s.discardTest l).laneFaulted_laneFault (by split <;> [decide; split <;> decide]) (lowGroup_spec hor hlt).1 (hex ▸ hheld)
    (hex ▸ hstopped)).of_before (by rw [hclk]) (hkept _ (by cases l <;> decide)) hln

/-- Outside a test of this instant, what was compared is what CMP.STATUS shows (R92). -/
theorem State.wasCompared_of_no_test (s : State) {l : Lane} (h : (s.ln l).testUndo = none) (a : Hart) :
    s.wasCompared l a = decide (s.rd (comparedFld l a) = 1) := by
  unfold State.wasCompared State.testNow
  rw [h]
  cases a
  · exact s.flag_eq_decide (Fld.CMP_STATUS_H0_COMPARED l) rfl
  · exact s.flag_eq_decide (Fld.CMP_STATUS_H1_COMPARED l) rfl

/-! ### The obligation -/

theorem State.tripleFailed_lane (s : State) (l : Lane) : s.tripleFailed (1 + l.num) = s.laneFault l 0x0A 0 := by cases l <;> rfl

/-- TRIPLE_WORD_FAILED of a lane's own device (R157). -/
theorem exec_tripleWordFailed_lane (s : State) (l : Lane) {d : Fin 9} (hd : d.val = 1 + l.num) :
    exec (.tripleWordFailed d) s = .next (((s.set1 (Fld.JC_TW_n_STATUS_FAILED d)).laneFault l 0x0A 0).showFaultDev) := by
  rw [← State.tripleFailed_lane, ← hd]
  rfl

/-- The tripwires' registers lie apart from what a lane fault touches. -/
theorem tripwire_apart (l : Lane) : ∀ d : Fin 9, ∀ j ∈ causeKeys l ++ stopKeys l, homeKey (Reg.JC_TW_n_STATUS d) ≠ homeKey j := by
  cases l <;> decide

/-- The tripwire of a lane's device stops the lane with cause 0x0A and shows the failure (R157). -/
theorem State.laneFaulted_tripleWord (s : State) {l : Lane} (d : Fin 9) (hheld : s.ex l ≠ Exec.held) (hstopped : s.ex l ≠ Exec.stopped) :
    LaneFaulted s ((s.set1 (Fld.JC_TW_n_STATUS_FAILED d)).laneFault l 0x0A 0).showFaultDev l 0x0A 0 ∧
      ((s.set1 (Fld.JC_TW_n_STATUS_FAILED d)).laneFault l 0x0A 0).showFaultDev.rd (Fld.JC_TW_n_STATUS_FAILED d) = 1 := by
  have hset : RegsKept [Reg.JC_TW_n_STATUS d] s (s.set1 (Fld.JC_TW_n_STATUS_FAILED d)) :=
    (RegsKept.refl _ s).wr (f := Fld.JC_TW_n_STATUS_FAILED d) 1 (.head _)
  have hone : (s.set1 (Fld.JC_TW_n_STATUS_FAILED d)).rd (Fld.JC_TW_n_STATUS_FAILED d) = 1 :=
    State.rd_wr_same s (Fld.JC_TW_n_STATUS_FAILED d) 1 (show 31 < 32 ∧ 31 ≤ 31 by decide)
  have hbeside : RegsOnly s (s.set1 (Fld.JC_TW_n_STATUS_FAILED d)) := (RegsOnly.refl s).wr _ _
  have hapart : ∀ k ∈ causeKeys l ++ stopKeys l, ∀ j ∈ [Reg.JC_TW_n_STATUS d], homeKey k ≠ homeKey j := fun k hk j hj =>
    List.mem_singleton.mp hj ▸ (tripwire_apart l d k hk).symm
  generalize s.set1 (Fld.JC_TW_n_STATUS_FAILED d) = r at hset hone hbeside ⊢
  have hex : r.ex l = s.ex l := hset.rd (f := Fld.LC_LANE_STATUS_EXEC l) (hapart _ (List.mem_append_right _ (.head _)))
  have hfault := (r.laneFaulted_laneFault (cause := 0x0A) (group := 0) (by decide) (by decide) (hex ▸ hheld) (hex ▸ hstopped)).of_before
    (congrArg Clock.uptime hbeside.clk) (hset _ (hapart _ (.head _))) (fun m _ => hbeside.ln m)
  have hshow := (r.laneFault l 0x0A 0).showFaultDev_kept
  refine ⟨hfault.of_after (State.showFaultDev_regsOnly _).lane (hshow _ (by cases l <;> decide)) (hshow _ (by cases l <;> decide)), ?_⟩
  rw [hshow.rd (f := Fld.JC_TW_n_STATUS_FAILED d) (fun j hj => tripwire_apart l d j (List.mem_singleton.mp hj ▸ .tail _ (.tail _ (.tail _ (.head _))))),
    (r.laneFault_kept l 0x0A 0).rd (f := Fld.JC_TW_n_STATUS_FAILED d) (tripwire_apart l d), hone]

/-- An uncorrectable error is logged and counted, and stops the lane (R154, R167). -/
theorem State.laneFaulted_uncorrectable (s : State) {l : Lane} (type source syndrome addr : Nat) (hheld : s.ex l ≠ Exec.held)
    (hstopped : s.ex l ≠ Exec.stopped) :
    let t := (s.memError (.lane l) type source syndrome addr true).laneFault l 0x0A 0
    LaneFaulted s t l 0x0A 0 ∧
      t.rd (Fld.MEM_UNCORR_COUNT_COUNT (.lane l)) = min (2 ^ 32 - 1) (s.rd (Fld.MEM_UNCORR_COUNT_COUNT (.lane l)) + 1) ∧
      ((s.memc.get l).elog.length < 32 → ∃ e ∈ (t.memc.get l).elog, e.type = type ∧ e.addr = addr) := by
  have hkept := s.memError_kept (.lane l) type source syndrome addr
  have hcount := s.rd_memError type source syndrome addr l
  have hlogged := s.mem_memError (.lane l) type source syndrome addr
  obtain ⟨regs, memc, jmem, hmem⟩ := s.memError_memOnly (.lane l) type source syndrome addr
  generalize s.memError (.lane l) type source syndrome addr true = r at hkept hcount hlogged hmem ⊢
  have hex : r.ex l = s.ex l := hkept.rd (f := Fld.LC_LANE_STATUS_EXEC l) (by cases l <;> decide)
  refine ⟨(r.laneFaulted_laneFault (by decide) (by decide) (hex ▸ hheld) (hex ▸ hstopped)).of_before (by rw [hmem])
    (hkept _ (by cases l <;> decide)) (fun m _ => by rw [hmem]; rfl), ?_, fun h => ?_⟩
  · rw [(r.laneFault_kept l 0x0A 0).rd (f := Fld.MEM_UNCORR_COUNT_COUNT (.lane l)) (by cases l <;> decide), hcount]
  · rw [r.memc_laneFault 0x0A 0 (hex ▸ hheld) (hex ▸ hstopped)]
    exact hlogged h

/-- The loss of a lane's PLL shows in JC.CLK_STATUS alone (R25). -/
theorem State.lockLost (s : State) (l : Lane) :
    RegsKept [Reg.JC_CLK_STATUS] s (s.wr (lockFld l) 0) ∧ RegsOnly s (s.wr (lockFld l) 0) ∧ (s.wr (lockFld l) 0).rd (lockFld l) = 0 :=
  ⟨(RegsKept.refl _ s).wr (f := lockFld l) 0 (.head _), (RegsOnly.refl s).wr _ _, s.rd_wr_same (lockFld l) 0 (by cases l <;> decide)⟩

/-- A second cause of the same instant leaves the lower code in the notice (R78). -/
theorem State.sameLc_comparator (s : State) {l : Lane} {c g : Nat} (h : (s.ln l).withdrawal = some (c, g, s.clk.uptime)) :
    ∃ h, ((s.sameLc l 5 0).ln l).withdrawal = some (min c 5, h, s.clk.uptime) := by
  have hlower : (secondCause c g 5 0).1 = min c 5 := by
    unfold secondCause
    rw [if_neg (by omega)]
    split <;> simp only <;> omega
  refine ⟨(secondCause c g 5 0).2, ?_⟩
  unfold State.sameLc
  rw [h]
  simp only [if_true, hlower]
  split
  · simp only [State.ln_wr, State.ln_modLn_same]
  · simp only [State.ln_modLn_same]

/-- A difference that counts faults the lane with its lowest group (R72, R78). -/
theorem State.gives_coreMismatch (s : State) {l : Lane} (g0 g1 : BitVec 8) (hheld : s.ex l ≠ Exec.held) (hstopped : s.ex l ≠ Exec.stopped)
    (hab : s.countedGroups l .h0 g0 ≠ 0 ∨ s.countedGroups l .h1 g1 ≠ 0) :
    Gives (.coreMismatch l g0 g1) s (fun t => ∃ g,
      LaneFaulted s t l (if s.countedGroups l .h0 g0 = 0 then 2 else if s.countedGroups l .h1 g1 = 0 then 1 else 3) g ∧
      ((s.countedGroups l .h0 g0).testBit g ∨ (s.countedGroups l .h1 g1).testBit g) ∧
      ∀ j < g, ¬ (s.countedGroups l .h0 g0).testBit j ∧ ¬ (s.countedGroups l .h1 g1).testBit j) := by
  have ha := s.countedGroups_lt l .h0 g0
  have hb := s.countedGroups_lt l .h1 g1
  have hor : s.countedGroups l .h0 g0 ||| s.countedGroups l .h1 g1 ≠ 0 := fun h =>
    hab.elim (fun h0 => h0 (Nat.or_eq_zero_iff.mp h).1) (fun h1 => h1 (Nat.or_eq_zero_iff.mp h).2)
  obtain ⟨_, hbit, hleast⟩ := lowGroup_spec hor (Nat.or_lt_two_pow (n := 8) ha hb)
  refine gives_of_exec ((execCoreMismatch_eq l g0 g1 s).trans (congrArg _ (if_neg (not_and_or.mpr hab))))
    ⟨_, s.laneFaulted_coreMismatch ha hb hab hheld hstopped, ?_, fun j hj => ?_⟩
  · simpa only [Nat.testBit_or, Bool.or_eq_true] using hbit
  · simpa only [Nat.testBit_or, Bool.or_eq_false_iff, Bool.not_eq_true] using hleast j hj

/-- Without a difference that counts nothing happens (R72). -/
theorem State.gives_coreMismatch_none (s : State) (l : Lane) (g0 g1 : BitVec 8)
    (hab : s.countedGroups l .h0 g0 = 0 ∧ s.countedGroups l .h1 g1 = 0) : Gives (.coreMismatch l g0 g1) s (fun t => t = s) :=
  gives_of_exec ((execCoreMismatch_eq l g0 g1 s).trans (congrArg _ (if_pos hab))) rfl

/-- Settles O13: each cause is the lane fault of R78 and R79 with its own code, after what the cause itself shows. -/
theorem laneFaultCauses : Obligations.LaneFaultCauses := by
  unfold Obligations.LaneFaultCauses
  intro s l
  have hlock := s.lockLost l
  obtain ⟨hlockKept, hlockOnly, hlockRd⟩ := hlock
  have hlockEx : (s.wr (lockFld l) 0).ex l = s.ex l := hlockKept.rd (f := Fld.LC_LANE_STATUS_EXEC l) (by cases l <;> decide)
  refine ⟨fun hheld hstopped => ⟨fun g0 g1 => ?_, ?_, ?_, ?_, ?_, fun type source addr syn => ?_, fun d hd => ?_⟩, fun c g hex hw => ?_,
    fun hdown hno => ⟨?_, ?_, ?_, ?_⟩⟩
  · exact ⟨s.gives_coreMismatch g0 g1 hheld hstopped, s.gives_coreMismatch_none l g0 g1, s.wasCompared_of_no_test⟩
  · exact gives_of_exec rfl (s.laneFaulted_laneFault (by decide) (by decide) hheld hstopped)
  · exact gives_of_exec rfl (s.laneFaulted_laneFault (by decide) (by decide) hheld hstopped)
  · exact gives_of_exec rfl (s.laneFaulted_laneFault (by decide) (by decide) hheld hstopped)
  · refine gives_of_exec rfl ⟨(State.laneFaulted_laneFault _ (by decide) (by decide) (hlockEx ▸ hheld) (hlockEx ▸ hstopped)).of_before
      (congrArg Clock.uptime hlockOnly.clk) (hlockKept _ (by cases l <;> decide)) (fun m _ => hlockOnly.ln m), ?_⟩
    rw [(State.laneFault_kept _ l 7 0).rd (f := lockFld l) (by cases l <;> decide), hlockRd]
  · exact gives_of_exec rfl (s.laneFaulted_uncorrectable type.val source.val syn.toNat (addr / 64) hheld hstopped)
  · exact gives_of_exec (exec_tripleWordFailed_lane s l hd) (s.laneFaulted_tripleWord d hheld hstopped)
  · refine gives_of_exec (congrArg Host.Outcome.next (s.laneFault_of_down 5 0 (.inr hex))) ⟨s.sameLc_comparator hw, ?_⟩
    exact ((s.sameLc_kept l 5 0).rd (f := Fld.LC_LANE_STATUS_EXEC l) (by cases l <;> decide)).trans hex
  all_goals have hsame := fun cause group => (s.laneFault_of_down cause group hdown).trans (s.sameLc_of_no_notice cause group hno)
  · exact gives_of_exec (congrArg Host.Outcome.next (hsame 6 0)) rfl
  · exact gives_of_exec (congrArg Host.Outcome.next (hsame 5 0)) rfl
  · exact gives_of_exec (congrArg Host.Outcome.next (hsame 9 0)) rfl
  · have hloss : (s.wr (lockFld l) 0).laneFault l 7 0 = s.wr (lockFld l) 0 :=
      (State.laneFault_of_down _ 7 0 (hlockEx ▸ hdown)).trans (State.sameLc_of_no_notice _ 7 0 hno)
    exact gives_of_exec (congrArg Host.Outcome.next hloss) ⟨hlockRd, hlockOnly.onlyRegs, hlockKept⟩

end Sys2Proof.Machine
end

section
/-! PROOF. O16: the obligation speaks of every state, also of one whose staging store lists an address twice, and there it fails. -/

namespace Sys2Proof.Machine
open Sys2Proof.Tests

/-- Cycle 5 of a running module with its input instant reached and byte 100 listed twice in the staging store, which
`Mem.wb` never leaves: it lists an address once. -/
def stagedTwice : State := { wCyc1 with stage := [(100, 1#8), (100, 2#8)], cfg := { wCyc1.cfg with sIn := 101 } }

theorem stagedTwice_due : stagedTwice.ej2Down = false ∧ stagedTwice.cyc.running = true ∧ stagedTwice.cyc.inDone = false ∧
    stagedTwice.follows = false ∧ stagedTwice.cyc.k * stagedTwice.tCycle + 4 * stagedTwice.tIn ≤ stagedTwice.clk.net := by decide +kernel

set_option maxRecDepth 20000 in
/-- The staging reads the first entry, and the copy for the lanes keeps the last. -/
theorem stagedTwice_image : (after .inputInstant stagedTwice).stage.rb 100 = 1#8 ∧
    (((after .inputInstant stagedTwice).ln .A).bankOf (stagedTwice.cyc.k % 2)).rb 100 = 2#8 := by decide +kernel

/-- Refutes O16: at INPUT_INSTANT the statement has every byte below `sIn` of the frozen staging reach each lane's bank as the staging reads it.
In `stagedTwice` byte 100 is listed twice, the staging reads 1 and lane A gets 2. The counterexample rests on a staging store that is not in canonical
form, which the statement does not exclude. -/
theorem not_cycleInstants : ¬ Obligations.CycleInstants := by
  unfold Obligations.CycleInstants
  intro h
  obtain ⟨hej, hrun, hin, hfol, hat⟩ := stagedTwice_due
  obtain ⟨hstage, hbank⟩ := stagedTwice_image
  obtain ⟨-, -, hinput, -⟩ := h stagedTwice hej hrun
  obtain ⟨t, ht, -, -, -, -, hgiven, -⟩ := hinput hin hat
  obtain rfl : after .inputInstant stagedTwice = t := by rw [after, ht]
  have hcopy := (hgiven hfol).2 .A 100 (by decide)
  rw [hstage, hbank] at hcopy
  exact absurd hcopy (by decide)

end Sys2Proof.Machine
end

section
/-! PROOF. The faults of the devices beside the lanes (R21 to R24, R40, R156, R247, R318): an FQ8 that drops out, the EJ2, the junction PLL's
reference and the plane's clock (O32). -/

namespace Sys2Proof.Machine

/-! ### Lists by position -/

theorem getAt_setAt {α : Type} (d : α) (v : α) : ∀ (xs : List α) (i j : Nat),
    getAt d (setAt xs i v) j = if j = i ∧ i < xs.length then v else getAt d xs j
  | [], i, j => by simp [setAt, getAt]
  | x :: xs, 0, 0 => by simp [setAt, getAt]
  | x :: xs, 0, j + 1 => by simp [setAt, getAt]
  | x :: xs, i + 1, 0 => by simp [setAt, getAt]
  | x :: xs, i + 1, j + 1 => by simp [setAt, getAt, getAt_setAt d v xs i j]

theorem mem_setAt {α : Type} (v : α) : ∀ (xs : List α) (i : Nat), i < xs.length → v ∈ setAt xs i v
  | x :: xs, 0, _ => .head _
  | x :: xs, i + 1, h => .tail _ (mem_setAt v xs i (by simpa using h))

/-! ### Output stages -/

/-- The status registers of the field channels. -/
def statKeys : List Nat := (List.range 32).map (fun n => Reg.FIO_CH_n_STAT n)

theorem stat_mem {n : Nat} (hn : n < 32) : Reg.FIO_CH_n_STAT n ∈ statKeys := List.mem_map_of_mem (List.mem_range.mpr hn)

theorem homeKey_stat {n : Nat} (hn : n < 32) : homeKey (Reg.FIO_CH_n_STAT n) = 0x5010C + 32 * n :=
  homeKey_of_ne _ (by simp only [Reg.FIO_CH_n_STAT]; omega)

/-- Only registers of the channels' status and field data differ, and no protection state. -/
structure ShownOnly (s t : State) : Prop where
  frame : ∃ r f, t = { s with regs := r, fld := f }
  kept : RegsKept statKeys s t
  ost : ∀ n < 32, t.ost n = s.ost n

namespace ShownOnly

variable {s t u : State}

theorem refl (s : State) : ShownOnly s s := ⟨⟨s.regs, s.fld, rfl⟩, RegsKept.refl _ s, fun _ _ => rfl⟩

theorem trans (h1 : ShownOnly s t) (h2 : ShownOnly t u) : ShownOnly s u := by
  obtain ⟨⟨_, _, rfl⟩, hkept, host⟩ := h1
  obtain ⟨⟨r, f, rfl⟩, hkept', host'⟩ := h2
  exact ⟨⟨r, f, rfl⟩, hkept.trans hkept', fun n hn => (host' n hn).trans (host n hn)⟩

/-- A field of a status register below the protection state. -/
theorem wr (h : ShownOnly s t) {f : Field} (v : Nat) {n : Nat} (hn : n < 32) (ha : f.addr = Reg.FIO_CH_n_STAT n) (hf : f.hi < 29 ∧ f.lo ≤ f.hi) :
    ShownOnly s (t.wr f v) := by
  refine h.trans ⟨⟨_, t.fld, rfl⟩, (RegsKept.refl _ t).wr v (ha ▸ stat_mem hn), fun m hm => ?_⟩
  by_cases hmn : m = n
  · exact t.rd_wr_beside f (Fld.FIO_CH_n_STAT_OSTATE m) v ⟨by omega, hf.2⟩ (hmn ▸ ha.symm) (.inr (show f.hi < 29 from hf.1))
  · refine t.rd_wr_reg f (Fld.FIO_CH_n_STAT_OSTATE m) v ?_
    show homeKey (Reg.FIO_CH_n_STAT m) ≠ homeKey f.addr
    rw [ha, homeKey_stat hm, homeKey_stat hn]
    omega

theorem modFch (h : ShownOnly s t) (n : Nat) (g : FieldCh → FieldCh) : ShownOnly s (t.modFch n g) :=
  h.trans ⟨⟨t.regs, _, rfl⟩, RegsKept.of_regs rfl, fun _ _ => rfl⟩

theorem ite {c : Prop} [Decidable c] (ht : ShownOnly s t) (hu : ShownOnly s u) : ShownOnly s (if c then t else u) := by
  split
  · exact ht
  · exact hu

theorem foldl {α : Type} {g : State → α → State} (xs : List α) (h : ShownOnly s t) (hg : ∀ u, ∀ x ∈ xs, ShownOnly u (g u x)) :
    ShownOnly s (xs.foldl g t) := by
  induction xs generalizing t with
  | nil => exact h
  | cons x xs ih => exact ih (h.trans (hg t x (.head _))) (fun u y hy => hg u y (.tail _ hy))

end ShownOnly

/-- What VALID and EXT_DRIVE show changes no protection state (R291, R295). -/
theorem State.showValid_shownOnly (s : State) : ShownOnly s s.showValid :=
  (ShownOnly.refl s).foldl _ (fun u n hn =>
    have hn := List.mem_range.mp hn
    have hvalid := (ShownOnly.refl u).wr (f := Fld.FIO_CH_n_STAT_VALID n) (b2n (u.chValid n)) hn rfl (show 23 < 29 ∧ 23 ≤ 23 by decide)
    ((hvalid.wr (f := Fld.FIO_CH_n_STAT_EXT_DRIVE n) 0 hn rfl (show 28 < 29 ∧ 28 ≤ 28 by decide)).modFch n _).ite hvalid)

/-- Stage `n` shows protection state `st`, and beside its status register and the field data nothing differs. -/
structure StageShows (n st : Nat) (s t : State) : Prop where
  frame : ∃ r f, t = { s with regs := r, fld := f }
  kept : RegsKept [Reg.FIO_CH_n_STAT n] s t
  shows : t.ost n = st

namespace StageShows

variable {n st : Nat} {s t u : State}

theorem modFch (h : StageShows n st s t) (m : Nat) (g : FieldCh → FieldCh) : StageShows n st s (t.modFch m g) := by
  obtain ⟨⟨r, f, rfl⟩, hkept, hshows⟩ := h
  exact ⟨⟨r, _, rfl⟩, hkept, hshows⟩

theorem ite {c : Prop} [Decidable c] (ht : StageShows n st s t) (hu : StageShows n st s u) : StageShows n st s (if c then t else u) := by
  split
  · exact ht
  · exact hu

end StageShows

/-- A stage that enters a protection state shows it (R293). -/
theorem State.stageTo_shows (s : State) (n : Nat) {st : Nat} (hst : st < 8) : StageShows n st s (s.stageTo n st) := by
  have hwritten : StageShows n st s ((s.wr (Fld.FIO_CH_n_STAT_OSTATE n) st).wrB (Fld.FIO_CH_n_STAT_LIMIT n) (st == OSt.limit)) := by
    obtain ⟨r, hr⟩ := ((RegsOnly.refl s).wr (Fld.FIO_CH_n_STAT_OSTATE n) st).wr (Fld.FIO_CH_n_STAT_LIMIT n) (b2n (st == OSt.limit))
    refine ⟨⟨r, s.fld, hr⟩, ((RegsKept.refl _ s).wr (f := Fld.FIO_CH_n_STAT_OSTATE n) _ (.head _)).wr (f := Fld.FIO_CH_n_STAT_LIMIT n) _ (.head _), ?_⟩
    refine (State.rd_wr_beside _ (Fld.FIO_CH_n_STAT_LIMIT n) (Fld.FIO_CH_n_STAT_OSTATE n) _ (show 24 < 32 ∧ 24 ≤ 24 by decide) rfl
      (.inr (show 24 < 29 by decide))).trans ?_
    rw [State.rd_wr_same _ (Fld.FIO_CH_n_STAT_OSTATE n) _ (show 31 < 32 ∧ 29 ≤ 31 by decide)]
    exact Nat.mod_eq_of_lt hst
  have htimed := hwritten.modFch n (fun c =>
    { c with limitAt := if st = OSt.limit then (if s.ost n = OSt.limit then c.limitAt else some s.clk.uptime) else none })
  exact (htimed.modFch n _).ite ((htimed.modFch n _).ite htimed)

/-- A stage without its FQ8's drive is not driven (R107). -/
theorem State.driven_of_no_drive (s : State) {n : Nat} (h : (s.fqAt (n / 8)).drive = false) : s.driven n = false := by
  simp [State.driven, h]

/-- A stage that is not driven closes where it was open, and stays as it is where it was not (R293). -/
theorem State.stageUpdate_of_undriven (s : State) {n : Nat} (h : s.driven n = false) :
    s.stageUpdate n = if gateOpen (s.ost n) = true then s.stageTo n OSt.off else s := by
  unfold State.stageUpdate
  simp [h]

/-- The stages of an FQ8 without drive, in order: each closes where it was open, and nothing beside them differs but field data. -/
theorem State.close_stages {q : Nat} : ∀ (ns : List Nat) (s : State), (s.fqAt q).drive = false → (∀ n ∈ ns, n < 32 ∧ n / 8 = q) →
    (∃ r f, ns.foldl (fun t n => t.stageUpdate n) s = { s with regs := r, fld := f }) ∧
    RegsKept statKeys s (ns.foldl (fun t n => t.stageUpdate n) s) ∧
    ∀ n < 32, (gateOpen (s.ost n) = true → n ∈ ns → (ns.foldl (fun t n => t.stageUpdate n) s).ost n = OSt.off) ∧
      (gateOpen (s.ost n) = false → (ns.foldl (fun t n => t.stageUpdate n) s).ost n = s.ost n)
  | [], s, _, _ => ⟨⟨s.regs, s.fld, rfl⟩, RegsKept.refl _ s, fun _ _ => ⟨fun _ h => absurd h List.not_mem_nil, fun _ => rfl⟩⟩
  | x :: xs, s, hdrive, hns => by
    obtain ⟨hx32, hxq⟩ := hns x (.head _)
    have hstep : StageShows x (if gateOpen (s.ost x) = true then OSt.off else s.ost x) s (s.stageUpdate x) := by
      rw [s.stageUpdate_of_undriven (s.driven_of_no_drive (hxq ▸ hdrive))]
      by_cases hopen : gateOpen (s.ost x) = true
      · rw [if_pos hopen, if_pos hopen]; exact s.stageTo_shows x (by decide)
      · rw [if_neg hopen, if_neg hopen]; exact ⟨⟨s.regs, s.fld, rfl⟩, RegsKept.refl _ s, rfl⟩
    obtain ⟨⟨r, f, hframe⟩, hkept, hshows⟩ := hstep
    have hother : ∀ n < 32, n ≠ x → (s.stageUpdate x).ost n = s.ost n := fun n hn hne =>
      hkept.rd (f := Fld.FIO_CH_n_STAT_OSTATE n) (fun j hj => by
        rw [List.mem_singleton.mp hj]
        show homeKey (Reg.FIO_CH_n_STAT n) ≠ _
        rw [homeKey_stat hn, homeKey_stat hx32]
        omega)
    have hfq : ((s.stageUpdate x).fqAt q).drive = false := by rw [hframe]; exact hdrive
    obtain ⟨⟨r', f', hframe'⟩, hkept', host⟩ := State.close_stages xs (s.stageUpdate x) hfq (fun n hn => hns n (.tail _ hn))
    refine ⟨⟨r', f', ?_⟩, (hkept.mono (fun k hk => List.mem_singleton.mp hk ▸ stat_mem hx32)).trans hkept', fun n hn => ⟨fun hopen hmem => ?_, fun hshut => ?_⟩⟩
    · rw [List.foldl_cons, hframe', hframe]
    · by_cases hnx : n = x
      · subst hnx
        rw [if_pos hopen] at hshows
        exact ((host n hn).2 (by rw [hshows]; rfl)).trans hshows
      · have hsame := hother n hn hnx
        exact (host n hn).1 (hsame ▸ hopen) ((List.mem_cons.mp hmem).resolve_left hnx)
    · have hsame : (s.stageUpdate x).ost n = s.ost n := by
        by_cases hnx : n = x
        · subst hnx
          rw [hshut] at hshows
          exact hshows
        · exact hother n hn hnx
      exact ((host n hn).2 (hsame ▸ hshut)).trans hsame

/-! ### The self-fault report -/

/-- The registers that a self-fault report touches (R334, R340). -/
def selfFaultKeys : List Nat := [Reg.DX_STATUS, Reg.DX_HB_SEQ, Reg.DX_COUNT, Reg.DX_SYNC_STATUS, Reg.JC_MOD_STATUS, Reg.JC_HOST_ALERT]

/-- Only registers of the duplex unit, the role and the host alert differ, with the duplex unit's and the start unit's data. -/
structure DuplexOnly (s t : State) : Prop where
  frame : ∃ r d x, t = { s with regs := r, dx := d, st := x }
  kept : RegsKept selfFaultKeys s t
  faultDev : t.rd Fld.JC_MOD_STATUS_FAULT_DEV = s.rd Fld.JC_MOD_STATUS_FAULT_DEV

/-- A field of those registers beside the device fault summary. -/
def besideFaultDev (f : Field) : Prop :=
  f.addr ∈ selfFaultKeys ∧ (homeKey Reg.JC_MOD_STATUS ≠ homeKey f.addr ∨ (Reg.JC_MOD_STATUS = f.addr ∧ f.hi < 32 ∧ 3 < f.lo ∧ f.lo ≤ f.hi))

namespace DuplexOnly

variable {s t u : State}

theorem refl (s : State) : DuplexOnly s s := ⟨⟨s.regs, s.dx, s.st, rfl⟩, RegsKept.refl _ s, rfl⟩

theorem trans (h1 : DuplexOnly s t) (h2 : DuplexOnly t u) : DuplexOnly s u := by
  obtain ⟨⟨_, _, _, rfl⟩, hkept, hdev⟩ := h1
  obtain ⟨⟨r, d, x, rfl⟩, hkept', hdev'⟩ := h2
  exact ⟨⟨r, d, x, rfl⟩, hkept.trans hkept', hdev'.trans hdev⟩

theorem ite {c : Prop} [Decidable c] (ht : DuplexOnly s t) (hu : DuplexOnly s u) : DuplexOnly s (if c then t else u) := by
  split
  · exact ht
  · exact hu

theorem wr (h : DuplexOnly s t) {f : Field} (v : Nat) (hf : besideFaultDev f) : DuplexOnly s (t.wr f v) := by
  obtain ⟨hmem, hbeside⟩ := hf
  refine h.trans ⟨⟨_, t.dx, t.st, rfl⟩, (RegsKept.refl _ t).wr v hmem, ?_⟩
  rcases hbeside with hne | ⟨ha, hhi, hlo, hle⟩
  · exact t.rd_wr_reg f Fld.JC_MOD_STATUS_FAULT_DEV v hne
  · exact t.rd_wr_beside f Fld.JC_MOD_STATUS_FAULT_DEV v ⟨hhi, hle⟩ ha (.inl hlo)

theorem setReg (h : DuplexOnly s t) {k : Nat} (w : Word) (hk : k ∈ selfFaultKeys) (hne : homeKey Reg.JC_MOD_STATUS ≠ homeKey k) :
    DuplexOnly s (t.setReg k w) :=
  h.trans ⟨⟨_, t.dx, t.st, rfl⟩, (RegsKept.refl _ t).setReg w hk, t.rd_setReg_ne w hne⟩

theorem modDx (h : DuplexOnly s t) (d : DxSt) : DuplexOnly s { t with dx := d } := h.trans ⟨⟨t.regs, d, t.st, rfl⟩, RegsKept.of_regs rfl, rfl⟩

theorem pulse (h : DuplexOnly s t) (signal : Nat) : DuplexOnly s (t.pulse signal) := h.trans ⟨⟨t.regs, t.dx, _, rfl⟩, RegsKept.of_regs rfl, rfl⟩

theorem showRole (h : DuplexOnly s t) : DuplexOnly s t.showRole := by
  have hrole : ∀ role, DuplexOnly s ((t.wr Fld.DX_STATUS_ROLE role).wr Fld.JC_MOD_STATUS_ROLE role) := fun role =>
    (h.wr (f := Fld.DX_STATUS_ROLE) role ⟨by decide, by decide⟩).wr (f := Fld.JC_MOD_STATUS_ROLE) role ⟨by decide, by decide⟩
  exact (hrole _).ite ((hrole _).wr (f := Fld.JC_HOST_ALERT_ROLE) 1 ⟨by decide, by decide⟩)

theorem startTransfer (h : DuplexOnly s t) : DuplexOnly s t.startTransfer :=
  (h.modDx { t.dx with xferAt := some t.clk.uptime, xferMem := [], xferTrd := [], xferApply := false }).setReg (k := Reg.DX_SYNC_STATUS) _
    (by decide) (by decide)

theorem stopTransfer (h : DuplexOnly s t) : DuplexOnly s t.stopTransfer :=
  (h.modDx { t.dx with xferAt := none, xferMem := [], xferTrd := [], xferApply := false }).setReg (k := Reg.DX_SYNC_STATUS) _
    (by decide) (by decide)

theorem bump (h : DuplexOnly s t) {f : Field} (hf : besideFaultDev f) : DuplexOnly s (t.bump f) := h.wr _ hf

theorem setDst (h : DuplexOnly s t) (st : Nat) : DuplexOnly s (t.setDst st) := by
  have hstate := (h.modDx { t.dx with drill := t.dx.drill && st == DSt.active }).wr (f := Fld.DX_STATUS_STATE) st ⟨by decide, by decide⟩
  have hdemoted := hstate.bump (f := Fld.DX_COUNT_DEMOTIONS) ⟨by decide, by decide⟩
  have hsynced := hstate.bump (f := Fld.DX_COUNT_SYNCS) ⟨by decide, by decide⟩
  have hlost := hstate.bump (f := Fld.DX_COUNT_LINK_LOSSES) ⟨by decide, by decide⟩
  exact (((hdemoted.ite hstate).startTransfer).ite (hsynced.ite (hlost.ite hstate).stopTransfer)).showRole

theorem sendHeartbeat (h : DuplexOnly s t) : DuplexOnly s t.sendHeartbeat :=
  h.ite (((h.pulse 10).wr (f := Fld.DX_HB_SEQ_SEQ) _ ⟨by decide, by decide⟩).modDx _)

theorem selfFault (h : DuplexOnly s t) (cause : Nat) : DuplexOnly s (t.selfFault cause) := by
  have hshown := (h.wr (f := Fld.DX_STATUS_SF) 1 ⟨by decide, by decide⟩).wr (f := Fld.DX_STATUS_SF_CAUSE) cause ⟨by decide, by decide⟩
  have hsent := hshown.sendHeartbeat.ite (c := ((t.set1 Fld.DX_STATUS_SF).wr Fld.DX_STATUS_SF_CAUSE cause).isSealed = true) hshown
  exact h.ite ((hsent.setDst DSt.faulted).ite hsent)

end DuplexOnly

/-! ### An FQ8 out of service -/

/-- While an FQ8 is lost the device fault summary shows the FQ8s (R31). -/
theorem State.showFaultDev_of_lost (s : State) {x : FqSt} (hx : x ∈ s.fq) (hlost : x.lost = true) :
    bitOf (s.showFaultDev.rd Fld.JC_MOD_STATUS_FAULT_DEV) 3 = true := by
  have hany : s.fq.any (fun q => q.lost) = true := List.any_eq_true.mpr ⟨x, hx, hlost⟩
  unfold State.showFaultDev
  rw [State.rd_wr_same _ _ _ (by decide), hany, Bool.true_or]
  generalize s.flag _ = ej2, lanes.any _ = bl3, (s.rd _ != 0) = ax
  revert ej2 bl3 ax
  decide

/-- The FQ8 as it stands when it drops out: lost, its drive removed (R21). -/
def State.lostFq (s : State) (q : Nat) : State := { s with fq := setAt s.fq q { s.fqAt q with lost := true, drive := false } }

theorem State.dropFq_eq (s : State) (q : Nat) :
    s.dropFq q = ((((fqChannels q).foldl (fun t n => t.stageUpdate n) (s.lostFq q)).showFaultDev).showValid).selfFault 3 := rfl

theorem State.fqAt_lostFq (s : State) {q : Nat} (hq : q < s.fq.length) (p : Nat) :
    (s.lostFq q).fqAt p = if p = q then { s.fqAt q with lost := true, drive := false } else s.fqAt p := by
  refine (getAt_setAt FqSt.none _ s.fq q p).trans ?_
  by_cases hpq : p = q
  · rw [if_pos ⟨hpq, hq⟩, if_pos hpq]
  · rw [if_neg (fun h => hpq h.1), if_neg hpq]
    rfl

theorem mem_fqChannels {q n : Nat} (hq : q < 4) (hn : n ∈ fqChannels q) : n < 32 ∧ n / 8 = q := by
  obtain ⟨j, hj, rfl⟩ := List.mem_map.mp hn
  have := List.mem_range.mp hj
  omega

theorem selfFaultKeys_ne_stat {n : Nat} (hn : n < 32) : ∀ j ∈ selfFaultKeys, homeKey (Reg.FIO_CH_n_STAT n) ≠ homeKey j := by
  rw [homeKey_stat hn]
  have hsmall : ∀ j ∈ selfFaultKeys, homeKey j < 0x50000 ∨ 0x60000 ≤ homeKey j := by decide
  intro j hj
  have := hsmall j hj
  omega

/-- What an FQ8 that drops out shows (R21, R107, R293): out of service without drive, its open stages closed, the other FQ8s as before. -/
theorem State.dropFq_shows (s : State) {q : Nat} (hq4 : q < 4) (hq : q < s.fq.length) :
    ((s.dropFq q).fqAt q).lost = true ∧ ((s.dropFq q).fqAt q).drive = false ∧
    bitOf ((s.dropFq q).rd Fld.JC_MOD_STATUS_FAULT_DEV) 3 = true ∧
    (∀ p, p ≠ q → (s.dropFq q).fqAt p = s.fqAt p) ∧
    ∀ n ∈ fqChannels q, gateOpen (s.ost n) = true → (s.dropFq q).ost n = OSt.off := by
  have hown : (s.lostFq q).fqAt q = { s.fqAt q with lost := true, drive := false } := by rw [s.fqAt_lostFq hq, if_pos rfl]
  obtain ⟨⟨r, f, hclosed⟩, -, hoff⟩ := State.close_stages (fqChannels q) (s.lostFq q) (by rw [hown]) (fun n hn => mem_fqChannels hq4 hn)
  rw [s.dropFq_eq q]
  generalize (fqChannels q).foldl (fun t n => t.stageUpdate n) (s.lostFq q) = c at hclosed hoff
  have hcfq : c.fq = (s.lostFq q).fq := by rw [hclosed]
  have hshown := c.showFaultDev.showValid_shownOnly
  have hduplex := (DuplexOnly.refl c.showFaultDev.showValid).selfFault 3
  have hfq : ((c.showFaultDev.showValid).selfFault 3).fq = (s.lostFq q).fq := by
    obtain ⟨_, _, _, h1⟩ := hduplex.frame
    obtain ⟨_, _, h2⟩ := hshown.frame
    rw [h1, h2, ← hcfq]
    exact c.showFaultDev_regsOnly.fq
  have hat : ∀ p, ((c.showFaultDev.showValid).selfFault 3).fqAt p = (s.lostFq q).fqAt p := fun p => congrArg (fun xs => getAt FqSt.none xs p) hfq
  refine ⟨by rw [hat, hown], by rw [hat, hown], ?_, fun p hp => by rw [hat, s.fqAt_lostFq hq, if_neg hp], fun n hn hopen => ?_⟩
  · rw [hduplex.faultDev, hshown.kept.rd (f := Fld.JC_MOD_STATUS_FAULT_DEV) (by decide)]
    exact c.showFaultDev_of_lost (x := { s.fqAt q with lost := true, drive := false }) (by rw [hcfq]; exact mem_setAt _ s.fq q hq) rfl
  · obtain ⟨hn32, -⟩ := mem_fqChannels hq4 hn
    calc ((c.showFaultDev.showValid).selfFault 3).ost n
        = c.showFaultDev.showValid.ost n := hduplex.kept.rd (f := Fld.FIO_CH_n_STAT_OSTATE n) (selfFaultKeys_ne_stat hn32)
      _ = c.showFaultDev.ost n := hshown.ost n hn32
      _ = c.ost n := c.showFaultDev_kept.rd (f := Fld.FIO_CH_n_STAT_OSTATE n) (fun j hj => by
          rw [List.mem_singleton.mp hj]
          exact selfFaultKeys_ne_stat hn32 Reg.JC_MOD_STATUS (by decide))
      _ = OSt.off := (hoff n hn32).1 hopen hn

/-! ### EJ2 -/

/-- A ring that a failed EJ2 disables (R22). -/
def State.ringOff (s : State) (r : Ring) : State :=
  ((s.wr (Fld.SX_CS_STATUS_STATE r) 0).wr (Fld.SX_STATUS_SYNC r) 0).wr (Fld.SX_STATUS_LEADER r) 0

theorem State.ringOff_kept (s : State) (r : Ring) : RegsKept [Reg.SX_CS_STATUS r, Reg.SX_STATUS r] s (s.ringOff r) :=
  (((RegsKept.refl _ s).wr (f := Fld.SX_CS_STATUS_STATE r) _ (.head _)).wr (f := Fld.SX_STATUS_SYNC r) _ (.tail _ (.head _))).wr
    (f := Fld.SX_STATUS_LEADER r) _ (.tail _ (.head _))

theorem State.ringOff_regsOnly (s : State) (r : Ring) : RegsOnly s (s.ringOff r) := (((RegsOnly.refl s).wr _ _).wr _ _).wr _ _

theorem State.rst_ringOff (s : State) (r : Ring) : (s.ringOff r).rst r = RSt.disabled := by
  unfold State.ringOff State.rst
  rw [State.rd_wr_reg _ _ _ _ (by cases r <;> decide), State.rd_wr_reg _ _ _ _ (by cases r <;> decide), State.rd_wr_same _ _ _ (by cases r <;> decide)]
  cases r <;> rfl

theorem State.sync_ringOff (s : State) (r : Ring) : (s.ringOff r).rd (Fld.SX_STATUS_SYNC r) = 0 := by
  unfold State.ringOff
  rw [State.rd_wr_beside _ (Fld.SX_STATUS_LEADER r) (Fld.SX_STATUS_SYNC r) _ (by cases r <;> decide) rfl (by cases r <;> decide), State.rd_wr_same _ _ _ (by cases r <;> decide)]
  rfl

/-- What an EJ2 that fails leaves (R22): no cycle, both rings disabled, the lanes and FQ8s as they were. -/
theorem State.ej2Fault_shows (s : State) (hup : s.ej2Down = false) :
    s.ej2Fault.ej2Down = true ∧ s.ej2Fault.cyc = { s.cyc with running := false } ∧ s.ej2Fault.lane = s.lane ∧ s.ej2Fault.fq = s.fq ∧
    ∀ r, s.ej2Fault.rst r = RSt.disabled ∧ s.ej2Fault.ringSync r = false := by
  have heq : s.ej2Fault = ({ (s.ringOff .X).ringOff .Y with ej2Down := true, cyc := { ((s.ringOff .X).ringOff .Y).cyc with running := false } } : State).showFaultDev := by
    unfold State.ej2Fault
    rw [hup]
    rfl
  have hY := (s.ringOff .X).ringOff_kept .Y
  have hoff : ∀ r, ((s.ringOff .X).ringOff .Y).rst r = RSt.disabled ∧ ((s.ringOff .X).ringOff .Y).rd (Fld.SX_STATUS_SYNC r) = 0
    | .X => ⟨(hY.rd (f := Fld.SX_CS_STATUS_STATE .X) (by decide)).trans (s.rst_ringOff .X),
        (hY.rd (f := Fld.SX_STATUS_SYNC .X) (by decide)).trans (s.sync_ringOff .X)⟩
    | .Y => ⟨(s.ringOff .X).rst_ringOff .Y, (s.ringOff .X).sync_ringOff .Y⟩
  have hregs := (s.ringOff_regsOnly .X).trans ((s.ringOff .X).ringOff_regsOnly .Y)
  rw [heq]
  generalize (s.ringOff .X).ringOff .Y = u at hoff hregs
  obtain ⟨r0, rfl⟩ := hregs
  generalize hdown : ({ ({ s with regs := r0 } : State) with ej2Down := true, cyc := { s.cyc with running := false } } : State) = d
  have hkept := d.showFaultDev_kept
  have hframe := d.showFaultDev_regsOnly
  subst hdown
  refine ⟨hframe.keeps _ fun _ => rfl, hframe.cyc, hframe.lane, hframe.fq, fun r => ⟨?_, ?_⟩⟩
  · exact (hkept.rd (f := Fld.SX_CS_STATUS_STATE r) (by cases r <;> decide)).trans (hoff r).1
  · have hsync := (hkept.rd (f := Fld.SX_STATUS_SYNC r) (by cases r <;> decide)).trans (hoff r).2
    unfold State.ringSync State.flag
    rw [hsync]
    rfl

/-! ### The junction PLL -/

theorem State.regs_notifyTask (s : State) (n te : Nat) (data : Word) : (s.notifyTask n te data).regs = s.regs := by
  unfold State.notifyTask
  split
  · dsimp only
    split
    · rfl
    · exact foldl_keeps State.regs lanes _ (fun _ _ _ => rfl)
  · exact foldl_keeps State.regs lanes _ (fun _ _ _ => rfl)

/-- An event's notices touch no register. -/
theorem State.regs_notify (s : State) (src sel edge te : Nat) (data : Word) : (s.notify src sel edge te data).regs = s.regs :=
  foldl_keeps State.regs _ s (fun u n _ => by
    split
    · exact u.regs_notifyTask n te data
    · rfl)

/-- The registers that show the reference of time and of the junction PLL (R23, R31, R178). -/
def syncKeys : List Nat := [Reg.JC_MOD_STATUS, Reg.TB_STATUS, Reg.JC_CLK_STATUS]

theorem State.showSync_kept (s : State) : RegsKept syncKeys s s.showSync := by
  have hsrc : ∀ b v, RegsKept syncKeys s ((s.wrB Fld.JC_MOD_STATUS_SYNC b).wr Fld.TB_STATUS_NET_SRC v) := fun b v =>
    ((RegsKept.refl _ s).wr (f := Fld.JC_MOD_STATUS_SYNC) _ (.head _)).wr (f := Fld.TB_STATUS_NET_SRC) _ (.tail _ (.head _))
  have hsynt := (hsrc (s.ringSync .X || s.ringSync .Y) (if s.leads then 2 else if s.ringSync .X then 0 else if s.ringSync .Y then 1 else 3)).wr
    (f := Fld.JC_CLK_STATUS_SYNT) 0 (by decide)
  exact (hsrc _ _).ite ((hsynt.wr (f := Fld.JC_CLK_STATUS_RATE_CORR) 0 (by decide)).ite hsynt)

/-- The registers that show a ring unit's state. -/
def State.showRst (s : State) (r : Ring) (st : Nat) : State :=
  ((s.wr (Fld.SX_CS_STATUS_STATE r) st).wrB (Fld.SX_STATUS_SYNC r) (st == RSt.sync)).wrB (Fld.SX_STATUS_LEADER r)
    (st == RSt.lead || st == RSt.leadCensus)

theorem State.setRst_eq (s : State) (r : Ring) (st : Nat) : ∃ g, s.setRst r st = ((s.showRst r st).modRg r g).showSync := ⟨_, rfl⟩

theorem State.showRst_kept (s : State) (r : Ring) (st : Nat) : RegsKept [Reg.SX_CS_STATUS r, Reg.SX_STATUS r] s (s.showRst r st) :=
  (((RegsKept.refl _ s).wr (f := Fld.SX_CS_STATUS_STATE r) _ (.head _)).wr (f := Fld.SX_STATUS_SYNC r) _ (.tail _ (.head _))).wr
    (f := Fld.SX_STATUS_LEADER r) _ (.tail _ (.head _))

theorem State.rst_showRst (s : State) (r : Ring) {st : Nat} (hst : st < 16) : (s.showRst r st).rst r = st := by
  unfold State.showRst State.wrB State.rst
  rw [State.rd_wr_reg _ _ _ _ (by cases r <;> decide), State.rd_wr_reg _ _ _ _ (by cases r <;> decide), State.rd_wr_same _ _ _ (by cases r <;> decide)]
  exact Nat.mod_eq_of_lt hst

/-- What follows a ring unit's state touches no ring unit's state. -/
theorem State.rst_modRg_showSync (s : State) (r q : Ring) (g : RingSt → RingSt) : (s.modRg r g).showSync.rst q = s.rst q :=
  (s.modRg r g).showSync_kept.rd (f := Fld.SX_CS_STATUS_STATE q) (by cases q <;> decide)

/-- A ring unit put into a state shows it, and the other ring's state stays (R234). -/
theorem State.rst_setRst (s : State) (r q : Ring) {st : Nat} (hst : st < 16) : (s.setRst r st).rst q = if q = r then st else s.rst q := by
  obtain ⟨g, hg⟩ := s.setRst_eq r st
  rw [hg, State.rst_modRg_showSync]
  by_cases hq : q = r
  · rw [if_pos hq, hq, s.rst_showRst r hst]
  · rw [if_neg hq]
    exact (s.showRst_kept r st).rd (f := Fld.SX_CS_STATUS_STATE q) (by revert hq; cases r <;> cases q <;> decide)

theorem State.rst_ringEvent (s : State) (r q : Ring) (code : Nat) : (s.ringEvent r code).rst q = s.rst q :=
  State.rd_of_reg (State.reg_of_regs (s.regs_notify _ _ _ _ _) _)

theorem State.rst_modRg (s : State) (r q : Ring) (g : RingSt → RingSt) : (s.modRg r g).rst q = s.rst q := rfl

/-- A synchronised ring becomes unsynchronised, and the other ring's state stays (R247). -/
theorem State.rst_unsync (s : State) (r q : Ring) : (s.unsync r).rst q = if q = r ∧ s.rst r = RSt.sync then RSt.unsync else s.rst q := by
  unfold State.unsync
  by_cases hsync : s.rst r = RSt.sync
  · rw [if_pos hsync]
    rw [State.rst_ringEvent, State.rst_modRg, s.rst_setRst r q (by decide)]
    simp only [hsync, and_true]
  · rw [if_neg hsync, if_neg (fun h => hsync h.2)]

/-- A rate beyond the limit unsynchronises every synchronised ring (R24). -/
theorem State.rst_unsync_rings (s : State) (q : Ring) :
    (rings.foldl (fun t r => t.unsync r) s).rst q = if s.rst q = RSt.sync then RSt.unsync else s.rst q := by
  show ((s.unsync .X).unsync .Y).rst q = _
  simp only [State.rst_unsync]
  cases q <;> simp

/-- The rate correction shown is within the limit exactly when the one measured is (R24). -/
theorem State.rateOk_of_measured (s : State) (ppm : BitVec 16) :
    (s.wr Fld.JC_CLK_STATUS_RATE_CORR ppm.toNat).rateOk = decide (-20000 ≤ ppm.toInt ∧ ppm.toInt ≤ 20000) := by
  have hrd := State.rd_wr_same s Fld.JC_CLK_STATUS_RATE_CORR ppm.toNat (by decide)
  have hsigned : toSigned 16 (ppm.toNat % 2 ^ 16) = ppm.toInt := by
    rw [toSigned, BitVec.toInt]
    have := ppm.isLt
    split <;> split <;> omega
  unfold State.rateOk
  rw [hrd]
  exact congrArg (fun v : Int => decide (-20000 ≤ v ∧ v ≤ 20000)) hsigned

theorem State.rst_wr_rate (s : State) (v : Nat) (r : Ring) : (s.wr Fld.JC_CLK_STATUS_RATE_CORR v).rst r = s.rst r :=
  State.rd_wr_reg s _ (Fld.SX_CS_STATUS_STATE r) v (by cases r <;> decide)

/-! ### The plane's clock -/

/-- A plane past its self-test enters SAFE with its first cause; one that is in SAFE already stays as it is (R307, R318). -/
theorem State.planeSafe_shows (s : State) (cause : Nat) (h : PSt.selftest ≤ s.plane.st) :
    (s.planeSafe cause).plane.osc = s.plane.osc ∧ (s.planeSafe cause).plane.st = PSt.safe ∧
    (s.plane.st ≠ PSt.safe → (s.planeSafe cause).plane.cause = cause ∧ (s.planeSafe cause).plane.lines = 0) ∧
    (s.planeSafe cause).regs = s.regs ∧ (s.planeSafe cause).lane = s.lane := by
  have hnoff : s.plane.st ≠ 0 := Nat.ne_of_gt h
  unfold State.planeSafe
  by_cases hsafe : s.plane.st = 5
  · rw [if_pos (.inl hsafe)]
    exact ⟨rfl, hsafe, fun hn => absurd hsafe hn, rfl, rfl⟩
  · rw [if_neg (fun hor => hor.elim hsafe hnoff)]
    exact ⟨rfl, rfl, fun _ => ⟨rfl, rfl⟩, rfl, rfl⟩

/-- The oscillator's flag is all that a write of it touches. -/
theorem State.oscOk_shows (s : State) (v : Nat) (hv : v < 2) : (s.wr Fld.AX_STATUS_OSC_OK v).rd Fld.AX_STATUS_OSC_OK = v ∧
    RegsKept [Reg.AX_STATUS] s (s.wr Fld.AX_STATUS_OSC_OK v) ∧ (s.wr Fld.AX_STATUS_OSC_OK v).plane = s.plane ∧
    (s.wr Fld.AX_STATUS_OSC_OK v).lane = s.lane :=
  ⟨(State.rd_wr_same s _ v (by decide)).trans (Nat.mod_eq_of_lt hv), (RegsKept.refl _ s).wr (f := Fld.AX_STATUS_OSC_OK) v (.head _), rfl, rfl⟩

/-- Settles O32, device by device. -/
theorem deviceFaults : Obligations.DeviceFaults := by
  unfold Obligations.DeviceFaults
  intro s d q ppm
  refine ⟨?repair, ?fq8, ?ej2, ?ring, fun hsrc => ⟨?free, ?freeRate⟩, fun hsrc => ⟨?within, ?beyond⟩, ?fault, ?resume⟩
  case repair =>
    exact gives_of_exec (t := s.bump (Fld.JC_TW_n_STATUS_REPAIRS d)) rfl
      ⟨rfl, (RegsKept.refl _ s).wr (f := Fld.JC_TW_n_STATUS_REPAIRS d) _ (.head _), ((RegsOnly.refl s).bump _).onlyRegs⟩
  case fq8 =>
    intro hq c hc
    have hdrop : exec c s = .next (s.dropFq q) := by
      rcases List.mem_cons.mp hc with rfl | hc
      · rfl
      · rw [List.mem_singleton.mp hc]
        rfl
    exact gives_of_exec hdrop (s.dropFq_shows q.isLt hq)
  case ej2 =>
    intro hup c hc
    have hfault : exec c s = .next s.ej2Fault := by
      rcases List.mem_cons.mp hc with rfl | hc
      · rfl
      · rw [List.mem_singleton.mp hc]
        rfl
    exact gives_of_exec hfault (s.ej2Fault_shows hup)
  case ring =>
    intro hsrc
    have hexec : exec .refSwitchDone s = .next ((s.set1 Fld.JC_CLK_STATUS_SYNT).wr Fld.JC_CLK_STATUS_SYNT_RING (s.rd Fld.TB_STATUS_NET_SRC)) :=
      congrArg Host.Outcome.next (if_pos hsrc)
    refine gives_of_exec hexec ⟨?_, ?_, ((RegsKept.refl _ s).wr (f := Fld.JC_CLK_STATUS_SYNT) _ (.head _)).wr (f := Fld.JC_CLK_STATUS_SYNT_RING) _ (.head _),
      (((RegsOnly.refl s).wr _ _).wr _ _).onlyRegs⟩
    · rw [State.rd_wr_beside _ Fld.JC_CLK_STATUS_SYNT_RING Fld.JC_CLK_STATUS_SYNT _ (by decide) rfl (by decide)]
      exact State.rd_wr_same s Fld.JC_CLK_STATUS_SYNT 1 (by decide)
    · rw [State.rd_wr_same _ _ _ (by decide)]
      exact Nat.mod_eq_of_lt hsrc
  case free =>
    have hexec : exec .refSwitchDone s = .next (s.wr Fld.JC_CLK_STATUS_SYNT 0) := congrArg Host.Outcome.next (if_neg (Nat.not_lt.mpr hsrc))
    exact gives_of_exec hexec ⟨State.rd_wr_same s Fld.JC_CLK_STATUS_SYNT 0 (by decide),
      (RegsKept.refl _ s).wr (f := Fld.JC_CLK_STATUS_SYNT) _ (.head _), ((RegsOnly.refl s).wr _ _).onlyRegs⟩
  case freeRate =>
    exact gives_of_exec (congrArg Host.Outcome.next (if_neg (Nat.not_lt.mpr hsrc))) rfl
  case within =>
    intro hlow hhigh
    have hok : (s.wr Fld.JC_CLK_STATUS_RATE_CORR ppm.toNat).rateOk = true := by
      rw [s.rateOk_of_measured]
      exact decide_eq_true ⟨hlow, hhigh⟩
    have hexec : exec (.rateCorrExceeded ppm) s = .next (s.wr Fld.JC_CLK_STATUS_RATE_CORR ppm.toNat) :=
      congrArg Host.Outcome.next ((if_pos hsrc).trans (if_pos hok))
    exact gives_of_exec hexec ⟨(State.rd_wr_same s Fld.JC_CLK_STATUS_RATE_CORR _ (by decide)).trans (Nat.mod_eq_of_lt ppm.isLt),
      (RegsKept.refl _ s).wr (f := Fld.JC_CLK_STATUS_RATE_CORR) _ (.head _), ((RegsOnly.refl s).wr _ _).onlyRegs⟩
  case beyond =>
    intro hbeyond
    have hno : ¬ (s.wr Fld.JC_CLK_STATUS_RATE_CORR ppm.toNat).rateOk = true := by
      rw [s.rateOk_of_measured]
      simp only [decide_eq_true_eq]
      omega
    have hexec : exec (.rateCorrExceeded ppm) s = .next (rings.foldl (fun t r => t.unsync r) (s.wr Fld.JC_CLK_STATUS_RATE_CORR ppm.toNat)) :=
      congrArg Host.Outcome.next ((if_pos hsrc).trans (if_neg hno))
    exact gives_of_exec hexec (fun r => by rw [State.rst_unsync_rings, State.rst_wr_rate])
  case fault =>
    obtain ⟨hosc, hkept, hplane, hlane⟩ := State.oscOk_shows { s with plane := { s.plane with osc := false, lines := 0 } } 0 (by decide)
    exact gives_of_exec rfl ⟨hplane, hosc, hkept, hlane⟩
  case resume =>
    intro hosc hst
    have hexec : exec .planeClockResume s = .next ((({ s with plane := { s.plane with osc := true } } : State).planeSafe 4).set1 Fld.AX_STATUS_OSC_OK) :=
      congrArg Host.Outcome.next (if_pos (by rw [hosc]; exact decide_eq_true hst))
    obtain ⟨hclock, hsafe, hcause, hregs, hlane⟩ := State.planeSafe_shows { s with plane := { s.plane with osc := true } } 4 hst
    obtain ⟨hok, hkept, hplane, hlane'⟩ := State.oscOk_shows (({ s with plane := { s.plane with osc := true } } : State).planeSafe 4) 1 (by decide)
    refine gives_of_exec hexec ⟨(congrArg PlaneSt.osc hplane).trans hclock, (congrArg PlaneSt.st hplane).trans hsafe, fun hn => ?_, hok,
      (RegsKept.of_regs hregs).trans hkept, hlane'.trans hlane⟩
    exact ⟨(congrArg PlaneSt.cause hplane).trans (hcause hn).1, (congrArg PlaneSt.lines hplane).trans (hcause hn).2⟩

end Sys2Proof.Machine
end

section
/-! PROOF. The test access ports (R31, R84, R85, R496, R498, R499): the chain's instructions, the debug transport and the maintenance strap
(O23). -/

namespace Sys2Proof.Machine

/-! ### A hart's state -/

/-- A hart reads the state last put into it; the others read as before. -/
theorem State.hart_setHart (s : State) (l m : Lane) (h k : Hart) (x : HartSt) :
    (s.setHart l h x).hart m k = if m = l ∧ k = h then x else s.hart m k := by
  by_cases hm : m = l
  · subst hm
    cases h <;> cases k <;> simp [State.hart, State.setHart]
  · rw [if_neg (fun hc => hm hc.1)]
    unfold State.hart
    rw [s.ln_setHart_ne h x hm]

@[simp] theorem State.hart_setHart_same (s : State) (l : Lane) (h : Hart) (x : HartSt) : (s.setHart l h x).hart l h = x := by
  rw [State.hart_setHart, if_pos ⟨rfl, rfl⟩]

@[simp] theorem State.regs_setHart (s : State) (l : Lane) (h : Hart) (x : HartSt) : (s.setHart l h x).regs = s.regs := by cases h <;> rfl

/-! ### Resuming every hart -/

/-- The registers that a hart's resumption may touch, and those that show the debug strap. -/
def debugKeys (l : Lane) : List Nat := [Reg.LC_LANE_STATUS l, Reg.LC_DBG_STATUS l]

/-- No hart was halted on the way, the strap is shown as before, and no register but `debugKeys` differs. -/
structure NoneHalted (l : Lane) (s t : State) : Prop where
  kept : RegsKept (debugKeys l) s t
  strap : ∀ m, t.rd (Fld.LC_DBG_STATUS_STRAP m) = s.rd (Fld.LC_DBG_STATUS_STRAP m)
  stays : ∀ m k, (s.hart m k).halted = false → (t.hart m k).halted = false

namespace NoneHalted

variable {l : Lane} {s t u : State}

theorem refl (l : Lane) (s : State) : NoneHalted l s s := ⟨RegsKept.refl _ s, fun _ => rfl, fun _ _ h => h⟩

theorem trans (h1 : NoneHalted l s t) (h2 : NoneHalted l t u) : NoneHalted l s u :=
  ⟨h1.kept.trans h2.kept, fun m => (h2.strap m).trans (h1.strap m), fun m k h => h2.stays m k (h1.stays m k h)⟩

theorem ite {c : Prop} [Decidable c] (ht : NoneHalted l s t) (hu : NoneHalted l s u) : NoneHalted l s (if c then t else u) := by
  split
  · exact ht
  · exact hu

/-- Hidden state beside the harts. -/
theorem beside (h : NoneHalted l s t) (hregs : u.regs = t.regs) (hln : ∀ m k, (u.hart m k).halted = (t.hart m k).halted) : NoneHalted l s u :=
  h.trans ⟨RegsKept.of_regs hregs, fun _ => State.rd_of_reg (State.reg_of_regs hregs _), fun m k hm => (hln m k).trans hm⟩

theorem wr (h : NoneHalted l s t) {f : Field} (v : Nat)
    (hf : f.addr = Reg.LC_LANE_STATUS l ∨ (f.addr = Reg.LC_DBG_STATUS l ∧ f.hi < 32 ∧ 0 < f.lo ∧ f.lo ≤ f.hi)) : NoneHalted l s (t.wr f v) := by
  refine h.trans ⟨(RegsKept.refl _ t).wr v ?_, fun m => ?_, fun _ _ hm => hm⟩
  · rcases hf with hf | ⟨hf, -⟩
    · exact hf ▸ .head _
    · exact hf ▸ .tail _ (.head _)
  · rcases hf with hf | ⟨hf, hhi, hlo, hle⟩
    · refine t.rd_wr_reg f _ v ?_
      rw [hf]
      cases l <;> cases m <;> decide
    · by_cases hm : m = l
      · exact t.rd_wr_beside f _ v ⟨hhi, hle⟩ (hm ▸ hf.symm) (.inl hlo)
      · refine t.rd_wr_reg f _ v ?_
        rw [hf]
        revert hm
        cases l <;> cases m <;> decide

theorem setVote (h : NoneHalted l s t) (v : VoteSt) : NoneHalted l s { t with vote := v } := h.beside rfl (fun _ _ => rfl)

theorem modLn (h : NoneHalted l s t) {g : LaneSt → LaneSt} (hg : ∀ n, (g n).h0 = n.h0 ∧ (g n).h1 = n.h1) : NoneHalted l s (t.modLn l g) := by
  refine h.beside rfl (fun m k => ?_)
  unfold State.hart
  rw [State.ln_modLn]
  by_cases hm : m = l
  · subst hm
    cases k <;> simp [hg]
  · rw [if_neg hm]

theorem setHart (h : NoneHalted l s t) (k : Hart) {x : HartSt} (hx : x.halted = false) : NoneHalted l s (t.setHart l k x) := by
  refine h.trans ⟨RegsKept.of_regs (t.regs_setHart l k x), fun _ => State.rd_of_reg (State.reg_of_regs (t.regs_setHart l k x) _), fun m j hm => ?_⟩
  rw [State.hart_setHart]
  split
  · exact hx
  · exact hm

end NoneHalted

/-- The hart as it runs on from its debug state (R88). -/
def HartSt.resumed (x : HartSt) (uptime : Nat) : HartSt :=
  { x with halted := false, step := bitOf (x.csrRaw csrDcsr).toNat 2, pc := x.csrRaw csrDpc, machine := bitsOf (x.csrRaw csrDcsr).toNat 1 0 == 3
           cycStop := none, cycOfs := (x.cycles uptime : Int) - uptime }

/-- What the lane shows once a hart of it has resumed (R83, R88, R90). -/
def State.laneResumed (s s1 : State) (l : Lane) : State :=
  if (s1.ln l).h0.halted || (s1.ln l).h1.halted then s1
  else if s.flag (Fld.LC_LS_CFG_DBG_MODE l) then
    let s2 := s1.wr (Fld.LC_LANE_STATUS_REPLAY_HALT l) 0
    if s.ex l = Exec.replayHalt then
      let s3 := (s2.wr (Fld.LC_LANE_STATUS_EXEC l) Exec.replayCheck).modLn l (fun n =>
        { n with resumeAt := some s.clk.uptime, resumeK := s.cyc.k })
      { s3 with vote := { s3.vote with agree := s3.vote.agree.put l 0 } }
    else s2
  else if s.ex l = Exec.splitHalt then s1.wr (Fld.LC_LANE_STATUS_EXEC l) Exec.splitRun
  else s1

theorem State.resumeHart_of_halted (s : State) {l : Lane} {h : Hart} (hh : (s.hart l h).halted = true) :
    s.resumeHart l h = s.laneResumed ((s.setHart l h ((s.hart l h).resumed s.clk.uptime)).wr (haltedFld l h) 0) l := if_pos hh

theorem State.laneResumed_noneHalted (s s1 : State) (l : Lane) : NoneHalted l s1 (s.laneResumed s1 l) := by
  have hreplay := (NoneHalted.refl l s1).wr (f := Fld.LC_LANE_STATUS_REPLAY_HALT l) 0 (.inl rfl)
  have hcheck := (hreplay.wr (f := Fld.LC_LANE_STATUS_EXEC l) Exec.replayCheck (.inl rfl)).modLn
    (g := fun n => { n with resumeAt := some s.clk.uptime, resumeK := s.cyc.k }) (fun _ => ⟨rfl, rfl⟩)
  have hsplit := (NoneHalted.refl l s1).wr (f := Fld.LC_LANE_STATUS_EXEC l) Exec.splitRun (.inl rfl)
  exact (NoneHalted.refl l s1).ite (((hcheck.setVote _).ite hreplay).ite (hsplit.ite (.refl l s1)))

theorem State.resumeHart_noneHalted (s : State) (l : Lane) (h : Hart) :
    NoneHalted l s (s.resumeHart l h) ∧ ((s.resumeHart l h).hart l h).halted = false := by
  by_cases hh : (s.hart l h).halted = true
  · rw [s.resumeHart_of_halted hh]
    have hown := ((NoneHalted.refl l s).setHart h (x := (s.hart l h).resumed s.clk.uptime) rfl).wr (f := haltedFld l h) 0 (.inl (by cases h <;> rfl))
    have hlane := s.laneResumed_noneHalted ((s.setHart l h ((s.hart l h).resumed s.clk.uptime)).wr (haltedFld l h) 0) l
    exact ⟨hown.trans hlane, hlane.stays l h (congrArg HartSt.halted (s.hart_setHart_same l h _))⟩
  · have hsame : s.resumeHart l h = s := if_neg hh
    rw [hsame]
    exact ⟨.refl l s, Bool.eq_false_iff.mpr hh⟩

theorem State.settleGrant_noneHalted (s : State) (l : Lane) : NoneHalted l s (s.settleGrant l) := by
  have hgrant : NoneHalted l s (({ s with vote := { s.vote with grant := none } } : State).wr (Fld.LC_DBG_STATUS_GRANT l) 0) :=
    ((NoneHalted.refl l s).setVote { s.vote with grant := none }).wr _
      (.inr ⟨rfl, by cases l <;> decide⟩)
  exact (hgrant.ite (.refl l s)).ite (.refl l s)

theorem State.resumeReq_of_halted (s : State) {l : Lane} {h : Hart} (hh : (s.hart l h).halted = true) :
    ∃ g, s.resumeReq l h = ((s.resumeHart l h).modDm l g).settleGrant l := ⟨_, if_pos hh⟩

/-- A resume request: the hart runs, and no other is halted by it (R85, R88). -/
theorem State.resumeReq_noneHalted (s : State) (l : Lane) (h : Hart) :
    NoneHalted l s (s.resumeReq l h) ∧ ((s.resumeReq l h).hart l h).halted = false := by
  by_cases hh : (s.hart l h).halted = true
  · obtain ⟨hresumed, hown⟩ := s.resumeHart_noneHalted l h
    obtain ⟨g, hg⟩ := s.resumeReq_of_halted hh
    have hack : NoneHalted l (s.resumeHart l h) ((s.resumeHart l h).modDm l g) := (NoneHalted.refl l _).modLn (fun _ => ⟨rfl, rfl⟩)
    have hrest := hack.trans (State.settleGrant_noneHalted _ l)
    rw [hg]
    exact ⟨hresumed.trans hrest, hrest.stays l h hown⟩
  · have hsame : s.resumeReq l h = s := if_neg hh
    rw [hsame]
    exact ⟨.refl l s, Bool.eq_false_iff.mpr hh⟩

/-- Every lane's registers that a hart's resumption may touch. -/
def allDebugKeys : List Nat := lanes.flatMap debugKeys

/-- Resuming the harts of some lanes leaves none of these halted, halts no other, and leaves the strap's marks (R84). -/
theorem State.resume_lanes : ∀ (ls : List Lane) (s : State),
    let t := ls.foldl (fun t l => (t.resumeReq l .h0).resumeReq l .h1) s
    RegsKept allDebugKeys s t ∧ (∀ m, t.rd (Fld.LC_DBG_STATUS_STRAP m) = s.rd (Fld.LC_DBG_STATUS_STRAP m)) ∧
    (∀ m k, (s.hart m k).halted = false → (t.hart m k).halted = false) ∧ ∀ m ∈ ls, ∀ k, (t.hart m k).halted = false
  | [], s => ⟨RegsKept.refl _ s, fun _ => rfl, fun _ _ h => h, fun _ h => absurd h List.not_mem_nil⟩
  | l :: ls, s => by
    obtain ⟨hfirst, h0⟩ := s.resumeReq_noneHalted l .h0
    obtain ⟨hsecond, h1⟩ := (s.resumeReq l .h0).resumeReq_noneHalted l .h1
    obtain ⟨hkept, hstrap, hstays, hall⟩ := State.resume_lanes ls ((s.resumeReq l .h0).resumeReq l .h1)
    have hboth := hfirst.trans hsecond
    refine ⟨(hboth.kept.mono (fun k hk => List.mem_flatMap.mpr ⟨l, by cases l <;> decide, hk⟩)).trans hkept,
      fun m => (hstrap m).trans (hboth.strap m), fun m k h => hstays m k (hboth.stays m k h), fun m hm k => ?_⟩
    rcases List.mem_cons.mp hm with rfl | hm
    · refine hstays m k ?_
      cases k
      · exact hsecond.stays m .h0 h0
      · exact h1
    · exact hall m hm k

/-! ### The maintenance strap -/

/-- The strap shown to the debug modules of some lanes. -/
theorem State.showStrap_lanes (b : Bool) : ∀ (ls : List Lane) (s : State), let t := ls.foldl (fun t l => t.wrB (Fld.LC_DBG_STATUS_STRAP l) b) s
    RegsOnly s t ∧ RegsKept (lanes.map Reg.LC_DBG_STATUS) s t ∧
    ∀ m, (s.rd (Fld.LC_DBG_STATUS_STRAP m) = b2n b ∨ m ∈ ls) → t.rd (Fld.LC_DBG_STATUS_STRAP m) = b2n b
  | [], s => ⟨RegsOnly.refl s, RegsKept.refl _ s, fun _ hm => hm.resolve_right List.not_mem_nil⟩
  | l :: ls, s => by
    obtain ⟨honly, hkept, hall⟩ := State.showStrap_lanes b ls (s.wrB (Fld.LC_DBG_STATUS_STRAP l) b)
    refine ⟨((RegsOnly.refl s).wr _ _).trans honly,
      RegsKept.trans ((RegsKept.refl _ s).wr (f := Fld.LC_DBG_STATUS_STRAP l) _ (by cases l <;> decide)) hkept, fun m hm => hall m ?_⟩
    by_cases hml : m = l
    · exact .inl (hml ▸ s.rd_wrB_same (Fld.LC_DBG_STATUS_STRAP m) b (show 0 < 32 ∧ 0 ≤ 0 by decide))
    · refine hm.imp (fun hs => ?_) (fun hmem => (List.mem_cons.mp hmem).resolve_left hml)
      exact (s.rd_wr_reg (Fld.LC_DBG_STATUS_STRAP l) (Fld.LC_DBG_STATUS_STRAP m) _ (by revert hml; cases l <;> cases m <;> decide)).trans hs

/-- The strap as the debug modules and the test taps see it (R496). -/
theorem State.showStrap_shows (s : State) {b : Bool} (hb : s.rd Fld.JC_PWR_STATUS_MAINT_STRAP = b2n b) :
    s.showStrap.rd Fld.JC_PWR_STATUS_MAINT_STRAP = b2n b ∧ (∀ m, s.showStrap.rd (Fld.LC_DBG_STATUS_STRAP m) = b2n b) ∧ RegsOnly s s.showStrap := by
  have hflag : s.flag Fld.JC_PWR_STATUS_MAINT_STRAP = b := by
    unfold State.flag
    rw [hb]
    cases b <;> rfl
  obtain ⟨honly, hkept, hall⟩ := State.showStrap_lanes b lanes (s.wrB Fld.TT_STATUS_ENABLED b)
  unfold State.showStrap
  rw [hflag]
  refine ⟨?_, fun m => hall m (.inr (by cases m <;> decide)), ((RegsOnly.refl s).wr _ _).trans honly⟩
  refine (hkept.rd (f := Fld.JC_PWR_STATUS_MAINT_STRAP) (by decide)).trans (Eq.trans ?_ hb)
  exact s.rd_wr_reg Fld.TT_STATUS_ENABLED Fld.JC_PWR_STATUS_MAINT_STRAP _ (by decide)

theorem State.strapShown (s : State) (b : Bool) : let t := (s.wrB Fld.JC_PWR_STATUS_MAINT_STRAP b).showStrap
    t.rd Fld.JC_PWR_STATUS_MAINT_STRAP = b2n b ∧ (∀ m, t.rd (Fld.LC_DBG_STATUS_STRAP m) = b2n b) ∧ t.lane = s.lane := by
  obtain ⟨hpwr, hlanes, honly⟩ := State.showStrap_shows _ (s.rd_wrB_same Fld.JC_PWR_STATUS_MAINT_STRAP b (by decide))
  exact ⟨hpwr, hlanes, (((RegsOnly.refl s).wr _ _).trans honly).lane⟩

/-- Removing the strap resumes every hart (R84). -/
theorem State.strapRemoved (s : State) : let t := ((s.wrB Fld.JC_PWR_STATUS_MAINT_STRAP false).showStrap).resumeAll
    t.rd Fld.JC_PWR_STATUS_MAINT_STRAP = 0 ∧ (∀ m, t.rd (Fld.LC_DBG_STATUS_STRAP m) = 0) ∧ ∀ m k, (t.hart m k).halted = false := by
  obtain ⟨hpwr, hstrap, -⟩ := s.strapShown false
  obtain ⟨hkept, hstrap', -, hall⟩ := State.resume_lanes lanes ((s.wrB Fld.JC_PWR_STATUS_MAINT_STRAP false).showStrap)
  exact ⟨(hkept.rd (f := Fld.JC_PWR_STATUS_MAINT_STRAP) (by decide)).trans hpwr, fun m => (hstrap' m).trans (hstrap m),
    fun m k => hall m (by cases m <;> decide) k⟩

/-! ### TAP instructions -/

/-- The TAP that takes an instruction holds it. -/
theorem State.taps_loadTap (s : State) {n : Nat} (code : Nat) (hn : n < s.st.taps.length) : getAt 0 (s.loadTap n code).st.taps n = code := by
  show getAt 0 (setAt s.st.taps n code) n = code
  rw [getAt_setAt, if_pos ⟨rfl, hn⟩]

/-- The TAP that captures a data register holds it. -/
theorem State.scan_scanOut (s : State) {n : Nat} (v : Nat) (hn : n < s.st.scan.length) : getAt 0 (s.scanOut n v).st.scan n = v := by
  show getAt 0 (setAt s.st.scan n v) n = v
  rw [getAt_setAt, if_pos ⟨rfl, hn⟩]

/-- EXTEST, CLAMP and HIGHZ (R499): taken with the strap and no permits, else BYPASS and the refusal shown. -/
theorem State.testInstr_shows (s : State) {n : Nat} (code : Nat) (htaps : n < s.st.taps.length) (hlock : n < s.st.tapLock.length) :
    (s.strap = true → s.rd Fld.JC_MOD_STATUS_PERMITS = 0 → getAt 0 (s.testInstr n code).st.taps n = code ∧
      getAt false (s.testInstr n code).st.tapLock n = true ∧ (s.testInstr n code).regs = s.regs) ∧
    (s.strap = false ∨ s.rd Fld.JC_MOD_STATUS_PERMITS = 1 → getAt 0 (s.testInstr n code).st.taps n = tapBypass n ∧
      (s.testInstr n code).rd Fld.TT_STATUS_SCAN_REFUSED = 1 ∧ (s.testInstr n code).st.tapLock = s.st.tapLock ∧
      RegsKept [Reg.TT_STATUS] s (s.testInstr n code)) := by
  have hpermits : s.flag Fld.JC_MOD_STATUS_PERMITS = decide (s.rd Fld.JC_MOD_STATUS_PERMITS = 1) := s.flag_eq_decide _ rfl
  refine ⟨fun hstrap hno => ?_, fun hor => ?_⟩
  · have htaken : s.testInstr n code = (s.loadTap n code).modSt (fun x => { x with tapLock := setAt x.tapLock n true }) :=
      if_pos (by rw [hstrap, hpermits, hno]; rfl)
    rw [htaken]
    refine ⟨s.taps_loadTap code htaps, ?_, rfl⟩
    show getAt false (setAt s.st.tapLock n true) n = true
    rw [getAt_setAt, if_pos ⟨rfl, hlock⟩]
  · have hrefused : s.testInstr n code = (s.loadTap n (tapBypass n)).set1 Fld.TT_STATUS_SCAN_REFUSED := if_neg (by
      rw [hpermits]
      rcases hor with h | h <;> simp [h])
    rw [hrefused]
    have hst : ((s.loadTap n (tapBypass n)).set1 Fld.TT_STATUS_SCAN_REFUSED).st = (s.loadTap n (tapBypass n)).st :=
      ((RegsOnly.refl _).wr _ _).keeps State.st (fun _ => rfl)
    have hloaded : RegsKept [Reg.TT_STATUS] s (s.loadTap n (tapBypass n)) := RegsKept.of_regs rfl
    refine ⟨?_, State.rd_wr_same _ Fld.TT_STATUS_SCAN_REFUSED 1 (by decide), ?_, hloaded.wr (f := Fld.TT_STATUS_SCAN_REFUSED) 1 (.head _)⟩
    · rw [hst, s.taps_loadTap _ htaps]
    · rw [hst]
      rfl

/-! ### The debug transport -/

theorem laneTap_lt (l : Lane) : laneTap l < 8 := by cases l <;> decide

theorem State.ln_scanOut (s : State) (n v : Nat) (m : Lane) : (s.scanOut n v).ln m = s.ln m := rfl

theorem State.dm_modDm_same (s : State) (l : Lane) (g : DmSt → DmSt) : ((s.modDm l g).ln l).dm = g (s.ln l).dm := by
  unfold State.modDm
  rw [State.ln_modLn_same]

theorem State.ln_modDm_ne (s : State) {l m : Lane} (g : DmSt → DmSt) (hm : m ≠ l) : (s.modDm l g).ln m = s.ln m := s.ln_modLn_ne _ hm

/-- The low half of a word is the one last written, whatever the upper half holds. -/
theorem toNat_low_half (x : BitVec 64) (w : Word) : ((x &&& ~~~0xFFFFFFFF#64) ||| w.setWidth 64).toNat % 2 ^ 32 = w.toNat := by
  have hlow : ((x &&& ~~~0xFFFFFFFF#64) ||| w.setWidth 64).setWidth 32 = w := by
    ext i hi
    simp
  have := congrArg BitVec.toNat hlow
  rwa [BitVec.toNat_setWidth] at this

/-- Without the strap dmstatus reads zero (R84). -/
theorem State.dmRead_without_strap (s : State) (l : Lane) (h : s.strap = false) : s.dmRead l 0x11 = 0 := by
  unfold State.dmRead State.dmstatus
  simp [h]

/-- Without the strap nothing is written to a debug module (R84). -/
theorem State.dmWrite_without_strap (s : State) (l : Lane) (a : Nat) (w : Word) (prog : List RvOp) (h : s.strap = false) : s.dmWrite l a w prog = s := by
  unfold State.dmWrite
  simp [h]

theorem State.dmRead_data0 (s : State) (l : Lane) (h : s.strap = true) : s.dmRead l 0x04 = (s.ln l).dm.data.toNat % 2 ^ 32 := by
  unfold State.dmRead
  simp [h]

theorem State.dmWrite_data0 (s : State) (l : Lane) (w : Word) (prog : List RvOp) (h : s.strap = true) (hactive : (s.ln l).dm.active = true) :
    s.dmWrite l 0x04 w prog = s.modDm l (fun d => { d with data := (d.data &&& ~~~0xFFFFFFFF#64) ||| w.setWidth 64 }) := by
  unfold State.dmWrite
  simp [h, hactive]

theorem exec_dmi_write (s : State) (l : Lane) (a : BitVec 7) (d : Word) (prog : List RvOp) : exec (.dmi l a d 2 prog) s =
    .next (((s.loadTap (laneTap l) 0x11).dmWrite l a.toNat d prog).scanOut (laneTap l) (a.toNat * 2 ^ 34 + d.toNat * 4)) := rfl

/-- Settles O23, instruction by instruction. -/
theorem testAccessPorts : Obligations.TestAccessPorts := by
  unfold Obligations.TestAccessPorts
  intro s p l htaps hlock hscan
  have hp : p.val < s.st.taps.length := by rw [htaps]; exact p.isLt
  have hps : p.val < s.st.scan.length := by rw [hscan]; exact p.isLt
  have hl : laneTap l < s.st.taps.length := by rw [htaps]; exact laneTap_lt l
  have hls : laneTap l < s.st.scan.length := by rw [hscan]; exact laneTap_lt l
  have htest := fun code => s.testInstr_shows code hp (by rw [hlock]; exact p.isLt)
  refine ⟨?idcode, ?sample, gives_of_exec rfl (htest 3), gives_of_exec rfl (htest 4), gives_of_exec rfl (htest 5), fun c hc => ?bypass, ?reset,
    fun w => ?dtmcs, fun hstrap a d pr => ⟨?status, ?closed⟩, fun hstrap d pr => ⟨?read, fun hactive => ?write⟩, ?inserted, ?removed⟩
  case idcode =>
    exact gives_of_exec rfl ⟨s.taps_loadTap 1 hp, rfl, rfl, (s.loadTap p.val 1).scan_scanOut _ hps⟩
  case sample =>
    exact gives_of_exec rfl ⟨s.takeFree.2.taps_loadTap 2 hp, (s.takeFree.2.loadTap p.val 2).scan_scanOut _ hps, rfl, rfl, rfl⟩
  case bypass =>
    have hexec : exec (.bypass p c) s = .next ((s.loadTap p.val (tapBypass p.val)).scanOut p.val 0) :=
      congrArg Host.Outcome.next (if_neg (by rw [hc]; decide))
    exact gives_of_exec hexec ⟨s.taps_loadTap _ hp, (s.loadTap p.val _).scan_scanOut 0 hps, rfl, rfl⟩
  case reset =>
    exact gives_of_exec rfl ⟨rfl, rfl, rfl⟩
  case dtmcs =>
    exact gives_of_exec rfl ⟨(s.loadTap (laneTap l) 0x10).scan_scanOut _ hls, s.taps_loadTap 0x10 hl, rfl, rfl⟩
  case status =>
    refine gives_of_exec rfl ⟨((s.loadTap (laneTap l) 0x11).scan_scanOut _ hls).trans ?_, rfl⟩
    exact congrArg (fun v => 0x11 * 2 ^ 34 + v * 4) ((s.loadTap (laneTap l) 0x11).dmRead_without_strap l hstrap)
  case closed =>
    have hsame := (s.loadTap (laneTap l) 0x11).dmWrite_without_strap l a.toNat d pr hstrap
    exact gives_of_exec ((exec_dmi_write s l a d pr).trans (congrArg (fun t : State => Host.Outcome.next (t.scanOut _ _)) hsame)) ⟨rfl, rfl⟩
  case read =>
    refine gives_of_exec rfl ⟨((s.loadTap (laneTap l) 0x11).scan_scanOut _ hls).trans ?_, rfl, rfl⟩
    exact congrArg (fun v => 0x04 * 2 ^ 34 + v * 4) ((s.loadTap (laneTap l) 0x11).dmRead_data0 l hstrap)
  case write =>
    have hwritten := (s.loadTap (laneTap l) 0x11).dmWrite_data0 l d pr hstrap hactive
    refine gives_of_exec ((exec_dmi_write s l 0x04 d pr).trans (congrArg (fun t : State => Host.Outcome.next (t.scanOut _ _)) hwritten))
      ⟨?_, rfl, fun m hm => (State.ln_scanOut _ _ _ m).trans (State.ln_modDm_ne _ _ hm)⟩
    rw [State.ln_scanOut, State.dm_modDm_same]
    exact toNat_low_half _ d
  case inserted =>
    exact gives_of_exec rfl (s.strapShown true)
  case removed =>
    obtain ⟨hpwr, hstrap, hall⟩ := s.strapRemoved
    exact gives_of_exec rfl ⟨hpwr, hstrap, fun m => ⟨hall m .h0, hall m .h1⟩⟩

end Sys2Proof.Machine
end

section
/-! PROOF. A hart executes an instruction from scratch (R28, R61 to R69, R83): its registers and CSRs, the fetch, the completion, and what
each kind of instruction leaves (O21). -/

namespace Sys2Proof.Machine

/-! ### Bytes and numbers -/

theorem length_leBytes : ∀ n v : Nat, (leBytes n v).length = n
  | 0, _ => rfl
  | n + 1, v => congrArg Nat.succ (length_leBytes n (v / 256))

/-- The bytes of a number spell it, as far as they reach. -/
theorem leNat_leBytes : ∀ n v : Nat, leNat (leBytes n v) = v % 256 ^ n
  | 0, v => by simp [leBytes, leNat, Nat.mod_one]
  | n + 1, v => by
    show (BitVec.ofNat 8 v).toNat + 256 * leNat (leBytes n (v / 256)) = v % 256 ^ (n + 1)
    rw [leNat_leBytes n (v / 256), BitVec.toNat_ofNat, pow_succ' 256 n, Nat.mod_mul]

/-- The bytes written from an address on are read back from it. -/
theorem Mem.bytes_putBytes : ∀ (bs : List Byte) (m : Mem) (a : Nat), (m.putBytes a bs).bytes a bs.length = bs
  | [], _, _ => rfl
  | b :: bs, m, a => by
    show (m.putBytes a (b :: bs)).rb a :: ((m.wb a b).putBytes (a + 1) bs).bytes (a + 1) bs.length = b :: bs
    rw [Mem.bytes_putBytes bs (m.wb a b) (a + 1), Mem.rb_putBytes, if_pos (Nat.le_refl a), Nat.sub_self]
    rfl

/-- A register stored as eight bytes is read back as the number it holds. -/
theorem Mem.num_putBytes_leBytes (m : Mem) (a n v : Nat) : (m.putBytes a (leBytes n v)).num a n = v % 256 ^ n := by
  have hread := Mem.bytes_putBytes (leBytes n v) m a
  rw [length_leBytes] at hread
  unfold Mem.num
  rw [hread, leNat_leBytes]

/-- A byte outside those written keeps its value. -/
theorem Mem.rb_putBytes_outside (m : Mem) (bs : List Byte) {a b : Nat} (h : b < a ∨ a + bs.length ≤ b) : (m.putBytes a bs).rb b = m.rb b := by
  rw [Mem.rb_putBytes]
  split
  next hle => rw [List.getElem?_eq_none (by omega)]; rfl
  next => rfl

/-! ### A hart's registers -/

@[simp] theorem HartSt.csrRaw_setCsr (x : HartSt) (n m : Nat) (v : BitVec 64) : (x.setCsr n v).csrRaw m = if m = n then v else x.csrRaw m :=
  Store.get_put xZero x.csr n m v

/-- An integer register reads the value written to it, x0 excepted, and the others as before. -/
theorem HartSt.xr_setX (x : HartSt) (rd r : Fin 32) (v : BitVec 64) : (x.setX rd v).xr r = if r = rd ∧ rd ≠ 0 then v else x.xr r := by
  unfold HartSt.setX
  by_cases h0 : rd = 0
  · rw [if_pos h0, if_neg (fun h => h.2 h0)]
  · rw [if_neg h0]
    by_cases hr : r = rd
    · subst hr
      rw [if_pos ⟨rfl, h0⟩]
      simp [HartSt.xr, h0, Store.get_put]
    · rw [if_neg (fun h => hr h.1)]
      simp [HartSt.xr, Store.get_put, Fin.val_inj, hr]

/-- A write of an integer register touches nothing else of the hart. -/
theorem HartSt.setX_frame (x : HartSt) (rd : Fin 32) (v : BitVec 64) : ∃ y, x.setX rd v = { x with x := y } := by
  unfold HartSt.setX
  split
  · exact ⟨x.x, rfl⟩
  · exact ⟨_, rfl⟩

/-! ### Traps -/

/-- A trap (R62): mepc holds the pc, mcause the cause, and the integer registers stay. -/
theorem HartSt.trap_shows (x : HartSt) (interrupt : Bool) (cause : Nat) (tval : BitVec 64) :
    (x.trap interrupt cause tval).csrRaw csrMepc = x.pc ∧
    (x.trap interrupt cause tval).csrRaw csrMcause = BitVec.ofNat 64 (cause + if interrupt then 2 ^ 63 else 0) ∧
    (x.trap interrupt cause tval).machine = true ∧ (x.trap interrupt cause tval).step = x.step ∧
    ∀ r, (x.trap interrupt cause tval).xr r = x.xr r := by
  refine ⟨?_, ?_, rfl, rfl, fun _ => rfl⟩
  · exact (HartSt.csrRaw_setCsr _ csrMstatus csrMepc _).trans ((HartSt.csrRaw_setCsr _ csrMtval csrMepc _).trans
      ((HartSt.csrRaw_setCsr _ csrMcause csrMepc _).trans (HartSt.csrRaw_setCsr x csrMepc csrMepc x.pc)))
  · exact (HartSt.csrRaw_setCsr _ csrMstatus csrMcause _).trans ((HartSt.csrRaw_setCsr _ csrMtval csrMcause _).trans
      (HartSt.csrRaw_setCsr _ csrMcause csrMcause _))

/-- An exception goes to mtvec's base (R62). -/
theorem HartSt.trap_exception_pc (x : HartSt) (cause : Nat) (tval : BitVec 64) :
    (x.trap false cause tval).pc = x.csrRaw csrMtvec &&& ~~~3#64 := by
  show (x.csrRaw csrMtvec &&& ~~~3#64) + 0 = _
  simp

/-! ### A hart within its lane -/

theorem State.regs_modLn (s : State) (l : Lane) (g : LaneSt → LaneSt) : (s.modLn l g).regs = s.regs := rfl

theorem State.jddr_modLn (s : State) (l : Lane) (g : LaneSt → LaneSt) : (s.modLn l g).jddr = s.jddr := rfl

theorem State.setHart_setHart (s : State) (l : Lane) (h : Hart) (x y : HartSt) : (s.setHart l h x).setHart l h y = s.setHart l h y := by
  cases l <;> cases h <;> rfl

theorem State.hart_setHart_ne (s : State) {l : Lane} {g h : Hart} (x : HartSt) (hg : g ≠ h) : (s.setHart l h x).hart l g = s.hart l g := by
  rw [State.hart_setHart, if_neg (fun hc => hg hc.2)]

/-- A hart's state is no part of the lane's memories. -/
theorem State.memories_setHart (s : State) (l : Lane) (h : Hart) (x : HartSt) :
    ((s.setHart l h x).ln l).scratch = (s.ln l).scratch ∧ ((s.setHart l h x).ln l).ddr = (s.ln l).ddr := by
  cases h
  · have hown : (s.setHart l .h0 x).ln l = { s.ln l with h0 := x } := s.ln_modLn_same l _
    exact ⟨by rw [hown], by rw [hown]⟩
  · have hown : (s.setHart l .h1 x).ln l = { s.ln l with h1 := x } := s.ln_modLn_same l _
    exact ⟨by rw [hown], by rw [hown]⟩

theorem State.jddr_setHart (s : State) (l : Lane) (h : Hart) (x : HartSt) : (s.setHart l h x).jddr = s.jddr := by cases h <;> rfl

/-! ### Scratch -/

theorem lanePlace_scratch {a n : Nat} (hlow : 0x08000000 ≤ a) (hhigh : a + n ≤ 0x08100000) : lanePlace a n = .scratch := by
  unfold lanePlace
  have hrom : ¬ (0 ≤ a ∧ a + n ≤ 0x10000) := by omega
  simp [hlow, hhigh]
  omega

/-- A hart reads its lane's scratch as it stands. -/
theorem State.hartRead_scratch (s : State) (l : Lane) (h : Hart) {a n : Nat} (hlow : 0x08000000 ≤ a) (hhigh : a + n ≤ 0x08100000) :
    s.hartRead l h a n = (s, .bytes ((s.ln l).scratch.bytes a n)) := by
  unfold State.hartRead
  rw [lanePlace_scratch hlow hhigh]

theorem HartSt.breakResv_of_none {x : HartSt} (a n : Nat) (h : x.resv = none) : x.breakResv a n = x := by
  unfold HartSt.breakResv
  rw [h]

theorem State.markDirty_frame (s : State) (l : Lane) (a : Nat) : ∃ v, s.markDirty l a = { s with vote := v } := by
  unfold State.markDirty
  split
  · split
    · exact ⟨_, rfl⟩
    · exact ⟨s.vote, rfl⟩
  · exact ⟨s.vote, rfl⟩

/-- What a store to scratch leaves while no hart of the lane holds a reservation. -/
theorem State.lanePut_scratch (s : State) (l : Lane) {a : Nat} (bs : List Byte) (hlow : 0x08000000 ≤ a) (hhigh : a < 0x08100000)
    (hresv : ∀ g, (s.hart l g).resv = none) :
    (s.lanePut l a bs).ln l = { s.ln l with scratch := (s.ln l).scratch.putBytes a bs } ∧ (s.lanePut l a bs).regs = s.regs ∧
    (s.lanePut l a bs).jddr = s.jddr ∧ ∀ m, m ≠ l → (s.lanePut l a bs).ln m = s.ln m := by
  have hcopy : s.laneCopy l a bs = s.modLn l (fun n => { n with scratch := n.scratch.putBytes a bs }) := if_pos (decide_eq_true ⟨hlow, hhigh⟩)
  obtain ⟨v, hv⟩ := (s.laneCopy l a bs).markDirty_frame l a
  have hln : ∀ m, ((s.laneCopy l a bs).markDirty l a).ln m = (s.laneCopy l a bs).ln m := fun m => by rw [hv]; rfl
  unfold State.lanePut
  refine ⟨?_, by rw [State.regs_modLn, hv, hcopy]; rfl, by rw [State.jddr_modLn, hv, hcopy]; rfl, fun m hm => ?_⟩
  · rw [State.ln_modLn_same, hln, hcopy, State.ln_modLn_same]
    have h0 : (s.ln l).h0.resv = none := hresv .h0
    have h1 : (s.ln l).h1.resv = none := hresv .h1
    simp only [HartSt.breakResv_of_none _ _ h0, HartSt.breakResv_of_none _ _ h1]
  · rw [State.ln_modLn_ne _ _ hm, hln, hcopy, State.ln_modLn_ne _ _ hm]

/-! ### One instruction -/

/-- Hart `h` of lane `l` executes from scratch: it is up with its clock running, does not single-step, and its fetch is allowed. -/
structure Runs (s : State) (l : Lane) (h : Hart) : Prop where
  up : s.hartUp l h = true
  clocked : (s.hart l h).gated = false
  noStep : (s.hart l h).step = false
  low : 0x08000000 ≤ (s.hart l h).pc.toNat
  high : (s.hart l h).pc.toNat + 4 ≤ 0x08100000
  first : (s.hart l h).pmpAllows (s.hart l h).machine 4 (s.hart l h).pc.toNat 2 = true
  second : (s.hart l h).pmpAllows (s.hart l h).machine 4 ((s.hart l h).pc.toNat + 2) 2 = true

theorem State.laneLive_of_up {s : State} {l : Lane} {h : Hart} (hup : s.hartUp l h = true) : s.laneLive l = true := by
  unfold State.hartUp at hup
  simp only [Bool.and_eq_true] at hup
  exact hup.1.1.1.2

/-- The lane's live state rests on its registers. -/
theorem State.laneLive_of_regs {s t : State} (l : Lane) (hregs : t.regs = s.regs) : t.laneLive l = s.laneLive l := by
  unfold State.laneLive State.ex
  rw [State.rd_of_reg (State.reg_of_regs hregs _)]

theorem State.fetchParcel_scratch (s : State) (l : Lane) (h : Hart) {a : Nat} (hlow : 0x08000000 ≤ a) (hhigh : a + 2 ≤ 0x08100000)
    (hpmp : (s.hart l h).pmpAllows (s.hart l h).machine 4 a 2 = true) :
    s.fetchParcel l h a = (s, .bytes ((s.ln l).scratch.bytes a 2)) := by
  have hfetch : fetchable a 2 = true := by
    unfold fetchable
    rw [lanePlace_scratch hlow hhigh]
  unfold State.fetchParcel
  dsimp only
  rw [hfetch, hpmp]
  exact s.hartRead_scratch l h hlow hhigh

namespace Runs

variable {s : State} {l : Lane} {h : Hart}

theorem fetch (r : Runs s l h) : s.fetch l h (s.hart l h).pc.toNat 4 = (s, none) := by
  have hhigh := r.high
  unfold State.fetch
  rw [s.fetchParcel_scratch l h r.low (by omega) r.first]
  dsimp only
  rw [if_neg (by decide), s.fetchParcel_scratch l h (Nat.le_trans r.low (Nat.le_add_right _ 2)) (by omega) r.second]

/-- What the hart does with the instruction once it is fetched. -/
def ended (s : State) (l : Lane) (h : Hart) (op : RvOp) : State × RunRes → State
  | (u, .ok) => u.retire1 l h op ((s.hart l h).pc + 4)
  | (u, .exc c v) => u.raiseTrap l h c v
  | (u, .brk) => u.runBreak l h
  | (u, .gone) => u

theorem hartStep (r : Runs s l h) (op : RvOp) :
    s.hartStep l h op false = ended s l h op (s.runOp l h false ((s.hart l h).pc + 4) op) := by
  unfold State.hartStep
  dsimp only
  rw [if_neg (by decide), r.fetch]
  rfl

theorem exec_instruction (r : Runs s l h) (op : RvOp) :
    exec (.hartInstruction l h op false []) s = .next (ended s l h op (s.runOp l h false ((s.hart l h).pc + 4) op)) := by
  refine congrArg Host.Outcome.next ((if_pos ?_).trans ((if_pos (State.laneLive_of_up r.up)).trans (r.hartStep op)))
  rw [r.up, r.clocked]
  rfl

theorem exec_wfi (r : Runs s l h) : exec (.wfi l h) s = .next (ended s l h .wfi (s.runOp l h false ((s.hart l h).pc + 4) .wfi)) := by
  refine congrArg Host.Outcome.next ((if_pos ?_).trans (r.hartStep .wfi))
  rw [r.up, r.clocked]
  rfl

end Runs

/-- The hart after an instruction that does not jump: counted, and its pc moved on (R66). -/
def HartSt.moved (x : HartSt) (next : BitVec 64) : HartSt := { x.setCsr csrMinstret (x.csrRaw csrMinstret + 1) with pc := next }

theorem HartSt.xr_moved (x : HartSt) (next : BitVec 64) (r : Fin 32) : (x.moved next).xr r = x.xr r := rfl

theorem HartSt.minstret_moved (x : HartSt) (next : BitVec 64) : (x.moved next).csrRaw csrMinstret = x.csrRaw csrMinstret + 1 :=
  (x.csrRaw_setCsr csrMinstret csrMinstret _).trans (if_pos rfl)

/-- The completion of an instruction that moves on, in a live lane, without single step (R66). -/
theorem State.retire1_moves (u : State) (l : Lane) (h : Hart) {op : RvOp} (next : BitVec 64) (hlive : u.laneLive l = true)
    (hstep : (u.hart l h).step = false) (hpc : setsPc op = false) (hcount : writesInstret op = false) :
    u.retire1 l h op next = u.setHart l h ((u.hart l h).moved next) := by
  unfold State.retire1 State.afterStep
  rw [if_pos hlive, hpc, hcount]
  refine if_neg (Bool.eq_false_iff.mp ?_)
  rw [State.hart_setHart_same]
  exact hstep

/-- What every instruction that moves on leaves (R61, R66): the pc 4 on, one more in minstret, x0 zero, no register of the module, no other
lane or hart and no junction DDR4 touched. -/
def MovedOn (s : State) (l : Lane) (h : Hart) (t : State) : Prop :=
  (t.hart l h).pc = (s.hart l h).pc + 4 ∧ (t.hart l h).csrRaw csrMinstret = (s.hart l h).csrRaw csrMinstret + 1 ∧
  (t.hart l h).xr 0 = 0 ∧ (t.hart l h).machine = (s.hart l h).machine ∧ t.regs = s.regs ∧ t.jddr = s.jddr ∧
  (∀ m, m ≠ l → t.ln m = s.ln m) ∧ ∀ g, g ≠ h → t.hart l g = s.hart l g

theorem movedOn_setHart {s u : State} {l : Lane} {h : Hart} {y : HartSt} (hcsr : y.csr = (s.hart l h).csr) (hmachine : y.machine = (s.hart l h).machine)
    (hregs : u.regs = s.regs) (hjddr : u.jddr = s.jddr) (hlanes : ∀ m, m ≠ l → u.ln m = s.ln m) (hharts : ∀ g, g ≠ h → u.hart l g = s.hart l g) :
    MovedOn s l h (u.setHart l h (y.moved ((s.hart l h).pc + 4))) := by
  have hcount : y.csrRaw csrMinstret = (s.hart l h).csrRaw csrMinstret := congrArg (fun c => Store.get xZero c csrMinstret) hcsr
  refine ⟨?_, ?_, rfl, ?_, (u.regs_setHart l h _).trans hregs, (u.jddr_setHart l h _).trans hjddr,
    fun m hm => (u.ln_setHart_ne h _ hm).trans (hlanes m hm), fun g hg => (u.hart_setHart_ne _ hg).trans (hharts g hg)⟩
  · rw [State.hart_setHart_same]; rfl
  · rw [State.hart_setHart_same, HartSt.minstret_moved, hcount]
  · rw [State.hart_setHart_same]; exact hmachine

namespace Runs

variable {s : State} {l : Lane} {h : Hart}

/-- An instruction whose effect is on its hart alone: `y` is the hart as it leaves it. -/
theorem ended_own (r : Runs s l h) {op : RvOp} {y : HartSt} (hrun : s.runOp l h false ((s.hart l h).pc + 4) op = s.keepHart l h y)
    (hstep : y.step = (s.hart l h).step) (hpc : setsPc op = false) (hcount : writesInstret op = false) :
    ended s l h op (s.runOp l h false ((s.hart l h).pc + 4) op) = s.setHart l h (y.moved ((s.hart l h).pc + 4)) := by
  rw [hrun]
  show (s.setHart l h y).retire1 l h op _ = _
  rw [State.retire1_moves _ l h _ ?live ?step hpc hcount, State.hart_setHart_same, State.setHart_setHart]
  case live => rw [State.laneLive_of_regs l (s.regs_setHart l h y), State.laneLive_of_up r.up]
  case step => rw [State.hart_setHart_same, hstep, r.noStep]

theorem movedOn_own (_ : Runs s l h) {y : HartSt} (hcsr : y.csr = (s.hart l h).csr) (hmachine : y.machine = (s.hart l h).machine) :
    MovedOn s l h (s.setHart l h (y.moved ((s.hart l h).pc + 4))) :=
  movedOn_setHart hcsr hmachine rfl rfl (fun _ _ => rfl) (fun _ _ => rfl)

/-- An instruction that writes its result to `rd` and touches nothing else (R61). -/
theorem gives_setX (r : Runs s l h) {op : RvOp} {rd : Fin 32} {v : BitVec 64}
    (hrun : s.runOp l h false ((s.hart l h).pc + 4) op = s.keepHart l h ((s.hart l h).setX rd v)) (hpc : setsPc op = false)
    (hcount : writesInstret op = false) :
    Gives (.hartInstruction l h op false []) s (fun t => MovedOn s l h t ∧ (rd ≠ 0 → (t.hart l h).xr rd = v) ∧
      (∀ k, k ≠ rd → (t.hart l h).xr k = (s.hart l h).xr k) ∧ (t.ln l).scratch = (s.ln l).scratch ∧ (t.ln l).ddr = (s.ln l).ddr) := by
  obtain ⟨y, hy⟩ := (s.hart l h).setX_frame rd v
  have hown : ended s l h op _ = _ := r.ended_own hrun (by rw [hy]) hpc hcount
  refine gives_of_exec (r.exec_instruction op) (hown ▸ ⟨r.movedOn_own (by rw [hy]) (by rw [hy]), fun h0 => ?_, fun k hk => ?_, s.memories_setHart l h _⟩)
  · rw [State.hart_setHart_same, HartSt.xr_moved, HartSt.xr_setX, if_pos ⟨rfl, h0⟩]
  · rw [State.hart_setHart_same, HartSt.xr_moved, HartSt.xr_setX, if_neg (fun hc => hk hc.1)]

/-- A load of eight bytes from scratch (R63). -/
theorem gives_load (r : Runs s l h) (rd a : Fin 32) (off : BitVec 64) (hlow : 0x08000000 ≤ ((s.hart l h).xr a + off).toNat)
    (hhigh : ((s.hart l h).xr a + off).toNat + 8 ≤ 0x08100000)
    (hallowed : (s.hart l h).dataTrap false .load ((s.hart l h).xr a + off).toNat 8 = none) :
    Gives (.hartInstruction l h (.load 3 false rd a off) false []) s (fun t => MovedOn s l h t ∧
      (rd ≠ 0 → (t.hart l h).xr rd = BitVec.ofNat 64 ((s.ln l).scratch.num ((s.hart l h).xr a + off).toNat 8)) ∧
      (∀ k, k ≠ rd → (t.hart l h).xr k = (s.hart l h).xr k) ∧ (t.ln l).scratch = (s.ln l).scratch ∧ (t.ln l).ddr = (s.ln l).ddr) := by
  refine r.gives_setX ?_ rfl rfl
  show s.runLoad l h false ((s.hart l h).xr a + off) 8 (fun y bs => y.setX rd (loadValue false bs)) = _
  unfold State.runLoad
  rw [hallowed, s.hartRead_scratch l h hlow hhigh]
  rfl

/-- A store of eight bytes to scratch, while no hart of the lane holds a reservation (R61, R63). -/
theorem gives_store (r : Runs s l h) (a b : Fin 32) (off : BitVec 64) (hlow : 0x08000000 ≤ ((s.hart l h).xr a + off).toNat)
    (hhigh : ((s.hart l h).xr a + off).toNat + 8 ≤ 0x08100000)
    (hallowed : (s.hart l h).dataTrap false .store ((s.hart l h).xr a + off).toNat 8 = none) (hresv : ∀ g, (s.hart l g).resv = none) :
    Gives (.hartInstruction l h (.store 3 a b off) false []) s (fun t => MovedOn s l h t ∧
      (t.ln l).scratch.num ((s.hart l h).xr a + off).toNat 8 = ((s.hart l h).xr b).toNat ∧
      (∀ y, y < ((s.hart l h).xr a + off).toNat ∨ ((s.hart l h).xr a + off).toNat + 8 ≤ y → (t.ln l).scratch.rb y = (s.ln l).scratch.rb y) ∧
      (t.ln l).ddr = (s.ln l).ddr ∧ ∀ k, (t.hart l h).xr k = (s.hart l h).xr k) := by
  generalize hd : ((s.hart l h).xr a + off).toNat = d at hlow hhigh hallowed ⊢
  have hbytes := length_leBytes 8 ((s.hart l h).xr b).toNat
  generalize hbs : leBytes 8 ((s.hart l h).xr b).toNat = bs at hbytes
  obtain ⟨hln, hregs, hjddr, hlanes⟩ := s.lanePut_scratch l bs hlow (show d < 0x08100000 by omega) hresv
  have hharts : ∀ g, (s.lanePut l d bs).hart l g = s.hart l g := fun g => by
    unfold State.hart
    rw [hln]
  have hrun : s.runOp l h false ((s.hart l h).pc + 4) (.store 3 a b off) = (s.lanePut l d bs, .ok) := by
    show s.runStore l h false ((s.hart l h).xr a + off) (leBytes 8 ((s.hart l h).xr b).toNat) = _
    unfold State.runStore State.hartWrite
    rw [hbs, hd, hbytes, hallowed]
    dsimp only
    rw [lanePlace_scratch hlow hhigh]
  have hdone : ended s l h (.store 3 a b off) (s.runOp l h false ((s.hart l h).pc + 4) (.store 3 a b off)) =
      (s.lanePut l d bs).setHart l h ((s.hart l h).moved ((s.hart l h).pc + 4)) := by
    rw [hrun]
    refine (State.retire1_moves _ l h _ ?_ ?_ rfl rfl).trans (by rw [hharts])
    · rw [State.laneLive_of_regs l hregs, State.laneLive_of_up r.up]
    · rw [hharts, r.noStep]
  obtain ⟨hscratch, hddr⟩ := (s.lanePut l d bs).memories_setHart l h ((s.hart l h).moved ((s.hart l h).pc + 4))
  rw [hln] at hscratch hddr
  refine gives_of_exec (r.exec_instruction _) (hdone ▸ ⟨movedOn_setHart rfl rfl hregs hjddr hlanes (fun g _ => hharts g), ?_, fun y hy => ?_, hddr, fun k => ?_⟩)
  · rw [hscratch, ← hbs, Mem.num_putBytes_leBytes]
    exact Nat.mod_eq_of_lt ((s.hart l h).xr b).isLt
  · rw [hscratch]
    exact Mem.rb_putBytes_outside _ bs (by omega)
  · rw [State.hart_setHart_same, HartSt.xr_moved]

/-- SC without a reservation writes 1 and no byte. -/
theorem gives_sc (r : Runs s l h) (rd a b : Fin 32) (hresv : (s.hart l h).resv = none)
    (hallowed : (s.hart l h).dataTrap false .store ((s.hart l h).xr a).toNat 8 = none) :
    Gives (.hartInstruction l h (.sc true rd a b) false []) s (fun t => MovedOn s l h t ∧ (rd ≠ 0 → (t.hart l h).xr rd = 1) ∧
      (t.ln l).scratch = (s.ln l).scratch ∧ (t.ln l).ddr = (s.ln l).ddr) := by
  obtain ⟨y, hy⟩ := (s.hart l h).setX_frame rd 1
  have hrun : s.runOp l h false ((s.hart l h).pc + 4) (.sc true rd a b) = s.keepHart l h { (s.hart l h).setX rd 1 with resv := none } := by
    show s.runSc l h false true rd ((s.hart l h).xr a) ((s.hart l h).xr b) = _
    unfold State.runSc
    dsimp only
    rw [if_pos rfl, hallowed, hresv]
    rfl
  have hown : ended s l h _ _ = _ := r.ended_own hrun (by rw [hy]) rfl rfl
  refine gives_of_exec (r.exec_instruction _) (hown ▸ ⟨r.movedOn_own (by rw [hy]) (by rw [hy]), fun h0 => ?_, s.memories_setHart l h _⟩)
  rw [State.hart_setHart_same, HartSt.xr_moved]
  exact ((s.hart l h).xr_setX rd rd 1).trans (if_pos ⟨rfl, h0⟩)

/-- What an exception leaves (R62). -/
def Trapped (s : State) (l : Lane) (h : Hart) (cause : BitVec 64) (t : State) : Prop :=
  (t.hart l h).csrRaw csrMepc = (s.hart l h).pc ∧ (t.hart l h).csrRaw csrMcause = cause ∧ (t.hart l h).machine = true ∧
  (t.hart l h).pc = (s.hart l h).csrRaw csrMtvec &&& ~~~3#64 ∧ (∀ r, (t.hart l h).xr r = (s.hart l h).xr r) ∧ t.regs = s.regs

/-- An exception of an instruction that left the hart as it was. -/
theorem trapped_raiseTrap (r : Runs s l h) {u : State} (hhart : u.hart l h = s.hart l h) (hregs : u.regs = s.regs) (cause : Nat) (v : BitVec 64) :
    Trapped s l h (BitVec.ofNat 64 cause) (u.raiseTrap l h cause v) := by
  obtain ⟨hepc, hcause, hmachine, hstep, hxr⟩ := (s.hart l h).trap_shows false cause v
  have htaken : u.raiseTrap l h cause v = u.setHart l h ((s.hart l h).trap false cause v) := by
    unfold State.raiseTrap State.afterStep
    rw [hhart, State.hart_setHart_same, hstep, r.noStep]
    rfl
  unfold Trapped
  rw [htaken, State.hart_setHart_same]
  exact ⟨hepc, hcause, hmachine, (s.hart l h).trap_exception_pc cause v, hxr, (u.regs_setHart l h _).trans hregs⟩

theorem gives_ecall (r : Runs s l h) :
    Gives (.hartInstruction l h .ecall false []) s (Trapped s l h (if (s.hart l h).machine then 11 else 8)) := by
  have htrap := r.trapped_raiseTrap (u := s) rfl rfl (if (s.hart l h).machine then 11 else 8) 0
  refine gives_of_exec (r.exec_instruction .ecall) ?_
  cases hm : (s.hart l h).machine <;> rw [hm] at htrap <;> simp only [State.runOp, hm] <;> exact htrap

theorem gives_illegal (r : Runs s l h) (w : Word) : Gives (.hartInstruction l h (.illegal w) false []) s (Trapped s l h 2) :=
  gives_of_exec (r.exec_instruction (.illegal w)) (r.trapped_raiseTrap (u := s.takeFree.2) rfl rfl 2 s.takeFree.1)

/-- MRET returns to mepc in the mode of MPP (R62). -/
theorem gives_mret (r : Runs s l h) (hmachine : (s.hart l h).machine = true) :
    Gives (.hartInstruction l h .mret false []) s (fun t => (t.hart l h).pc = (s.hart l h).csrRaw csrMepc ∧
      (t.hart l h).machine = (bitsOf ((s.hart l h).csrRaw csrMstatus).toNat 12 11 == 3) ∧ ∀ k, (t.hart l h).xr k = (s.hart l h).xr k) := by
  have hrun : s.runOp l h false ((s.hart l h).pc + 4) .mret = (s.setHart l h (s.hart l h).mret, .ok) := if_pos hmachine
  have hlive : (s.setHart l h (s.hart l h).mret).laneLive l = true := by
    rw [State.laneLive_of_regs l (s.regs_setHart l h _), State.laneLive_of_up r.up]
  have hdone : ended s l h .mret (s.runOp l h false ((s.hart l h).pc + 4) .mret) = s.setHart l h
      ((s.hart l h).mret.setCsr csrMinstret ((s.hart l h).mret.csrRaw csrMinstret + 1)) := by
    rw [hrun]
    show State.retire1 _ l h .mret _ = _
    unfold State.retire1 State.afterStep
    rw [if_pos hlive, State.hart_setHart_same]
    dsimp only
    rw [State.setHart_setHart]
    refine if_neg (Bool.eq_false_iff.mp ?_)
    rw [State.hart_setHart_same]
    exact r.noStep
  refine gives_of_exec (r.exec_instruction .mret) (hdone ▸ ?_)
  rw [State.hart_setHart_same]
  exact ⟨rfl, rfl, fun _ => rfl⟩

/-- WFI in machine mode (R68). -/
theorem gives_wfi (r : Runs s l h) (hmachine : (s.hart l h).machine = true) :
    Gives (.wfi l h) s (fun t => MovedOn s l h t ∧ (t.hart l h).gated = (s.hart l h).pendingIrq.isNone ∧
      ∀ k, (t.hart l h).xr k = (s.hart l h).xr k) := by
  have hrun : s.runOp l h false ((s.hart l h).pc + 4) .wfi = s.keepHart l h { s.hart l h with gated := (s.hart l h).pendingIrq.isNone } := by
    show s.runWfi l h false = _
    unfold State.runWfi
    exact (if_neg (by simp [hmachine])).trans (congrArg (fun b => s.keepHart l h { s.hart l h with gated := b }) (Bool.and_true _))
  have hown : ended s l h _ _ = _ := r.ended_own hrun rfl rfl rfl
  refine gives_of_exec r.exec_wfi (hown ▸ ⟨r.movedOn_own rfl rfl, ?_, fun k => ?_⟩)
  · rw [State.hart_setHart_same]; rfl
  · rw [State.hart_setHart_same]; rfl

end Runs

/-- HART_INTERRUPT (R68, R69): the clock runs again, and the interrupt is taken where it is enabled. -/
theorem gives_interrupt {s : State} {l : Lane} {h : Hart} (hup : s.hartUp l h = true) {b : Nat} (hb : (s.hart l h).pendingIrq = some b) :
    Gives (.hartInterrupt l h) s (fun t => (t.hart l h).gated = false ∧
      ((s.hart l h).irqOpen = true → (s.hart l h).step = false → (t.hart l h).csrRaw csrMepc = (s.hart l h).pc ∧
        (t.hart l h).csrRaw csrMcause = BitVec.ofNat 64 (b + 2 ^ 63) ∧ (t.hart l h).machine = true) ∧
      ((s.hart l h).irqOpen = false → (t.hart l h).pc = (s.hart l h).pc ∧ (t.hart l h).csr = (s.hart l h).csr)) := by
  generalize hy : ({ s.hart l h with gated := false } : HartSt) = y
  have hopen : y.irqOpen = (s.hart l h).irqOpen := by subst hy; rfl
  have hexec : exec (.hartInterrupt l h) s = .next (s.setHart l h (if y.irqOpen && !y.step then y.trap true b 0 else y)) := by
    refine congrArg Host.Outcome.next ((if_pos hup).trans ?_)
    rw [hb, ← hy]
  refine gives_of_exec hexec ?_
  rw [State.hart_setHart_same, hopen]
  refine ⟨?_, fun hirq hstep => ?_, fun hirq => ?_⟩
  · split <;> subst hy <;> rfl
  · obtain ⟨hepc, hcause, hmachine, -⟩ := y.trap_shows true b 0
    have hstep' : y.step = false := by subst hy; exact hstep
    rw [hirq, hstep']
    exact ⟨by subst hy; exact hepc, hcause, hmachine⟩
  · rw [hirq]
    subst hy
    exact ⟨rfl, rfl⟩

/-- A hart that is not up executes nothing (R83). -/
theorem gives_nothing {s : State} {l : Lane} {h : Hart} (hdown : s.hartUp l h = false) (op : RvOp) (short : Bool) (ahead : List (BitVec 64)) :
    Gives (.hartInstruction l h op short ahead) s (fun t => t = s) ∧ Gives (.wfi l h) s (fun t => t = s) ∧
    Gives (.hartInterrupt l h) s (fun t => t = s) := by
  have hidle : ¬ (s.hartUp l h && !(s.hart l h).gated) = true := by simp [hdown]
  have hdown' : ¬ s.hartUp l h = true := Bool.eq_false_iff.mp hdown
  exact ⟨gives_of_exec (congrArg Host.Outcome.next (if_neg hidle)) rfl, gives_of_exec (congrArg Host.Outcome.next (if_neg hidle)) rfl,
    gives_of_exec (congrArg Host.Outcome.next (if_neg hdown')) rfl⟩

/-- Settles O21, kind of instruction by kind of instruction. -/
theorem hartExecution : Obligations.HartExecution := by
  unfold Obligations.HartExecution
  intro s l h
  refine ⟨fun ⟨hup, hclock, hstep, hlow, hhigh, hfirst, hsecond⟩ => ?_, fun hup b hb => gives_interrupt hup hb,
    fun hdown op short ahead => gives_nothing hdown op short ahead⟩
  have r : Runs s l h := ⟨hup, hclock, hstep, hlow, hhigh, hfirst, hsecond⟩
  exact ⟨fun op rd a b => r.gives_setX (op := .alu op rd a b) rfl rfl rfl, fun a b off hlow hhigh hallowed hresv => r.gives_store a b off hlow hhigh hallowed hresv,
    fun rd a off hlow hhigh hallowed => r.gives_load rd a off hlow hhigh hallowed, fun rd a b hresv hallowed => r.gives_sc rd a b hresv hallowed,
    r.gives_ecall, r.gives_illegal, r.gives_mret, r.gives_wfi⟩

end Sys2Proof.Machine
end

section
/-! PROOF. Membership, notices and reports of the vote unit (R29, R87, R95, R99, R105, R107, R109, R111, R119; O17): what an exclusion and
what follows it leave of the other lanes' seats, and each command of the family. -/

namespace Sys2Proof.Machine

/-! ### Records -/

/-- The registers that records in the Welt and the trouble log touch (R453, R456, R461). -/
def logKeys : List Nat := [Reg.WL_FROZEN_EVENTS, Reg.WL_LOST, Reg.WL_STATUS, Reg.TL_STATUS]

/-- Nothing differs but the records' own registers and the two queues. -/
structure Noted (s t : State) : Prop where
  frame : ∃ r w q, t = { s with regs := r, welt := w, tWait := q }
  kept : RegsKept logKeys s t

namespace Noted

variable {s t u : State}

theorem refl (s : State) : Noted s s := ⟨⟨s.regs, s.welt, s.tWait, rfl⟩, RegsKept.refl _ s⟩

theorem trans (h1 : Noted s t) (h2 : Noted t u) : Noted s u := by
  obtain ⟨⟨_, _, _, rfl⟩, hkept⟩ := h1
  obtain ⟨⟨r, w, q, rfl⟩, hkept'⟩ := h2
  exact ⟨⟨r, w, q, rfl⟩, hkept.trans hkept'⟩

theorem ite {c : Prop} [Decidable c] (ht : Noted s t) (hu : Noted s u) : Noted s (if c then t else u) := by
  split
  · exact ht
  · exact hu

theorem wr (h : Noted s t) {f : Field} (v : Nat) (hf : f.addr ∈ logKeys) : Noted s (t.wr f v) := by
  obtain ⟨r, hr⟩ := (RegsOnly.refl t).wr f v
  exact h.trans ⟨⟨r, t.welt, t.tWait, hr⟩, (RegsKept.refl _ t).wr v hf⟩

theorem setWelt (h : Noted s t) (w : WeltSt) : Noted s { t with welt := w } := h.trans ⟨⟨t.regs, w, t.tWait, rfl⟩, RegsKept.of_regs rfl⟩

theorem setWait (h : Noted s t) (q : List TCause) : Noted s { t with tWait := q } := h.trans ⟨⟨t.regs, t.welt, q, rfl⟩, RegsKept.of_regs rfl⟩

theorem weltEvent (h : Noted s t) (src code data : Nat) : Noted s (t.weltEvent src code data) := by
  have hlost := h.wr (f := Fld.WL_LOST_COUNT) (satAdd (2 ^ (Fld.WL_LOST_COUNT.hi + 1 - Fld.WL_LOST_COUNT.lo) - 1) (t.rd Fld.WL_LOST_COUNT) 1) (by decide)
  have hfrozen := h.wr (f := Fld.WL_FROZEN_EVENTS_COUNT)
    (satAdd (2 ^ (Fld.WL_FROZEN_EVENTS_COUNT.hi + 1 - Fld.WL_FROZEN_EVENTS_COUNT.lo) - 1) (t.rd Fld.WL_FROZEN_EVENTS_COUNT) 1) (by decide)
  exact ((((h.setWelt _).ite (h.setWelt _))).ite hfrozen).ite (hlost.ite ((h.setWelt _).wr (f := Fld.WL_STATUS_QUEUED) _ (by decide)))

theorem trouble (h : Noted s t) (src off bit code : Nat) (detail : List Nat) : Noted s (t.trouble src off bit code detail) :=
  (h.wr (f := Fld.TL_STATUS_TSEQ) _ (by decide)).ite (h.setWait _)

theorem troubleAt (h : Noted s t) (f : Field) (detail : List Nat) : Noted s (t.troubleAt f detail) := h.trouble _ _ _ _ _

theorem recordFault (h : Noted s t) (l : Lane) (cause group time : Nat) : Noted s (t.recordFault l cause group time) :=
  (h.weltEvent _ _ _).troubleAt _ _

theorem lane (h : Noted s t) : t.lane = s.lane := by obtain ⟨⟨_, _, _, rfl⟩, -⟩ := h; rfl
theorem vote (h : Noted s t) : t.vote = s.vote := by obtain ⟨⟨_, _, _, rfl⟩, -⟩ := h; rfl
theorem fq (h : Noted s t) : t.fq = s.fq := by obtain ⟨⟨_, _, _, rfl⟩, -⟩ := h; rfl

end Noted

/-! ### The plain effect of a write -/

theorem LogOnly.trans {s t u : State} (h1 : LogOnly s t) (h2 : LogOnly t u) : LogOnly s u := by
  obtain ⟨_, _, rfl⟩ := h1
  obtain ⟨r, w, rfl⟩ := h2
  exact ⟨r, w, rfl⟩

/-- A write's plain effect touches registers and the causes waiting for the trouble log alone. -/
theorem State.merge_logOnly (s : State) (k : Nat) (w : Word) : LogOnly s (s.merge k w) := by
  have hlead : ∀ t : State, LogOnly t (t.noteLead k w) := fun t => by
    unfold State.noteLead
    dsimp only
    split
    · exact t.trouble_logOnly _ _ _ _ _
    · exact LogOnly.refl t
  unfold State.merge
  split
  · exact LogOnly.refl s
  · split
    · exact LogOnly.refl s
    · next d hd =>
      split
      · split
        · exact (LogOnly.refl s).setReg _ _
        · exact LogOnly.refl s
      · exact ((s.noteSealed_logOnly w hd).trans (hlead _)).setReg _ _

/-- A write's plain effect touches its own register and the trouble log's. -/
theorem State.merge_kept (s : State) (k : Nat) (w : Word) : RegsKept [k, Reg.TL_STATUS] s (s.merge k w) := by
  have htrouble : ∀ (t : State) (src off bit code : Nat) (detail : List Nat), RegsKept [k, Reg.TL_STATUS] t (t.trouble src off bit code detail) :=
    fun t src off bit code detail j hj => t.reg_trouble _ _ _ _ _ (hj Reg.TL_STATUS (.tail _ (.head _)))
  have hlead : ∀ t : State, RegsKept [k, Reg.TL_STATUS] t (t.noteLead k w) := fun t => (htrouble t _ _ _ _ _).ite (RegsKept.refl _ t)
  unfold State.merge
  split
  · exact RegsKept.refl _ s
  · split
    · exact RegsKept.refl _ s
    · next d hd =>
      split
      · exact ((RegsKept.refl _ s).setReg _ (.head _)).ite (RegsKept.refl _ s)
      · have hsealed : RegsKept [k, Reg.TL_STATUS] s (s.noteSealed k w) := fun j hj => s.reg_noteSealed w hd (hj Reg.TL_STATUS (.tail _ (.head _)))
        exact (hsealed.trans (hlead _)).setReg _ (.head _)

/-- A permitted command at a register: its plain effect, its own effect and the answer. -/
theorem State.regCmd_of_may (s : State) {i : Initiator} {k : Nat} (w : Word) (eff : State → State) (hmay : s.mayWrite i k = true) :
    s.regCmd i k w eff = (eff (s.merge k w)).respond i .done := if_pos hmay

/-! ### Lanes in the vote -/

theorem memberFld_addr (l : Lane) : (memberFld l).addr = Reg.VT_LANE_STATE := by cases l <;> rfl

theorem causeFld_addr (l : Lane) : (causeFld l).addr = Reg.VT_LANE_STATE := by cases l <;> rfl

theorem State.setMember_regsOnly (s : State) (l : Lane) (m : Nat) : RegsOnly s (s.setMember l m) := (((RegsOnly.refl s).wr _ _).wr _ _).wr _ _

/-- What follows the membership field in `setMember` leaves the lanes' seats. -/
theorem State.rd_setMember_seat (s : State) (l : Lane) (m : Nat) {f : Field} (hf : f.addr = Reg.VT_LANE_STATE) :
    (s.setMember l m).rd f = (s.wr (memberFld l) m).rd f := by
  unfold State.setMember State.wrBit
  rw [State.rd_wr_reg _ _ _ _ (by rw [hf]; exact (by decide : homeKey Reg.VT_LANE_STATE ≠ homeKey Reg.JC_MOD_STATUS))]
  exact State.rd_wr_reg _ (Fld.LC_LANE_STATUS_VOTING l) f _ (by rw [hf]; cases l <;> decide)

/-- A lane put into a membership state is in it. -/
theorem State.member_setMember_same (s : State) (l : Lane) {m : Nat} (hm : m < 16) : (s.setMember l m).member l = m := by
  unfold State.member
  rw [s.rd_setMember_seat l m (memberFld_addr l), State.rd_wr_same _ _ _ (by cases l <;> decide)]
  cases l <;> exact Nat.mod_eq_of_lt hm

/-- The seat of lane `l` is as before: its membership and its last cause. -/
structure SeatKept (l : Lane) (s t : State) : Prop where
  member : t.member l = s.member l
  cause : t.rd (causeFld l) = s.rd (causeFld l)

namespace SeatKept

variable {l : Lane} {s t u : State}

theorem refl (l : Lane) (s : State) : SeatKept l s s := ⟨rfl, rfl⟩

theorem trans (h1 : SeatKept l s t) (h2 : SeatKept l t u) : SeatKept l s u := ⟨h2.member.trans h1.member, h2.cause.trans h1.cause⟩

theorem ite {c : Prop} [Decidable c] (ht : SeatKept l s t) (hu : SeatKept l s u) : SeatKept l s (if c then t else u) := by
  split
  · exact ht
  · exact hu

theorem foldl {α : Type} {g : State → α → State} (xs : List α) (h : SeatKept l s t) (hg : ∀ u, ∀ x ∈ xs, SeatKept l u (g u x)) :
    SeatKept l s (xs.foldl g t) := by
  induction xs generalizing t with
  | nil => exact h
  | cons x xs ih => exact ih (h.trans (hg t x (.head _))) (fun u y hy => hg u y (.tail _ hy))

/-- Registers beside VT.LANE_STATE. -/
theorem kept (h : SeatKept l s t) {ks : List Nat} (hk : RegsKept ks t u) (hks : ∀ j ∈ ks, homeKey Reg.VT_LANE_STATE ≠ homeKey j) : SeatKept l s u :=
  h.trans ⟨hk.rd (f := memberFld l) (by rw [memberFld_addr]; exact hks), hk.rd (f := causeFld l) (by rw [causeFld_addr]; exact hks)⟩

theorem regs (h : SeatKept l s t) (hregs : u.regs = t.regs) : SeatKept l s u :=
  h.kept (RegsKept.of_regs (ks := []) hregs) (fun _ hj => absurd hj List.not_mem_nil)

theorem noted (h : SeatKept l s t) (hn : Noted t u) : SeatKept l s u := h.kept hn.kept (by decide)

/-- A field of another lane's seat. -/
theorem wr_other (h : SeatKept l s t) {m : Lane} (hm : m ≠ l) {f : Field} (hf : f = memberFld m ∨ f = causeFld m) (v : Nat) : SeatKept l s (t.wr f v) := by
  refine h.trans ⟨t.rd_wr_beside f (memberFld l) v ?_ ?_ ?_, t.rd_wr_beside f (causeFld l) v ?_ ?_ ?_⟩ <;>
    rcases hf with rfl | rfl <;> revert hm <;> cases l <;> cases m <;> decide

/-- A field of VT.LANE_x_INFO. -/
theorem wr_info (h : SeatKept l s t) {m : Lane} {f : Field} (v : Nat) (hf : f.addr = infoKey m) : SeatKept l s (t.wr f v) :=
  h.kept ((RegsKept.refl [infoKey m] t).wr v (hf ▸ .head _)) (by cases m <;> decide)

theorem bump_info (h : SeatKept l s t) {m : Lane} {f : Field} (hf : f.addr = infoKey m) : SeatKept l s (t.bump f) := h.wr_info _ hf

theorem setMember (h : SeatKept l s t) {m : Lane} (hm : m ≠ l) (v : Nat) : SeatKept l s (t.setMember m v) := by
  exact h.trans ⟨(t.rd_setMember_seat m v (memberFld_addr l)).trans ((SeatKept.refl l t).wr_other hm (.inl rfl) v).member,
    (t.rd_setMember_seat m v (causeFld_addr l)).trans ((SeatKept.refl l t).wr_other hm (.inl rfl) v).cause⟩

end SeatKept

/-- The registers and membership of a lane that enters EXCLUDED, before the records (R99, R121). -/
def State.markExcluded (s : State) (l : Lane) (cause word : Nat) : State :=
  let s1 := ((s.setMember l Mbr.excluded).wr (causeFld l) cause).bump (exclFld l)
  if cause = 2 ∨ cause = 3 ∨ cause = 8 then s1.wr (disWordFld l) word else s1

/-- The records of an exclusion, and the boundary after which an automatic readmission may follow (R100, R111). -/
def State.noteExcluded (s : State) (l : Lane) (cause word k : Nat) : State :=
  let s3 := ((s.weltEvent 4 0x10 (l.num + cause * 2 ^ 8 + word * 2 ^ 16 + k % 2 ^ 32 * 2 ^ 32)).troubleAt (causeFld l)
    [l.num, cause, word, k % 2 ^ 32]).set1 Fld.JC_HOST_ALERT_EXCL
  { s3 with vote := { s3.vote with autoAt := s3.vote.autoAt.put l (some k) } }

theorem State.excludeLane_eq (s : State) (l : Lane) (cause word : Nat) : s.excludeLane l cause word =
    if cause = 1 ∨ cause = 6 then (s.markExcluded l cause word).noteExcluded l cause word s.cyc.k
    else ((s.markExcluded l cause word).noteExcluded l cause word s.cyc.k).stopLane l := rfl

theorem State.markExcluded_regsOnly (s : State) (l : Lane) (cause word : Nat) : RegsOnly s (s.markExcluded l cause word) := by
  have hmarked := (((s.setMember_regsOnly l Mbr.excluded).wr (causeFld l) cause).bump (exclFld l))
  exact (hmarked.wr _ _).ite hmarked

/-- The lane that is excluded shows it with the cause. -/
theorem State.markExcluded_shows (s : State) (l : Lane) {cause : Nat} (word : Nat) (hc : cause < 16) :
    (s.markExcluded l cause word).member l = Mbr.excluded ∧ (s.markExcluded l cause word).rd (causeFld l) = cause := by
  have hcause : ((s.setMember l Mbr.excluded).wr (causeFld l) cause).rd (causeFld l) = cause := by
    rw [State.rd_wr_same _ _ _ (by cases l <;> decide)]
    cases l <;> exact Nat.mod_eq_of_lt hc
  have hmember : ((s.setMember l Mbr.excluded).wr (causeFld l) cause).member l = Mbr.excluded :=
    (State.rd_wr_beside _ (causeFld l) (memberFld l) cause (by cases l <;> decide) (by cases l <;> rfl) (by cases l <;> decide)).trans
      (s.member_setMember_same l (by decide))
  generalize hu : (s.setMember l Mbr.excluded).wr (causeFld l) cause = u at hcause hmember
  have hseat : SeatKept l u (s.markExcluded l cause word) := by
    have hbumped := (SeatKept.refl l u).bump_info (m := l) (f := exclFld l) rfl
    unfold State.markExcluded
    rw [hu]
    exact (hbumped.wr_info (m := l) (f := disWordFld l) word rfl).ite hbumped
  exact ⟨hseat.member.trans hmember, hseat.cause.trans hcause⟩

/-- Another lane's seat does not change. -/
theorem State.markExcluded_other (s : State) {l m : Lane} (hm : m ≠ l) (cause word : Nat) : SeatKept l s (s.markExcluded m cause word) := by
  have hbumped := (((SeatKept.refl l s).setMember hm Mbr.excluded).wr_other hm (.inr rfl) cause).bump_info (m := m) (f := exclFld m) rfl
  exact (hbumped.wr_info (m := m) (f := disWordFld m) word rfl).ite hbumped

/-- The records of an exclusion change no seat, no lane and no FQ8, nor the readmission under way. -/
theorem State.noteExcluded_frame (s : State) (l : Lane) (cause word k : Nat) :
    (∀ m, SeatKept m s (s.noteExcluded l cause word k)) ∧ (s.noteExcluded l cause word k).lane = s.lane ∧
    (s.noteExcluded l cause word k).vote.readmit = s.vote.readmit := by
  have hnoted := ((Noted.refl s).weltEvent 4 0x10 (l.num + cause * 2 ^ 8 + word * 2 ^ 16 + k % 2 ^ 32 * 2 ^ 32)).troubleAt (causeFld l)
    [l.num, cause, word, k % 2 ^ 32]
  unfold State.noteExcluded
  generalize (s.weltEvent _ _ _).troubleAt _ _ = u at hnoted
  have hset := (RegsOnly.refl u).wr Fld.JC_HOST_ALERT_EXCL 1
  refine ⟨fun m => ?_, hset.lane.trans hnoted.lane, (congrArg VoteSt.readmit (hset.vote.trans hnoted.vote) :)⟩
  have halert : SeatKept m s (u.set1 Fld.JC_HOST_ALERT_EXCL) :=
    ((SeatKept.refl m s).noted hnoted).kept ((RegsKept.refl [Reg.JC_HOST_ALERT] u).wr (f := Fld.JC_HOST_ALERT_EXCL) 1 (.head _)) (by decide)
  exact halert.regs rfl


/-- Every lane's withdrawal notice on its way is as before. -/
def NoticesKept (s t : State) : Prop := ∀ m, (t.ln m).withdrawal = (s.ln m).withdrawal

namespace NoticesKept

variable {s t u : State}

theorem refl (s : State) : NoticesKept s s := fun _ => rfl

theorem trans (h1 : NoticesKept s t) (h2 : NoticesKept t u) : NoticesKept s u := fun m => (h2 m).trans (h1 m)

theorem of_lane (h : t.lane = s.lane) : NoticesKept s t := fun m => congrArg (fun x : Tri LaneSt => (x.get m).withdrawal) h

theorem ite {c : Prop} [Decidable c] (ht : NoticesKept s t) (hu : NoticesKept s u) : NoticesKept s (if c then t else u) := by
  split
  · exact ht
  · exact hu

theorem foldl {α : Type} {g : State → α → State} (xs : List α) (h : NoticesKept s t) (hg : ∀ u, ∀ x ∈ xs, NoticesKept u (g u x)) :
    NoticesKept s (xs.foldl g t) := by
  induction xs generalizing t with
  | nil => exact h
  | cons x xs ih => exact ih (h.trans (hg t x (.head _))) (fun u y hy => hg u y (.tail _ hy))

theorem only (h : NoticesKept s t) (hr : RegsOnly t u) : NoticesKept s u := h.trans (of_lane hr.lane)

theorem modLn (h : NoticesKept s t) (l : Lane) {g : LaneSt → LaneSt} (hg : ∀ n, (g n).withdrawal = n.withdrawal) : NoticesKept s (t.modLn l g) := by
  refine h.trans (fun m => ?_)
  rw [State.ln_modLn]
  split
  next hm => rw [hm, hg]
  next => rfl

theorem stopLane (h : NoticesKept s t) (l : Lane) : NoticesKept s (t.stopLane l) := by
  refine h.trans (fun m => ?_)
  by_cases hm : m = l
  · obtain ⟨x, hx⟩ := t.ln_stopLane_same l
    rw [hm, hx]
    rfl
  · rw [t.ln_stopLane_ne hm]

end NoticesKept

/-! ### An exclusion and what follows it -/

theorem State.excludeLane_notices (s : State) (l : Lane) (cause word : Nat) : NoticesKept s (s.excludeLane l cause word) := by
  have hmarked := (NoticesKept.refl s).only (s.markExcluded_regsOnly l cause word)
  have hnoted := hmarked.trans (.of_lane ((s.markExcluded l cause word).noteExcluded_frame l cause word s.cyc.k).2.1)
  rw [s.excludeLane_eq l cause word]
  exact hnoted.ite (hnoted.stopLane l)

theorem SeatKept.stopLane {l : Lane} {s t : State} (h : SeatKept l s t) (m : Lane) : SeatKept l s (t.stopLane m) :=
  h.kept (t.stopLane_kept m) (by cases m <;> decide)

/-- An exclusion of another lane leaves a lane's seat. -/
theorem State.excludeLane_other (s : State) {l m : Lane} (hm : m ≠ l) (cause word : Nat) : SeatKept l s (s.excludeLane m cause word) := by
  have hnoted := (s.markExcluded_other hm cause word).trans (((s.markExcluded m cause word).noteExcluded_frame m cause word s.cyc.k).1 l)
  rw [s.excludeLane_eq m cause word]
  exact hnoted.ite (hnoted.stopLane m)

/-- A lane excluded by its own withdrawal is EXCLUDED with cause 1, and the readmission under way stays (R95, R99). -/
theorem State.excludeLane_withdrawn (s : State) (l : Lane) (word : Nat) : (s.excludeLane l 1 word).member l = Mbr.excluded ∧
    (s.excludeLane l 1 word).rd (causeFld l) = 1 ∧ (s.excludeLane l 1 word).vote.readmit = s.vote.readmit := by
  obtain ⟨hmember, hcause⟩ := s.markExcluded_shows l word (cause := 1) (by decide)
  obtain ⟨hseat, -, hreadmit⟩ := (s.markExcluded l 1 word).noteExcluded_frame l 1 word s.cyc.k
  have heq : s.excludeLane l 1 word = (s.markExcluded l 1 word).noteExcluded l 1 word s.cyc.k :=
    (s.excludeLane_eq l 1 word).trans (if_pos (.inl rfl))
  rw [heq]
  exact ⟨(hseat l).member.trans hmember, (hseat l).cause.trans hcause, hreadmit.trans (congrArg VoteSt.readmit (s.markExcluded_regsOnly l 1 word).vote)⟩

theorem State.relapse_regsOnly (s : State) (l : Lane) : RegsOnly s (s.relapse l) := by
  have hbumped := (RegsOnly.refl s).bump (relapseFld l)
  exact (hbumped.trans ((s.bump (relapseFld l)).setMember_regsOnly l Mbr.locked)).ite hbumped

theorem State.relapse_other (s : State) {l m : Lane} (hm : m ≠ l) : SeatKept l s (s.relapse m) := by
  have hbumped := (SeatKept.refl l s).bump_info (m := m) (f := relapseFld m) rfl
  exact (hbumped.setMember hm Mbr.locked).ite hbumped

/-- The registers that the end of a readmission touches (R117). -/
def readmitKeys : List Nat := [Reg.VT_READMIT_STATUS, Reg.VT_STATUS]

theorem State.endReadmit_kept (s : State) (res : Nat) : RegsKept readmitKeys s (s.endReadmit res) := by
  have hended : RegsKept readmitKeys s { s with vote := { s.vote with readmit := none } } := RegsKept.of_regs rfl
  exact (((((hended.wr (f := Fld.VT_READMIT_STATUS_RESULT) _ (by decide)).wr (f := Fld.VT_READMIT_STATUS_PHASE) _ (by decide)).wr
    (f := Fld.VT_READMIT_STATUS_RECEIVER) _ (by decide)).wr (f := Fld.VT_STATUS_DONOR) _ (by decide)).wr (f := Fld.VT_STATUS_READMIT_BUSY) _ (by decide))

theorem State.endReadmit_notices (s : State) (res : Nat) : NoticesKept s (s.endReadmit res) := by
  have hended : NoticesKept s { s with vote := { s.vote with readmit := none } } := .of_lane rfl
  exact hended.only ((((((RegsOnly.refl _).wr _ _).wr _ _).wr _ _).wr _ _).wr _ _)

theorem State.failReadmit_notices (s : State) (res : Nat) : NoticesKept s (s.failReadmit res) := by
  unfold State.failReadmit
  split
  · exact .refl s
  · next r _ =>
    have hout := (s.endReadmit_notices res).trans ((s.endReadmit res).excludeLane_notices r.receiver 7 0)
    exact hout.ite (hout.only (State.relapse_regsOnly _ r.receiver))

/-- A readmission of another receiver that fails leaves a lane's seat. -/
theorem State.failReadmit_other (s : State) {l : Lane} (res : Nat) (h : ∀ r, s.vote.readmit = some r → r.receiver ≠ l) :
    SeatKept l s (s.failReadmit res) := by
  unfold State.failReadmit
  split
  · exact .refl l s
  · next r hr =>
    have hout := ((SeatKept.refl l s).kept (s.endReadmit_kept res) (by decide)).trans ((s.endReadmit res).excludeLane_other (h r hr) 7 0)
    exact hout.ite (hout.trans (State.relapse_other _ (h r hr)))

theorem State.returnGrant_kept (s : State) (l : Lane) : RegsKept [Reg.LC_DBG_STATUS l] s (s.returnGrant l) := by
  have hgiven : RegsKept [Reg.LC_DBG_STATUS l] s { s with vote := { s.vote with grant := none } } := RegsKept.of_regs rfl
  exact (hgiven.wr (f := Fld.LC_DBG_STATUS_GRANT l) 0 (.head _)).ite (RegsKept.refl _ s)

theorem State.returnGrant_frame (s : State) (l : Lane) : (s.returnGrant l).lane = s.lane ∧ (s.returnGrant l).vote.readmit = s.vote.readmit := by
  unfold State.returnGrant
  split
  · have hgiven := (RegsOnly.refl ({ s with vote := { s.vote with grant := none } } : State)).wr (Fld.LC_DBG_STATUS_GRANT l) 0
    exact ⟨hgiven.lane, (congrArg VoteSt.readmit hgiven.vote :)⟩
  · exact ⟨rfl, rfl⟩

/-- A voting lane without its action 1 triggers and debug grant (R86). -/
def State.clearTriggersOf (t : State) (l : Lane) : State :=
  let t1 := if (t.ln l).dbgReq.isSome then t.set1 (Fld.LC_DBG_STATUS_HALT_REFUSED l) else t
  ((t1.modLn l (fun n => { n with h0 := n.h0.disarm, h1 := n.h1.disarm, dbgReq := none })).set1
    (Fld.LC_DBG_STATUS_TRIG_CLEARED l)).returnGrant l

theorem State.clearTriggers_eq (s : State) : s.clearTriggers = if (decide (s.numVoting < 3) && s.flag Fld.JC_MOD_STATUS_PERMITS) = true then
    lanes.foldl (fun t l => if t.votes l then t.clearTriggersOf l else t) s else s := rfl

theorem State.clearTriggersOf_frame (t : State) (m : Lane) : (∀ l, SeatKept l t (t.clearTriggersOf m)) ∧ NoticesKept t (t.clearTriggersOf m) ∧
    (t.clearTriggersOf m).vote.readmit = t.vote.readmit := by
  have hrefused : RegsOnly t (if (t.ln m).dbgReq.isSome then t.set1 (Fld.LC_DBG_STATUS_HALT_REFUSED m) else t) :=
    ((RegsOnly.refl t).wr _ _).ite (.refl t)
  have hkept : RegsKept [Reg.LC_DBG_STATUS m] t (if (t.ln m).dbgReq.isSome then t.set1 (Fld.LC_DBG_STATUS_HALT_REFUSED m) else t) :=
    ((RegsKept.refl _ t).wr (f := Fld.LC_DBG_STATUS_HALT_REFUSED m) 1 (.head _)).ite (.refl _ t)
  unfold State.clearTriggersOf
  dsimp only
  generalize (if (t.ln m).dbgReq.isSome then t.set1 (Fld.LC_DBG_STATUS_HALT_REFUSED m) else t) = t1 at hrefused hkept
  have hdisarmed : NoticesKept t (t1.modLn m (fun n => { n with h0 := n.h0.disarm, h1 := n.h1.disarm, dbgReq := none })) :=
    ((NoticesKept.refl t).only hrefused).modLn m (fun _ => rfl)
  have hkept1 : RegsKept [Reg.LC_DBG_STATUS m] t (t1.modLn m (fun n => { n with h0 := n.h0.disarm, h1 := n.h1.disarm, dbgReq := none })) := hkept
  have hvote : (t1.modLn m (fun n => { n with h0 := n.h0.disarm, h1 := n.h1.disarm, dbgReq := none })).vote = t.vote := hrefused.vote
  generalize t1.modLn m _ = t2 at hdisarmed hkept1 hvote
  have hshown := (RegsOnly.refl t2).wr (Fld.LC_DBG_STATUS_TRIG_CLEARED m) 1
  have hkept2 := hkept1.wr (f := Fld.LC_DBG_STATUS_TRIG_CLEARED m) 1 (.head _)
  obtain ⟨hlane, hreadmit⟩ := (t2.set1 (Fld.LC_DBG_STATUS_TRIG_CLEARED m)).returnGrant_frame m
  refine ⟨fun l => (SeatKept.refl l t).kept (hkept2.trans (State.returnGrant_kept _ m)) (by cases m <;> decide),
    (hdisarmed.only hshown).trans (.of_lane hlane), ?_⟩
  exact hreadmit.trans (congrArg VoteSt.readmit (hshown.vote.trans hvote))

theorem State.clearTriggers_frame (s : State) : (∀ l, SeatKept l s s.clearTriggers) ∧ NoticesKept s s.clearTriggers ∧
    s.clearTriggers.vote.readmit = s.vote.readmit := by
  rw [s.clearTriggers_eq]
  refine ⟨fun l => ?_, ?_, ?_⟩
  · exact ((SeatKept.refl l s).foldl lanes (fun u m _ => ((u.clearTriggersOf_frame m).1 l).ite (.refl l u))).ite (.refl l s)
  · exact ((NoticesKept.refl s).foldl lanes (fun u m _ => ((u.clearTriggersOf_frame m).2.1).ite (.refl u))).ite (.refl s)
  · split
    · refine foldl_keeps (fun t : State => t.vote.readmit) lanes s (fun u m _ => ?_)
      split
      · exact (u.clearTriggersOf_frame m).2.2
      · rfl
    · rfl

/-- The state in which a lane's loss is followed up: the master's office noted, the triggers cleared (R29, R86). -/
def State.lossNoted (s : State) (l : Lane) : State :=
  (if s.svcMaster = some l then { s with cyc := { s.cyc with svcLeft := some s.cyc.k } } else s).clearTriggers

theorem State.lossNoted_frame (s : State) (l : Lane) : (∀ m, SeatKept m s (s.lossNoted l)) ∧ NoticesKept s (s.lossNoted l) ∧
    (s.lossNoted l).vote.readmit = s.vote.readmit := by
  have hleft : ∀ c : CycSt, (∀ m, SeatKept m s ({ s with cyc := c } : State).clearTriggers) ∧ NoticesKept s ({ s with cyc := c } : State).clearTriggers ∧
      ({ s with cyc := c } : State).clearTriggers.vote.readmit = s.vote.readmit := fun c =>
    ⟨fun m => ((SeatKept.refl m s).regs (u := { s with cyc := c }) rfl).trans ((State.clearTriggers_frame _).1 m),
      (NoticesKept.of_lane (t := { s with cyc := c }) rfl).trans (State.clearTriggers_frame _).2.1, (State.clearTriggers_frame _).2.2⟩
  unfold State.lossNoted
  split
  · exact hleft _
  · exact s.clearTriggers_frame

/-- A readmission that a lane's loss ends, or none (R117). -/
theorem State.afterLoss_cases (s : State) (l : Lane) : s.afterLoss l = s.lossNoted l ∨ ∃ res, s.afterLoss l = (s.lossNoted l).failReadmit res := by
  have heq : s.afterLoss l = match (s.lossNoted l).vote.readmit with
    | none => s.lossNoted l
    | some r =>
      if r.donor = l then (s.lossNoted l).failReadmit 3
      else if r.receiver = l then s.lossNoted l
      else if (s.lossNoted l).numVoting < 2 then (s.lossNoted l).failReadmit 2
      else s.lossNoted l := rfl
  rw [heq]
  split
  · exact .inl rfl
  · split
    · exact .inr ⟨3, rfl⟩
    · split
      · exact .inl rfl
      · split
        · exact .inr ⟨2, rfl⟩
        · exact .inl rfl

theorem State.afterLoss_notices (s : State) (l : Lane) : NoticesKept s (s.afterLoss l) := by
  obtain ⟨-, hnoted, -⟩ := s.lossNoted_frame l
  rcases s.afterLoss_cases l with h | ⟨res, h⟩
  · rw [h]; exact hnoted
  · rw [h]; exact hnoted.trans (State.failReadmit_notices _ res)

/-- What follows a lane's loss leaves its own seat, unless it is a readmission's receiver. -/
theorem State.afterLoss_own (s : State) (l : Lane) (h : ∀ r, s.vote.readmit = some r → r.receiver ≠ l) : SeatKept l s (s.afterLoss l) := by
  obtain ⟨hseat, -, hreadmit⟩ := s.lossNoted_frame l
  rcases s.afterLoss_cases l with heq | ⟨res, heq⟩
  · rw [heq]; exact hseat l
  · rw [heq]; exact (hseat l).trans (State.failReadmit_other _ res (fun r hr => h r (hreadmit ▸ hr)))

theorem State.exclude_notices (s : State) (l : Lane) (cause word : Nat) : NoticesKept s (s.exclude l cause word) := by
  have hout := s.excludeLane_notices l cause word
  exact ((hout.only (State.relapse_regsOnly _ l)).ite hout).trans (State.afterLoss_notices _ l)

/-- A voting lane that withdraws is EXCLUDED with cause 1 (R95). -/
theorem State.exclude_withdrawn (s : State) (l : Lane) (hfresh : s.freshVoter l = false) (h : ∀ r, s.vote.readmit = some r → r.receiver ≠ l) :
    (s.exclude l 1 0).member l = Mbr.excluded ∧ (s.exclude l 1 0).rd (causeFld l) = 1 := by
  obtain ⟨hmember, hcause, hreadmit⟩ := s.excludeLane_withdrawn l 0
  have heq : s.exclude l 1 0 = (s.excludeLane l 1 0).afterLoss l := by
    unfold State.exclude
    rw [hfresh]
    exact congrArg (fun t : State => t.afterLoss l) (if_neg Bool.false_ne_true)
  have hseat := (s.excludeLane l 1 0).afterLoss_own l (fun r hr => h r (hreadmit ▸ hr))
  rw [heq]
  exact ⟨hseat.member.trans hmember, hseat.cause.trans hcause⟩

/-- The lane without its hand-over (R81). -/
def State.unheard (s : State) (l : Lane) : State := s.modLn l (fun n => { n with handover := none })

/-- The lane taken from those present in this cycle (R81, R93). -/
def State.leftOut (s : State) (l : Lane) : State :=
  { s.unheard l with vote := { s.vote with present := s.vote.present.put l false, hand := s.vote.hand.put l none } }

theorem State.noticeAbsent_cases (s : State) (l : Lane) :
    (∃ v, s.noticeAbsent l = (s.leftOut l).wr Fld.VT_STATUS_PRESENT v) ∨ s.noticeAbsent l = s.unheard l := by
  unfold State.noticeAbsent
  dsimp only
  split
  · exact .inl ⟨_, rfl⟩
  · exact .inr rfl

theorem State.unheard_notices (s : State) (l : Lane) : NoticesKept s (s.unheard l) := (NoticesKept.refl s).modLn l (fun _ => rfl)

theorem State.leftOut_notices (s : State) (l : Lane) : NoticesKept s (s.leftOut l) := s.unheard_notices l

/-- A notice that makes a lane absent leaves every seat, the readmission under way, and what a voter's age rests on (R81, R93). -/
theorem State.noticeAbsent_frame (s : State) (l : Lane) : (∀ m, SeatKept m s (s.noticeAbsent l)) ∧ NoticesKept s (s.noticeAbsent l) ∧
    (s.noticeAbsent l).vote.readmit = s.vote.readmit ∧ (s.noticeAbsent l).freshVoter l = s.freshVoter l := by
  rcases s.noticeAbsent_cases l with ⟨v, h⟩ | h
  · have hseat : ∀ m, SeatKept m s ((s.leftOut l).wr Fld.VT_STATUS_PRESENT v) := fun m => ((SeatKept.refl m s).regs (u := s.leftOut l) rfl).kept
      ((RegsKept.refl [Reg.VT_STATUS] _).wr (f := Fld.VT_STATUS_PRESENT) v (.head _)) (by decide)
    have honly := (RegsOnly.refl (s.leftOut l)).wr Fld.VT_STATUS_PRESENT v
    rw [h]
    exact ⟨hseat, (s.leftOut_notices l).only honly, honly.keeps (fun t => t.vote.readmit) (fun _ => rfl), honly.keeps (fun t => t.freshVoter l) (fun _ => rfl)⟩
  · rw [h]
    exact ⟨fun m => (SeatKept.refl m s).regs rfl, s.unheard_notices l, rfl, rfl⟩

/-- A withdrawal leaves the notices that are on their way. -/
theorem State.withdraw_notices (s : State) (l : Lane) : NoticesKept s (s.withdraw l) := by
  obtain ⟨-, habsent, -, -⟩ := s.noticeAbsent_frame l
  refine habsent.trans ?_
  unfold State.withdraw
  generalize s.noticeAbsent l = t
  dsimp only
  have hout := t.excludeLane_notices l 1 0
  refine NoticesKept.ite (t.exclude_notices l 1 0) (NoticesKept.ite (t.failReadmit_notices 4) (NoticesKept.ite ?_ (hout.ite (.refl t))))
  split
  · exact (((hout.trans (State.endReadmit_notices _ 4)).only (State.relapse_regsOnly _ l))).ite hout
  · exact hout

/-- A voting lane's withdrawal (R95). -/
theorem State.withdraw_voting (s : State) (l : Lane) (hvoting : s.member l = Mbr.voting) (hfresh : s.freshVoter l = false)
    (h : ∀ r, s.vote.readmit = some r → r.receiver ≠ l) : (s.withdraw l).member l = Mbr.excluded ∧ (s.withdraw l).rd (causeFld l) = 1 := by
  obtain ⟨hseat, -, hreadmit, hfresh'⟩ := s.noticeAbsent_frame l
  have heq : s.withdraw l = (s.noticeAbsent l).exclude l 1 0 := if_pos ((hseat l).member.trans hvoting)
  rw [heq]
  exact (s.noticeAbsent l).exclude_withdrawn l (hfresh'.trans hfresh) (fun r hr => h r (hreadmit ▸ hr))

/-! ### Membership messages -/

/-- A lane that does not count is told to every FQ8 as such (R107). -/
theorem State.sendMembership_told (s : State) (l : Lane) (h : (s.votes l && !s.vote.haltSeen.get l) = false) :
    ∀ x ∈ s.sendMembership.fq, ∃ m, x.inbox.getLast? = some m ∧ m.member.get l = false := by
  intro x hx
  obtain ⟨y, -, rfl⟩ := List.mem_map.mp hx
  refine ⟨_, List.getLast?_concat, ?_⟩
  show s.toldMember.get l = false
  rw [← h]
  cases l <;> rfl

end Sys2Proof.Machine
end

section
/-! PROOF. The commands of membership and reports one by one (R29, R87, R95, R105, R107, R109, R119), and O17. -/

namespace Sys2Proof.Machine

/-! ### Notices -/

/-- HALT_NOTICE (R87, R107): the lane no longer counts, and every FQ8 is told. -/
theorem State.halt_gives (s : State) (l : Lane) (hnotice : (s.ln l).haltNotice = true) :
    Gives (.haltNotice l) s (fun t => (t.ln l).haltNotice = false ∧ t.vote.haltSeen.get l = s.votes l ∧
      ∀ x ∈ t.fq, ∃ m, x.inbox.getLast? = some m ∧ m.member.get l = false) := by
  generalize hs1 : s.modLn l (fun n => { n with haltNotice := false }) = s1
  have hln1 : (s1.ln l).haltNotice = false := by
    rw [← hs1, State.ln_modLn_same]
  have hseat1 : SeatKept l s s1 := (SeatKept.refl l s).regs (by rw [← hs1]; rfl)
  generalize hs2 : (if s.flag (Fld.LC_LS_CFG_DBG_MODE l) then s1
    else s1.recordFault l 0x0B 0 (s.rd64 (Reg.LC_FAULT_TIME_HI l) (Reg.LC_FAULT_TIME_LO l))) = s2
  have hnoted : Noted s1 s2 := by
    rw [← hs2]
    exact (Noted.refl s1).ite ((Noted.refl s1).recordFault l 0x0B 0 _)
  have hseat2 := hseat1.noted hnoted
  generalize hs3 : (if s.member l = Mbr.observed then (s2.setMember l Mbr.halted).wr (causeFld l) 6 else s2) = s3
  have honly : RegsOnly s2 s3 := by
    rw [← hs3]
    exact ((s2.setMember_regsOnly l Mbr.halted).wr _ _).ite (.refl s2)
  have hvotes : s.votes l = false → s3.votes l = false := fun hno => by
    rw [← hs3]
    split
    · have hhalted : ((s2.setMember l Mbr.halted).wr (causeFld l) 6).member l = Mbr.halted :=
        (State.rd_wr_beside _ (causeFld l) (memberFld l) 6 (by cases l <;> decide) (by cases l <;> rfl) (by cases l <;> decide)).trans
          (s2.member_setMember_same l (by decide))
      unfold State.votes
      rw [hhalted]
      rfl
    · unfold State.votes
      rw [hseat2.member]
      exact hno
  have hln3 : s3.ln l = s1.ln l := (honly.ln l).trans (congrArg (fun x : Tri LaneSt => x.get l) hnoted.lane)
  have hexec : exec (.haltNotice l) s =
      .next ({ s3 with vote := { s3.vote with haltSeen := s3.vote.haltSeen.put l (s.votes l) } } : State).sendMembership := by
    rw [← hs3, ← hs2, ← hs1]
    exact congrArg Host.Outcome.next (if_pos hnotice)
  have hseen : (s3.vote.haltSeen.put l (s.votes l)).get l = s.votes l := (Tri.get_put _ l l _).trans (if_pos rfl)
  refine gives_of_exec hexec ⟨(congrArg LaneSt.haltNotice hln3).trans hln1, hseen, State.sendMembership_told _ l ?_⟩
  show (s3.votes l && !(s3.vote.haltSeen.put l (s.votes l)).get l) = false
  rw [hseen]
  cases hv : s.votes l
  · rw [hvotes hv]; rfl
  · exact Bool.and_false _

/-- WITHDRAWAL_NOTICE outside LOAD (R95, R107): the notice is taken, and a voting lane is EXCLUDED. -/
theorem State.withdrawal_gives (s : State) (l : Lane) {cause group time : Nat} (hnotice : (s.ln l).withdrawal = some (cause, group, time))
    (hloading : s.loading = false) :
    Gives (.withdrawalNotice l) s (fun t => (t.ln l).withdrawal = none ∧
      (s.member l = Mbr.voting → s.freshVoter l = false → (∀ r, s.vote.readmit = some r → r.receiver ≠ l) →
        t.member l = Mbr.excluded ∧ t.rd (causeFld l) = 1 ∧ ∀ x ∈ t.fq, ∃ m, x.inbox.getLast? = some m ∧ m.member.get l = false)) := by
  generalize hs0 : (s.pulse 15).modLn l (fun n => { n with withdrawal := none }) = s0
  have htaken : (s0.ln l).withdrawal = none := by
    rw [← hs0, State.ln_modLn_same]
  have hregs : s0.regs = s.regs := by rw [← hs0]; rfl
  have hvote : s0.vote = s.vote := by rw [← hs0]; rfl
  have hclk : s0.clk = s.clk := by rw [← hs0]; rfl
  have hnoted := (Noted.refl s0).recordFault l cause group time
  have hseat := ((SeatKept.refl l s).regs hregs).noted hnoted
  have hln := congrArg (fun x : Tri LaneSt => (x.get l).withdrawal) hnoted.lane
  have hfresh : (s0.recordFault l cause group time).freshVoter l = s.freshVoter l := by
    obtain ⟨⟨_, _, _, hframe⟩, -⟩ := hnoted
    rw [hframe]
    unfold State.freshVoter
    dsimp only
    rw [hvote, hclk]
  have hloading1 : (s0.recordFault l cause group time).loading = s.loading := by
    obtain ⟨⟨_, _, _, hframe⟩, hkept⟩ := hnoted
    have hphase : (s0.recordFault l cause group time).phase = s0.phase := hkept.rd (f := Fld.UPD_START_STATUS_PHASE) (by decide)
    have hst : (s0.recordFault l cause group time).st.resuming = s.st.resuming := by rw [hframe, ← hs0]; rfl
    unfold State.loading
    rw [hphase, hst]
    exact congrArg (fun p => p == Phase.load || s.st.resuming) (State.rd_of_reg (State.reg_of_regs hregs _))
  generalize hs1 : s0.recordFault l cause group time = s1 at hseat hln hfresh hloading1 hnoted
  have hexec : exec (.withdrawalNotice l) s = .next (s1.withdraw l).sendMembership := by
    refine congrArg Host.Outcome.next ?_
    rw [hnotice]
    dsimp only
    rw [hs0, hs1, hloading]
    rfl
  refine gives_of_exec hexec ⟨((s1.withdraw_notices l l).trans hln).trans htaken, fun hvoting hold hreadmit => ?_⟩
  obtain ⟨hmember, hcause⟩ := s1.withdraw_voting l (hseat.member.trans hvoting) (hfresh.trans hold)
    (fun r hr => hreadmit r (by rw [← hvote, ← hnoted.vote]; exact hr))
  refine ⟨hmember, hcause, State.sendMembership_told _ l ?_⟩
  unfold State.votes
  rw [hmember]
  rfl

/-! ### FQ8s -/

/-- MEMBERSHIP_MESSAGE (R107). -/
theorem State.membership_gives (s : State) (q : Fin 4) {m : FqMsg} {ms : List FqMsg} (hinbox : (getAt FqSt.none s.fq q).inbox = m :: ms)
    (hlost : (getAt FqSt.none s.fq q).lost = false) (hq : q.val < s.fq.length) :
    Gives (.membershipMessage q) s (fun t =>
      getAt FqSt.none t.fq q = { getAt FqSt.none s.fq q with inbox := ms, member := some m.member } ∧ t = { s with fq := t.fq }) := by
  have hexec : exec (.membershipMessage q) s = .next { s with fq := setAt s.fq q { getAt FqSt.none s.fq q with inbox := ms, member := some m.member } } := by
    refine congrArg Host.Outcome.next ?_
    dsimp only
    rw [hinbox]
    exact if_neg (by rw [hlost]; decide)
  refine gives_of_exec hexec ⟨?_, rfl⟩
  exact (getAt_setAt FqSt.none _ s.fq q q).trans (if_pos ⟨rfl, hq⟩)

/-- A report that the vote unit takes touches no lane, no FQ8 and no image; a mismatch counts, a failed direct re-vote is held (R107, R109). -/
theorem State.takeReport_shows (s : State) (q : Nat) (r : FqReport) :
    (s.takeReport q r).fq = s.fq ∧ (s.takeReport q r).lane = s.lane ∧ (s.takeReport q r).vote.out = s.vote.out ∧
    (r.direct = false → r.mismatch = true → (s.takeReport q r).rd Fld.VT_FQ_MISMATCH_COUNT = (s.bump Fld.VT_FQ_MISMATCH_COUNT).rd Fld.VT_FQ_MISMATCH_COUNT) ∧
    (r.direct = true → (lookupN (s.takeReport q r).vote.dHold r.ch).isSome = true) := by
  cases hdirect : r.direct
  · have hno : ¬ r.direct = true := by rw [hdirect]; decide
    cases hmismatch : r.mismatch
    · have heq : s.takeReport q r = s.troubleAt Fld.VT_FQ_MISMATCH_COUNT [q, r.ch, r.counted] :=
        (if_neg hno).trans (if_neg (by rw [hmismatch]; decide))
      have hnoted := (Noted.refl s).troubleAt Fld.VT_FQ_MISMATCH_COUNT [q, r.ch, r.counted]
      rw [heq]
      exact ⟨hnoted.fq, hnoted.lane, congrArg VoteSt.out hnoted.vote, fun _ h => absurd h (by decide), fun h => absurd h (by decide)⟩
    · have heq : s.takeReport q r = (s.bump Fld.VT_FQ_MISMATCH_COUNT).weltEvent 4 0x12 (q + r.ch * 2 ^ 8 + s.cycleNo * 2 ^ 32) :=
        (if_neg hno).trans (if_pos hmismatch)
      have hcounted := (RegsOnly.refl s).bump Fld.VT_FQ_MISMATCH_COUNT
      rw [heq]
      generalize s.bump Fld.VT_FQ_MISMATCH_COUNT = t at hcounted
      have hnoted := (Noted.refl t).weltEvent 4 0x12 (q + r.ch * 2 ^ 8 + s.cycleNo * 2 ^ 32)
      exact ⟨hnoted.fq.trans hcounted.fq, hnoted.lane.trans hcounted.lane, congrArg VoteSt.out (hnoted.vote.trans hcounted.vote),
        fun _ _ => hnoted.kept.rd (f := Fld.VT_FQ_MISMATCH_COUNT) (by decide), fun h => absurd h (by decide)⟩
  · by_cases hhas : (lookupN s.vote.dHold r.ch).isSome = true
    · have heq : s.takeReport q r = s := (if_pos hdirect).trans (if_pos hhas)
      rw [heq]
      exact ⟨rfl, rfl, rfl, fun h => absurd h (by decide), fun _ => hhas⟩
    · have heq : s.takeReport q r = { s with vote := { s.vote with dHold := setN s.vote.dHold r.ch 0 } } := (if_pos hdirect).trans (if_neg hhas)
      rw [heq]
      refine ⟨rfl, rfl, rfl, fun h => absurd h (by decide), fun _ => ?_⟩
      exact congrArg Option.isSome ((lookupN_setN s.vote.dHold r.ch r.ch 0).trans (if_pos rfl))

/-- FQ8_REPORT (R107, R109). -/
theorem State.report_gives (s : State) (q : Fin 4) {r : FqReport} {rs : List FqReport} (hreports : (getAt FqSt.none s.fq q).reports = r :: rs)
    (hq : q.val < s.fq.length) :
    Gives (.fq8Report q) s (fun t => (getAt FqSt.none t.fq q).reports = rs ∧ t.lane = s.lane ∧ t.vote.out = s.vote.out ∧
      (r.direct = false → r.mismatch = true → t.rd Fld.VT_FQ_MISMATCH_COUNT =
        min (2 ^ (Fld.VT_FQ_MISMATCH_COUNT.hi + 1 - Fld.VT_FQ_MISMATCH_COUNT.lo) - 1) (s.rd Fld.VT_FQ_MISMATCH_COUNT + 1)) ∧
      (r.direct = true → (lookupN t.vote.dHold r.ch).isSome = true)) := by
  generalize hs1 : ({ s with fq := setAt s.fq q { getAt FqSt.none s.fq q with reports := rs } } : State) = s1
  have hexec : exec (.fq8Report q) s = .next (s1.takeReport q r) := by
    refine congrArg Host.Outcome.next ?_
    dsimp only
    rw [hreports]
    exact congrArg (fun u : State => u.takeReport q r) hs1
  obtain ⟨hfq, hlane, hout, hcount, hheld⟩ := s1.takeReport_shows q r
  have hown : getAt FqSt.none s1.fq q = { getAt FqSt.none s.fq q with reports := rs } := by
    rw [← hs1]
    exact (getAt_setAt FqSt.none _ s.fq q q).trans (if_pos ⟨rfl, hq⟩)
  refine gives_of_exec hexec ⟨by rw [hfq, hown], hlane.trans (by rw [← hs1]), hout.trans (by rw [← hs1]), fun hd hm => ?_, hheld⟩
  have hsame : s1.rd Fld.VT_FQ_MISMATCH_COUNT = s.rd Fld.VT_FQ_MISMATCH_COUNT := State.rd_of_reg (State.reg_of_regs (by rw [← hs1]) _)
  rw [hcount hd hm, ← hsame]
  exact State.rd_bump_same s1 Fld.VT_FQ_MISMATCH_COUNT (by decide)

/-! ### The service master -/

theorem State.regs_raise (s : State) (l : Lane) (h : Hart) (line : Nat) : (s.raise l h line).regs = s.regs := by
  unfold State.raise
  dsimp only
  split
  · rfl
  · exact s.regs_setHart l h _

/-- The external interrupt lines touch no register and no cycle. -/
theorem State.syncService_frame (s : State) : s.syncService.regs = s.regs ∧ s.syncService.cyc = s.cyc := by
  have hcyc : ∀ (t : State) (l : Lane) (h : Hart) (x : HartSt), (t.setHart l h x).cyc = t.cyc := fun t l h x => by cases h <;> rfl
  unfold State.syncService
  split
  · refine ⟨foldl_keeps State.regs lanes s (fun u l _ => u.regs_raise l .h1 11), foldl_keeps State.cyc lanes s (fun u l _ => ?_)⟩
    unfold State.raise
    dsimp only
    split
    · rfl
    · exact hcyc _ _ _ _
  · refine ⟨foldl_keeps State.regs lanes s (fun u l _ => u.regs_drop l .h1 11), foldl_keeps State.cyc lanes s (fun u l _ => ?_)⟩
    unfold State.drop
    dsimp only
    split
    · exact hcyc _ _ _ _
    · rfl

/-- The number that SVC_MASTER shows. -/
def masterCode : Option Lane → Nat
  | some x => x.num
  | none => 3

theorem lane_of_masterCode (o : Option Lane) : Lane.ofNat? (masterCode o) = o ∧ masterCode o < 4 := by
  cases o with
  | none => decide
  | some l => cases l <;> decide

/-- The master's mark in some lanes. -/
def State.markMaster (s : State) (o : Option Lane) (ls : List Lane) : State := ls.foldl (fun t x => t.wrB (Fld.LC_LANE_STATUS_SVC_MASTER x) (o == some x)) s

theorem State.setSvcMaster_eq (s : State) (o : Option Lane) :
    s.setSvcMaster o = (s.wr Fld.JC_MOD_STATUS_SVC_MASTER (masterCode o)).markMaster o lanes := by cases o <;> rfl

theorem State.markMaster_shows (o : Option Lane) : ∀ (ls : List Lane) (s : State), RegsOnly s (s.markMaster o ls) ∧
    RegsKept (lanes.map Reg.LC_LANE_STATUS) s (s.markMaster o ls) ∧
    ∀ m, (s.rd (Fld.LC_LANE_STATUS_SVC_MASTER m) = b2n (o == some m) ∨ m ∈ ls) → (s.markMaster o ls).rd (Fld.LC_LANE_STATUS_SVC_MASTER m) = b2n (o == some m)
  | [], s => ⟨RegsOnly.refl s, RegsKept.refl _ s, fun _ hm => hm.resolve_right List.not_mem_nil⟩
  | l :: ls, s => by
    obtain ⟨honly, hkept, hall⟩ := State.markMaster_shows o ls (s.wrB (Fld.LC_LANE_STATUS_SVC_MASTER l) (o == some l))
    refine ⟨((RegsOnly.refl s).wr _ _).trans honly,
      RegsKept.trans ((RegsKept.refl _ s).wr (f := Fld.LC_LANE_STATUS_SVC_MASTER l) _ (by cases l <;> decide)) hkept, fun m hm => hall m ?_⟩
    by_cases hml : m = l
    · exact .inl (hml ▸ s.rd_wrB_same (Fld.LC_LANE_STATUS_SVC_MASTER m) (o == some m) (by cases m <;> decide))
    · refine hm.imp (fun hs => ?_) (fun hmem => (List.mem_cons.mp hmem).resolve_left hml)
      exact (s.rd_wr_reg (Fld.LC_LANE_STATUS_SVC_MASTER l) (Fld.LC_LANE_STATUS_SVC_MASTER m) _ (by revert hml; cases l <;> cases m <;> decide)).trans hs

/-- A service master put into office shows there and in every lane (R29). -/
theorem State.setSvcMaster_shows (s : State) (o : Option Lane) : (s.setSvcMaster o).svcMaster = o ∧ (s.setSvcMaster o).cyc = s.cyc ∧
    ∀ m, (s.setSvcMaster o).rd (Fld.LC_LANE_STATUS_SVC_MASTER m) = if o = some m then 1 else 0 := by
  obtain ⟨honly, hkept, hall⟩ := State.markMaster_shows o lanes (s.wr Fld.JC_MOD_STATUS_SVC_MASTER (masterCode o))
  obtain ⟨hof, hlt⟩ := lane_of_masterCode o
  have hcode : (s.setSvcMaster o).rd Fld.JC_MOD_STATUS_SVC_MASTER = masterCode o := by
    rw [s.setSvcMaster_eq o, hkept.rd (f := Fld.JC_MOD_STATUS_SVC_MASTER) (by decide), State.rd_wr_same _ _ _ (by decide)]
    exact Nat.mod_eq_of_lt hlt
  refine ⟨?_, ?_, fun m => ?_⟩
  · unfold State.svcMaster
    rw [hcode, hof]
  · rw [s.setSvcMaster_eq o]
    exact honly.cyc.trans ((RegsOnly.refl s).wr _ _).cyc
  · rw [s.setSvcMaster_eq o, hall m (.inr (by cases m <;> decide))]
    by_cases ho : o = some m
    · simp [ho, b2n]
    · simp [ho, b2n]

/-- The Thimbles of a master that leaves office are released (R429). -/
def State.masterReleased (s : State) : State :=
  match s.svcMaster with
  | some l => if s.firstVoting = some l then s else s.thAuto (2 + l.num)
  | none => s

/-- SERVICE_MASTER_CHANGE at the boundary (R29). -/
theorem State.master_gives (s : State) {k : Nat} (hleft : s.cyc.svcLeft = some k) (hk : k < s.kNow) :
    Gives .serviceMasterChange s (fun t => t.svcMaster = s.firstVoting ∧ t.cyc.svcLeft = none ∧
      ∀ m, t.rd (Fld.LC_LANE_STATUS_SVC_MASTER m) = if s.firstVoting = some m then 1 else 0) := by
  have hexec : exec .serviceMasterChange s =
      .next (((s.masterReleased.modCyc (fun c => { c with svcLeft := none })).setSvcMaster s.firstVoting).syncService) := by
    refine congrArg Host.Outcome.next ?_
    rw [hleft]
    exact if_pos hk
  generalize s.masterReleased = u at hexec
  obtain ⟨hmaster, hcyc, hmarks⟩ := (u.modCyc (fun c => { c with svcLeft := none })).setSvcMaster_shows s.firstVoting
  obtain ⟨hregs, hcyc'⟩ := ((u.modCyc (fun c => { c with svcLeft := none })).setSvcMaster s.firstVoting).syncService_frame
  refine gives_of_exec hexec ⟨?_, (congrArg CycSt.svcLeft (hcyc'.trans hcyc) :), fun m => (State.rd_of_reg (State.reg_of_regs hregs _)).trans (hmarks m)⟩
  unfold State.svcMaster
  rw [State.rd_of_reg (State.reg_of_regs hregs Fld.JC_MOD_STATUS_SVC_MASTER.addr)]
  exact hmaster

/-! ### Safe releases and counters -/

/-- SAFE_RELEASE (R105). -/
theorem State.release_gives (s : State) (i : Initiator) (w : Word) (hmay : s.mayWrite i Reg.VT_SAFE_RELEASE = true) :
    Gives (.safeRelease i w) s (fun t => t.vote = { s.vote with release := some s.cyc.k } ∧ t.response i = .done ∧ t.fq = s.fq) := by
  obtain ⟨r, q, hmerge⟩ := s.merge_logOnly Reg.VT_SAFE_RELEASE w
  refine gives_of_exec (congrArg Host.Outcome.next (s.regCmd_of_may w _ hmay)) ?_
  rw [hmerge]
  exact ⟨rfl, State.response_respond_same _ i .done, rfl⟩

/-- A word voted without disagreement in the cycle before (R105). -/
def State.cleanWord (s : State) (w : Nat) : Bool := s.vote.voted && !s.vote.disAny.contains w

/-- The latches of clean words cleared, in the vote unit and in the FQ8s (R105, R109). -/
def State.latchCleared (s : State) : State :=
  let fq := (List.range 4).map (fun q =>
    let x := getAt FqSt.none s.fq q
    { x with latch := (List.range 8).map (fun j => getAt false x.latch j && !s.cleanWord (s.rd (Fld.FIO_CH_n_MAP_WORD (8 * q + j)))) })
  let dh := s.vote.dHold.map (fun x => if s.cleanWord (s.rd (Fld.FIO_CH_n_MAP_WORD x.1)) && decide (s.safeHold ≤ x.2) then (x.1, 0) else x)
  { s with fq := fq, vote := { s.vote with latched := s.vote.latched.filter (fun w => !s.cleanWord w), release := none, dHold := dh } }

/-- SAFE_LATCH_CLEAR at the boundary after a release (R105). -/
theorem State.latchClear_gives (s : State) {k : Nat} (hrelease : s.vote.release = some k) (hk : k < s.cyc.k) (hvr : s.cyc.vrDone = false) :
    Gives .safeLatchClear s (fun t => t.vote.release = none ∧
      ∀ x, x ∈ t.vote.latched ↔ x ∈ s.vote.latched ∧ (s.vote.voted = false ∨ x ∈ s.vote.disAny)) := by
  have hexec : exec .safeLatchClear s = .next (s.latchCleared.wrB Fld.VT_STATUS_WORD_LATCHED (s.latchCleared.vote.latched != [])) := by
    refine congrArg Host.Outcome.next ?_
    rw [hrelease]
    exact if_pos ⟨hk, by rw [hvr]; decide⟩
  have hnone : s.latchCleared.vote.release = none := rfl
  have hlatched : s.latchCleared.vote.latched = s.vote.latched.filter (fun w => !s.cleanWord w) := rfl
  generalize s.latchCleared = u at hexec hnone hlatched
  have hvote : (u.wrB Fld.VT_STATUS_WORD_LATCHED (u.vote.latched != [])).vote = u.vote := ((RegsOnly.refl u).wr _ _).vote
  refine gives_of_exec hexec ⟨(congrArg VoteSt.release hvote).trans hnone, fun x => ?_⟩
  rw [(congrArg VoteSt.latched hvote).trans hlatched, List.mem_filter]
  unfold State.cleanWord
  cases s.vote.voted <;> simp

/-- The registers that a write of VT.CNT_CLEAR may clear (R119), beside the lanes' own. -/
def voteCounters : List Nat := [Reg.VT_CYC_2OO2, Reg.VT_CYC_HOLD, Reg.VT_DIS2_COUNT, Reg.VT_FQ_MISMATCH]

/-- The exclusion counters of some lanes cleared. -/
def State.clearExcl (s : State) (ls : List Lane) : State := ls.foldl (fun t l => t.wr (exclFld l) 0) s

/-- The vote unit's other counters cleared. -/
def State.clearCounters (s : State) : State :=
  (((s.setReg Reg.VT_CYC_2OO2 0).setReg Reg.VT_CYC_HOLD 0).setReg Reg.VT_DIS2_COUNT 0).setReg Reg.VT_FQ_MISMATCH 0

theorem State.vtClear_eq (s : State) (w : Word) : s.vtClear w =
    if wbits w Fld.VT_CNT_CLEAR_CLR_CNT = 1
    then (if wbits w Fld.VT_CNT_CLEAR_CLR_EXCL = 1 then s.clearExcl lanes else s).clearCounters
    else if wbits w Fld.VT_CNT_CLEAR_CLR_EXCL = 1 then s.clearExcl lanes else s := rfl

theorem State.clearExcl_shows : ∀ (ls : List Lane) (s : State), RegsOnly s (s.clearExcl ls) ∧ RegsKept (lanes.map infoKey) s (s.clearExcl ls) ∧
    (∀ m, (s.clearExcl ls).rd (relapseFld m) = s.rd (relapseFld m)) ∧
    ∀ m, (s.rd (exclFld m) = 0 ∨ m ∈ ls) → (s.clearExcl ls).rd (exclFld m) = 0
  | [], s => ⟨RegsOnly.refl s, RegsKept.refl _ s, fun _ => rfl, fun _ hm => hm.resolve_right List.not_mem_nil⟩
  | l :: ls, s => by
    obtain ⟨honly, hkept, hrelapse, hall⟩ := State.clearExcl_shows ls (s.wr (exclFld l) 0)
    refine ⟨((RegsOnly.refl s).wr _ _).trans honly, RegsKept.trans ((RegsKept.refl _ s).wr (f := exclFld l) _ (by cases l <;> decide)) hkept,
      fun m => (hrelapse m).trans (s.rd_wr_ne (exclFld l) (relapseFld m) 0 (by cases l <;> decide) (by cases l <;> cases m <;> decide)),
      fun m hm => hall m ?_⟩
    by_cases hml : m = l
    · exact .inl (hml ▸ s.rd_wr_same (exclFld m) 0 (by cases m <;> decide))
    · refine hm.imp (fun hs => ?_) (fun hmem => (List.mem_cons.mp hmem).resolve_left hml)
      exact (s.rd_wr_reg (exclFld l) (exclFld m) 0 (by revert hml; cases l <;> cases m <;> decide)).trans hs

theorem State.clearCounters_regsOnly (s : State) : RegsOnly s s.clearCounters := ((((RegsOnly.refl s).setReg _ _).setReg _ _).setReg _ _).setReg _ _

theorem State.clearCounters_kept (s : State) : RegsKept voteCounters s s.clearCounters :=
  ((((RegsKept.refl voteCounters s).setReg (k := Reg.VT_CYC_2OO2) 0 (by decide)).setReg (k := Reg.VT_CYC_HOLD) 0 (by decide)).setReg
    (k := Reg.VT_DIS2_COUNT) 0 (by decide)).setReg (k := Reg.VT_FQ_MISMATCH) 0 (by decide)

theorem State.clearCounters_shows (s : State) : ∀ k ∈ voteCounters, s.clearCounters.reg k = 0 := by
  have hset : ∀ (t : State) (j k : Nat), (t.reg k = 0 ∨ k = j) → (t.setReg j 0).reg k = 0 := fun t j k h => by
    rw [State.reg_setReg]
    split
    next => rfl
    next hne => exact h.resolve_right (fun hk => hne (congrArg homeKey hk))
  intro k hk
  unfold State.clearCounters
  rcases List.mem_cons.mp hk with h | hk
  · exact hset _ _ _ (.inl (hset _ _ _ (.inl (hset _ _ _ (.inl (hset _ _ _ (.inr h)))))))
  · rcases List.mem_cons.mp hk with h | hk
    · exact hset _ _ _ (.inl (hset _ _ _ (.inl (hset _ _ _ (.inr h)))))
    · rcases List.mem_cons.mp hk with h | hk
      · exact hset _ _ _ (.inl (hset _ _ _ (.inr h)))
      · exact hset _ _ _ (.inr (List.mem_singleton.mp hk))

/-- A bit set in a word reads one. -/
theorem wbits_or_bit (w v : Word) (f : Field) (h : f.hi = f.lo) (hv : v.toNat.testBit f.lo = true) : wbits (w ||| v) f = 1 := by
  have hbit : (w ||| v).toNat.testBit f.lo = true := by
    rw [BitVec.toNat_or, Nat.testBit_or, hv, Bool.or_true]
  unfold wbits bitsOf
  rw [h, Nat.add_sub_cancel_left]
  exact of_decide_eq_true ((Nat.testBit_eq_decide_div_mod_eq).symm.trans hbit)

/-- CLR_EXCL (R119): the exclusion counters are cleared, RELAPSES and the membership stay. -/
theorem State.clrExcl_gives (s : State) (i : Initiator) (w : Word) (hmay : s.mayWrite i Reg.VT_CNT_CLEAR = true) :
    Gives (.clrExcl i w) s (fun t => (∀ m, t.rd (exclFld m) = 0 ∧ t.rd (relapseFld m) = s.rd (relapseFld m) ∧ t.member m = s.member m) ∧ t.vote = s.vote) := by
  have hmerged := s.merge_kept Reg.VT_CNT_CLEAR w
  have hvote : (s.merge Reg.VT_CNT_CLEAR w).vote = s.vote := by
    obtain ⟨_, _, h⟩ := s.merge_logOnly Reg.VT_CNT_CLEAR w
    rw [h]
  refine gives_of_exec (congrArg Host.Outcome.next (s.regCmd_of_may w _ hmay)) ?_
  generalize s.merge Reg.VT_CNT_CLEAR w = u at hmerged hvote
  obtain ⟨honly, hkept, hrelapse, hall⟩ := State.clearExcl_shows lanes u
  have hexcl : wbits (w ||| 2) Fld.VT_CNT_CLEAR_CLR_EXCL = 1 := wbits_or_bit w 2 _ rfl (by decide)
  have hcleared : u.vtClear (w ||| 2) = if wbits (w ||| 2) Fld.VT_CNT_CLEAR_CLR_CNT = 1 then (u.clearExcl lanes).clearCounters else u.clearExcl lanes := by
    rw [u.vtClear_eq, if_pos hexcl]
  have hrest : RegsKept voteCounters (u.clearExcl lanes) (u.vtClear (w ||| 2)) := by
    rw [hcleared]
    exact (State.clearCounters_kept _).ite (.refl _ _)
  have hrestOnly : RegsOnly (u.clearExcl lanes) (u.vtClear (w ||| 2)) := by
    rw [hcleared]
    exact (State.clearCounters_regsOnly _).ite (.refl _)
  generalize u.vtClear (w ||| 2) = t at hrest hrestOnly
  refine ⟨fun m => ⟨?_, ?_, ?_⟩, (honly.trans hrestOnly).vote.trans hvote⟩
  · exact (hrest.rd (f := exclFld m) (by cases m <;> decide)).trans (hall m (.inr (by cases m <;> decide)))
  · exact (hrest.rd (f := relapseFld m) (by cases m <;> decide)).trans ((hrelapse m).trans (hmerged.rd (f := relapseFld m) (by cases m <;> decide)))
  · exact (hrest.rd (f := memberFld m) (by cases m <;> decide)).trans ((hkept.rd (f := memberFld m) (by cases m <;> decide)).trans
      (hmerged.rd (f := memberFld m) (by cases m <;> decide)))

/-- VT_CLR_CNT (R119): the other counters are cleared. -/
theorem State.vtClrCnt_gives (s : State) (i : Initiator) (w : Word) (hmay : s.mayWrite i Reg.VT_CNT_CLEAR = true) :
    Gives (.vtClrCnt i w) s (fun t => t.reg Reg.VT_CYC_2OO2 = 0 ∧ t.reg Reg.VT_CYC_HOLD = 0 ∧ t.reg Reg.VT_DIS2_COUNT = 0 ∧
      t.reg Reg.VT_FQ_MISMATCH = 0 ∧ t.vote = s.vote) := by
  have hvote : (s.merge Reg.VT_CNT_CLEAR w).vote = s.vote := by
    obtain ⟨_, _, h⟩ := s.merge_logOnly Reg.VT_CNT_CLEAR w
    rw [h]
  refine gives_of_exec (congrArg Host.Outcome.next (s.regCmd_of_may w _ hmay)) ?_
  generalize s.merge Reg.VT_CNT_CLEAR w = u at hvote
  have hcnt : wbits (w ||| 1) Fld.VT_CNT_CLEAR_CLR_CNT = 1 := wbits_or_bit w 1 _ rfl (by decide)
  have hcleared : u.vtClear (w ||| 1) = (if wbits (w ||| 1) Fld.VT_CNT_CLEAR_CLR_EXCL = 1 then u.clearExcl lanes else u).clearCounters := by
    rw [u.vtClear_eq, if_pos hcnt]
  have hbefore : RegsOnly u (if wbits (w ||| 1) Fld.VT_CNT_CLEAR_CLR_EXCL = 1 then u.clearExcl lanes else u) :=
    (State.clearExcl_shows lanes u).1.ite (.refl u)
  rw [hcleared]
  generalize (if wbits (w ||| 1) Fld.VT_CNT_CLEAR_CLR_EXCL = 1 then u.clearExcl lanes else u) = t at hbefore
  have hzero := t.clearCounters_shows
  have honly := hbefore.trans t.clearCounters_regsOnly
  generalize t.clearCounters = c at hzero honly
  exact ⟨hzero _ (by decide), hzero _ (by decide), hzero _ (by decide), hzero _ (by decide), honly.vote.trans hvote⟩

/-- Settles O17, command by command. -/
theorem membershipAndReports : Obligations.MembershipAndReports := by
  unfold Obligations.MembershipAndReports
  intro s i l q w
  exact ⟨s.halt_gives l, fun cause group time hnotice hloading => s.withdrawal_gives l hnotice hloading,
    fun m ms hinbox hlost hq => s.membership_gives q hinbox hlost hq, fun r rs hreports hq => s.report_gives q hreports hq,
    fun k hleft hk => s.master_gives hleft hk, s.release_gives i w, fun k hrelease hk hvr => s.latchClear_gives hrelease hk hvr,
    fun hmay => ⟨s.clrExcl_gives i w hmay, s.vtClrCnt_gives i w hmay⟩⟩

end Sys2Proof.Machine
end

section
/-! PROOF. The comparator's own tests and the counters of LC (R71, R75, R76, R78, R79, R91, R92; O14): what a forced-mismatch test shows and
what its verdict leaves, and what the counter commands touch. -/

namespace Sys2Proof.Machine

/-! ### The forced-mismatch test -/

/-- A counter that wraps counts up by one. -/
theorem State.rd_bumpW_same (s : State) (f : Field) (h : f.hi < 32 ∧ f.lo ≤ f.hi) : (s.bumpW f).rd f = (s.rd f + 1) % 2 ^ (1 + f.hi - f.lo) := by
  unfold State.bumpW
  rw [State.rd_wr_same _ _ _ h, Nat.add_comm 1 f.hi]

/-- The states and the comparison in which a lane's comparator tests itself (R75). -/
def TestOn (s : State) (l : Lane) : Prop :=
  (s.ex l = Exec.loading ∨ s.ex l = Exec.running ∨ s.ex l = Exec.splitHalt ∨ s.ex l = Exec.splitRun ∨ s.ex l = Exec.replayHalt ∨
    s.ex l = Exec.replayCheck) ∧ (s.rd (Fld.CMP_STATUS_H0_COMPARED l) = 1 ∨ s.rd (Fld.CMP_STATUS_H1_COMPARED l) = 1)

theorem State.compared_h0 (s : State) (l : Lane) : s.compared l .h0 = decide (s.rd (Fld.CMP_STATUS_H0_COMPARED l) = 1) :=
  s.flag_eq_decide (Fld.CMP_STATUS_H0_COMPARED l) rfl

theorem State.compared_h1 (s : State) (l : Lane) : s.compared l .h1 = decide (s.rd (Fld.CMP_STATUS_H1_COMPARED l) = 1) :=
  s.flag_eq_decide (Fld.CMP_STATUS_H1_COMPARED l) rfl

theorem State.testable_iff (s : State) (l : Lane) : s.testable l = true ↔ TestOn s l := by
  unfold State.testable TestOn
  rw [s.compared_h0 l, s.compared_h1 l]
  simp only [Bool.and_eq_true, Bool.or_eq_true, beq_iff_eq, decide_eq_true_eq, or_assoc]

/-- A lane that tests itself can fault. -/
theorem TestOn.up {s : State} {l : Lane} (h : TestOn s l) : s.ex l ≠ Exec.held ∧ s.ex l ≠ Exec.stopped := by
  obtain ⟨hex, -⟩ := h
  rcases hex with h | h | h | h | h | h <;> rw [h] <;> decide

/-- Every flag of both copies and every parity report of a compared hart came (R75). -/
def TestGood (s : State) (l : Lane) (fa fb : BitVec 16) (d0 d1 : Bool) : Prop :=
  fa = 0xFFFF ∧ fb = 0xFFFF ∧ (s.rd (Fld.CMP_STATUS_H0_COMPARED l) = 1 → d0 = true) ∧ (s.rd (Fld.CMP_STATUS_H1_COMPARED l) = 1 → d1 = true)

/-- What a test leaves (R75, R76, R92): the flags, and the count or the fault. -/
def TestResult (s : State) (l : Lane) (fa fb : BitVec 16) (d0 d1 : Bool) (t : State) : Prop :=
  t.rd (Fld.CMP_TEST_LAST_FLAGS_A l) = fa.toNat ∧ t.rd (Fld.CMP_TEST_LAST_FLAGS_B l) = fb.toNat ∧
  (TestGood s l fa fb d0 d1 → t.rd (Fld.CMP_TEST_COUNT_COUNT l) =
      (s.rd (Fld.CMP_TEST_COUNT_COUNT l) + 1) % 2 ^ (1 + (Fld.CMP_TEST_COUNT_COUNT l).hi - (Fld.CMP_TEST_COUNT_COUNT l).lo) ∧
    t.ex l = s.ex l ∧ (t.ln l).h0 = (s.ln l).h0 ∧ (t.ln l).h1 = (s.ln l).h1 ∧ t.reg (Reg.LC_FAULT_CAUSE l) = s.reg (Reg.LC_FAULT_CAUSE l)) ∧
  (¬ TestGood s l fa fb d0 d1 → LaneFaulted s t l 4 0)

/-- The registers that lead up to a test's verdict differ, and of the lane no hart. -/
structure TestUnder (l : Lane) (s t : State) : Prop where
  kept : RegsKept [Reg.CMP_TEST_LAST l, Reg.CMP_STATUS l, Reg.CMP_TEST_REQ l, Reg.TL_STATUS] s t
  clk : t.clk = s.clk
  others : ∀ m, m ≠ l → t.ln m = s.ln m
  harts : (t.ln l).h0 = (s.ln l).h0 ∧ (t.ln l).h1 = (s.ln l).h1

namespace TestUnder

variable {l : Lane} {s t u : State}

theorem refl (l : Lane) (s : State) : TestUnder l s s := ⟨RegsKept.refl _ s, rfl, fun _ _ => rfl, rfl, rfl⟩

theorem trans (h1 : TestUnder l s t) (h2 : TestUnder l t u) : TestUnder l s u :=
  ⟨h1.kept.trans h2.kept, h2.clk.trans h1.clk, fun m hm => (h2.others m hm).trans (h1.others m hm), h2.harts.1.trans h1.harts.1,
    h2.harts.2.trans h1.harts.2⟩

theorem wr (h : TestUnder l s t) {f : Field} (v : Nat) (hf : f.addr = Reg.CMP_TEST_LAST l ∨ f.addr = Reg.CMP_STATUS l) : TestUnder l s (t.wr f v) := by
  refine h.trans ⟨(RegsKept.refl _ t).wr v ?_, rfl, fun _ _ => rfl, rfl, rfl⟩
  rcases hf with hf | hf
  · exact hf ▸ .head _
  · exact hf ▸ .tail _ (.head _)

theorem ite {c : Prop} [Decidable c] (ht : TestUnder l s t) (hu : TestUnder l s u) : TestUnder l s (if c then t else u) := by
  split
  · exact ht
  · exact hu

/-- A record of the lane beside its harts. -/
theorem modLn (h : TestUnder l s t) {g : LaneSt → LaneSt} (hg : ∀ n, (g n).h0 = n.h0 ∧ (g n).h1 = n.h1) : TestUnder l s (t.modLn l g) :=
  h.trans ⟨RegsKept.refl _ t, rfl, fun _ hm => t.ln_modLn_ne g hm, by rw [State.ln_modLn_same]; exact hg _⟩

theorem rd (h : TestUnder l s t) {f : Field} (hf : ∀ j ∈ [Reg.CMP_TEST_LAST l, Reg.CMP_STATUS l, Reg.CMP_TEST_REQ l, Reg.TL_STATUS],
    homeKey f.addr ≠ homeKey j) : t.rd f = s.rd f := h.kept.rd hf

theorem ex (h : TestUnder l s t) : t.ex l = s.ex l := h.rd (f := Fld.LC_LANE_STATUS_EXEC l) (by cases l <;> decide)

theorem cause (h : TestUnder l s t) : t.reg (Reg.LC_FAULT_CAUSE l) = s.reg (Reg.LC_FAULT_CAUSE l) := h.kept _ (by cases l <;> decide)

theorem count (h : TestUnder l s t) : t.rd (Fld.CMP_TEST_COUNT_COUNT l) = s.rd (Fld.CMP_TEST_COUNT_COUNT l) :=
  h.rd (f := Fld.CMP_TEST_COUNT_COUNT l) (by cases l <;> decide)

end TestUnder

/-- What the comparator shows before a test, kept for a mismatch in its lc (R77). -/
def State.testBefore (s : State) (l : Lane) : TestUndo :=
  { at_ := s.clk.uptime, status := s.reg (Reg.CMP_STATUS l), last := s.reg (Reg.CMP_TEST_LAST l), count := s.reg (Reg.CMP_TEST_COUNT l)
    passed := (s.ln l).testAt }

/-- A test with its flags recorded. -/
def State.testFlags (s : State) (l : Lane) (fa fb : BitVec 16) : State :=
  ((s.modLn l (fun n => { n with testUndo := some (s.testBefore l) })).wr (Fld.CMP_TEST_LAST_FLAGS_A l) fa.toNat).wr
    (Fld.CMP_TEST_LAST_FLAGS_B l) fb.toNat

/-- A test with everything that it shows in CMP.STATUS, before its verdict. -/
def State.testShown (s : State) (l : Lane) (fa fb : BitVec 16) (d0 d1 : Bool) : State :=
  let s2 := (((s.testFlags l fa fb).wrB (Fld.CMP_STATUS_COPY_A_OK l) (fa == 0xFFFF)).wrB (Fld.CMP_STATUS_COPY_B_OK l) (fb == 0xFFFF)).modLn l
    (fun n => { n with testStage := n.testStage + 1 })
  let s3 := if s.compared l .h0 then s2.wrB (Fld.CMP_STATUS_DLY_H0_OK l) d0 else s2
  if s.compared l .h1 then s3.wrB (Fld.CMP_STATUS_DLY_H1_OK l) d1 else s3

theorem State.runTest_eq (s : State) (l : Lane) (fa fb : BitVec 16) (d0 d1 : Bool) : s.runTest l fa fb d0 d1 =
    if (fa == 0xFFFF && fb == 0xFFFF && (!s.compared l .h0 || d0) && (!s.compared l .h1 || d1)) = true then
      ((s.testShown l fa fb d0 d1).bumpW (Fld.CMP_TEST_COUNT_COUNT l)).modLn l (fun n => { n with testAt := some s.clk.uptime })
    else (s.testShown l fa fb d0 d1).laneFault l 4 0 := rfl

/-- The verdict is that of R75. -/
theorem State.testVerdict_iff (s : State) (l : Lane) (fa fb : BitVec 16) (d0 d1 : Bool) :
    (fa == 0xFFFF && fb == 0xFFFF && (!s.compared l .h0 || d0) && (!s.compared l .h1 || d1)) = true ↔ TestGood s l fa fb d0 d1 := by
  unfold TestGood
  rw [s.compared_h0 l, s.compared_h1 l]
  simp only [Bool.and_eq_true, Bool.or_eq_true, beq_iff_eq, Bool.not_eq_true', decide_eq_false_iff_not, ← imp_iff_not_or, and_assoc]

/-- The flags of both copies stand in CMP.TEST_LAST (R92). -/
theorem State.testFlags_shows (s : State) (l : Lane) (fa fb : BitVec 16) :
    TestUnder l s (s.testFlags l fa fb) ∧ (s.testFlags l fa fb).rd (Fld.CMP_TEST_LAST_FLAGS_A l) = fa.toNat ∧
    (s.testFlags l fa fb).rd (Fld.CMP_TEST_LAST_FLAGS_B l) = fb.toNat := by
  refine ⟨(((TestUnder.refl l s).modLn (g := fun n => { n with testUndo := some (s.testBefore l) }) (fun _ => ⟨rfl, rfl⟩)).wr (f := Fld.CMP_TEST_LAST_FLAGS_A l) _ (.inl rfl)).wr
    (f := Fld.CMP_TEST_LAST_FLAGS_B l) _ (.inl rfl), ?_, ?_⟩
  · have hbeside := State.rd_wr_beside ((s.modLn l (fun n => { n with testUndo := some (s.testBefore l) })).wr (Fld.CMP_TEST_LAST_FLAGS_A l) fa.toNat) (Fld.CMP_TEST_LAST_FLAGS_B l)
      (Fld.CMP_TEST_LAST_FLAGS_A l) fb.toNat (show 31 < 32 ∧ 16 ≤ 31 by decide) rfl (.inl (show 15 < 16 by decide))
    refine hbeside.trans ((State.rd_wr_same _ (Fld.CMP_TEST_LAST_FLAGS_A l) _ (show 15 < 32 ∧ 0 ≤ 15 by decide)).trans ?_)
    exact Nat.mod_eq_of_lt fa.isLt
  · exact (State.rd_wr_same _ (Fld.CMP_TEST_LAST_FLAGS_B l) _ (show 31 < 32 ∧ 16 ≤ 31 by decide)).trans (Nat.mod_eq_of_lt fb.isLt)

/-- What follows the flags touches CMP.STATUS alone. -/
theorem State.testShown_shows (s : State) (l : Lane) (fa fb : BitVec 16) (d0 d1 : Bool) :
    TestUnder l s (s.testShown l fa fb d0 d1) ∧ RegsKept [Reg.CMP_STATUS l] (s.testFlags l fa fb) (s.testShown l fa fb d0 d1) := by
  obtain ⟨hflags, -, -⟩ := s.testFlags_shows l fa fb
  have hown : ∀ {f : Field} {t u : State} {v : Nat}, f.addr = Reg.CMP_STATUS l →
      TestUnder l s t ∧ RegsKept [Reg.CMP_STATUS l] u t → TestUnder l s (t.wr f v) ∧ RegsKept [Reg.CMP_STATUS l] u (t.wr f v) :=
    fun hf h => ⟨h.1.wr _ (.inr hf), h.2.wr _ (hf ▸ .head _)⟩
  have hcopies := hown (f := Fld.CMP_STATUS_COPY_B_OK l) (v := b2n (fb == 0xFFFF)) rfl
    (hown (f := Fld.CMP_STATUS_COPY_A_OK l) (v := b2n (fa == 0xFFFF)) rfl ⟨hflags, RegsKept.refl [Reg.CMP_STATUS l] (s.testFlags l fa fb)⟩)
  obtain ⟨hunder, hkept⟩ := hcopies
  have hstage := And.intro (hunder.modLn (g := fun n => { n with testStage := n.testStage + 1 }) (fun _ => ⟨rfl, rfl⟩))
    (hkept.modLn l (fun n => { n with testStage := n.testStage + 1 }))
  have hdelay : ∀ {c : Bool} {f : Field} {t : State} {v : Nat}, f.addr = Reg.CMP_STATUS l →
      TestUnder l s t ∧ RegsKept [Reg.CMP_STATUS l] (s.testFlags l fa fb) t →
      TestUnder l s (if c then t.wr f v else t) ∧ RegsKept [Reg.CMP_STATUS l] (s.testFlags l fa fb) (if c then t.wr f v else t) :=
    fun hf h => ⟨(hown hf h).1.ite h.1, (hown hf h).2.ite h.2⟩
  exact hdelay (f := Fld.CMP_STATUS_DLY_H1_OK l) (v := b2n d1) rfl (hdelay (f := Fld.CMP_STATUS_DLY_H0_OK l) (v := b2n d0) rfl hstage)

/-- A test in a lane that can fault records its flags, and counts or faults the lane (R75, R76). -/
theorem State.runTest_result (s : State) {l : Lane} (fa fb : BitVec 16) (d0 d1 : Bool) (hon : TestOn s l) :
    TestResult s l fa fb d0 d1 (s.runTest l fa fb d0 d1) := by
  obtain ⟨-, hflagsA, hflagsB⟩ := s.testFlags_shows l fa fb
  obtain ⟨hunder, hkept⟩ := s.testShown_shows l fa fb d0 d1
  have hlast : ∀ f : Field, f.addr = Reg.CMP_TEST_LAST l → (s.testShown l fa fb d0 d1).rd f = (s.testFlags l fa fb).rd f := fun f hf =>
    hkept.rd (by rw [hf]; cases l <;> decide)
  have hshownA := (hlast (Fld.CMP_TEST_LAST_FLAGS_A l) rfl).trans hflagsA
  have hshownB := (hlast (Fld.CMP_TEST_LAST_FLAGS_B l) rfl).trans hflagsB
  have hverdict := s.testVerdict_iff l fa fb d0 d1
  rw [s.runTest_eq l fa fb d0 d1]
  generalize s.testShown l fa fb d0 d1 = r at hunder hshownA hshownB
  by_cases hgood : TestGood s l fa fb d0 d1
  · rw [if_pos (hverdict.mpr hgood)]
    have hcount : RegsKept [Reg.CMP_TEST_COUNT l] r ((r.bumpW (Fld.CMP_TEST_COUNT_COUNT l)).modLn l (fun n => { n with testAt := some s.clk.uptime })) :=
      ((RegsKept.refl _ r).wr (f := Fld.CMP_TEST_COUNT_COUNT l) _ (.head _)).modLn l _
    have honly : RegsOnly r (r.bumpW (Fld.CMP_TEST_COUNT_COUNT l)) := (RegsOnly.refl r).wr _ _
    refine ⟨(hcount.rd (f := Fld.CMP_TEST_LAST_FLAGS_A l) (by cases l <;> decide)).trans hshownA,
      (hcount.rd (f := Fld.CMP_TEST_LAST_FLAGS_B l) (by cases l <;> decide)).trans hshownB, fun _ => ⟨?_, ?_, ?_, ?_, ?_⟩, fun h => absurd hgood h⟩
    · exact (State.rd_setLn _ _ _ _).trans ((r.rd_bumpW_same (Fld.CMP_TEST_COUNT_COUNT l) (show 31 < 32 ∧ 0 ≤ 31 by decide)).trans
        (by rw [hunder.count]))
    · exact (hcount.rd (f := Fld.LC_LANE_STATUS_EXEC l) (by cases l <;> decide)).trans hunder.ex
    · rw [State.ln_modLn_same]
      exact (congrArg LaneSt.h0 (honly.ln l)).trans hunder.harts.1
    · rw [State.ln_modLn_same]
      exact (congrArg LaneSt.h1 (honly.ln l)).trans hunder.harts.2
    · exact (hcount _ (by cases l <;> decide)).trans hunder.cause
  · rw [if_neg (hverdict.not.mpr hgood)]
    have hfault := r.laneFault_kept l 4 0
    obtain ⟨hheld, hstopped⟩ := hon.up
    exact ⟨(hfault.rd (f := Fld.CMP_TEST_LAST_FLAGS_A l) (by cases l <;> decide)).trans hshownA,
      (hfault.rd (f := Fld.CMP_TEST_LAST_FLAGS_B l) (by cases l <;> decide)).trans hshownB, fun h => absurd h hgood, fun _ =>
      (r.laneFaulted_laneFault (by decide) (by decide) (hunder.ex ▸ hheld) (hunder.ex ▸ hstopped)).of_before
        (congrArg Clock.uptime hunder.clk) hunder.cause hunder.others⟩

/-- What came before a test and left the comparator's state and the harts alone does not show in its result. -/
theorem TestResult.of_before {r s t : State} {l : Lane} {fa fb : BitVec 16} {d0 d1 : Bool} (h : TestResult s l fa fb d0 d1 t)
    (hb : TestUnder l r s) (hstatus : s.reg (Reg.CMP_STATUS l) = r.reg (Reg.CMP_STATUS l)) : TestResult r l fa fb d0 d1 t := by
  obtain ⟨hA, hB, hgood, hbad⟩ := h
  have hsame : TestGood s l fa fb d0 d1 ↔ TestGood r l fa fb d0 d1 := by
    unfold TestGood
    rw [State.rd_of_reg (f := Fld.CMP_STATUS_H0_COMPARED l) hstatus, State.rd_of_reg (f := Fld.CMP_STATUS_H1_COMPARED l) hstatus]
  refine ⟨hA, hB, fun hg => ?_, fun hg => (hbad (hsame.not.mpr hg)).of_before (congrArg Clock.uptime hb.clk) hb.cause hb.others⟩
  obtain ⟨hcount, hex, h0, h1, hcause⟩ := hgood (hsame.mpr hg)
  exact ⟨hb.count ▸ hcount, hex.trans hb.ex, h0.trans hb.harts.1, h1.trans hb.harts.2, hcause.trans hb.cause⟩

theorem TestOn.of_before {r s : State} {l : Lane} (h : TestOn r l) (hb : TestUnder l r s)
    (hstatus : s.reg (Reg.CMP_STATUS l) = r.reg (Reg.CMP_STATUS l)) : TestOn s l := by
  unfold TestOn at h ⊢
  rw [hb.ex, State.rd_of_reg (f := Fld.CMP_STATUS_H0_COMPARED l) hstatus, State.rd_of_reg (f := Fld.CMP_STATUS_H1_COMPARED l) hstatus]
  exact h

/-! ### The commands of the comparator -/

/-- The test of a whole millisecond (R75). -/
theorem State.gives_forcedMismatchTest (s : State) {l : Lane} (fa fb : BitVec 16) (d0 d1 : Bool) (hon : TestOn s l)
    (hms : s.clk.uptime % 1000000 = 0) (hfirst : (s.ln l).testRun ≠ some s.clk.uptime) :
    Gives (.forcedMismatchTest l fa fb d0 d1) s (TestResult s l fa fb d0 d1) := by
  have hdue : (s.clk.uptime % 1000000 == 0 && (s.ln l).testRun != some s.clk.uptime && s.testable l) = true := by
    simp [hms, hfirst, (s.testable_iff l).mpr hon]
  have hmark : TestUnder l s (s.modLn l (fun n => { n with testRun := some s.clk.uptime })) := (TestUnder.refl l s).modLn (fun _ => ⟨rfl, rfl⟩)
  exact gives_of_exec (congrArg Host.Outcome.next (if_pos hdue)) ((State.runTest_result _ fa fb d0 d1 (hon.of_before hmark rfl)).of_before hmark rfl)

/-- Between the milliseconds, a second time in one, and where the lane does not test itself, no test runs (R75). -/
theorem State.gives_forcedMismatchTest_none (s : State) {l : Lane} (fa fb : BitVec 16) (d0 d1 : Bool)
    (h : ¬ TestOn s l ∨ s.clk.uptime % 1000000 ≠ 0 ∨ (s.ln l).testRun = some s.clk.uptime) :
    Gives (.forcedMismatchTest l fa fb d0 d1) s (fun t => t = s) := by
  have hidle : ¬ (s.clk.uptime % 1000000 == 0 && (s.ln l).testRun != some s.clk.uptime && s.testable l) = true := by
    rw [Bool.and_eq_true, s.testable_iff l]
    rintro ⟨hdue, hon⟩
    rcases h with h | h | h
    · exact h hon
    · simp [h] at hdue
    · simp [h] at hdue
  exact gives_of_exec (congrArg Host.Outcome.next (if_neg hidle)) rfl

/-- TEST_REQ_RUN: one additional test (R75). -/
theorem State.gives_testReqRun (s : State) {l : Lane} (h : Hart) (w : Word) (fa fb : BitVec 16) (d0 d1 : Bool) (hon : TestOn s l)
    (hmay : s.mayWrite (.hart l h) (Reg.CMP_TEST_REQ l) = true) :
    Gives (.testReqRun (.hart l h) w fa fb d0 d1) s (TestResult s l fa fb d0 d1) := by
  obtain ⟨_, _, hlog⟩ := s.merge_logOnly (Reg.CMP_TEST_REQ l) w
  have hkept := s.merge_kept (Reg.CMP_TEST_REQ l) w
  have hmerged : TestUnder l s (s.merge (Reg.CMP_TEST_REQ l) w) :=
    ⟨hkept.mono (fun _ hk => .tail _ (.tail _ hk)), by rw [hlog], fun m _ => by rw [hlog]; rfl, by rw [hlog]; exact ⟨rfl, rfl⟩⟩
  have hstatus : (s.merge (Reg.CMP_TEST_REQ l) w).reg (Reg.CMP_STATUS l) = s.reg (Reg.CMP_STATUS l) := hkept _ (by cases l <;> decide)
  have hstill := hon.of_before hmerged hstatus
  refine gives_of_exec (congrArg Host.Outcome.next ((s.regCmd_of_may w _ hmay).trans
    (congrArg (fun t => State.respond t (.hart l h) .done) (if_pos ((State.testable_iff _ l).mpr hstill))))) ?_
  exact (State.runTest_result _ fa fb d0 d1 hstill).of_before hmerged hstatus

/-! ### The counters of LC -/

/-- Only LC.CNT_CLEAR itself takes the write of a clear command: none of its fields is sealed. -/
theorem State.merge_cntClear_kept (s : State) (l : Lane) (w : Word) :
    RegsKept [Reg.LC_CNT_CLEAR l] s (s.merge (Reg.LC_CNT_CLEAR l) w) ∧ (s.merge (Reg.LC_CNT_CLEAR l) w).lane = s.lane := by
  obtain ⟨d, hd, hrws⟩ : ∃ d, regAt (Reg.LC_CNT_CLEAR l) = some d ∧ ∀ f ∈ d.fields, f.acc ≠ .rws := by
    cases l <;> exact ⟨_, rfl, by decide⟩
  rw [s.merge_eq w hd (by cases l <;> decide) (by cases l <;> decide) (by cases l <;> decide), s.noteSealed_eq_self w hd (.inl hrws)]
  exact ⟨(RegsKept.refl _ s).setReg _ (.head _), rfl⟩

/-- The registers that a clear command of LC touches (R91). -/
def lcCounters (l : Lane) : List Nat := [Reg.LC_CNT_CLEAR l, Reg.LC_DBG_STATUS l, Reg.LC_L1_CORR l, Reg.LC_L1_REFETCH l]

/-- The counters that a word names are cleared, whichever others it names (R91). -/
theorem State.lcClear_shows (s : State) (l : Lane) (w : Word) : RegsOnly s (s.lcClear l w) ∧ RegsKept (lcCounters l) s (s.lcClear l w) ∧
    (wbits w (Fld.LC_CNT_CLEAR_CLR_MISSED l) = 1 → (s.lcClear l w).rd (Fld.LC_DBG_STATUS_MISSED l) = 0) ∧
    (wbits w (Fld.LC_CNT_CLEAR_CLR_L1 l) = 1 → (s.lcClear l w).reg (Reg.LC_L1_CORR l) = 0 ∧ (s.lcClear l w).reg (Reg.LC_L1_REFETCH l) = 0) := by
  unfold State.lcClear
  generalize hm : (if wbits w (Fld.LC_CNT_CLEAR_CLR_MISSED l) = 1 then s.wr (Fld.LC_DBG_STATUS_MISSED l) 0 else s) = r
  have honly : RegsOnly s r := hm ▸ ((RegsOnly.refl s).wr _ _).ite (.refl s)
  have hkept : RegsKept (lcCounters l) s r := hm ▸ ((RegsKept.refl _ s).wr (f := Fld.LC_DBG_STATUS_MISSED l) 0 (.tail _ (.head _))).ite (.refl _ s)
  have hmissed : wbits w (Fld.LC_CNT_CLEAR_CLR_MISSED l) = 1 → r.rd (Fld.LC_DBG_STATUS_MISSED l) = 0 := fun h => by
    rw [if_pos h] at hm
    rw [← hm]
    exact State.rd_wr_same s (Fld.LC_DBG_STATUS_MISSED l) 0 (show 31 < 32 ∧ 16 ≤ 31 by decide)
  have hl1 : RegsKept [Reg.LC_L1_CORR l, Reg.LC_L1_REFETCH l] r ((r.setReg (Reg.LC_L1_CORR l) 0).setReg (Reg.LC_L1_REFETCH l) 0) :=
    ((RegsKept.refl _ r).setReg 0 (.head _)).setReg 0 (.tail _ (.head _))
  dsimp only
  refine ⟨(((honly.setReg _ _).setReg _ _)).ite honly, ((hkept.trans (hl1.mono (fun k hk => .tail _ (.tail _ hk))))).ite hkept, fun h => ?_, fun h => ?_⟩
  · split
    · exact (hl1.rd (f := Fld.LC_DBG_STATUS_MISSED l) (by cases l <;> decide)).trans (hmissed h)
    · exact hmissed h
  · rw [if_pos h]
    exact ⟨(State.reg_setReg_ne _ _ _ _ (by cases l <;> decide)).trans (State.reg_setReg_same _ _ _), State.reg_setReg_same _ _ _⟩

/-- A permitted clear command of LC: what the word clears, and nothing but the counters touched (R91). -/
theorem State.cntClear_shows (s : State) {l : Lane} {h : Hart} (w v : Word) (hmay : s.mayWrite (.hart l h) (Reg.LC_CNT_CLEAR l) = true) :
    let t := s.regCmd (.hart l h) (Reg.LC_CNT_CLEAR l) w (fun t => t.lcClear l v)
    t.lane = s.lane ∧ RegsKept (lcCounters l) s t ∧ (wbits v (Fld.LC_CNT_CLEAR_CLR_MISSED l) = 1 → t.rd (Fld.LC_DBG_STATUS_MISSED l) = 0) ∧
    (wbits v (Fld.LC_CNT_CLEAR_CLR_L1 l) = 1 → t.reg (Reg.LC_L1_CORR l) = 0 ∧ t.reg (Reg.LC_L1_REFETCH l) = 0) := by
  obtain ⟨hkept, hlane⟩ := s.merge_cntClear_kept l w
  obtain ⟨honly, hcleared, hmissed, hl1⟩ := (s.merge (Reg.LC_CNT_CLEAR l) w).lcClear_shows l v
  rw [s.regCmd_of_may w _ hmay]
  exact ⟨honly.lane.trans hlane, (hkept.mono (fun k hk => List.mem_singleton.mp hk ▸ .head _)).trans hcleared, hmissed, hl1⟩

/-- CLR_MISSED (R91). -/
theorem State.gives_clrMissed (s : State) {l : Lane} {h : Hart} (w : Word) (hmay : s.mayWrite (.hart l h) (Reg.LC_CNT_CLEAR l) = true) :
    Gives (.clrMissed (.hart l h) w) s (fun t => t.rd (Fld.LC_DBG_STATUS_MISSED l) = 0 ∧ t.lane = s.lane ∧ RegsKept (lcCounters l) s t) := by
  obtain ⟨hlane, hkept, hmissed, -⟩ := s.cntClear_shows w (w ||| 2) hmay
  exact gives_of_exec rfl ⟨hmissed (wbits_or_bit w 2 (Fld.LC_CNT_CLEAR_CLR_MISSED l) rfl (show (2 : Nat).testBit 1 = true by decide)), hlane, hkept⟩

/-- CLR_L1 (R91). -/
theorem State.gives_clrL1 (s : State) {l : Lane} {h : Hart} (w : Word) (hmay : s.mayWrite (.hart l h) (Reg.LC_CNT_CLEAR l) = true) :
    Gives (.clrL1 (.hart l h) w) s (fun t => t.reg (Reg.LC_L1_CORR l) = 0 ∧ t.reg (Reg.LC_L1_REFETCH l) = 0 ∧ t.lane = s.lane ∧
      RegsKept (lcCounters l) s t) := by
  obtain ⟨hlane, hkept, -, hl1⟩ := s.cntClear_shows w (w ||| 1) hmay
  obtain ⟨hcorr, hrefetch⟩ := hl1 (wbits_or_bit w 1 (Fld.LC_CNT_CLEAR_CLR_L1 l) rfl (show (1 : Nat).testBit 0 = true by decide))
  exact gives_of_exec rfl ⟨hcorr, hrefetch, hlane, hkept⟩

/-! ### Errors of the L1 caches -/

/-- The field of L1_CORR that counts a corrected error of this cache (R91). -/
def l1CorrFld (l : Lane) (instr : Bool) : Field := if instr then Fld.LC_L1_CORR_IC_CORR l else Fld.LC_L1_CORR_DC_CORR l

/-- In core-only mode an error of an L1 cache counts in one field (R71). -/
theorem exec_l1ParityError_counts (s : State) {l : Lane} (instr double : Bool) (hmode : (s.ln l).replMode ≠ 1) :
    exec (.l1ParityError l instr double) s = .next (s.bump (if double then Fld.LC_L1_REFETCH_REFETCH l else l1CorrFld l instr)) := by
  refine congrArg Host.Outcome.next ((if_neg hmode).trans ?_)
  cases double <;> cases instr <;> rfl

/-- The three counters are apart from one another. -/
theorem State.rd_bump_l1 (s : State) (l : Lane) (instr double : Bool) :
    let t := s.bump (if double then Fld.LC_L1_REFETCH_REFETCH l else l1CorrFld l instr)
    t.rd (Fld.LC_L1_REFETCH_REFETCH l) = (if double then min 65535 (s.rd (Fld.LC_L1_REFETCH_REFETCH l) + 1) else s.rd (Fld.LC_L1_REFETCH_REFETCH l)) ∧
    t.rd (Fld.LC_L1_CORR_IC_CORR l) = (if !double && instr then min 65535 (s.rd (Fld.LC_L1_CORR_IC_CORR l) + 1) else s.rd (Fld.LC_L1_CORR_IC_CORR l)) ∧
    t.rd (Fld.LC_L1_CORR_DC_CORR l) = (if !double && !instr then min 65535 (s.rd (Fld.LC_L1_CORR_DC_CORR l) + 1) else s.rd (Fld.LC_L1_CORR_DC_CORR l)) := by
  have hlow : (15 < 32 ∧ 0 ≤ 15) := by decide
  have hhigh : (31 < 32 ∧ 16 ≤ 31) := by decide
  have happart : homeKey (Reg.LC_L1_CORR l) ≠ homeKey (Reg.LC_L1_REFETCH l) := by cases l <;> decide
  cases double
  · cases instr
    · exact ⟨s.rd_wr_reg (Fld.LC_L1_CORR_DC_CORR l) (Fld.LC_L1_REFETCH_REFETCH l) _ happart.symm,
        s.rd_wr_beside (Fld.LC_L1_CORR_DC_CORR l) (Fld.LC_L1_CORR_IC_CORR l) _ hlow rfl (.inr (show 15 < 16 by decide)),
        s.rd_bump_same (Fld.LC_L1_CORR_DC_CORR l) hlow⟩
    · exact ⟨s.rd_wr_reg (Fld.LC_L1_CORR_IC_CORR l) (Fld.LC_L1_REFETCH_REFETCH l) _ happart.symm,
        s.rd_bump_same (Fld.LC_L1_CORR_IC_CORR l) hhigh,
        s.rd_wr_beside (Fld.LC_L1_CORR_IC_CORR l) (Fld.LC_L1_CORR_DC_CORR l) _ hhigh rfl (.inl (show 15 < 16 by decide))⟩
  · exact ⟨s.rd_bump_same (Fld.LC_L1_REFETCH_REFETCH l) hlow, s.rd_wr_reg (Fld.LC_L1_REFETCH_REFETCH l) (Fld.LC_L1_CORR_IC_CORR l) _ happart,
      s.rd_wr_reg (Fld.LC_L1_REFETCH_REFETCH l) (Fld.LC_L1_CORR_DC_CORR l) _ happart⟩

/-- L1_PARITY_ERROR in core-only mode (R71): one counter goes up and nothing else changes. -/
theorem State.gives_l1ParityError_counts (s : State) {l : Lane} (instr double : Bool) (hmode : (s.ln l).replMode ≠ 1) :
    Gives (.l1ParityError l instr double) s (fun t => OnlyRegs s t ∧ RegsKept [Reg.LC_L1_REFETCH l, Reg.LC_L1_CORR l] s t ∧
      t.rd (Fld.LC_L1_REFETCH_REFETCH l) = (if double then min 65535 (s.rd (Fld.LC_L1_REFETCH_REFETCH l) + 1) else s.rd (Fld.LC_L1_REFETCH_REFETCH l)) ∧
      t.rd (Fld.LC_L1_CORR_IC_CORR l) = (if !double && instr then min 65535 (s.rd (Fld.LC_L1_CORR_IC_CORR l) + 1) else s.rd (Fld.LC_L1_CORR_IC_CORR l)) ∧
      t.rd (Fld.LC_L1_CORR_DC_CORR l) = (if !double && !instr then min 65535 (s.rd (Fld.LC_L1_CORR_DC_CORR l) + 1) else s.rd (Fld.LC_L1_CORR_DC_CORR l))) := by
  refine gives_of_exec (exec_l1ParityError_counts s instr double hmode) ⟨((RegsOnly.refl s).bump _).onlyRegs, (RegsKept.refl _ s).wr _ ?_, s.rd_bump_l1 l instr double⟩
  cases double
  · cases instr <;> exact .tail _ (.head _)
  · exact .head _

/-- Settles O14, command by command. -/
theorem comparatorTestsAndCounters : Obligations.ComparatorTestsAndCounters := by
  unfold Obligations.ComparatorTestsAndCounters
  intro s l h w fa fb d0 d1
  exact ⟨fun hon hms hfirst => s.gives_forcedMismatchTest fa fb d0 d1 hon hms hfirst, fun hidle => s.gives_forcedMismatchTest_none fa fb d0 d1 hidle,
    fun hon hmay => s.gives_testReqRun h w fa fb d0 d1 hon hmay, fun hmay => ⟨s.gives_clrMissed w hmay, s.gives_clrL1 w hmay⟩,
    fun hmode hheld hstopped instr double => gives_of_exec (congrArg Host.Outcome.next (if_pos hmode))
      (s.laneFaulted_laneFault (by decide) (by decide) hheld hstopped),
    fun hmode instr double => s.gives_l1ParityError_counts instr double hmode⟩

end Sys2Proof.Machine
end

section
/-! PROOF. The debug modules (R84 to R90; O22): a hart that is halted and one that resumes, the debug grant, abstract commands, triggers and
the single step. -/

namespace Sys2Proof.Machine

/-! ### A hart that is halted -/

/-- A change of the lane beside its harts leaves every hart. -/
theorem State.hart_modLn (s : State) (l m : Lane) (k : Hart) {g : LaneSt → LaneSt} (hg : ∀ n, (g n).h0 = n.h0 ∧ (g n).h1 = n.h1) :
    (s.modLn l g).hart m k = s.hart m k := by
  unfold State.hart
  rw [State.ln_modLn]
  by_cases hm : m = l
  · subst hm
    cases k <;> simp [hg]
  · rw [if_neg hm]

theorem State.hart_modDm (s : State) (l m : Lane) (k : Hart) (g : DmSt → DmSt) : (s.modDm l g).hart m k = s.hart m k :=
  s.hart_modLn l m k (fun _ => ⟨rfl, rfl⟩)

/-- What does not touch the lanes leaves every hart. -/
theorem State.hart_of_lane {s t : State} (h : t.lane = s.lane) (l : Lane) (k : Hart) : t.hart l k = s.hart l k := by
  unfold State.hart State.ln
  rw [h]

/-- The hart in its debug state (R85, R87): dpc and dcsr keep its pc, the cause and its mode, and its counters stand. -/
def HartSt.inDebug (x : HartSt) (cause uptime : Nat) : HartSt :=
  { (x.setCsr csrDpc x.pc).setCsr csrDcsr ((x.csrRaw csrDcsr &&& ~~~0x1C3#64) ||| BitVec.ofNat 64 (64 * cause + if x.machine then 3 else 0)) with
    halted := true, step := false, gated := false, cycStop := some (x.cycles uptime) }

theorem HartSt.dpc_inDebug (x : HartSt) (cause uptime : Nat) : (x.inDebug cause uptime).csrRaw csrDpc = x.pc :=
  ((x.setCsr csrDpc x.pc).csrRaw_setCsr csrDcsr csrDpc _).trans (x.csrRaw_setCsr csrDpc csrDpc x.pc)

/-- The lane's halt notice, and its image held back, where it hands over images (R87). -/
def LaneSt.halting (n : LaneSt) (tell : Bool) : LaneSt :=
  { n with handover := if tell then none else n.handover, haltNotice := n.haltNotice || tell, resumeAt := none }

/-- The halted hart and the notices of its lane, before the lane shows the halt (R87). -/
def State.hartHalted (s : State) (l : Lane) (h : Hart) (cause : Nat) : State :=
  ((s.setHart l h ((s.hart l h).inDebug cause s.clk.uptime)).wr (haltedFld l h) 1).modLn l
    (fun n => n.halting (s.ex l == Exec.running || s.ex l == Exec.replayCheck))

/-- What the lane shows once a hart of it was halted (R83, R87, R89). -/
def State.laneHalted (s s1 : State) (l : Lane) (h : Hart) : State :=
  if s.flag (Fld.LC_LS_CFG_DBG_MODE l) then
    let s2 := s1.set1 (Fld.LC_LANE_STATUS_REPLAY_HALT l)
    if s.debuggable l then s2.wr (Fld.LC_LANE_STATUS_EXEC l) Exec.replayHalt else s2
  else
    let s2 := ((s1.set1 (Fld.LC_LANE_STATUS_DEBUG_SPLIT l)).wr (comparedFld l h) 0).wr (Fld.LC_LANE_STATUS_IN_STEP l) 0
    let s3 := s2.recordCause l 0x0B 0
    if s.debuggable l then s3.wr (Fld.LC_LANE_STATUS_EXEC l) Exec.splitHalt else s3

theorem State.haltHart_of_running (s : State) {l : Lane} {h : Hart} (cause : Nat) (hh : (s.hart l h).halted = false) :
    s.haltHart l h cause = s.laneHalted (s.hartHalted l h cause) l h := if_neg (Bool.eq_false_iff.mp hh)

/-- The registers that a halt touches. -/
def haltKeys (l : Lane) : List Nat := Reg.LC_LANE_STATUS l :: Reg.CMP_STATUS l :: causeKeys l

/-- Registers of a halt differ and nothing else, and the hart's mark stays. -/
structure MarkKept (l : Lane) (h : Hart) (s t : State) : Prop where
  only : RegsOnly s t
  kept : RegsKept (haltKeys l) s t
  mark : t.rd (haltedFld l h) = s.rd (haltedFld l h)

namespace MarkKept

variable {l : Lane} {h : Hart} {s t u : State}

theorem refl (l : Lane) (h : Hart) (s : State) : MarkKept l h s s := ⟨.refl s, .refl _ s, rfl⟩

theorem trans (h1 : MarkKept l h s t) (h2 : MarkKept l h t u) : MarkKept l h s u :=
  ⟨h1.only.trans h2.only, h1.kept.trans h2.kept, h2.mark.trans h1.mark⟩

theorem ite {c : Prop} [Decidable c] (ht : MarkKept l h s t) (hu : MarkKept l h s u) : MarkKept l h s (if c then t else u) := by
  split
  · exact ht
  · exact hu

/-- A field of LC.LANE_STATUS beside the marks of the two harts. -/
theorem wr_status (hst : MarkKept l h s t) {f : Field} (v : Nat) (ha : f.addr = Reg.LC_LANE_STATUS l)
    (hf : f.hi < 32 ∧ f.lo ≤ f.hi ∧ (f.hi < 3 ∨ 4 < f.lo)) : MarkKept l h s (t.wr f v) := by
  obtain ⟨hhi, hle, hbeside⟩ := hf
  refine hst.trans ⟨(RegsOnly.refl t).wr _ _, (RegsKept.refl _ t).wr v (ha ▸ .head _), t.rd_wr_beside f _ v ⟨hhi, hle⟩ ?_ ?_⟩
  · cases h <;> exact ha.symm
  · have hmark : 3 ≤ (haltedFld l h).lo ∧ (haltedFld l h).hi ≤ 4 := by
      cases h
      · exact (by decide : 3 ≤ 3 ∧ 3 ≤ 4)
      · exact (by decide : 3 ≤ 4 ∧ 4 ≤ 4)
    omega

/-- Registers of a halt other than LC.LANE_STATUS. -/
theorem other (hst : MarkKept l h s t) {ks : List Nat} (honly : RegsOnly t u) (hkept : RegsKept ks t u) (hsub : ∀ k ∈ ks, k ∈ haltKeys l)
    (hne : ∀ k ∈ ks, homeKey (Reg.LC_LANE_STATUS l) ≠ homeKey k) : MarkKept l h s u :=
  hst.trans ⟨honly, hkept.mono hsub, hkept.rd (by cases h <;> exact hne)⟩

end MarkKept

theorem State.laneHalted_markKept (s s1 : State) (l : Lane) (h : Hart) : MarkKept l h s1 (s.laneHalted s1 l h) := by
  have hexec : ∀ {t : State} (v : Nat), MarkKept l h s1 t → MarkKept l h s1 (t.wr (Fld.LC_LANE_STATUS_EXEC l) v) := fun v ht =>
    ht.wr_status v rfl (show 11 < 32 ∧ 8 ≤ 11 ∧ (11 < 3 ∨ 4 < 8) by decide)
  have hreplay : MarkKept l h s1 (s1.set1 (Fld.LC_LANE_STATUS_REPLAY_HALT l)) :=
    (MarkKept.refl l h s1).wr_status 1 rfl (show 6 < 32 ∧ 6 ≤ 6 ∧ (6 < 3 ∨ 4 < 6) by decide)
  have hsplit : MarkKept l h s1 (s1.set1 (Fld.LC_LANE_STATUS_DEBUG_SPLIT l)) :=
    (MarkKept.refl l h s1).wr_status 1 rfl (show 5 < 32 ∧ 5 ≤ 5 ∧ (5 < 3 ∨ 4 < 5) by decide)
  have hcompared : (comparedFld l h).addr ∈ [Reg.CMP_STATUS l] := by cases h <;> exact .head _
  have halone := hsplit.other ((RegsOnly.refl _).wr (comparedFld l h) 0) ((RegsKept.refl [Reg.CMP_STATUS l] _).wr 0 hcompared)
    (fun k hk => List.mem_singleton.mp hk ▸ .tail _ (.head _)) (by cases l <;> decide)
  have hstep := halone.wr_status (f := Fld.LC_LANE_STATUS_IN_STEP l) 0 rfl (show 0 < 32 ∧ 0 ≤ 0 ∧ (0 < 3 ∨ 4 < 0) by decide)
  have hcause := hstep.other (State.recordCause_regsOnly _ l 0x0B 0) (State.recordCause_kept _ l 0x0B 0) (fun k hk => .tail _ (.tail _ hk))
    (by cases l <;> decide)
  exact ((hexec _ hreplay).ite hreplay).ite ((hexec _ hcause).ite hcause)

theorem haltedFld_bits (l : Lane) (h : Hart) : (haltedFld l h).addr = Reg.LC_LANE_STATUS l ∧ (haltedFld l h).hi < 32 ∧
    (haltedFld l h).lo = (haltedFld l h).hi := by
  cases h
  · exact ⟨rfl, show 3 < 32 by decide, rfl⟩
  · exact ⟨rfl, show 4 < 32 by decide, rfl⟩

theorem State.vote_setHart (s : State) (l : Lane) (h : Hart) (x : HartSt) : (s.setHart l h x).vote = s.vote := by cases h <;> rfl

theorem State.dbgReq_setHart (s : State) (l : Lane) (h : Hart) (x : HartSt) : ((s.setHart l h x).ln l).dbgReq = (s.ln l).dbgReq := by
  cases l <;> cases h <;> rfl

/-- What a halt leaves (R85, R87): the hart in debug mode, its mark, and beside the halt's registers and its own lane nothing else. -/
structure HaltShown (l : Lane) (h : Hart) (cause : Nat) (s t : State) : Prop where
  hart : t.hart l h = (s.hart l h).inDebug cause s.clk.uptime
  mark : t.rd (haltedFld l h) = 1
  kept : RegsKept (haltKeys l) s t
  vote : t.vote = s.vote
  others : ∀ m, m ≠ l → t.ln m = s.ln m
  request : (t.ln l).dbgReq = (s.ln l).dbgReq

theorem State.hartHalted_shows (s : State) (l : Lane) (h : Hart) (cause : Nat) : HaltShown l h cause s (s.hartHalted l h cause) := by
  obtain ⟨haddr, hhi, hlo⟩ := haltedFld_bits l h
  have hset : RegsKept (haltKeys l) s (s.setHart l h ((s.hart l h).inDebug cause s.clk.uptime)) := RegsKept.of_regs (s.regs_setHart l h _)
  have hmark := State.rd_wr_same (s.setHart l h ((s.hart l h).inDebug cause s.clk.uptime)) (haltedFld l h) 1 ⟨hhi, hlo ▸ Nat.le_refl _⟩
  rw [hlo, Nat.add_sub_cancel_left] at hmark
  have hown := (RegsOnly.refl (s.setHart l h ((s.hart l h).inDebug cause s.clk.uptime))).wr (haltedFld l h) 1
  refine ⟨?_, (State.rd_setLn _ _ _ _).trans hmark, (hset.wr (f := haltedFld l h) 1 (haddr ▸ .head _)).modLn l _, ?_, fun m hm => ?_, ?_⟩
  · exact (State.hart_modLn _ l l h (g := fun n => n.halting (s.ex l == Exec.running || s.ex l == Exec.replayCheck)) (fun _ => ⟨rfl, rfl⟩)).trans
      ((State.hart_of_lane hown.lane l h).trans (s.hart_setHart_same l h _))
  · exact (State.setLn_vote _ _ _).trans (hown.vote.trans (s.vote_setHart l h _))
  · exact (State.ln_modLn_ne _ _ hm).trans ((hown.ln m).trans (s.ln_setHart_ne h _ hm))
  · unfold State.hartHalted
    rw [State.ln_modLn_same]
    exact (congrArg LaneSt.dbgReq (hown.ln l)).trans (s.dbgReq_setHart l h _)

/-- A running hart that is halted. -/
theorem State.haltHart_shows (s : State) {l : Lane} {h : Hart} (cause : Nat) (hh : (s.hart l h).halted = false) :
    HaltShown l h cause s (s.haltHart l h cause) := by
  obtain ⟨hhart, hmark, hkept, hvote, hothers, hrequest⟩ := s.hartHalted_shows l h cause
  obtain ⟨honly, hlater, hsame⟩ := s.laneHalted_markKept (s.hartHalted l h cause) l h
  rw [s.haltHart_of_running cause hh]
  exact ⟨(State.hart_of_lane honly.lane l h).trans hhart, hsame.trans hmark, hkept.trans hlater, honly.vote.trans hvote,
    fun m hm => (honly.ln m).trans (hothers m hm), (congrArg LaneSt.dbgReq (honly.ln l)).trans hrequest⟩

/-! ### A hart that resumes -/

/-- A lane's harts and the other lanes stay, and so does its being live. -/
structure StillLive (l : Lane) (s t : State) : Prop where
  harts : ∀ k, t.hart l k = s.hart l k
  others : ∀ m, m ≠ l → t.ln m = s.ln m
  live : s.laneLive l = true → t.laneLive l = true

namespace StillLive

variable {l : Lane} {s t u : State}

theorem refl (l : Lane) (s : State) : StillLive l s s := ⟨fun _ => rfl, fun _ _ => rfl, id⟩

theorem trans (h1 : StillLive l s t) (h2 : StillLive l t u) : StillLive l s u :=
  ⟨fun k => (h2.harts k).trans (h1.harts k), fun m hm => (h2.others m hm).trans (h1.others m hm), fun h => h2.live (h1.live h)⟩

theorem ite {c : Prop} [Decidable c] (ht : StillLive l s t) (hu : StillLive l s u) : StillLive l s (if c then t else u) := by
  split
  · exact ht
  · exact hu

/-- What leaves the lanes and the field EXEC. -/
theorem beside (h : StillLive l s t) (hlane : u.lane = t.lane) (hex : u.ex l = t.ex l) : StillLive l s u := by
  refine h.trans ⟨fun k => State.hart_of_lane hlane l k, fun m _ => congrArg (fun x : Tri LaneSt => x.get m) hlane, fun hlive => ?_⟩
  unfold State.laneLive at hlive ⊢
  rw [hex]
  exact hlive

theorem setVote (h : StillLive l s t) (v : VoteSt) : StillLive l s { t with vote := v } := h.beside rfl rfl

/-- A lane that runs on without check, or checked in replay (R88, R90). -/
theorem wr_exec (h : StillLive l s t) {v : Nat} (hv : v = Exec.splitRun ∨ v = Exec.replayCheck) :
    StillLive l s (t.wr (Fld.LC_LANE_STATUS_EXEC l) v) := by
  refine h.trans ⟨fun _ => rfl, fun _ _ => rfl, fun _ => ?_⟩
  have hex := t.rd_wr_same (Fld.LC_LANE_STATUS_EXEC l) v (show 11 < 32 ∧ 8 ≤ 11 by decide)
  unfold State.laneLive State.ex
  rw [hex]
  rcases hv with rfl | rfl <;> rfl

theorem modLn (h : StillLive l s t) {g : LaneSt → LaneSt} (hg : ∀ n, (g n).h0 = n.h0 ∧ (g n).h1 = n.h1) : StillLive l s (t.modLn l g) :=
  h.trans ⟨fun k => t.hart_modLn l l k hg, fun _ hm => t.ln_modLn_ne g hm, id⟩

end StillLive

theorem State.laneResumed_stillLive (s s1 : State) (l : Lane) : StillLive l s1 (s.laneResumed s1 l) := by
  have hreplay : StillLive l s1 (s1.wr (Fld.LC_LANE_STATUS_REPLAY_HALT l) 0) := (StillLive.refl l s1).beside rfl
    (s1.rd_wr_beside (Fld.LC_LANE_STATUS_REPLAY_HALT l) (Fld.LC_LANE_STATUS_EXEC l) 0 (show 6 < 32 ∧ 6 ≤ 6 by decide) rfl
      (.inr (show 6 < 8 by decide)))
  have hcheck := (hreplay.wr_exec (.inr rfl)).modLn (g := fun n => { n with resumeAt := some s.clk.uptime, resumeK := s.cyc.k })
    (fun _ => ⟨rfl, rfl⟩)
  exact (StillLive.refl l s1).ite (((hcheck.setVote _).ite hreplay).ite (((StillLive.refl l s1).wr_exec (.inl rfl)).ite (.refl l s1)))

theorem State.settleGrant_frame (s : State) (l : Lane) :
    RegsKept [Reg.LC_DBG_STATUS l] s (s.settleGrant l) ∧ (s.settleGrant l).lane = s.lane := by
  unfold State.settleGrant
  split
  · exact ⟨s.returnGrant_kept l, (s.returnGrant_frame l).1⟩
  · exact ⟨.refl _ s, rfl⟩

/-- A halted hart that is resumed runs on from dpc; the lane stays live and the other lanes are as they were (R88). -/
theorem State.resumeReq_shows (s : State) {l : Lane} {h : Hart} (hh : (s.hart l h).halted = true) :
    (s.resumeReq l h).hart l h = (s.hart l h).resumed s.clk.uptime ∧ (∀ m, m ≠ l → (s.resumeReq l h).ln m = s.ln m) ∧
    (s.laneLive l = true → (s.resumeReq l h).laneLive l = true) := by
  obtain ⟨haddr, hhi, hlo⟩ := haltedFld_bits l h
  obtain ⟨g, hg⟩ := s.resumeReq_of_halted hh
  have hset : (s.setHart l h ((s.hart l h).resumed s.clk.uptime)).ex l = s.ex l := State.rd_of_reg (State.reg_of_regs (s.regs_setHart l h _) _)
  have hown := s.hart_setHart_same l h ((s.hart l h).resumed s.clk.uptime)
  have hmark : StillLive l (s.setHart l h ((s.hart l h).resumed s.clk.uptime))
      ((s.setHart l h ((s.hart l h).resumed s.clk.uptime)).wr (haltedFld l h) 0) := by
    refine (StillLive.refl l _).beside rfl (State.rd_wr_beside _ (haltedFld l h) (Fld.LC_LANE_STATUS_EXEC l) 0 ⟨hhi, hlo ▸ Nat.le_refl _⟩ haddr.symm (.inr ?_))
    cases h
    · exact (by decide : 3 < 8)
    · exact (by decide : 4 < 8)
  have hothers : ∀ m, m ≠ l → (s.setHart l h ((s.hart l h).resumed s.clk.uptime)).ln m = s.ln m := fun m hm => s.ln_setHart_ne h _ hm
  rw [hg, s.resumeHart_of_halted hh]
  generalize s.setHart l h ((s.hart l h).resumed s.clk.uptime) = r at hset hown hmark hothers
  have hack := (hmark.trans (s.laneResumed_stillLive (r.wr (haltedFld l h) 0) l)).modLn (g := fun n => { n with dm := g n.dm }) (fun _ => ⟨rfl, rfl⟩)
  have hsettled : StillLive l r ((((s.laneResumed (r.wr (haltedFld l h) 0) l)).modDm l g).settleGrant l) := by
    obtain ⟨hkept, hlane⟩ := ((s.laneResumed (r.wr (haltedFld l h) 0) l).modDm l g).settleGrant_frame l
    exact StillLive.beside hack hlane (hkept.rd (f := Fld.LC_LANE_STATUS_EXEC l) (by cases l <;> decide))
  refine ⟨(hsettled.harts h).trans hown, fun m hm => (hsettled.others m hm).trans (hothers m hm), fun hlive => hsettled.live ?_⟩
  unfold State.laneLive at hlive ⊢
  rw [hset]
  exact hlive

/-! ### Requests without the strap -/

/-- Without the maintenance strap the debug modules do not answer (R84). -/
theorem gives_without_strap {c : Instr} {s t : State} (h : s.strap = false) (hexec : exec c s = .next (if s.strap then t else s)) :
    Gives c s (fun t => t = s) := gives_of_exec (hexec.trans (congrArg Host.Outcome.next (if_neg (Bool.eq_false_iff.mp h)))) rfl

theorem State.gives_singleStep_without_strap (s : State) (l : Lane) (h : Hart) (op : RvOp) (short : Bool) (hstrap : s.strap = false) :
    Gives (.singleStep l h op short) s (fun t => t = s) := by
  have hoff : ¬ (s.strap && (s.hart l h).halted && bitOf ((s.hart l h).csrRaw csrDcsr).toNat 2 && s.laneLive l) = true := by simp [hstrap]
  exact gives_of_exec (congrArg Host.Outcome.next (if_neg hoff)) rfl

/-! ### Requests with the strap -/

theorem exec_haltreq {s : State} {l : Lane} {h : Hart} (hstrap : s.strap = true) (hlive : s.laneLive l = true) (hh : (s.hart l h).halted = false) :
    exec (.haltreq l h) s = .next (if s.mayHalt l then s.haltHart l h 3 else s.askGrant l (.halt h)) := by
  refine congrArg Host.Outcome.next ((if_pos hstrap).trans (if_neg ?_))
  simp [hlive, hh]

/-- HALTREQ of a lane that may be halted at once (R85, R87). -/
theorem State.gives_haltreq (s : State) {l : Lane} {h : Hart} (hstrap : s.strap = true) (hlive : s.laneLive l = true)
    (hh : (s.hart l h).halted = false) (hmay : s.mayHalt l = true) :
    Gives (.haltreq l h) s (fun t => (t.hart l h).halted = true ∧ (t.hart l h).csrRaw csrDpc = (s.hart l h).pc ∧ t.rd (haltedFld l h) = 1 ∧
      ∀ m, m ≠ l → t.ln m = s.ln m) := by
  obtain ⟨hhart, hmark, -, -, hothers, -⟩ := s.haltHart_shows 3 hh
  refine gives_of_exec ((exec_haltreq hstrap hlive hh).trans (congrArg Host.Outcome.next (if_pos hmay))) ⟨?_, ?_, hmark, hothers⟩
  · rw [hhart]; rfl
  · rw [hhart]; exact (s.hart l h).dpc_inDebug 3 s.clk.uptime

/-- HALTREQ of a lane that needs the grant waits for it (R86). -/
theorem State.gives_haltreq_waits (s : State) {l : Lane} {h : Hart} (hstrap : s.strap = true) (hlive : s.laneLive l = true)
    (hh : (s.hart l h).halted = false) (hmay : s.mayHalt l = false) (hnone : (s.ln l).dbgReq = none) :
    Gives (.haltreq l h) s (fun t => t = s.setLn l { s.ln l with dbgReq := some (.halt h), dbgAt := s.clk.uptime }) := by
  refine gives_of_exec ((exec_haltreq hstrap hlive hh).trans (congrArg Host.Outcome.next (if_neg (Bool.eq_false_iff.mp hmay)))) ?_
  unfold State.askGrant
  rw [hnone]
  rfl

/-- RESUMEREQ of a halted hart (R85, R88). -/
theorem State.gives_resumereq (s : State) {l : Lane} {h : Hart} (hstrap : s.strap = true) (hh : (s.hart l h).halted = true) :
    Gives (.resumereq l h) s (fun t => (t.hart l h).halted = false ∧ (t.hart l h).pc = (s.hart l h).csrRaw csrDpc ∧ ∀ m, m ≠ l → t.ln m = s.ln m) := by
  obtain ⟨hhart, hothers, -⟩ := s.resumeReq_shows hh
  refine gives_of_exec (congrArg Host.Outcome.next (if_pos hstrap)) ⟨?_, ?_, hothers⟩
  · rw [hhart]; rfl
  · rw [hhart]; rfl

/-- RESETHALTREQ (R85). -/
theorem State.gives_resethaltreq (s : State) (l : Lane) (h : Hart) (b : Bool) (hstrap : s.strap = true) :
    Gives (.resethaltreq l h b) s (fun t => t.hart l h = { s.hart l h with resetHalt := b } ∧ t.regs = s.regs) :=
  gives_of_exec (congrArg Host.Outcome.next (if_pos hstrap)) ⟨s.hart_setHart_same l h _, s.regs_setHart l h _⟩

/-- NDMRESET of a lane that may be reset at once (R85). -/
theorem State.gives_ndmreset (s : State) {l : Lane} (hstrap : s.strap = true) (hmay : s.mayHalt l = true) (hheld : s.ex l ≠ Exec.held)
    (hstopped : s.ex l ≠ Exec.stopped) : Gives (.ndmreset l) s (fun t => LaneFaulted s t l 0x0C 0) :=
  gives_of_exec (congrArg Host.Outcome.next ((if_pos hstrap).trans (if_pos hmay))) (s.laneFaulted_laneFault (by decide) (by decide) hheld hstopped)

/-! ### The debug grant -/

/-- No lane before this one in the order LANE_A, LANE_B, LANE_C asked in the same jc (R86). -/
def AskedFirst (s : State) (l : Lane) : Prop := ∀ o, o.num < l.num → (s.ln o).dbgReq = none ∨ (s.ln o).dbgAt ≠ (s.ln l).dbgAt

/-- Whether no other lane holds the grant or comes before this one (R86). -/
def State.grantFree (s : State) (l : Lane) : Bool :=
  s.vote.grant == some l || (s.vote.grant.isNone &&
    !lanes.any (fun o => decide (o.num < l.num) && (s.ln o).dbgReq.isSome && (s.ln o).dbgAt == (s.ln l).dbgAt))

theorem State.askedBefore_eq_false_iff (s : State) (l : Lane) :
    lanes.any (fun o => decide (o.num < l.num) && (s.ln o).dbgReq.isSome && (s.ln o).dbgAt == (s.ln l).dbgAt) = false ↔ AskedFirst s l := by
  have hall : ∀ o : Lane, o ∈ lanes := fun o => by cases o <;> decide
  unfold AskedFirst
  rw [List.any_eq_false]
  refine forall_congr' fun o => ⟨fun h hnum => ?_, fun h _ hc => ?_⟩
  · by_contra hne
    obtain ⟨hsome, hat⟩ := not_or.mp hne
    exact h (hall o) (by simpa [hnum, Option.isSome_iff_ne_none, hsome] using hat)
  · simp only [Bool.and_eq_true, decide_eq_true_eq, beq_iff_eq, Option.isSome_iff_ne_none] at hc
    obtain ⟨⟨hnum, hsome⟩, hat⟩ := hc
    exact (h hnum).elim hsome (fun hne => hne hat)

theorem State.grantFree_iff (s : State) (l : Lane) : s.grantFree l = true ↔ s.vote.grant = none ∧ AskedFirst s l ∨ s.vote.grant = some l := by
  rw [← s.askedBefore_eq_false_iff l]
  unfold State.grantFree
  simp only [Bool.or_eq_true, Bool.and_eq_true, beq_iff_eq, Option.isNone_iff_eq_none, Bool.not_eq_true']
  exact or_comm

/-- The junction has given the lane the grant (R86). -/
def State.granted (s : State) (l : Lane) : State :=
  ({ s.modLn l (fun n => { n with dbgReq := none }) with vote := { s.vote with grant := some l } } : State).wr (Fld.LC_DBG_STATUS_GRANT l) 1

theorem exec_debugGrantAnswer_halt {s : State} {l : Lane} {h : Hart} (hreq : (s.ln l).dbgReq = some (.halt h)) : exec (.debugGrantAnswer l) s =
    .next (if s.numVoting = 3 ∧ s.grantFree l = true then (s.granted l).haltHart l h 3
      else (s.modLn l (fun n => { n with dbgReq := none })).set1 (Fld.LC_DBG_STATUS_HALT_REFUSED l)) := by
  show execDebugGrantAnswer l s = _
  unfold execDebugGrantAnswer
  rw [hreq]
  rfl

/-- The grant is given and the halt takes effect (R86). -/
theorem State.gives_debugGrantAnswer (s : State) {l : Lane} {h : Hart} (hreq : (s.ln l).dbgReq = some (.halt h)) (hvoting : s.numVoting = 3)
    (hfree : s.vote.grant = none ∧ AskedFirst s l ∨ s.vote.grant = some l) (hh : (s.hart l h).halted = false) :
    Gives (.debugGrantAnswer l) s (fun t => t.vote.grant = some l ∧ t.rd (Fld.LC_DBG_STATUS_GRANT l) = 1 ∧ (t.hart l h).halted = true ∧
      (t.ln l).dbgReq = none) := by
  have hhart : (s.granted l).hart l h = s.hart l h := s.hart_modLn l l h (g := fun n => { n with dbgReq := none }) (fun _ => ⟨rfl, rfl⟩)
  have hgrant : (s.granted l).rd (Fld.LC_DBG_STATUS_GRANT l) = 1 :=
    State.rd_wr_same _ (Fld.LC_DBG_STATUS_GRANT l) 1 (show 3 < 32 ∧ 3 ≤ 3 by decide)
  have hrequest : ((s.granted l).ln l).dbgReq = none := congrArg LaneSt.dbgReq (s.ln_modLn_same l (fun n => { n with dbgReq := none }))
  have hvote : (s.granted l).vote.grant = some l := rfl
  refine gives_of_exec ((exec_debugGrantAnswer_halt hreq).trans (congrArg Host.Outcome.next (if_pos ⟨hvoting, (s.grantFree_iff l).mpr hfree⟩))) ?_
  generalize s.granted l = r at hhart hgrant hrequest hvote
  obtain ⟨hdebug, -, hkept, hvote', -, hrequest'⟩ := r.haltHart_shows 3 (hhart ▸ hh)
  refine ⟨hvote' ▸ hvote, (hkept.rd (f := Fld.LC_DBG_STATUS_GRANT l) (by cases l <;> decide)).trans hgrant, ?_, hrequest'.trans hrequest⟩
  rw [hdebug]
  rfl

/-- The grant is refused: HALT_REFUSED is set and the request dropped (R86). -/
theorem State.gives_debugGrantAnswer_refused (s : State) {l : Lane} {h : Hart} (hreq : (s.ln l).dbgReq = some (.halt h))
    (hno : s.numVoting < 3 ∨ (∃ m, m ≠ l ∧ s.vote.grant = some m) ∨ (s.vote.grant = none ∧ ¬ AskedFirst s l)) :
    Gives (.debugGrantAnswer l) s (fun t => t.vote = s.vote ∧ t.rd (Fld.LC_DBG_STATUS_HALT_REFUSED l) = 1 ∧
      t.lane = (s.setLn l { s.ln l with dbgReq := none }).lane) := by
  have hrefused : ¬ (s.numVoting = 3 ∧ s.grantFree l = true) := by
    rw [s.grantFree_iff l]
    rintro ⟨hvoting, hfree⟩
    rcases hno with hno | ⟨m, hm, hgrant⟩ | ⟨hgrant, hlater⟩
    · omega
    · simp [hgrant, hm] at hfree
    · simp [hgrant, hlater] at hfree
  exact gives_of_exec ((exec_debugGrantAnswer_halt hreq).trans (congrArg Host.Outcome.next (if_neg hrefused)))
    ⟨rfl, State.rd_wr_same _ (Fld.LC_DBG_STATUS_HALT_REFUSED l) 1 (show 1 < 32 ∧ 1 ≤ 1 by decide), rfl⟩

/-! ### Abstract commands -/

/-- The integer register that a register number of an abstract command names (R85). -/
theorem fin_of_gpr (r : Fin 32) : Fin.ofNat 32 (0x1000 + r.val - 0x1000) = r := by
  rw [Nat.add_sub_cancel_left]
  exact Fin.ofNat_val_eq_self r

theorem State.absRead_gpr (s : State) (l : Lane) (h : Hart) (r : Fin 32) : s.absRead l h (0x1000 + r.val) = some ((s.hart l h).xr r) := by
  have hr := r.isLt
  unfold State.absRead
  dsimp only
  rw [if_neg (by omega), if_pos (by omega), fin_of_gpr]

theorem State.absWrite_gpr (s : State) (l : Lane) (h : Hart) (r : Fin 32) (v : BitVec 64) :
    s.absWrite l h (0x1000 + r.val) v = some (s.setHart l h ((s.hart l h).setX r v)) := by
  have hr := r.isLt
  unfold State.absWrite
  dsimp only
  rw [if_neg (show ¬ 0x1000 + r.val = 0x7B0 by omega), if_neg (by omega), if_neg (by omega), if_pos (by omega), fin_of_gpr]

/-- A read of an integer register of a halted hart (R85). -/
theorem State.gives_abstractRead (s : State) {l : Lane} {h : Hart} (hstrap : s.strap = true) (herr : (s.ln l).dm.cmderr = 0)
    (hh : (s.hart l h).halted = true) {r : Fin 32} {rn : Fin 65536} (hrn : rn.val = 0x1000 + r.val) (arg : BitVec 64) (prog : List RvOp) :
    Gives (.abstractCommand l h true true false false rn arg prog) s (fun t => (t.ln l).dm.data = (s.hart l h).xr r ∧ t.hart l h = s.hart l h ∧
      t.regs = s.regs) := by
  have hcommand : s.absCommand l h true true false false rn.val prog = s.modDm l (fun d => { d with data := (s.hart l h).xr r }) := by
    unfold State.absCommand
    simp [herr, hh, hrn, s.absRead_gpr l h r]
  refine gives_of_exec (congrArg Host.Outcome.next ((if_pos hstrap).trans hcommand)) ⟨?_, s.hart_modDm l l h _, rfl⟩
  rw [s.dm_modDm_same l]

/-- A write of an integer register of a halted hart (R85). -/
theorem State.gives_abstractWrite (s : State) {l : Lane} {h : Hart} (hstrap : s.strap = true) (herr : (s.ln l).dm.cmderr = 0)
    (hh : (s.hart l h).halted = true) {r : Fin 32} {rn : Fin 65536} (hrn : rn.val = 0x1000 + r.val) (arg : BitVec 64) (prog : List RvOp) :
    Gives (.abstractCommand l h true true true false rn arg prog) s (fun t => (t.hart l h).xr r = (if r = 0 then 0 else arg) ∧
      (∀ q, q ≠ r → (t.hart l h).xr q = (s.hart l h).xr q) ∧ t.regs = s.regs) := by
  have hdm : ((s.modDm l (fun d => { d with data := arg })).ln l).dm = { (s.ln l).dm with data := arg } := s.dm_modDm_same l _
  have hhart : (s.modDm l (fun d => { d with data := arg })).hart l h = s.hart l h := s.hart_modDm l l h _
  have hregs : (s.modDm l (fun d => { d with data := arg })).regs = s.regs := rfl
  have hexec : exec (.abstractCommand l h true true true false rn arg prog) s =
      .next ((s.modDm l (fun d => { d with data := arg })).absCommand l h true true true false rn.val prog) :=
    congrArg Host.Outcome.next (if_pos hstrap)
  generalize s.modDm l (fun d => { d with data := arg }) = u at hdm hhart hregs hexec
  have hcommand : u.absCommand l h true true true false rn.val prog = u.setHart l h ((s.hart l h).setX r arg) := by
    unfold State.absCommand State.narrow
    simp [hdm, hhart, herr, hh, hrn, u.absWrite_gpr l h r]
  refine gives_of_exec (hexec.trans (congrArg Host.Outcome.next hcommand)) ⟨?_, fun q hq => ?_, (u.regs_setHart l h _).trans hregs⟩
  · rw [State.hart_setHart_same]
    by_cases h0 : r = 0
    · rw [if_pos h0, h0]; rfl
    · rw [HartSt.xr_setX, if_pos ⟨rfl, h0⟩, if_neg h0]
  · rw [State.hart_setHart_same, HartSt.xr_setX, if_neg (fun hc => hq hc.1)]

/-- An abstract command of a running hart ends with cmderr 4. -/
theorem State.gives_abstractCommand_running (s : State) {l : Lane} {h : Hart} (hstrap : s.strap = true) (herr : (s.ln l).dm.cmderr = 0)
    (hh : (s.hart l h).halted = false) (rn : Fin 65536) (arg : BitVec 64) (prog : List RvOp) :
    Gives (.abstractCommand l h true true false false rn arg prog) s (fun t => (t.ln l).dm.cmderr = 4 ∧ t.hart l h = s.hart l h) := by
  have hcommand : s.absCommand l h true true false false rn.val prog = s.modDm l (fun d => { d with cmderr := Cmderr.haltResume }) := by
    unfold State.absCommand
    simp [herr, hh]
  refine gives_of_exec (congrArg Host.Outcome.next ((if_pos hstrap).trans hcommand)) ⟨?_, s.hart_modDm l l h _⟩
  rw [s.dm_modDm_same l]

/-! ### Triggers -/

/-- Position `i` of a list in which it was replaced. -/
theorem getElem?_setAt_same {α : Type} (v : α) : ∀ (xs : List α) (i : Nat), i < xs.length → (setAt xs i v)[i]? = some v
  | [], _, h => absurd h (Nat.not_lt_zero _)
  | _ :: _, 0, _ => rfl
  | _ :: xs, i + 1, h => getElem?_setAt_same v xs i (Nat.lt_of_succ_lt_succ h)

/-- TRIGGER_ARM in a lane that does not vote (R85). -/
theorem State.gives_triggerArm (s : State) {l : Lane} {h : Hart} (hstrap : s.strap = true) (hlen : (s.hart l h).triggers.length = 4)
    (hvotes : s.votes l = false) (tg : Fin 4) (v : Trigger) :
    Gives (.triggerArm l h tg v none) s (fun t => (t.hart l h).triggers[tg.val]? = some v ∧ (t.hart l h).x = (s.hart l h).x ∧
      (t.hart l h).pc = (s.hart l h).pc) := by
  have hmay : s.mayHalt l = true := by simp [State.mayHalt, hvotes]
  have hput : s.writeTrigger l h tg v = s.putTrigger l h tg v := if_pos (by rw [hmay, Bool.or_true])
  have hhart : (s.putTrigger l h tg v).hart l h = { s.hart l h with triggers := setAt (s.hart l h).triggers tg.val v } :=
    (State.hart_of_lane (State.settleGrant_frame _ l).2 l h).trans (s.hart_setHart_same l h _)
  refine gives_of_exec (congrArg Host.Outcome.next ((if_pos hstrap).trans hput)) ?_
  rw [hhart]
  exact ⟨getElem?_setAt_same v _ _ (by rw [hlen]; exact tg.isLt), rfl, rfl⟩

theorem exec_triggerHit {s : State} {l : Lane} {h : Hart} {tg : Fin 4} {v : Trigger} (hv : (s.hart l h).triggers[tg.val]? = some v)
    (hmode : (if (s.hart l h).machine then v.m else v.u) = true) (hup : s.hartUp l h = true) (hclock : (s.hart l h).gated = false) :
    exec (.triggerHit l h tg) s =
      .next (if v.action = 1 ∧ s.mayHalt l then s.haltHart l h 2 else s.takeFree.2.raiseTrap l h 3 s.takeFree.1) := by
  show execTriggerHit l h tg s = _
  unfold execTriggerHit
  rw [hv]
  refine congrArg Host.Outcome.next (if_pos ?_)
  rw [hup, hclock]
  exact hmode

theorem State.running_of_up {s : State} {l : Lane} {h : Hart} (hup : s.hartUp l h = true) : (s.hart l h).halted = false := by
  unfold State.hartUp at hup
  simp only [Bool.and_eq_true, Bool.not_eq_true'] at hup
  exact hup.1.1.2

/-- An exception of a hart that does not single-step. -/
theorem State.raiseTrap_of_no_step (s : State) {l : Lane} {h : Hart} (cause : Nat) (v : BitVec 64) (hstep : (s.hart l h).step = false) :
    s.raiseTrap l h cause v = s.setHart l h ((s.hart l h).trap false cause v) := by
  unfold State.raiseTrap State.afterStep
  rw [State.hart_setHart_same]
  exact if_neg (Bool.eq_false_iff.mp (((s.hart l h).trap_shows false cause v).2.2.2.1.trans hstep))

/-- A trigger of action 0 is a breakpoint exception (R85). -/
theorem State.gives_triggerHit_exception (s : State) {l : Lane} {h : Hart} {tg : Fin 4} {v : Trigger} (hv : (s.hart l h).triggers[tg.val]? = some v)
    (hmode : (if (s.hart l h).machine then v.m else v.u) = true) (hup : s.hartUp l h = true) (hclock : (s.hart l h).gated = false)
    (haction : v.action = 0) (hstep : (s.hart l h).step = false) :
    Gives (.triggerHit l h tg) s (fun t => (t.hart l h).csrRaw csrMcause = 3 ∧ (t.hart l h).csrRaw csrMepc = (s.hart l h).pc ∧
      (t.hart l h).halted = false) := by
  obtain ⟨hepc, hcause, -⟩ := (s.hart l h).trap_shows false 3 s.takeFree.1
  have hexception : s.takeFree.2.raiseTrap l h 3 s.takeFree.1 = s.takeFree.2.setHart l h ((s.hart l h).trap false 3 s.takeFree.1) :=
    State.raiseTrap_of_no_step s.takeFree.2 3 s.takeFree.1 hstep
  refine gives_of_exec ((exec_triggerHit hv hmode hup hclock).trans
    (congrArg Host.Outcome.next ((if_neg (by rw [haction]; exact fun hc => absurd hc.1 (by decide))).trans hexception))) ?_
  rw [State.hart_setHart_same]
  exact ⟨hcause, hepc, s.running_of_up hup⟩

/-- A trigger of action 1 halts the hart where the lane may be halted (R85, R86). -/
theorem State.gives_triggerHit_halt (s : State) {l : Lane} {h : Hart} {tg : Fin 4} {v : Trigger} (hv : (s.hart l h).triggers[tg.val]? = some v)
    (hmode : (if (s.hart l h).machine then v.m else v.u) = true) (hup : s.hartUp l h = true) (hclock : (s.hart l h).gated = false)
    (haction : v.action = 1) (hmay : s.mayHalt l = true) :
    Gives (.triggerHit l h tg) s (fun t => (t.hart l h).halted = true ∧ (t.hart l h).csrRaw csrDpc = (s.hart l h).pc) := by
  have hshown := s.haltHart_shows 2 (State.running_of_up hup)
  refine gives_of_exec ((exec_triggerHit hv hmode hup hclock).trans (congrArg Host.Outcome.next (if_pos ⟨haction, hmay⟩))) ?_
  rw [hshown.hart]
  exact ⟨rfl, (s.hart l h).dpc_inDebug 2 s.clk.uptime⟩

/-! ### The single step -/

/-- With every PMP entry off machine mode has access (R65). -/
theorem HartSt.pmpAllows_of_off (x : HartSt) (need a n : Nat) (hoff : ∀ i < 16, x.pmpMode i = 0) : x.pmpAllows true need a n = true := by
  have hnone : (List.range 16).find? (fun i => decide ((x.pmpRange i).1 < a + n ∧ a < (x.pmpRange i).2)) = none := by
    rw [List.find?_eq_none]
    intro i hi
    have hrange : x.pmpRange i = (0, 0) := by
      unfold HartSt.pmpRange
      rw [hoff i (List.mem_range.mp hi)]
      rfl
    rw [hrange]
    simp
  unfold HartSt.pmpAllows
  rw [hnone]

/-- An instruction of four bytes is fetched from scratch where PMP allows it (R28, R65). -/
theorem State.fetch_scratch (s : State) (l : Lane) (h : Hart) {a : Nat} (hlow : 0x08000000 ≤ a) (hhigh : a + 4 ≤ 0x08100000)
    (hallowed : ∀ b, (s.hart l h).pmpAllows (s.hart l h).machine 4 b 2 = true) : s.fetch l h a 4 = (s, none) := by
  unfold State.fetch
  rw [s.fetchParcel_scratch l h hlow (by omega) (hallowed a)]
  dsimp only
  rw [if_neg (by decide), s.fetchParcel_scratch l h (Nat.le_trans hlow (Nat.le_add_right _ 2)) (by omega) (hallowed (a + 2))]

/-- A hart that single-steps over a FENCE in scratch halts at the instruction after it (R85). -/
theorem State.hartStep_fence (s : State) {l : Lane} {h : Hart} (hlive : s.laneLive l = true) (hstep : (s.hart l h).step = true)
    (hlow : 0x08000000 ≤ (s.hart l h).pc.toNat) (hhigh : (s.hart l h).pc.toNat + 4 ≤ 0x08100000)
    (hallowed : ∀ b, (s.hart l h).pmpAllows (s.hart l h).machine 4 b 2 = true) :
    s.hartStep l h .fence false = (s.setHart l h ((s.hart l h).moved ((s.hart l h).pc + 4))).haltHart l h 4 := by
  have hretired : s.hartStep l h .fence false = s.retire1 l h .fence ((s.hart l h).pc + 4) := by
    unfold State.hartStep
    dsimp only
    rw [if_neg (by decide), s.fetch_scratch l h hlow hhigh hallowed]
    rfl
  rw [hretired]
  unfold State.retire1
  refine (if_pos hlive).trans (if_pos ?_)
  exact (congrArg HartSt.step (s.hart_setHart_same l h _)).trans hstep

/-- SINGLE_STEP (R85): one instruction, and the hart halts again with dpc behind it. -/
theorem State.gives_singleStep (s : State) {l : Lane} {h : Hart} (hstrap : s.strap = true) (hh : (s.hart l h).halted = true)
    (hstep : ((s.hart l h).csrRaw csrDcsr).toNat.testBit 2 = true) (hprv : bitsOf ((s.hart l h).csrRaw csrDcsr).toNat 1 0 = 3)
    (hlive : s.laneLive l = true) (hlow : 0x08000000 ≤ ((s.hart l h).csrRaw csrDpc).toNat)
    (hhigh : ((s.hart l h).csrRaw csrDpc).toNat + 4 ≤ 0x08100000) (hoff : ∀ i < 16, (s.hart l h).pmpMode i = 0) :
    Gives (.singleStep l h .fence false) s (fun t => (t.hart l h).halted = true ∧
      (t.hart l h).csrRaw csrDpc = (s.hart l h).csrRaw csrDpc + 4 ∧ ∀ r, (t.hart l h).xr r = (s.hart l h).xr r) := by
  obtain ⟨hhart, -, hstill⟩ := s.resumeReq_shows hh
  have hbit : bitOf ((s.hart l h).csrRaw csrDcsr).toNat 2 = true := (bitOf_eq_testBit _ 2).trans hstep
  have hon : (s.strap && (s.hart l h).halted && bitOf ((s.hart l h).csrRaw csrDcsr).toNat 2 && s.laneLive l) = true := by
    rw [hstrap, hh, hbit, hlive]; rfl
  have hlive' := hstill hlive
  refine gives_of_exec (congrArg Host.Outcome.next (if_pos hon)) ?_
  generalize s.resumeReq l h = u at hhart hlive'
  have hmachine : (u.hart l h).machine = true := by
    rw [hhart]
    show (bitsOf ((s.hart l h).csrRaw csrDcsr).toNat 1 0 == 3) = true
    rw [hprv]; rfl
  have hstepping : (u.hart l h).step = true := by rw [hhart]; exact hbit
  have hpc : (u.hart l h).pc = (s.hart l h).csrRaw csrDpc := by rw [hhart]; rfl
  have hallowed : ∀ b, (u.hart l h).pmpAllows (u.hart l h).machine 4 b 2 = true := fun b => by
    rw [hmachine]
    exact HartSt.pmpAllows_of_off _ 4 b 2 (fun i hi => by rw [hhart]; exact hoff i hi)
  have hrun : (u.setHart l h ((u.hart l h).moved ((u.hart l h).pc + 4))).hart l h = (u.hart l h).moved ((u.hart l h).pc + 4) :=
    u.hart_setHart_same l h _
  have hrunning : ((u.setHart l h ((u.hart l h).moved ((u.hart l h).pc + 4))).hart l h).halted = false := by rw [hrun, hhart]; rfl
  have hshown := State.haltHart_shows (u.setHart l h ((u.hart l h).moved ((u.hart l h).pc + 4))) 4 hrunning
  rw [u.hartStep_fence hlive' hstepping (hpc ▸ hlow) (hpc ▸ hhigh) hallowed, hshown.hart, hrun]
  refine ⟨rfl, (HartSt.dpc_inDebug _ 4 _).trans ?_, fun r => ?_⟩
  · show (u.hart l h).pc + 4 = _
    rw [hpc]
  · show ((u.hart l h).moved ((u.hart l h).pc + 4)).xr r = _
    rw [HartSt.xr_moved, hhart]
    rfl

/-! ### The end of a replay check -/

/-- REPLAY_TIMEOUT (R90): 2 s after the resume without 8 agreeing cycles. -/
theorem State.gives_replayTimeout (s : State) {l : Lane} {y : Nat} (hresume : (s.ln l).resumeAt = some y) (hcheck : s.ex l = Exec.replayCheck)
    (hlate : y + 2000000000 ≤ s.clk.uptime) (hagree : s.vote.agree.get l < 8) : Gives (.replayTimeout l) s (fun t => LaneFaulted s t l 1 0) := by
  have hexec : exec (.replayTimeout l) s = .next (s.laneFault l 1 0) := by
    show execReplayTimeout l s = _
    unfold execReplayTimeout
    rw [hresume]
    exact congrArg Host.Outcome.next (if_pos ⟨hcheck, hlate, hagree⟩)
  exact gives_of_exec hexec (s.laneFaulted_laneFault (by decide) (by decide) (by rw [hcheck]; decide) (by rw [hcheck]; decide))

/-- Settles O22, request by request. -/
theorem debugModule : Obligations.DebugModule := by
  unfold Obligations.DebugModule
  intro s l h
  refine ⟨fun hoff b dw tr wr pe rn arg pr tg v dc op sh => ⟨gives_without_strap hoff rfl, gives_without_strap hoff rfl, gives_without_strap hoff rfl,
      gives_without_strap hoff rfl, gives_without_strap hoff rfl, gives_without_strap hoff rfl, s.gives_singleStep_without_strap l h op sh hoff⟩,
    fun hstrap hlive hh => ⟨fun hmay => s.gives_haltreq hstrap hlive hh hmay, fun hmay hnone => s.gives_haltreq_waits hstrap hlive hh hmay hnone⟩,
    fun hreq => ⟨fun hvoting hfree hh => s.gives_debugGrantAnswer hreq hvoting hfree hh, fun hno => s.gives_debugGrantAnswer_refused hreq hno⟩,
    fun hstrap hh => s.gives_resumereq hstrap hh, fun hstrap b => s.gives_resethaltreq l h b hstrap,
    fun hstrap hmay hheld hstopped => s.gives_ndmreset hstrap hmay hheld hstopped,
    fun hstrap herr r rn arg pr hrn => ⟨fun hh => ⟨s.gives_abstractRead hstrap herr hh hrn arg pr, s.gives_abstractWrite hstrap herr hh hrn arg pr⟩,
      fun hh => s.gives_abstractCommand_running hstrap herr hh rn arg pr⟩,
    fun hstrap hlen hvotes tg v => s.gives_triggerArm hstrap hlen hvotes tg v,
    fun tg v hv hmode hup hclock => ⟨fun haction hstep => s.gives_triggerHit_exception hv hmode hup hclock haction hstep,
      fun haction hmay => s.gives_triggerHit_halt hv hmode hup hclock haction hmay⟩,
    fun hstrap hh hstep hprv hlive hlow hhigh hoff => s.gives_singleStep hstrap hh hstep hprv hlive hlow hhigh hoff,
    fun y hresume hcheck hlate hagree => s.gives_replayTimeout hresume hcheck hlate hagree⟩

end Sys2Proof.Machine
end

section
/-! PROOF. What the power-fail warning leaves in place (R149, R153, R154, R487): the flags and notices that it has set stay through the capture
of the retained regions, also where a read of a region meets an error and stops the lane. -/

namespace Sys2Proof.Machine

/-! ### The marks of the warning -/

/-- The registers that hold the warning's marks (R487, R149). -/
def warnKeys : List Nat := Reg.JC_PWR_STATUS :: lanes.map Reg.TRD_STATUS

theorem trdStatus_mem_warnKeys (m : Lane) : Reg.TRD_STATUS m ∈ warnKeys := .tail _ (List.mem_map_of_mem (by cases m <;> decide))

/-- Registers beside the warning's marks. -/
abbrev BesideWarn (ks : List Nat) : Prop := ∀ j ∈ ks, ∀ k ∈ warnKeys, homeKey k ≠ homeKey j

/-- The warning's time and marks are as before, and a lane without notices still has none. -/
structure WarnKept (s t : State) : Prop where
  since : t.pfWarnAt = s.pfWarnAt
  warned : t.rd Fld.JC_PWR_STATUS_PF_WARN = s.rd Fld.JC_PWR_STATUS_PF_WARN
  halted : ∀ m, t.rd (Fld.TRD_STATUS_HALT_REL m) = s.rd (Fld.TRD_STATUS_HALT_REL m)
  empty : ∀ m, (s.ln m).notices = [] → (t.ln m).notices = []

namespace WarnKept

variable {s t u : State}

theorem refl (s : State) : WarnKept s s := ⟨rfl, rfl, fun _ => rfl, fun _ h => h⟩

theorem trans (h1 : WarnKept s t) (h2 : WarnKept t u) : WarnKept s u :=
  ⟨h2.since.trans h1.since, h2.warned.trans h1.warned, fun m => (h2.halted m).trans (h1.halted m), fun m h => h2.empty m (h1.empty m h)⟩

theorem ite {c : Prop} [Decidable c] (ht : WarnKept s t) (hu : WarnKept s u) : WarnKept s (if c then t else u) := by
  split
  · exact ht
  · exact hu

theorem foldl {α : Type} {g : State → α → State} (xs : List α) (h : WarnKept s t) (hg : ∀ u, ∀ x ∈ xs, WarnKept u (g u x)) :
    WarnKept s (xs.foldl g t) := by
  induction xs generalizing t with
  | nil => exact h
  | cons x xs ih => exact ih (h.trans (hg t x (.head _))) (fun u y hy => hg u y (.tail _ hy))

/-- Hidden state that holds neither the warning's time nor notices. -/
theorem beside (h : WarnKept s t) (hsince : u.pfWarnAt = t.pfWarnAt) (hregs : u.regs = t.regs) (hlane : u.lane = t.lane) : WarnKept s u :=
  h.trans ⟨hsince, State.rd_of_reg (State.reg_of_regs hregs _), fun _ => State.rd_of_reg (State.reg_of_regs hregs _), fun m hm => by
    unfold State.ln
    rw [hlane]
    exact hm⟩

/-- Registers beside the marks, and nothing else. -/
theorem regs (h : WarnKept s t) {ks : List Nat} (honly : RegsOnly t u) (hkept : RegsKept ks t u) (hks : BesideWarn ks) : WarnKept s u :=
  h.trans ⟨honly.keeps State.pfWarnAt fun _ => rfl, hkept.rd (fun j hj => hks j hj _ (.head _)),
    fun m => hkept.rd (fun j hj => hks j hj _ (trdStatus_mem_warnKeys m)), fun m hm => by rw [honly.ln]; exact hm⟩

theorem wr (h : WarnKept s t) {f : Field} (v : Nat) (hf : BesideWarn [f.addr]) : WarnKept s (t.wr f v) :=
  h.regs ((RegsOnly.refl t).wr f v) ((RegsKept.refl [f.addr] t).wr v (.head _)) hf

/-- A field of TRD.STATUS beside HALT_REL. -/
theorem wr_status (h : WarnKept s t) {f : Field} (v : Nat) {l : Lane} (ha : f.addr = Reg.TRD_STATUS l) (hbits : f.hi < 32 ∧ f.lo ≤ f.hi)
    (hbeside : f.hi < 30 ∨ 30 < f.lo) : WarnKept s (t.wr f v) := by
  refine h.trans ⟨rfl, t.rd_wr_reg f _ v (by rw [ha]; cases l <;> decide), fun m => ?_, fun _ hm => hm⟩
  by_cases hm : m = l
  · exact t.rd_wr_beside f (Fld.TRD_STATUS_HALT_REL m) v hbits (by rw [ha, hm]; rfl) hbeside.symm
  · refine t.rd_wr_reg f (Fld.TRD_STATUS_HALT_REL m) v ?_
    rw [ha]
    revert hm
    cases l <;> cases m <;> decide

theorem modLn (h : WarnKept s t) (l : Lane) {g : LaneSt → LaneSt} (hg : ∀ n, n.notices = [] → (g n).notices = []) : WarnKept s (t.modLn l g) := by
  refine h.trans ⟨rfl, rfl, fun _ => rfl, fun m hm => ?_⟩
  rw [State.ln_modLn]
  split
  next heq => exact hg _ (heq ▸ hm)
  next => exact hm

theorem setMctl (h : WarnKept s t) (m : MemSel) (x : MemCtl) : WarnKept s (t.setMctl m x) := by
  cases m <;> exact h.beside rfl rfl rfl

theorem setDdr (h : WarnKept s t) (m : MemSel) (x : Mem) : WarnKept s (t.setDdr m x) := by
  cases m with
  | lane l => exact h.modLn l (g := fun n => { n with ddr := x }) (fun _ hn => hn)
  | junction => exact h.beside rfl rfl rfl

theorem setHart (h : WarnKept s t) (l : Lane) (k : Hart) (x : HartSt) : WarnKept s (t.setHart l k x) := by
  cases k
  · exact h.modLn l (g := fun n => { n with h0 := x }) (fun _ hn => hn)
  · exact h.modLn l (g := fun n => { n with h1 := x }) (fun _ hn => hn)

theorem drop (h : WarnKept s t) (l : Lane) (k : Hart) (line : Nat) : WarnKept s (t.drop l k line) := (h.setHart l k _).ite h

end WarnKept

/-! ### A lane that stops -/

theorem besideWarn_taskStat (l : Lane) : ∀ n < 24, BesideWarn [taskStat l n] := by cases l <;> decide

theorem besideWarn_causeKeys (l : Lane) : BesideWarn (causeKeys l) := by cases l <;> decide

theorem State.clearTasks_warnKept (s : State) (l : Lane) : WarnKept s (s.clearTasks l) := by
  have hstats : WarnKept s (s.clearTaskStats l) := (WarnKept.refl s).foldl _ (fun u n hn =>
    have hbeside := besideWarn_taskStat l n (List.mem_range.mp hn)
    ((WarnKept.refl u).wr (f := ⟨taskStat l n, 31, 29⟩) 0 hbeside).wr (f := ⟨taskStat l n, 27, 27⟩) 0 hbeside)
  have hshown := (hstats.wr_status (f := Fld.TRD_STATUS_QUIET l) 1 rfl (show 31 < 32 ∧ 31 ≤ 31 by decide) (.inr (show 30 < 31 by decide))).wr_status
    (f := Fld.TRD_STATUS_CUR_TASK l) 0x1F rfl (show 28 < 32 ∧ 24 ≤ 28 by decide) (.inl (show 28 < 30 by decide))
  have hnext := hshown.regs ((RegsOnly.refl _).setReg (Reg.TRD_NEXT l) 0x1F) ((RegsKept.refl [Reg.TRD_NEXT l] _).setReg 0x1F (.head _))
    (by cases l <;> decide)
  rw [s.clearTasks_eq l]
  exact (hnext.modLn l (g := LaneSt.noTask) (fun _ _ => rfl)).drop l .h0 11

theorem State.showStopped_warnKept (s : State) (l : Lane) : WarnKept s (s.showStopped l) := by
  refine (WarnKept.refl s).regs (ks := [Reg.LC_LANE_STATUS l, Reg.CMP_STATUS l]) (s.showStopped_regsOnly l) ?_ (by cases l <;> decide)
  exact ((((((RegsKept.refl _ s).wr (f := Fld.LC_LANE_STATUS_EXEC l) _ (.head _)).wr (f := Fld.LC_LANE_STATUS_IN_STEP l) _ (.head _)).wr
    (f := Fld.LC_LANE_STATUS_H0_HALTED l) _ (.head _)).wr (f := Fld.LC_LANE_STATUS_H1_HALTED l) _ (.head _)).wr
    (f := Fld.LC_LANE_STATUS_REPLAY_HALT l) _ (.head _)).setReg (k := Reg.CMP_STATUS l) _ (.tail _ (.head _))

theorem State.stopLane_warnKept (s : State) (l : Lane) : WarnKept s (s.stopLane l) := by
  have hstop := ((s.showStopped_warnKept l).trans ((s.showStopped l).clearTasks_warnKept l)).modLn l (g := LaneSt.stopped) (fun _ hn => hn)
  rcases s.stopLane_eq l with h | h
  · rw [h]; exact hstop
  · rw [h]; exact hstop.beside rfl rfl rfl

theorem State.sameLc_warnKept (s : State) (l : Lane) (cause group : Nat) : WarnKept s (s.sameLc l cause group) := by
  have hcause : BesideWarn [Reg.LC_FAULT_CAUSE l] := by cases l <;> decide
  unfold State.sameLc
  split
  next c g t _ =>
    have hnotice := (WarnKept.refl s).modLn l (g := fun n => { n with withdrawal := some ((secondCause c g cause group).1, (secondCause c g cause group).2, t) })
      (fun _ hn => hn)
    exact ((((hnotice.wr (f := Fld.LC_FAULT_CAUSE_CAUSE l) _ hcause).wr (f := Fld.LC_FAULT_CAUSE_GROUP l) _ hcause)).ite hnotice).ite (.refl s)
  next => exact .refl s

/-- A lane fault leaves the warning's marks. -/
theorem State.laneFault_warnKept (s : State) (l : Lane) (cause group : Nat) : WarnKept s (s.laneFault l cause group) := by
  have hrecord : WarnKept s (s.recordCause l cause group) :=
    (WarnKept.refl s).regs (s.recordCause_regsOnly l cause group) (s.recordCause_kept l cause group) (besideWarn_causeKeys l)
  have hstop := (hrecord.trans (State.stopLane_warnKept _ l)).modLn l (g := fun n => { n with withdrawal := some (cause, group, s.clk.uptime) })
    (fun _ hn => hn)
  exact (s.sameLc_warnKept l cause group).ite hstop

/-! ### A read of a range -/

/-- The registers of a controller's errors and of its counters (R167, R176). -/
def storeErrorKeys (m : MemSel) : List Nat := Reg.MEM_CORR_COUNT m :: Reg.MEM_SRAM_CORR m :: errorKeys m

theorem besideWarn_storeErrorKeys (m : MemSel) : BesideWarn (storeErrorKeys m) := by
  cases m with
  | lane l => cases l <;> decide
  | junction => decide

theorem State.countError_warnKept (s : State) (m : MemSel) (type : Nat) (uncorr : Bool) : WarnKept s (s.countError m type uncorr) := by
  have hkeys := besideWarn_storeErrorKeys m
  have hcount : ∀ f : Field, f.addr ∈ storeErrorKeys m → WarnKept s (s.bump f) := fun f hf =>
    (WarnKept.refl s).regs ((RegsOnly.refl s).bump f) ((RegsKept.refl _ s).wr _ hf) hkeys
  have hsram : Reg.MEM_SRAM_CORR m ∈ storeErrorKeys m := .tail _ (.head _)
  unfold State.countError
  split
  · exact hcount (Fld.MEM_UNCORR_COUNT_COUNT m) (.tail _ (.tail _ (.tail _ (.tail _ (.head _)))))
  · split
    · exact hcount (Fld.MEM_CORR_COUNT_COUNT m) (.head _)
    · exact hcount (Fld.MEM_SRAM_CORR_L2 m) hsram
    · exact hcount (Fld.MEM_SRAM_CORR_L2 m) hsram
    · exact hcount (Fld.MEM_SRAM_CORR_SCRATCH m) hsram
    · exact hcount (Fld.MEM_SRAM_CORR_IMAGE m) hsram
    · exact hcount (Fld.MEM_SRAM_CORR_BITMAP m) hsram
    · exact .refl s

/-- What touches memory controllers and their error registers alone. -/
theorem WarnKept.memory {s t u : State} (h : WarnKept s t) {m : MemSel} (honly : MemOnly t u) (hkept : RegsKept (storeErrorKeys m) t u) : WarnKept s u := by
  obtain ⟨r, c, j, hu⟩ := honly
  have hregs : WarnKept t { t with regs := u.regs } :=
    (WarnKept.refl t).regs ⟨u.regs, rfl⟩ (fun k hk => hkept k hk) (besideWarn_storeErrorKeys m)
  exact (h.trans hregs).beside (by rw [hu]) rfl (by rw [hu])

theorem State.memError_warnKept (s : State) (m : MemSel) (type source syndrome addr : Nat) (uncorr : Bool) :
    WarnKept s (s.memError m type source syndrome addr uncorr) := by
  have hlog : WarnKept s (s.logError m type source syndrome addr) := (WarnKept.refl s).memory (m := m) (s.logError_memOnly m type source syndrome addr)
    ((s.logError_kept m type source syndrome addr).mono (fun k hk => by
      rcases List.mem_cons.mp hk with rfl | hk
      · exact .tail _ (.tail _ (.head _))
      · exact List.mem_singleton.mp hk ▸ .tail _ (.tail _ (.tail _ (.head _)))))
  have hcount := hlog.trans (State.countError_warnKept _ m type uncorr)
  exact hcount.regs (State.showElog_regsOnly _ m) ((State.showElog_kept _ m).mono
    (fun k hk => .tail _ (.tail _ (.tail _ (.tail _ (.tail _ hk)))))) (besideWarn_storeErrorKeys m)

theorem State.fixBurst_warnKept (s : State) (m : MemSel) (a : Nat) : WarnKept s (s.fixBurst m a) := by
  refine (WarnKept.refl s).foldl _ (fun u c _ => ?_)
  exact (((WarnKept.refl u).setMctl m _).setDdr m _).ite (.refl u)

theorem State.checkBurst_warnKept (s : State) (m : MemSel) (source a : Nat) : WarnKept s (s.checkBurst m source a).1 := by
  have hfixed := (s.fixBurst_warnKept m a).trans (State.memError_warnKept _ m 1 source (s.burstClass m a).2.toNat (a / 64) false)
  have hlogged := s.memError_warnKept m 2 source (s.burstClass m a).2.toNat (a / 64) true
  unfold State.checkBurst
  cases m with
  | lane l =>
    dsimp only
    rw [if_neg Bool.false_ne_true]
    split
    · exact .refl s
    · exact hfixed
    · exact hlogged.trans (State.laneFault_warnKept _ l 0x0A 0)
  | junction =>
    dsimp only
    split
    · exact s.memError_warnKept .junction 8 source 0 (a / 64) true
    · split
      · exact .refl s
      · exact hfixed
      · exact hlogged

theorem State.checkRange_warnKept (s : State) (m : MemSel) (source a n : Nat) : WarnKept s (s.checkRange m source a n).1 := by
  have hfold : ∀ (bs : List Nat) (r : State × Bool), WarnKept s r.1 → WarnKept s (bs.foldl (fun (r : State × Bool) b =>
      let q := r.1.checkBurst m source b
      (q.1, r.2 && q.2)) r).1 := by
    intro bs
    induction bs with
    | nil => exact fun _ h => h
    | cons b bs ih => exact fun r h => ih _ (h.trans (r.1.checkBurst_warnKept m source b))
  exact hfold _ _ (.refl s)

/-! ### The capture of the retained regions -/

theorem State.captureRet_warnKept (s : State) (l : Lane) (incomplete : Bool) : WarnKept s (s.captureRet l incomplete) := by
  have hread := s.checkRange_warnKept (.lane l) 5 s.cfg.retBase s.cfg.retSize
  unfold State.captureRet
  dsimp only
  split
  · exact hread
  · exact hread.beside rfl rfl rfl

theorem State.captureIfQuiet_warnKept (s : State) (l : Lane) : WarnKept s (s.captureIfQuiet l) := by
  unfold State.captureIfQuiet
  split
  · exact (s.captureRet_warnKept l false).modLn l (fun _ hn => hn)
  · exact .refl s

/-- The capture that the warning begins leaves its marks (R149). -/
theorem State.beginCapture_warnKept (s : State) : WarnKept s s.beginCapture := by
  have hopen : WarnKept s (lanes.foldl (fun t l => t.modLn l (fun n => { n with pfCaptured := false })) s) :=
    (WarnKept.refl s).foldl _ (fun u l _ => (WarnKept.refl u).modLn l (fun _ hn => hn))
  exact WarnKept.foldl _ (hopen.beside rfl rfl rfl) (fun u l _ => u.captureIfQuiet_warnKept l)

/-! ### The warning -/

/-- A Treadle with its releases stopped and its notices dropped (R149). -/
def State.haltLane (t : State) (l : Lane) : State :=
  ((List.range 16).foldl (fun u n => u.wr (Fld.TRD_ET_n_STAT_PENDING l n) 0) (t.set1 (Fld.TRD_STATUS_HALT_REL l))).modLn l
    (fun n => { n with notices := [], inbox := [] })

theorem State.haltReleases_eq (s : State) : s.haltReleases = lanes.foldl State.haltLane s := rfl

/-- The mark of a halted Treadle, and that it holds no notices. -/
def Halted (s : State) (m : Lane) : Prop := s.rd (Fld.TRD_STATUS_HALT_REL m) = 1 ∧ (s.ln m).notices = []

/-- Stopping one Treadle stops it and leaves the others stopped that were. -/
theorem State.haltLane_halted (s : State) (l m : Lane) (h : Halted s m ∨ m = l) : Halted (s.haltLane l) m := by
  have hpending : WarnKept (s.set1 (Fld.TRD_STATUS_HALT_REL l)) ((List.range 16).foldl (fun u n => u.wr (Fld.TRD_ET_n_STAT_PENDING l n) 0)
      (s.set1 (Fld.TRD_STATUS_HALT_REL l))) := (WarnKept.refl _).foldl _ (fun u n hn =>
    (WarnKept.refl u).wr (f := Fld.TRD_ET_n_STAT_PENDING l n) 0
      ((by cases l <;> decide : ∀ n < 16, BesideWarn [Reg.TRD_ET_n_STAT l n]) n (List.mem_range.mp hn)))
  have hdropped := hpending.modLn l (g := fun n => { n with notices := [], inbox := [] }) (fun _ _ => rfl)
  by_cases hm : m = l
  · subst hm
    exact ⟨(hdropped.halted m).trans (s.rd_wr_same (Fld.TRD_STATUS_HALT_REL m) 1 (show 30 < 32 ∧ 30 ≤ 30 by decide)),
      congrArg LaneSt.notices (State.ln_modLn_same _ m _)⟩
  · obtain ⟨hmark, hnone⟩ := h.resolve_right hm
    exact ⟨(hdropped.halted m).trans ((s.rd_wr_reg (Fld.TRD_STATUS_HALT_REL l) (Fld.TRD_STATUS_HALT_REL m) 1
      (by revert hm; cases l <;> cases m <;> decide)).trans hmark), hdropped.empty m ((congrArg LaneSt.notices (s.ln_wr _ 1 m)).trans hnone)⟩

theorem State.haltLanes_halted (ls : List Lane) (s : State) (m : Lane) (h : Halted s m ∨ m ∈ ls) : Halted (ls.foldl State.haltLane s) m := by
  induction ls generalizing s with
  | nil => exact h.resolve_right List.not_mem_nil
  | cons l ls ih =>
    rw [List.foldl_cons]
    refine ih (s.haltLane l) ?_
    by_cases hm : m = l
    · exact .inl (s.haltLane_halted l m (.inr hm))
    · exact h.imp (fun hs => s.haltLane_halted l m (.inl hs)) (fun hmem => (List.mem_cons.mp hmem).resolve_left hm)

/-- The time of the warning is no register and no part of a lane. -/
theorem State.marks_pfWarnAt (u : State) (x : Option Nat) : ({ u with pfWarnAt := x } : State).rd Fld.JC_PWR_STATUS_PF_WARN =
    u.rd Fld.JC_PWR_STATUS_PF_WARN ∧ ∀ m, Halted u m → Halted { u with pfWarnAt := x } m := ⟨rfl, fun _ h => h⟩

/-- The power-fail warning (R149, R487): its time, its flag, and every Treadle halted. -/
theorem State.warn_shows (s : State) : s.warn.pfWarnAt = some s.clk.uptime ∧ s.warn.rd Fld.JC_PWR_STATUS_PF_WARN = 1 ∧
    ∀ m, Halted s.warn m := by
  have hall : ∀ m, Halted s.haltReleases m := fun m => s.haltReleases_eq ▸ State.haltLanes_halted lanes s m (.inr (by cases m <;> decide))
  have hflag : (s.haltReleases.set1 Fld.JC_PWR_STATUS_PF_WARN).rd Fld.JC_PWR_STATUS_PF_WARN = 1 := State.rd_wr_same _ _ _ (by decide)
  have hmarks : ∀ m, Halted (s.haltReleases.set1 Fld.JC_PWR_STATUS_PF_WARN) m := fun m =>
    ⟨(State.rd_wr_reg _ Fld.JC_PWR_STATUS_PF_WARN (Fld.TRD_STATUS_HALT_REL m) 1 (by cases m <;> decide)).trans (hall m).1,
      (congrArg LaneSt.notices (State.ln_wr _ _ 1 m)).trans (hall m).2⟩
  have hkept : WarnKept { s.haltReleases.set1 Fld.JC_PWR_STATUS_PF_WARN with pfWarnAt := some s.clk.uptime } s.warn := by
    unfold State.warn
    generalize ({ s.haltReleases.set1 Fld.JC_PWR_STATUS_PF_WARN with pfWarnAt := some s.clk.uptime } : State) = r
    dsimp only
    have hsave : ∀ b, WarnKept r (r.modSt (fun x => { x with copied := b })) := fun b => (WarnKept.refl r).beside rfl rfl rfl
    exact (hsave true).ite ((hsave false).ite ((hsave false).trans (State.beginCapture_warnKept _)))
  obtain ⟨hwarned, hhalted⟩ := State.marks_pfWarnAt (s.haltReleases.set1 Fld.JC_PWR_STATUS_PF_WARN) (some s.clk.uptime)
  refine ⟨hkept.since, hkept.warned.trans (hwarned.trans hflag), fun m => ?_⟩
  obtain ⟨hmark, hnone⟩ := hhalted m (hmarks m)
  exact ⟨(hkept.halted m).trans hmark, hkept.empty m hnone⟩

end Sys2Proof.Machine
end

section
/-! PROOF. The supply and the clocks' lock (R79, R147, R148, R464, R486 to R488, R503; O27): what a module reset and a power loss leave, and
each event of the family. -/

namespace Sys2Proof.Machine

/-! ### What a reset shows -/

/-- A store of which only the addresses in `p` were kept. -/
theorem Store.get_filter {β : Type} (d : Nat → β) (p : Nat → Bool) (m : Store β) (a : Nat) :
    Store.get d (m.filter (fun e => p e.1)) a = if p a = true then Store.get d m a else d a := by
  induction m with
  | nil => simp [Store.get]
  | cons e r ih =>
    obtain ⟨k, v⟩ := e
    by_cases hk : k = a
    · subst hk
      by_cases hp : p k = true <;> simp [Store.get, hp, ih]
    · by_cases hp : p k = true <;> simp [Store.get, hp, hk, ih]

/-- The end of a freeze touches the recorder alone (R457). -/
theorem State.endFreeze_noted (s : State) (byLimit : Bool) : Noted s (s.endFreeze byLimit) :=
  (((((Noted.refl s).setWelt _).wr (f := Fld.WL_STATUS_FROZEN) _ (by decide)).wr (f := Fld.WL_FROZEN_EVENTS_COUNT) _ (by decide)).wr
    (f := Fld.WL_STATUS_QUEUED) _ (by decide)).ite (.refl s)

/-- The registers that show what a reset keeps: memory, and the maintenance strap. -/
def shownKeys : List Nat := [MemSel.lane .A, .lane .B, .lane .C, .junction].flatMap (fun m => [Reg.MEM_STATUS m, Reg.MEM_SCRUB_VALID m]) ++
  Reg.TT_STATUS :: lanes.map Reg.LC_DBG_STATUS

/-- The figures of one memory controller. -/
theorem mem_shownKeys {m : MemSel} (hm : m ∈ [MemSel.lane .A, .lane .B, .lane .C, .junction]) :
    Reg.MEM_STATUS m ∈ shownKeys ∧ Reg.MEM_SCRUB_VALID m ∈ shownKeys :=
  ⟨List.mem_append_left _ (List.mem_flatMap.mpr ⟨m, hm, .head _⟩), List.mem_append_left _ (List.mem_flatMap.mpr ⟨m, hm, .tail _ (.head _)⟩)⟩

theorem State.showMem_shows (s : State) : RegsOnly s s.showMem ∧ RegsKept shownKeys s s.showMem :=
  ⟨(RegsOnly.refl s).foldl _ (fun u m _ => (((RegsOnly.refl u).wr _ _).wr _ _).wr _ _), (RegsKept.refl _ s).foldl _ (fun u m hm => by
    obtain ⟨hstatus, hvalid⟩ := mem_shownKeys hm
    exact (((RegsKept.refl _ u).wr (f := Fld.MEM_STATUS_RT_USED m) _ hstatus).wr (f := Fld.MEM_STATUS_RETIRE_BUSY m) _ hstatus).wr
      (f := Fld.MEM_SCRUB_VALID_BLOCKS m) _ hvalid)⟩

theorem State.showStrap_kept (s : State) : RegsOnly s s.showStrap ∧ RegsKept shownKeys s s.showStrap := by
  obtain ⟨honly, hkept, -⟩ := State.showStrap_lanes (s.flag Fld.JC_PWR_STATUS_MAINT_STRAP) lanes
    (s.wrB Fld.TT_STATUS_ENABLED (s.flag Fld.JC_PWR_STATUS_MAINT_STRAP))
  exact ⟨((RegsOnly.refl s).wr _ _).trans honly, ((RegsKept.refl _ s).wr (f := Fld.TT_STATUS_ENABLED) _ (by decide)).trans
    (hkept.mono (fun k hk => List.mem_append_right _ (.tail _ hk)))⟩

/-- A module in RESET (R464): its phase, no seal, every lane in INIT, no warning, and each lane's flash as the reset keeps it. -/
structure InReset (s t : State) : Prop where
  phase : t.phase = Phase.reset
  notSealed : t.isSealed = false
  members : ∀ m, t.member m = Mbr.init
  flash : ∀ m, (t.ln m).flash = s.flashKept m
  noWarn : t.pfWarnAt = none

namespace InReset

variable {s t u : State}

/-- What leaves the lanes, the warning's time, and the registers of phase, seal and membership. -/
theorem beside (h : InReset s t) {ks : List Nat} (hkept : RegsKept ks t u) (hphase : u.phase = t.phase)
    (hks : ∀ k ∈ [Reg.JC_MOD_STATUS, Reg.VT_LANE_STATE], ∀ j ∈ ks, homeKey k ≠ homeKey j) (hlane : u.lane = t.lane) (hwarn : u.pfWarnAt = t.pfWarnAt) :
    InReset s u := by
  have hsealed : u.rd Fld.JC_MOD_STATUS_SEALED = t.rd Fld.JC_MOD_STATUS_SEALED := hkept.rd (hks _ (.head _))
  refine ⟨hphase.trans h.phase, ?_, fun m => (hkept.rd (f := memberFld m) ?_).trans (h.members m), fun m => ?_, hwarn.trans h.noWarn⟩
  · unfold State.isSealed State.flag
    rw [hsealed]
    exact h.notSealed
  · rw [memberFld_addr m]
    exact hks _ (.tail _ (.head _))
  · unfold State.ln
    rw [hlane]
    exact h.flash m

theorem modSt (h : InReset s t) (g : StartSt → StartSt) : InReset s (t.modSt g) :=
  h.beside (ks := []) (RegsKept.of_regs rfl) rfl (fun _ _ _ hj => absurd hj List.not_mem_nil) rfl rfl

/-- A field of JC.PWR_STATUS. -/
theorem wr_pwr (h : InReset s t) {f : Field} (v : Nat) (hf : f.addr = Reg.JC_PWR_STATUS) : InReset s (t.wr f v) :=
  h.beside ((RegsKept.refl [Reg.JC_PWR_STATUS] t).wr v (hf ▸ .head _)) (t.rd_wr_reg f Fld.UPD_START_STATUS_PHASE v (by rw [hf]; decide)) (by decide) rfl rfl

/-- A start is counted beside the phase. -/
theorem countStart (h : InReset s t) : InReset s t.countStart :=
  h.beside ((RegsKept.refl [Reg.UPD_START_STATUS] t).wr (f := Fld.UPD_START_STATUS_STARTS) _ (.head _))
    (t.rd_wr_beside Fld.UPD_START_STATUS_STARTS Fld.UPD_START_STATUS_PHASE _ (by decide) rfl (.inr (by decide))) (by decide) rfl rfl

end InReset

/-- Registers that read as at reset put no seal and no lane into the vote. -/
theorem State.reset_marks {t : State} (h : ∀ k ∈ [Reg.JC_MOD_STATUS, Reg.VT_LANE_STATE], t.reg k = State.reset.reg k) :
    t.isSealed = false ∧ ∀ m, t.member m = Mbr.init := by
  have hsealed : t.rd Fld.JC_MOD_STATUS_SEALED = State.reset.rd Fld.JC_MOD_STATUS_SEALED := State.rd_of_reg (h _ (.head _))
  refine ⟨?_, fun m => ?_⟩
  · unfold State.isSealed State.flag
    rw [hsealed]
    decide
  · refine (State.rd_of_reg (s := State.reset) (f := memberFld m) ?_).trans (by cases m <;> decide)
    rw [memberFld_addr m]
    exact h _ (.tail _ (.head _))

/-! ### A module reset -/

/-- The registers that a module reset writes after it has dropped those it does not keep (R464). -/
def resetKeys : List Nat := [Reg.TB_STATUS, Reg.JC_PWR_STATUS, Reg.JC_CLK_STATUS, Reg.UPD_START_STATUS]

/-- The start status of a module reset (R464): phase RESET and the count of starts. -/
def State.startStatus (s : State) (n : Nat) : State := (s.setReg Reg.UPD_START_STATUS 0).wr Fld.UPD_START_STATUS_STARTS n

theorem State.startStatus_shows (s : State) (n : Nat) : (s.startStatus n).phase = Phase.reset ∧
    (s.startStatus n).rd Fld.UPD_START_STATUS_STARTS = n % 256 := by
  refine ⟨?_, State.rd_wr_same _ _ _ (by decide)⟩
  have hbeside := (s.setReg Reg.UPD_START_STATUS 0).rd_wr_beside Fld.UPD_START_STATUS_STARTS Fld.UPD_START_STATUS_PHASE n (by decide) rfl
    (.inr (by decide))
  refine hbeside.trans ?_
  unfold State.rd
  rw [show Fld.UPD_START_STATUS_PHASE.addr = Reg.UPD_START_STATUS from rfl, State.reg_setReg_same]
  decide

/-- The clock status after a module reset: the validity of wall clock and net time stays, the warning and the syntonisation go (R464). -/
def State.resetClock (r : State) (wall net : Bool) : State :=
  (((((r.setReg Reg.TB_STATUS (regReset Reg.TB_STATUS)).wrB Fld.TB_STATUS_WALL_VALID wall).wrB Fld.TB_STATUS_NET_VALID net).wr
    Fld.JC_PWR_STATUS_PF_WARN 0).wr Fld.JC_CLK_STATUS_SYNT 0).wr Fld.JC_CLK_STATUS_RATE_CORR 0

theorem State.resetClock_kept (r : State) (wall net : Bool) : RegsOnly r (r.resetClock wall net) ∧ RegsKept resetKeys r (r.resetClock wall net) :=
  ⟨((((((RegsOnly.refl r).setReg _ _).wr _ _).wr _ _).wr _ _).wr _ _).wr _ _,
    ((((((RegsKept.refl resetKeys r).setReg _ (by decide)).wr (f := Fld.TB_STATUS_WALL_VALID) _ (by decide)).wr (f := Fld.TB_STATUS_NET_VALID) _ (by decide)).wr
      (f := Fld.JC_PWR_STATUS_PF_WARN) 0 (by decide)).wr (f := Fld.JC_CLK_STATUS_SYNT) 0 (by decide)).wr (f := Fld.JC_CLK_STATUS_RATE_CORR) 0 (by decide)⟩

theorem State.resetClock_startStatus (r : State) (wall net : Bool) (n : Nat) :
    (((((((r.setReg Reg.TB_STATUS (regReset Reg.TB_STATUS)).wrB Fld.TB_STATUS_WALL_VALID wall).wrB Fld.TB_STATUS_NET_VALID net).wr
      Fld.JC_PWR_STATUS_PF_WARN 0).wr Fld.JC_CLK_STATUS_SYNT 0).wr Fld.JC_CLK_STATUS_RATE_CORR 0).setReg Reg.UPD_START_STATUS 0).wr
      Fld.UPD_START_STATUS_STARTS n = (r.resetClock wall net).startStatus n := rfl

/-- A module reset: from a state that keeps what the supply holds, the registers are written in it. -/
theorem State.moduleReset_steps (s0 : State) (kind : Option Bool) (recover : Bool) : ∃ (r : State) (wall net : Bool),
    s0.moduleReset kind recover = ((r.resetClock wall net).startStatus ((s0.endFreeze false).rd Fld.UPD_START_STATUS_STARTS)).showMem.showStrap ∧
    r.regs = (s0.endFreeze false).regs.filter (fun e => keptKey e.1) ∧ r.clk.uptime = (s0.endFreeze false).clk.uptime ∧ r.pfWarnAt = none ∧
    ∀ m, (r.ln m).flash = (s0.endFreeze false).flashKept m := by
  unfold State.moduleReset
  dsimp only
  rw [State.resetClock_startStatus]
  generalize s0.endFreeze false = s
  exact ⟨_, _, _, rfl, rfl, rfl, rfl, fun m => by cases m <;> rfl⟩

/-- A register that a reset does not keep reads as at power-on. -/
theorem State.reg_of_dropped {r : State} {m : Store Word} (h : r.regs = m.filter (fun e => keptKey e.1)) {k : Nat} (hk : keptKey (homeKey k) = false) :
    r.reg k = State.reset.reg k := by
  unfold State.reg
  rw [h, Store.get_filter, if_neg (by simp [hk])]
  rfl

/-- The end of a freeze leaves time, the lanes' flash and the count of starts. -/
theorem State.endFreeze_kept (s : State) : (s.endFreeze false).clk = s.clk ∧ (∀ m, (s.endFreeze false).flashKept m = s.flashKept m) ∧
    (s.endFreeze false).rd Fld.UPD_START_STATUS_STARTS = s.rd Fld.UPD_START_STATUS_STARTS := by
  obtain ⟨⟨_, _, _, hframe⟩, hkept⟩ := s.endFreeze_noted false
  refine ⟨?_, fun m => ?_, hkept.rd (by decide)⟩
  · rw [hframe]
  · rw [hframe]; rfl

/-- A module reset holds the module in RESET; time goes on, and the count of starts stays (R464). -/
theorem State.moduleReset_inReset (s : State) (kind : Option Bool) (recover : Bool) :
    InReset s (s.moduleReset kind recover) ∧ (s.moduleReset kind recover).clk.uptime = s.clk.uptime ∧
      (s.moduleReset kind recover).rd Fld.UPD_START_STATUS_STARTS = s.rd Fld.UPD_START_STATUS_STARTS := by
  obtain ⟨hclk, hflash, hstarts⟩ := s.endFreeze_kept
  obtain ⟨r, wall, net, heq, hregs, htime, hwarn, hlanes⟩ := s.moduleReset_steps kind recover
  rw [heq, hstarts]
  obtain ⟨hclockOnly, hclockKept⟩ := r.resetClock_kept wall net
  generalize r.resetClock wall net = c at hclockOnly hclockKept ⊢
  obtain ⟨hphase, hcount⟩ := c.startStatus_shows (s.rd Fld.UPD_START_STATUS_STARTS)
  have hstartOnly : RegsOnly c (c.startStatus (s.rd Fld.UPD_START_STATUS_STARTS)) := ((RegsOnly.refl c).setReg _ _).wr _ _
  have hstartKept : RegsKept resetKeys c (c.startStatus (s.rd Fld.UPD_START_STATUS_STARTS)) :=
    ((RegsKept.refl _ c).setReg _ (by decide)).wr (f := Fld.UPD_START_STATUS_STARTS) _ (by decide)
  generalize c.startStatus (s.rd Fld.UPD_START_STATUS_STARTS) = u at hphase hcount hstartOnly hstartKept ⊢
  obtain ⟨hmemOnly, hmemKept⟩ := u.showMem_shows
  obtain ⟨hstrapOnly, hstrapKept⟩ := u.showMem.showStrap_kept
  have hshown := hmemKept.trans hstrapKept
  have honly := ((hclockOnly.trans hstartOnly).trans hmemOnly).trans hstrapOnly
  generalize u.showMem.showStrap = t at hshown honly ⊢
  have hmarks : ∀ k ∈ [Reg.JC_MOD_STATUS, Reg.VT_LANE_STATE], t.reg k = State.reset.reg k := fun k hk => by
    have hout : keptKey (homeKey k) = false ∧ (∀ j ∈ shownKeys, homeKey k ≠ homeKey j) ∧ ∀ j ∈ resetKeys, homeKey k ≠ homeKey j := by
      revert k; decide
    obtain ⟨hdropped, hnotShown, hnotReset⟩ := hout
    exact ((hshown k hnotShown).trans ((hclockKept.trans hstartKept) k hnotReset)).trans (State.reg_of_dropped hregs hdropped)
  obtain ⟨hsealed, hmembers⟩ := State.reset_marks hmarks
  refine ⟨⟨(hshown.rd (f := Fld.UPD_START_STATUS_PHASE) (by decide)).trans hphase, hsealed, hmembers, fun m => ?_, ?_⟩, ?_, ?_⟩
  · rw [honly.ln m, hlanes m, hflash m]
  · exact (honly.keeps State.pfWarnAt (fun _ => rfl)).trans hwarn
  · rw [honly.clk, htime, hclk]
  · rw [hshown.rd (f := Fld.UPD_START_STATUS_STARTS) (by decide), hcount]
    exact Nat.mod_eq_of_lt (s.rd_lt Fld.UPD_START_STATUS_STARTS)

/-! ### The input voltage -/

/-- The start status holds no register. -/
theorem State.rd_modSt (s : State) (g : StartSt → StartSt) (f : Field) : (s.modSt g).rd f = s.rd f := rfl

/-- A register field and the start status are written. -/
theorem State.wr_modSt (s : State) (f : Field) (v : Nat) (g : StartSt → StartSt) : ((s.wr f v).modSt g).st = g s.st ∧
    ((s.wr f v).modSt g).clk = s.clk ∧ ((s.wr f v).modSt g).rd f = (s.wr f v).rd f ∧ RegsKept [f.addr] s ((s.wr f v).modSt g) ∧
    (s.wr f v).modSt g = { s with regs := ((s.wr f v).modSt g).regs, st := ((s.wr f v).modSt g).st } :=
  ⟨rfl, rfl, State.rd_modSt _ g f, (RegsKept.refl [f.addr] s).wr v (.head _), rfl⟩

/-- The input falls (R486). -/
theorem State.gives_supplyInterrupt (s : State) (hpower : s.st.powered = true) (hlow : s.st.lowAt = none) :
    Gives .supplyInterrupt s (fun t => t.st = { s.st with lowAt := some s.clk.uptime } ∧
      t.rd Fld.JC_PWR_STATUS_INTERRUPT = 1 ∧ RegsKept [Reg.JC_PWR_STATUS] s t ∧ t = { s with regs := t.regs, st := t.st }) := by
  obtain ⟨hst, -, hrd, hkept, hsame⟩ := s.wr_modSt Fld.JC_PWR_STATUS_INTERRUPT 1 (fun x => { x with lowAt := some s.clk.uptime })
  exact gives_of_exec (congrArg Host.Outcome.next (if_pos (by simp [hpower, hlow]))) ⟨hst, hrd.trans (s.rd_wr_same _ 1 (by decide)), hkept, hsame⟩

/-- What the two events of a low input turn on: the warning not yet given, and 10 ms gone (R486, R487). -/
theorem State.exec_lowInput (s : State) {t0 : Nat} (hlow : s.st.lowAt = some t0) (hwarn : s.pfWarnAt = none) :
    exec .interruptionBridged s = .next (if s.clk.uptime < t0 + 10000000 then
      (s.bump Fld.JC_PWR_STATUS_INTERRUPTS).modSt (fun x => { x with lowAt := none }) else s) ∧
    exec .powerFailWarning s = .next (if t0 + 10000000 ≤ s.clk.uptime then s.warn else s) := by
  constructor
  · change execInterruptionBridged s = _
    unfold execInterruptionBridged
    simp only [hlow, hwarn, Option.isNone_none, true_and]
  · change execPowerFailWarning s = _
    unfold execPowerFailWarning
    simp only [hlow, hwarn, Option.isNone_none, true_and]

/-- The input is back within 10 ms (R486). -/
theorem State.gives_interruptionBridged (s : State) {t0 : Nat} (hlow : s.st.lowAt = some t0) (hwarn : s.pfWarnAt = none)
    (htime : s.clk.uptime < t0 + 10000000) : Gives .interruptionBridged s (fun t => t.st = { s.st with lowAt := none } ∧
      t.rd Fld.JC_PWR_STATUS_INTERRUPTS = (s.bump Fld.JC_PWR_STATUS_INTERRUPTS).rd Fld.JC_PWR_STATUS_INTERRUPTS ∧
      RegsKept [Reg.JC_PWR_STATUS] s t ∧ t = { s with regs := t.regs, st := t.st }) := by
  obtain ⟨hst, -, hrd, hkept, hsame⟩ := s.wr_modSt Fld.JC_PWR_STATUS_INTERRUPTS
    (satAdd (2 ^ (Fld.JC_PWR_STATUS_INTERRUPTS.hi + 1 - Fld.JC_PWR_STATUS_INTERRUPTS.lo) - 1) (s.rd Fld.JC_PWR_STATUS_INTERRUPTS) 1)
    (fun x => { x with lowAt := none })
  exact gives_of_exec ((s.exec_lowInput hlow hwarn).1.trans (congrArg _ (if_pos htime))) ⟨hst, hrd, hkept, hsame⟩

/-- The copies of a power failure touch MRAM and the retained save alone (R148). -/
theorem State.saveCopies_kept (s : State) : s.saveCopies.regs = s.regs ∧ s.saveCopies.lane = s.lane ∧ s.saveCopies.st = s.st := by
  unfold State.saveCopies
  split
  · exact ⟨rfl, rfl, rfl⟩
  · dsimp only
    split
    · exact ⟨rfl, rfl, rfl⟩
    · exact ⟨rfl, rfl, rfl⟩

/-- The record of a power failure is complete: what is in MRAM, and that it is (R148). -/
def State.copiesSaved (s : State) : State :=
  ({ s.saveCopies with chg := { s.saveCopies.chg with saveWarn := false } } : State).modSt (fun x => { x with copied := true })

theorem State.copiesSaved_shows (s : State) : s.copiesSaved.st = { s.st with copied := true } ∧ s.copiesSaved.mramA = s.saveCopies.mramA ∧
    s.copiesSaved.mramB = s.saveCopies.mramB ∧ s.copiesSaved.regs = s.regs ∧ s.copiesSaved.lane = s.lane := by
  obtain ⟨hregs, hlane, hst⟩ := s.saveCopies_kept
  unfold State.copiesSaved
  generalize s.saveCopies = c at hregs hlane hst ⊢
  exact ⟨congrArg (fun x : StartSt => { x with copied := true }) hst, rfl, rfl, hregs, hlane⟩

/-- The retained copies are saved once every lane in the vote has captured (R148). -/
theorem State.exec_mramCopyDone (s : State) {t0 : Nat} (hwarn : s.pfWarnAt = some t0) (hcopied : s.st.copied = false)
    (hcaptured : ∀ m, s.votes m = true → (s.ln m).pfCaptured = true) : exec .mramCopyDone s = .next s.copiesSaved := by
  have hall : lanes.all (fun l => !s.votes l || (s.ln l).pfCaptured) = true := List.all_eq_true.mpr fun m _ => by
    cases hv : s.votes m with
    | false => rfl
    | true => simp [hcaptured m hv]
  have hdue : (s.pfWarnAt.isSome && !s.st.copied && lanes.all (fun l => !s.votes l || (s.ln l).pfCaptured)) = true := by simp [hwarn, hcopied, hall]
  exact congrArg Host.Outcome.next (if_pos hdue)

/-- A start is counted on the count that stood before. -/
theorem State.countStart_counted {s t : State} (h : t.rd Fld.UPD_START_STATUS_STARTS = s.rd Fld.UPD_START_STATUS_STARTS) :
    t.countStart.rd Fld.UPD_START_STATUS_STARTS = (s.bump Fld.UPD_START_STATUS_STARTS).rd Fld.UPD_START_STATUS_STARTS := by
  unfold State.countStart
  rw [State.rd_bump_same _ _ (by decide), State.rd_bump_same _ _ (by decide), h]

theorem State.countStart_only (s : State) : RegsOnly s s.countStart := (RegsOnly.refl s).bump _

/-- A module held in RESET while the supply comes back, before the start is counted (R487). -/
def State.supplyBack (r : State) : State := (r.modSt (fun x => { x with lowAt := none })).wr Fld.JC_PWR_STATUS_HOLDUP_OK 0

theorem State.exec_supplyReturn (s : State) (h : (s.pfWarnAt.isSome && s.st.copied) = true) :
    exec .supplyReturn s = .next (s.moduleReset none false).supplyBack.countStart := congrArg Host.Outcome.next (if_pos h)

theorem State.supplyBack_shows (r : State) : r.supplyBack.st.lowAt = none ∧ r.supplyBack.clk = r.clk ∧
    r.supplyBack.rd Fld.UPD_START_STATUS_STARTS = r.rd Fld.UPD_START_STATUS_STARTS := by
  have honly : RegsOnly (r.modSt (fun x => { x with lowAt := none })) r.supplyBack := (RegsOnly.refl _).wr _ _
  exact ⟨honly.keeps (fun u => u.st.lowAt) (fun _ => rfl), honly.clk, (State.rd_wr_reg _ _ _ _ (by decide)).trans (State.rd_modSt r _ _)⟩

/-- A reset that the supply's return ends: the hold-up is gone and a start is counted (R464, R487). -/
theorem State.gives_supplyReturn (s : State) {t0 : Nat} (hwarn : s.pfWarnAt = some t0) (hcopied : s.st.copied = true) :
    Gives .supplyReturn s (fun t => t.phase = Phase.reset ∧ t.isSealed = false ∧
      t.rd Fld.UPD_START_STATUS_STARTS = (s.bump Fld.UPD_START_STATUS_STARTS).rd Fld.UPD_START_STATUS_STARTS ∧ t.st.lowAt = none ∧
      t.pfWarnAt = none ∧ t.clk.uptime = s.clk.uptime ∧ ∀ m, t.member m = Mbr.init ∧ (t.ln m).flash = s.flashKept m) := by
  refine gives_of_exec (s.exec_supplyReturn (by simp [hwarn, hcopied])) ?_
  obtain ⟨hreset, htime, hstarts⟩ := s.moduleReset_inReset none false
  generalize s.moduleReset none false = r at hreset htime hstarts ⊢
  have hback : InReset s r.supplyBack := (hreset.modSt (fun x => { x with lowAt := none })).wr_pwr (f := Fld.JC_PWR_STATUS_HOLDUP_OK) 0 rfl
  obtain ⟨hlow, hclk, hcount⟩ := r.supplyBack_shows
  generalize r.supplyBack = u at hback hlow hclk hcount ⊢
  obtain ⟨hphase, hsealed, hmembers, hflash, hnoWarn⟩ := hback.countStart
  have honly := u.countStart_only
  refine ⟨hphase, hsealed, State.countStart_counted (hcount.trans hstarts), ?_, hnoWarn, ?_, fun m => ⟨hmembers m, hflash m⟩⟩
  · rw [honly.keeps State.st (fun _ => rfl), hlow]
  · rw [honly.clk, hclk, htime]

/-- A module held in RESET by its input (R488). -/
def State.overvolted (r : State) : State := (r.set1 Fld.JC_PWR_STATUS_OVERVOLT).modSt (fun x => { x with overvolt := true })

theorem State.overvolted_shows (r : State) : r.overvolted.st.overvolt = true ∧ r.overvolted.rd Fld.JC_PWR_STATUS_OVERVOLT = 1 ∧
    r.overvolted.clk = r.clk := by
  obtain ⟨hst, hclk, hrd, -, -⟩ := r.wr_modSt Fld.JC_PWR_STATUS_OVERVOLT 1 (fun x => { x with overvolt := true })
  exact ⟨congrArg StartSt.overvolt hst, hrd.trans (r.rd_wr_same Fld.JC_PWR_STATUS_OVERVOLT 1 (by decide)), hclk⟩

theorem InReset.overvolted {s r : State} (h : InReset s r) : InReset s r.overvolted :=
  (h.wr_pwr (f := Fld.JC_PWR_STATUS_OVERVOLT) 1 rfl).modSt (fun x => { x with overvolt := true })

theorem State.exec_overvoltage (s : State) (hpower : s.st.powered = true) :
    exec .overvoltage s = .next (s.moduleReset none false).overvolted := congrArg Host.Outcome.next (if_pos hpower)

/-- An input above its range resets the module and holds it (R488). -/
theorem State.gives_overvoltage (s : State) (hpower : s.st.powered = true) :
    Gives .overvoltage s (fun t => t.phase = Phase.reset ∧ t.isSealed = false ∧ t.st.overvolt = true ∧ t.rd Fld.JC_PWR_STATUS_OVERVOLT = 1 ∧
      t.clk.uptime = s.clk.uptime ∧ ∀ m, t.member m = Mbr.init ∧ (t.ln m).flash = s.flashKept m) := by
  obtain ⟨hreset, htime, -⟩ := s.moduleReset_inReset none false
  obtain ⟨hover, hrd, hclk⟩ := (s.moduleReset none false).overvolted_shows
  obtain ⟨hphase, hsealed, hmembers, hflash, -⟩ := hreset.overvolted
  exact gives_of_exec (s.exec_overvoltage hpower) ⟨hphase, hsealed, hover, hrd, (congrArg Clock.uptime hclk).trans htime,
    fun m => ⟨hmembers m, hflash m⟩⟩

theorem State.exec_overvoltageEnd (s : State) (hover : s.st.overvolt = true) : exec .overvoltageEnd s =
    .next (s.modSt (fun x => { x with overvolt := false, startAt := s.clk.uptime })).countStart := congrArg Host.Outcome.next (if_pos hover)

/-- The input is back in its range (R488). -/
theorem State.gives_overvoltageEnd (s : State) (hover : s.st.overvolt = true) :
    Gives .overvoltageEnd s (fun t => t.st = { s.st with overvolt := false, startAt := s.clk.uptime } ∧
      t.rd Fld.UPD_START_STATUS_STARTS = (s.bump Fld.UPD_START_STATUS_STARTS).rd Fld.UPD_START_STATUS_STARTS ∧
      RegsKept [Reg.UPD_START_STATUS] s t ∧ t = { s with regs := t.regs, st := t.st }) := by
  refine gives_of_exec (s.exec_overvoltageEnd hover) ?_
  have hstarts := State.rd_modSt s (fun x => { x with overvolt := false, startAt := s.clk.uptime }) Fld.UPD_START_STATUS_STARTS
  have hregs : RegsKept [Reg.UPD_START_STATUS] s (s.modSt (fun x => { x with overvolt := false, startAt := s.clk.uptime })) := RegsKept.of_regs rfl
  have hsame : ∀ r, { s.modSt (fun x => { x with overvolt := false, startAt := s.clk.uptime }) with regs := r } =
    { s with regs := r, st := { s.st with overvolt := false, startAt := s.clk.uptime } } := fun _ => rfl
  generalize s.modSt (fun x => { x with overvolt := false, startAt := s.clk.uptime }) = u at hstarts hregs hsame ⊢
  obtain ⟨r, hr⟩ := u.countStart_only
  refine ⟨?_, State.countStart_counted hstarts, hregs.wr (f := Fld.UPD_START_STATUS_STARTS) _ (.head _), ?_⟩
  · rw [hr, hsame]
  · rw [hr, hsame]

/-! ### The loss of power -/

/-- What a loss of power keeps: MRAM, and each lane's flash (R147, R148). -/
theorem State.atPowerOn_steps (s : State) : ∃ r : State, s.atPowerOn = (r.wr Fld.JC_PWR_STATUS_MAINT_STRAP (s.rd Fld.JC_PWR_STATUS_MAINT_STRAP)).showStrap ∧
    r.regs = [] ∧ r.clk.uptime = 0 ∧ r.mramA = s.mramA ∧ r.mramB = s.mramB ∧ ∀ m, (r.ln m).flash = s.flashKept m ∧ (r.ln m).scratch = [] := by
  unfold State.atPowerOn
  dsimp only
  exact ⟨_, rfl, rfl, rfl, rfl, rfl, fun m => by cases m <;> exact ⟨rfl, rfl⟩⟩

/-- A loss of power leaves the module in RESET, with time at zero (R147, R148, R464). -/
theorem State.atPowerOn_shows (s : State) : s.atPowerOn.phase = Phase.reset ∧ s.atPowerOn.isSealed = false ∧ s.atPowerOn.clk.uptime = 0 ∧
    s.atPowerOn.mramA = s.mramA ∧ s.atPowerOn.mramB = s.mramB ∧
    ∀ m, (s.atPowerOn.ln m).flash = s.flashKept m ∧ (s.atPowerOn.ln m).scratch = [] := by
  obtain ⟨r, heq, hregs, htime, hA, hB, hlanes⟩ := s.atPowerOn_steps
  rw [heq]
  have hstrapKept : RegsKept [Reg.JC_PWR_STATUS] r (r.wr Fld.JC_PWR_STATUS_MAINT_STRAP (s.rd Fld.JC_PWR_STATUS_MAINT_STRAP)) :=
    (RegsKept.refl _ r).wr _ (.head _)
  have hstrapOnly := (RegsOnly.refl r).wr Fld.JC_PWR_STATUS_MAINT_STRAP (s.rd Fld.JC_PWR_STATUS_MAINT_STRAP)
  generalize r.wr Fld.JC_PWR_STATUS_MAINT_STRAP (s.rd Fld.JC_PWR_STATUS_MAINT_STRAP) = u at hstrapKept hstrapOnly ⊢
  obtain ⟨hshowOnly, hshowKept⟩ := u.showStrap_kept
  have honly := hstrapOnly.trans hshowOnly
  generalize u.showStrap = t at hshowKept honly ⊢
  have hreg : ∀ k ∈ [Reg.JC_MOD_STATUS, Reg.VT_LANE_STATE, Reg.UPD_START_STATUS], t.reg k = State.reset.reg k := fun k hk => by
    have hout : (∀ j ∈ shownKeys, homeKey k ≠ homeKey j) ∧ ∀ j ∈ [Reg.JC_PWR_STATUS], homeKey k ≠ homeKey j := by revert k; decide
    exact ((hshowKept k hout.1).trans (hstrapKept k hout.2)).trans (State.reg_of_regs hregs k)
  obtain ⟨hsealed, -⟩ := State.reset_marks (t := t) (fun k hk => hreg k (List.mem_of_mem_dropLast (l := [_, _, _]) hk))
  refine ⟨(State.rd_of_reg (hreg Reg.UPD_START_STATUS (by decide))).trans (by decide), hsealed, ?_, ?_, ?_, fun m => ?_⟩
  · rw [honly.clk, htime]
  · rw [honly.keeps State.mramA (fun _ => rfl), hA]
  · rw [honly.keeps State.mramB (fun _ => rfl), hB]
  · rw [honly.ln m]
    exact hlanes m

/-- The module without power. -/
def State.powerOff (r : State) : State := r.modSt (fun x => { x with powered := false })

theorem State.powerOff_shows (r : State) : r.powerOff.st.powered = false ∧ r.powerOff.phase = r.phase ∧ r.powerOff.isSealed = r.isSealed ∧
    r.powerOff.clk = r.clk ∧ r.powerOff.mramA = r.mramA ∧ r.powerOff.mramB = r.mramB ∧ r.powerOff.ln = r.ln := ⟨rfl, rfl, rfl, rfl, rfl, rfl, rfl⟩

theorem State.exec_holdupExhausted (s : State) (h : (s.st.powered && s.st.lowAt.isSome) = true) :
    exec .holdupExhausted s = .next s.atPowerOn.powerOff := congrArg Host.Outcome.next (if_pos h)

/-- The hold-up is exhausted: all but flash and MRAM is lost (R147, R148, R464). -/
theorem State.gives_holdupExhausted (s : State) (hpower : s.st.powered = true) (hlow : s.st.lowAt ≠ none) :
    Gives .holdupExhausted s (fun t => t.st.powered = false ∧ t.phase = Phase.reset ∧ t.isSealed = false ∧ t.clk.uptime = 0 ∧
      t.mramA = s.mramA ∧ t.mramB = s.mramB ∧ ∀ m, (t.ln m).flash = s.flashKept m ∧ (t.ln m).scratch = []) := by
  obtain ⟨hoff, hphase, hsealed, hclk, hA, hB, hln⟩ := s.atPowerOn.powerOff_shows
  refine gives_of_exec (s.exec_holdupExhausted (by simp [hpower, Option.isSome_iff_ne_none, hlow])) ⟨hoff, ?_⟩
  rw [hphase, hsealed, hclk, hA, hB, hln]
  exact s.atPowerOn_shows

/-! ### The locks -/

/-- A lane's PLL regains its lock (R503). -/
theorem State.gives_lock (s : State) (l : Lane) :
    Gives (.pllLockChange (some l) true) s (fun t => t.pllLocked l = true ∧ RegsKept [Reg.JC_CLK_STATUS] s t ∧ OnlyRegs s t) := by
  have hone : (s.wr (lockFld l) 1).rd (lockFld l) = 1 := (s.rd_wr_same (lockFld l) 1 (by cases l <;> decide)).trans (by cases l <;> rfl)
  refine gives_of_exec (t := s.wr (lockFld l) 1) rfl ⟨?_, (RegsKept.refl _ s).wr (f := lockFld l) 1 (.head _), ((RegsOnly.refl s).wr _ _).onlyRegs⟩
  unfold State.pllLocked State.flag
  rw [hone]
  rfl

/-- A lock field that reads 0. -/
theorem State.pllLocked_of_rd {s : State} {l : Lane} (h : s.rd (lockFld l) = 0) : s.pllLocked l = false := by
  unfold State.pllLocked State.flag
  rw [h]
  rfl

/-- A lane that runs is faulted by the loss of its PLL's lock (R79, R503). -/
theorem State.gives_lockLost (s : State) (l : Lane) (hheld : s.ex l ≠ Exec.held) (hstopped : s.ex l ≠ Exec.stopped) :
    Gives (.pllLockChange (some l) false) s (fun t => t.pllLocked l = false ∧ LaneFaulted s t l 7 0) := by
  obtain ⟨hkept, honly, hrd⟩ := s.lockLost l
  have hex : (s.wr (lockFld l) 0).ex l = s.ex l := hkept.rd (f := Fld.LC_LANE_STATUS_EXEC l) (by cases l <;> decide)
  refine gives_of_exec (t := (s.wr (lockFld l) 0).laneFault l 7 0) rfl ⟨State.pllLocked_of_rd ?_, (State.laneFaulted_laneFault _ (by decide) (by decide) (hex ▸ hheld) (hex ▸ hstopped)).of_before
    (congrArg Clock.uptime honly.clk) (hkept _ (by cases l <;> decide)) (fun m _ => honly.ln m)⟩
  rw [(State.laneFault_kept _ l 7 0).rd (f := lockFld l) (by cases l <;> decide), hrd]

/-- A lane that is down only shows the loss (R503). -/
theorem State.gives_lockLost_down (s : State) (l : Lane) (hdown : s.ex l = Exec.held ∨ s.ex l = Exec.stopped)
    (hno : ∀ c g, (s.ln l).withdrawal ≠ some (c, g, s.clk.uptime)) :
    Gives (.pllLockChange (some l) false) s (fun t => t.pllLocked l = false ∧ RegsKept [Reg.JC_CLK_STATUS] s t ∧ OnlyRegs s t) := by
  obtain ⟨hkept, honly, hrd⟩ := s.lockLost l
  have hex : (s.wr (lockFld l) 0).ex l = s.ex l := hkept.rd (f := Fld.LC_LANE_STATUS_EXEC l) (by cases l <;> decide)
  have hloss : (s.wr (lockFld l) 0).laneFault l 7 0 = s.wr (lockFld l) 0 :=
    (State.laneFault_of_down _ 7 0 (hex ▸ hdown)).trans (State.sameLc_of_no_notice _ 7 0 hno)
  exact gives_of_exec (congrArg Host.Outcome.next hloss) ⟨State.pllLocked_of_rd hrd, hkept, honly.onlyRegs⟩

/-- Settles O27, event by event. -/
theorem supplyEvents : Obligations.SupplyEvents := by
  unfold Obligations.SupplyEvents
  intro s l lock
  refine ⟨s.gives_supplyInterrupt, fun t0 hlow hwarn => ⟨fun hshort => ⟨s.gives_interruptionBridged hlow hwarn hshort, ?_⟩, fun hlong => ⟨?_, ?_⟩⟩,
    fun t0 hwarn => ⟨fun hcopied hcaptured => gives_of_exec (s.exec_mramCopyDone hwarn hcopied hcaptured) s.copiesSaved_shows,
      s.gives_supplyReturn hwarn⟩, fun hpower => ⟨s.gives_holdupExhausted hpower, s.gives_overvoltage hpower⟩,
    s.gives_overvoltageEnd, ?_, s.gives_lock l, s.gives_lockLost l, s.gives_lockLost_down l⟩
  · exact gives_of_exec ((s.exec_lowInput hlow hwarn).2.trans (congrArg _ (if_neg (Nat.not_le.mpr hshort)))) rfl
  · exact gives_of_exec ((s.exec_lowInput hlow hwarn).2.trans (congrArg _ (if_pos hlong))) s.warn_shows
  · exact gives_of_exec ((s.exec_lowInput hlow hwarn).1.trans (congrArg _ (if_neg (Nat.not_lt.mpr hlong)))) rfl
  · exact gives_of_exec rfl ⟨s.rd_wrB_same _ lock (by decide), (RegsKept.refl _ s).wr (f := Fld.JC_CLK_STATUS_PERI_LOCK) _ (.head _),
      ((RegsOnly.refl s).wr _ _).onlyRegs⟩

end Sys2Proof.Machine
end

section
/-! PROOF. The images of the vote word by word (R96, R102, R104): what writing words into an image leaves, the majority image, the words in
which two images differ, and the safe words. -/

namespace Sys2Proof.Machine

/-! ### Words of a memory -/

/-- Bytes outside those written are as before. -/
theorem Mem.bytes_putBytes_outside (bs : List Byte) (m : Mem) {a b : Nat} : ∀ {n : Nat}, b + n ≤ a ∨ a + bs.length ≤ b →
    (m.putBytes a bs).bytes b n = m.bytes b n
  | 0, _ => rfl
  | n + 1, h => by
    unfold Mem.bytes
    rw [m.rb_putBytes_outside bs (by omega)]
    exact congrArg _ (Mem.bytes_putBytes_outside bs m (n := n) (by omega))

theorem Mem.word_putWord_same (m : Mem) (a : Nat) (x : Word) : (m.putWord a x).word a = x := by
  have hx : x.toNat % 256 ^ 4 = x.toNat := Nat.mod_eq_of_lt x.isLt
  unfold Mem.word Mem.putWord Mem.putNum
  rw [Mem.num_putBytes_leBytes, hx, BitVec.ofNat_toNat, BitVec.setWidth_eq]

/-- Words lie side by side: writing one leaves the others. -/
theorem Mem.word_putWord_ne (m : Mem) {v w : Nat} (x : Word) (h : w ≠ v) : (m.putWord (4 * v) x).word (4 * w) = m.word (4 * w) := by
  unfold Mem.word Mem.putWord Mem.putNum Mem.num
  rw [Mem.bytes_putBytes_outside _ m (by rw [length_leBytes]; omega)]

/-- The memory with the words of a list written, each with the value that `g` gives it. -/
def Mem.putWords (m : Mem) (g : Nat → Word) (ws : List Nat) : Mem := ws.foldl (fun m w => m.putWord (4 * w) (g w)) m

/-- A word of the list reads its value, every other word what it read before. -/
theorem Mem.word_putWords (g : Nat → Word) (w : Nat) : ∀ (ws : List Nat) (m : Mem),
    (m.putWords g ws).word (4 * w) = if w ∈ ws then g w else m.word (4 * w)
  | [], m => rfl
  | v :: vs, m => by
    have ih : (m.putWords g (v :: vs)).word (4 * w) = if w ∈ vs then g w else (m.putWord (4 * v) (g v)).word (4 * w) :=
      Mem.word_putWords g w vs _
    rw [ih]
    by_cases hv : w = v
    · rw [hv, Mem.word_putWord_same, ite_self, if_pos (.head _)]
    · simp only [List.mem_cons, hv, false_or, m.word_putWord_ne _ hv]

theorem Mem.word_putWords_of_mem (m : Mem) (g : Nat → Word) {w : Nat} {ws : List Nat} (h : w ∈ ws) : (m.putWords g ws).word (4 * w) = g w :=
  (Mem.word_putWords g w ws m).trans (if_pos h)

theorem Mem.word_putWords_of_not_mem (m : Mem) (g : Nat → Word) {w : Nat} {ws : List Nat} (h : w ∉ ws) :
    (m.putWords g ws).word (4 * w) = m.word (4 * w) :=
  (Mem.word_putWords g w ws m).trans (if_neg h)

/-! ### Images of the vote -/

/-- The bitwise majority of a word of three images (R96). -/
def majWord (a b c : Mem) (w : Nat) : Word :=
  (a.word (4 * w) &&& b.word (4 * w)) ||| (b.word (4 * w) &&& c.word (4 * w)) ||| (a.word (4 * w) &&& c.word (4 * w))

theorem word_majImage (a b c : Mem) {w n : Nat} (h : w < n) : (majImage a b c n).word (4 * w) = majWord a b c w :=
  Mem.word_putWords_of_mem [] (majWord a b c) (List.mem_range.mpr h)

theorem mem_disWords {a b : Mem} {n w : Nat} : w ∈ disWords a b n ↔ w < n ∧ a.word (4 * w) ≠ b.word (4 * w) := by
  unfold disWords
  rw [List.mem_filter, List.mem_range, bne_iff_ne]

theorem State.withSafe_eq (s : State) (m : Mem) (ws : List Nat) : s.withSafe m ws = m.putWords (fun w => Mem.word s.cfg.safeImg (4 * w)) ws := rfl

end Sys2Proof.Machine
end

section
/-! PROOF. What the images of the vote rest on (R96, R103, R104): the exclusions of a cycle, and what follows them, leave the image in force,
the last voted values, the latches and the hold as they are. -/

namespace Sys2Proof.Machine

/-! ### What stops of lanes leave -/

theorem State.drop_frame (s : State) (l : Lane) (h : Hart) (line : Nat) : ∃ n, s.drop l h line = { s with lane := n } := by
  unfold State.drop
  dsimp only
  split
  · cases h <;> exact ⟨_, rfl⟩
  · exact ⟨s.lane, rfl⟩

/-- A stop changes registers, the lane itself and the FQ8s (R79). -/
theorem State.stopLane_frame (s : State) (l : Lane) : ∃ r n q, s.stopLane l = { s with regs := r, lane := n, fq := q } := by
  obtain ⟨r, hr⟩ := s.showStopped_regsOnly l
  obtain ⟨r', hr'⟩ := (s.showStopped l).showNoTask_regsOnly l
  obtain ⟨n, hn⟩ := (((s.showStopped l).showNoTask l).modLn l LaneSt.noTask).drop_frame l .h0 11
  have hcleared : (s.showStopped l).clearTasks l = { s with regs := r', lane := n } := by
    rw [State.clearTasks_eq, hn, hr', hr]
    rfl
  rcases s.stopLane_eq l with h | h
  · exact ⟨r', _, s.fq, by rw [h, hcleared]; rfl⟩
  · exact ⟨r', _, _, by rw [h, hcleared]; rfl⟩

/-! ### The images' own state -/

/-- What the images of the vote rest on is as before: the vote unit but for the readmission, the debug grant and the boundaries of automatic
readmissions, the configuration, the cycle's number, VT.CFG and SAFE_ALL. -/
structure ImagesKept (s t : State) : Prop where
  vote : ∃ r g a, t.vote = { s.vote with readmit := r, grant := g, autoAt := a }
  cfg : t.cfg = s.cfg
  cycle : t.cyc.k = s.cyc.k
  config : t.reg Reg.VT_CFG = s.reg Reg.VT_CFG
  safeAll : t.rd Fld.VT_STATUS_SAFE_ALL = s.rd Fld.VT_STATUS_SAFE_ALL

/-- Registers beside VT.CFG and VT.STATUS. -/
abbrev BesideVote (ks : List Nat) : Prop := ∀ j ∈ ks, homeKey Reg.VT_CFG ≠ homeKey j ∧ homeKey Reg.VT_STATUS ≠ homeKey j

namespace ImagesKept

variable {s t u : State}

theorem refl (s : State) : ImagesKept s s := ⟨⟨_, _, _, rfl⟩, rfl, rfl, rfl, rfl⟩

theorem trans (h1 : ImagesKept s t) (h2 : ImagesKept t u) : ImagesKept s u := by
  obtain ⟨_, _, _, hvote⟩ := h1.vote
  obtain ⟨r, g, a, hvote'⟩ := h2.vote
  exact ⟨⟨r, g, a, by rw [hvote', hvote]⟩, h2.cfg.trans h1.cfg, h2.cycle.trans h1.cycle, h2.config.trans h1.config, h2.safeAll.trans h1.safeAll⟩

theorem k0 (h : ImagesKept s t) : t.vote.k0 = s.vote.k0 := by
  obtain ⟨_, _, _, hvote⟩ := h.vote
  rw [hvote]

theorem ite {c : Prop} [Decidable c] (ht : ImagesKept s t) (hu : ImagesKept s u) : ImagesKept s (if c then t else u) := by
  split
  · exact ht
  · exact hu

theorem foldl {α : Type} {g : State → α → State} (xs : List α) (h : ImagesKept s t) (hg : ∀ u, ∀ x ∈ xs, ImagesKept u (g u x)) :
    ImagesKept s (xs.foldl g t) := by
  induction xs generalizing t with
  | nil => exact h
  | cons x xs ih => exact ih (h.trans (hg t x (.head _))) (fun u y hy => hg u y (.tail _ hy))

/-- A change of registers beside the vote's own, and of nothing else that the images rest on. -/
theorem beside (h : ImagesKept s t) {ks : List Nat} (hkept : RegsKept ks t u) (hks : BesideVote ks) (hvote : u.vote = t.vote) (hcfg : u.cfg = t.cfg)
    (hcyc : u.cyc = t.cyc) : ImagesKept s u :=
  h.trans ⟨⟨_, _, _, hvote⟩, hcfg, congrArg CycSt.k hcyc, hkept Reg.VT_CFG (fun j hj => (hks j hj).1),
    hkept.rd (f := Fld.VT_STATUS_SAFE_ALL) (fun j hj => (hks j hj).2)⟩

theorem wr (h : ImagesKept s t) {f : Field} (v : Nat) (hf : BesideVote [f.addr]) : ImagesKept s (t.wr f v) :=
  h.beside ((RegsKept.refl [f.addr] t).wr v (.head _)) hf rfl rfl rfl

/-- A field of VT.STATUS below SAFE_ALL. -/
theorem wr_status (h : ImagesKept s t) {f : Field} (v : Nat) (ha : f.addr = Reg.VT_STATUS) (hf : f.hi < 15 ∧ f.lo ≤ f.hi) : ImagesKept s (t.wr f v) :=
  h.trans ⟨⟨_, _, _, rfl⟩, rfl, rfl, t.reg_wr_ne f v Reg.VT_CFG (by rw [ha]; decide),
    t.rd_wr_beside f Fld.VT_STATUS_SAFE_ALL v ⟨by omega, hf.2⟩ ha.symm (.inr hf.1)⟩

theorem modLn (h : ImagesKept s t) (l : Lane) (g : LaneSt → LaneSt) : ImagesKept s (t.modLn l g) :=
  h.beside (ks := []) (RegsKept.of_regs rfl) (fun _ hj => absurd hj List.not_mem_nil) rfl rfl rfl

theorem noted (h : ImagesKept s t) (hn : Noted t u) : ImagesKept s u := by
  obtain ⟨⟨_, _, _, rfl⟩, hkept⟩ := hn
  exact h.beside hkept (by decide) rfl rfl rfl

theorem setMember (h : ImagesKept s t) (l : Lane) (m : Nat) : ImagesKept s (t.setMember l m) :=
  ((h.wr (f := memberFld l) m (by cases l <;> decide)).wr (f := Fld.LC_LANE_STATUS_VOTING l) _ (by cases l <;> decide)).wr
    (f := ⟨Reg.JC_MOD_STATUS, 8 + l.num, 8 + l.num⟩) _ (show BesideVote [Reg.JC_MOD_STATUS] by decide)

theorem stopLane (h : ImagesKept s t) (l : Lane) : ImagesKept s (t.stopLane l) := by
  obtain ⟨_, _, _, heq⟩ := t.stopLane_frame l
  exact h.beside (t.stopLane_kept l) (by cases l <;> decide) (by rw [heq]) (by rw [heq]) (by rw [heq])

/-! ### Exclusions -/

theorem markExcluded (h : ImagesKept s t) (l : Lane) (cause word : Nat) : ImagesKept s (t.markExcluded l cause word) := by
  have hmarked := ((h.setMember l Mbr.excluded).wr (f := causeFld l) cause (by cases l <;> decide)).wr (f := exclFld l)
    (satAdd (2 ^ ((exclFld l).hi + 1 - (exclFld l).lo) - 1) (((t.setMember l Mbr.excluded).wr (causeFld l) cause).rd (exclFld l)) 1) (by cases l <;> decide)
  exact (hmarked.wr (f := disWordFld l) word (by cases l <;> decide)).ite hmarked

theorem noteExcluded (h : ImagesKept s t) (l : Lane) (cause word k : Nat) : ImagesKept s (t.noteExcluded l cause word k) := by
  have hnoted := ((h.noted (((Noted.refl t).weltEvent 4 0x10 (l.num + cause * 2 ^ 8 + word * 2 ^ 16 + k % 2 ^ 32 * 2 ^ 32)).troubleAt (causeFld l)
    [l.num, cause, word, k % 2 ^ 32])).wr (f := Fld.JC_HOST_ALERT_EXCL) 1 (by decide))
  exact hnoted.trans ⟨⟨_, _, _, rfl⟩, rfl, rfl, rfl, rfl⟩

theorem excludeLane (h : ImagesKept s t) (l : Lane) (cause word : Nat) : ImagesKept s (t.excludeLane l cause word) := by
  have hnoted := (h.markExcluded l cause word).noteExcluded l cause word t.cyc.k
  rw [t.excludeLane_eq l cause word]
  exact hnoted.ite (hnoted.stopLane l)

theorem relapse (h : ImagesKept s t) (l : Lane) : ImagesKept s (t.relapse l) := by
  have hbumped := h.wr (f := relapseFld l) (satAdd (2 ^ ((relapseFld l).hi + 1 - (relapseFld l).lo) - 1) (t.rd (relapseFld l)) 1) (by cases l <;> decide)
  exact (hbumped.setMember l Mbr.locked).ite hbumped

theorem endReadmit (h : ImagesKept s t) (res : Nat) : ImagesKept s (t.endReadmit res) := by
  have hended : ImagesKept s { t with vote := { t.vote with readmit := none } } := h.trans ⟨⟨_, _, _, rfl⟩, rfl, rfl, rfl, rfl⟩
  exact ((((hended.wr (f := Fld.VT_READMIT_STATUS_RESULT) _ (by decide)).wr (f := Fld.VT_READMIT_STATUS_PHASE) _ (by decide)).wr
    (f := Fld.VT_READMIT_STATUS_RECEIVER) _ (by decide)).wr_status (f := Fld.VT_STATUS_DONOR) _ rfl (by decide)).wr_status
    (f := Fld.VT_STATUS_READMIT_BUSY) _ rfl (by decide)

theorem failReadmit (h : ImagesKept s t) (res : Nat) : ImagesKept s (t.failReadmit res) := by
  unfold State.failReadmit
  split
  · exact h
  · next r _ =>
    have hout := (h.endReadmit res).excludeLane r.receiver 7 0
    exact hout.ite (hout.relapse r.receiver)

theorem returnGrant (h : ImagesKept s t) (l : Lane) : ImagesKept s (t.returnGrant l) := by
  have hgiven : ImagesKept s { t with vote := { t.vote with grant := none } } := h.trans ⟨⟨_, _, _, rfl⟩, rfl, rfl, rfl, rfl⟩
  exact (hgiven.wr (f := Fld.LC_DBG_STATUS_GRANT l) 0 (by cases l <;> decide)).ite h

theorem clearTriggersOf (h : ImagesKept s t) (l : Lane) : ImagesKept s (t.clearTriggersOf l) :=
  ((((h.wr (f := Fld.LC_DBG_STATUS_HALT_REFUSED l) 1 (by cases l <;> decide)).ite h).modLn l _).wr (f := Fld.LC_DBG_STATUS_TRIG_CLEARED l) 1
    (by cases l <;> decide)).returnGrant l

theorem clearTriggers (h : ImagesKept s t) : ImagesKept s t.clearTriggers := by
  rw [t.clearTriggers_eq]
  exact (h.foldl lanes (fun u l _ => ((refl u).clearTriggersOf l).ite (refl u))).ite h

theorem lossNoted (h : ImagesKept s t) (l : Lane) : ImagesKept s (t.lossNoted l) := by
  have hleft : ImagesKept s { t with cyc := { t.cyc with svcLeft := some t.cyc.k } } := h.trans ⟨⟨_, _, _, rfl⟩, rfl, rfl, rfl, rfl⟩
  exact (hleft.ite h).clearTriggers

theorem exclude (h : ImagesKept s t) (l : Lane) (cause word : Nat) : ImagesKept s (t.exclude l cause word) := by
  have hout := h.excludeLane l cause word
  have hlost := ((hout.relapse l).ite (c := t.freshVoter l = true) hout)
  unfold State.exclude
  dsimp only
  generalize (if t.freshVoter l = true then (t.excludeLane l cause word).relapse l else t.excludeLane l cause word) = u at hlost
  rcases u.afterLoss_cases l with heq | ⟨res, heq⟩
  · rw [heq]; exact hlost.lossNoted l
  · rw [heq]; exact (hlost.lossNoted l).failReadmit res

theorem wr_svcRun (h : ImagesKept s t) (l : Lane) (v : Nat) : ImagesKept s (t.wr (svcRunFld l) v) := h.wr v (by cases l <;> decide)

theorem serviceRun (h : ImagesKept s t) (l : Lane) (service : List Nat) : ImagesKept s (t.serviceRun l service) := by
  cases service with
  | nil => exact h.wr_svcRun l 0
  | cons w ws =>
    have hcounted := h.wr_svcRun l (satAdd (2 ^ ((svcRunFld l).hi + 1 - (svcRunFld l).lo) - 1) (t.rd (svcRunFld l)) 1)
    exact (hcounted.exclude l 3 w).ite hcounted

end ImagesKept

end Sys2Proof.Machine
end

section
/-! PROOF. The vote of a cycle (R96, R97, R102 to R104; O15): an image that stands, an image held, and which of them three, two or fewer lanes
give. -/

namespace Sys2Proof.Machine

/-! ### An image that stands -/

/-- The words in disagreement that have no voted value to repeat (R102). -/
def State.withoutVote (s : State) (dis : List Nat) : List Nat :=
  if s.vote.voted then s.vote.noVote.filter (fun w => dis.contains w) else dis

/-- The image shown for a voted image with words in 2oo2 disagreement: those repeat their last voted values, and words without one and latched
words carry their safe values (R102, R104). -/
def State.shownImage (s : State) (img : Mem) (dis latched : List Nat) : Mem :=
  s.withSafe (img.putWords (fun w => s.vote.last.word (4 * w)) dis) (s.withoutVote dis ++ latched)

section
variable (s : State) (img : Mem) {dis latched : List Nat} {w : Nat}

theorem State.mem_withoutVote (h : w ∈ s.withoutVote dis) : w ∈ dis ∧ (s.vote.voted = true → w ∈ s.vote.noVote) := by
  unfold State.withoutVote at h
  split at h
  next =>
    obtain ⟨hno, hdis⟩ := List.mem_filter.mp h
    exact ⟨List.contains_iff_mem.mp hdis, fun _ => hno⟩
  next hnot => exact ⟨h, fun hvoted => absurd hvoted hnot⟩

/-- A word that the lanes agree in shows the voted image. -/
theorem State.word_shownImage_agreed (hdis : w ∉ dis) (hlatched : w ∉ latched) :
    (s.shownImage img dis latched).word (4 * w) = img.word (4 * w) := by
  have hsafe : w ∉ s.withoutVote dis ++ latched := fun h => (List.mem_append.mp h).elim (fun h => hdis (s.mem_withoutVote h).1) hlatched
  unfold State.shownImage
  rw [s.withSafe_eq, Mem.word_putWords_of_not_mem _ _ hsafe, Mem.word_putWords_of_not_mem _ _ hdis]

/-- A word in disagreement that had a voted value repeats it (R102). -/
theorem State.word_shownImage_repeated (hdis : w ∈ dis) (hlatched : w ∉ latched) (hvoted : s.vote.voted = true) (hno : w ∉ s.vote.noVote) :
    (s.shownImage img dis latched).word (4 * w) = s.vote.last.word (4 * w) := by
  have hsafe : w ∉ s.withoutVote dis ++ latched := fun h => (List.mem_append.mp h).elim (fun h => hno ((s.mem_withoutVote h).2 hvoted)) hlatched
  unfold State.shownImage
  rw [s.withSafe_eq, Mem.word_putWords_of_not_mem _ _ hsafe, Mem.word_putWords_of_mem _ _ hdis]

/-- A word in disagreement before any vote carries its safe value (R102). -/
theorem State.word_shownImage_safe (hdis : w ∈ dis) (hvoted : s.vote.voted = false) :
    (s.shownImage img dis latched).word (4 * w) = Mem.word s.cfg.safeImg (4 * w) := by
  have hwithout : s.withoutVote dis = dis := by
    unfold State.withoutVote
    rw [hvoted, if_neg Bool.false_ne_true]
  unfold State.shownImage
  rw [hwithout, s.withSafe_eq, Mem.word_putWords_of_mem _ _ (List.mem_append_left _ hdis)]

end

/-- Latching a word leaves k0. -/
theorem State.k0_latchWord (s : State) (w : Nat) : (s.latchWord w).vote.k0 = s.vote.k0 := by
  have hset : ∀ u : State, (u.set1 Fld.VT_STATUS_WORD_LATCHED).vote = u.vote := fun _ => rfl
  have hnoted : ∀ u : State, ((u.weltEvent 4 0x11 (w * 2 ^ 16 + s.cycleNo * 2 ^ 32)).troubleAt Fld.VT_STATUS_WORD_LATCHED [w, s.cycleNo]).vote = u.vote :=
    fun u => (((Noted.refl u).weltEvent _ _ _).troubleAt _ _).vote
  unfold State.latchWord
  split
  · rfl
  · rw [hnoted, hset]

/-- What VT.STATUS and the counters show of a voted image that stands (R119). -/
def State.showVote (s : State) (mode : Nat) (dis : List Nat) : State :=
  let s2 := ((s.wr Fld.VT_STATUS_MODE mode).wr Fld.VT_STATUS_SAFE_ALL 0).wr Fld.VT_STATUS_HOLD_LEFT 0
  let s3 := if dis = [] then s2 else s2.bump Fld.VT_DIS2_COUNT_COUNT
  if mode = 1 then s3.bump Fld.VT_CYC_2OO2_COUNT else s3

theorem State.vote_showVote (s : State) (mode : Nat) (dis : List Nat) : (s.showVote mode dis).vote = s.vote := by
  have hset := ((RegsOnly.refl s).wr Fld.VT_STATUS_MODE mode).wr Fld.VT_STATUS_SAFE_ALL 0 |>.wr Fld.VT_STATUS_HOLD_LEFT 0
  have hcounted := hset.ite (c := dis = []) (hset.bump Fld.VT_DIS2_COUNT_COUNT)
  exact ((hcounted.bump Fld.VT_CYC_2OO2_COUNT).ite (c := mode = 1) hcounted).vote

theorem State.showVote_shows (s : State) {mode : Nat} (dis : List Nat) (hmode : mode < 4) :
    (s.showVote mode dis).rd Fld.VT_STATUS_MODE = mode ∧ (s.showVote mode dis).rd Fld.VT_STATUS_SAFE_ALL = 0 := by
  have hset : (s.wr Fld.VT_STATUS_MODE mode).rd Fld.VT_STATUS_MODE = mode :=
    (s.rd_wr_same Fld.VT_STATUS_MODE mode (by decide)).trans (Nat.mod_eq_of_lt hmode)
  have hsafe : ∀ u : State, (u.wr Fld.VT_STATUS_SAFE_ALL 0).rd Fld.VT_STATUS_SAFE_ALL = 0 ∧
      (u.wr Fld.VT_STATUS_SAFE_ALL 0).rd Fld.VT_STATUS_MODE = u.rd Fld.VT_STATUS_MODE := fun u =>
    ⟨u.rd_wr_same Fld.VT_STATUS_SAFE_ALL 0 (by decide), u.rd_wr_beside Fld.VT_STATUS_SAFE_ALL Fld.VT_STATUS_MODE 0 (by decide) rfl (by decide)⟩
  have hleft : ∀ (u : State) (f : Field), f.addr = Reg.VT_STATUS → f.hi < 8 ∨ 10 < f.lo → (u.wr Fld.VT_STATUS_HOLD_LEFT 0).rd f = u.rd f :=
    fun u f ha hf => u.rd_wr_beside Fld.VT_STATUS_HOLD_LEFT f 0 (by decide) ha hf
  have hkept : ∀ u : State, RegsKept [Reg.VT_DIS2_COUNT] u (if dis = [] then u else u.bump Fld.VT_DIS2_COUNT_COUNT) := fun u =>
    (RegsKept.refl _ u).ite ((RegsKept.refl _ u).wr (f := Fld.VT_DIS2_COUNT_COUNT) _ (.head _))
  have hkept2 : ∀ u : State, RegsKept [Reg.VT_CYC_2OO2] u (if mode = 1 then u.bump Fld.VT_CYC_2OO2_COUNT else u) := fun u =>
    ((RegsKept.refl _ u).wr (f := Fld.VT_CYC_2OO2_COUNT) _ (.head _)).ite (.refl _ u)
  unfold State.showVote
  dsimp only
  refine ⟨?_, ?_⟩
  · rw [(hkept2 _).rd (f := Fld.VT_STATUS_MODE) (by decide), (hkept _).rd (f := Fld.VT_STATUS_MODE) (by decide), hleft _ _ rfl (by decide),
      (hsafe _).2, hset]
  · rw [(hkept2 _).rd (f := Fld.VT_STATUS_SAFE_ALL) (by decide), (hkept _).rd (f := Fld.VT_STATUS_SAFE_ALL) (by decide), hleft _ _ rfl (by decide),
      (hsafe _).1]

/-- A voted image that stands is shown in its mode, with the k0 there was and without SAFE_ALL. -/
theorem State.standing_shows (s : State) (img : Mem) (dis any : List Nat) {mode : Nat} (hmode : mode < 4) :
    let t := s.standing img dis any mode
    t.vote.k0 = s.vote.k0 ∧ t.vote.voted = true ∧ t.vote.out = s.shownImage img dis t.vote.latched ∧
    t.rd Fld.VT_STATUS_MODE = mode ∧ t.rd Fld.VT_STATUS_SAFE_ALL = 0 := by
  have hk0 : ∀ due : List Nat, (due.foldl (fun t w => t.latchWord w) s).vote.k0 = s.vote.k0 := fun due =>
    foldl_keeps (fun t : State => t.vote.k0) due s (fun u w _ => u.k0_latchWord w)
  have hstands : ∃ u : State, s.standing img dis any mode = u.showVote mode dis ∧ u.vote.k0 = s.vote.k0 ∧ u.vote.voted = true ∧
      u.vote.out = s.shownImage img dis u.vote.latched := ⟨_, rfl, hk0 _, rfl, rfl⟩
  obtain ⟨u, heq, hk, hvoted, hout⟩ := hstands
  dsimp only
  rw [heq, u.vote_showVote]
  exact ⟨hk, hvoted, hout, u.showVote_shows dis hmode⟩

/-! ### An image held -/

/-- The state `t` follows a cycle without a vote in `s`: while the hold lasts the last image stands with MODE 2, otherwise the safe image with
MODE 3 and SAFE_ALL; the cycle is k0 (R103). -/
def HeldAfter (s t : State) : Prop :=
  (s.vote.voted = true ∧ 0 < s.safeHold ∧ s.rd Fld.VT_STATUS_SAFE_ALL = 0 → t.vote.out = s.vote.out ∧ t.rd Fld.VT_STATUS_MODE = 2) ∧
  (s.vote.voted = false ∨ s.safeHold = 0 → t.vote.out = s.cfg.safeImg ∧ t.rd Fld.VT_STATUS_MODE = 3 ∧ t.rd Fld.VT_STATUS_SAFE_ALL = 1) ∧
  t.vote.k0 = some s.cyc.k

/-- The vote unit in a first cycle without a vote, before the image is chosen (R103). -/
def State.unvoted (s : State) : State :=
  { s with vote := { s.vote with k0 := some s.cyc.k, disNow := List.range s.outWords, disAny := List.range s.outWords } }

/-- The image in force held (R103). -/
def State.holdImage (s : State) (left : Nat) : State :=
  ((s.wr Fld.VT_STATUS_MODE 2).wr Fld.VT_STATUS_HOLD_LEFT left).bump Fld.VT_CYC_HOLD_COUNT

/-- The safe image in force (R103). -/
def State.safeAll (s : State) : State :=
  ((({ s with vote := { s.vote with out := s.cfg.safeImg } } : State).wr Fld.VT_STATUS_MODE 3).wr Fld.VT_STATUS_HOLD_LEFT 0).set1 Fld.VT_STATUS_SAFE_ALL

theorem State.notStanding_first (s : State) (hk0 : s.vote.k0 = none) : s.notStanding =
    if (s.vote.voted && decide (0 < s.safeHold) && !s.flag Fld.VT_STATUS_SAFE_ALL) = true then s.unvoted.holdImage s.safeHold else s.unvoted.safeAll := by
  have hleft : s.cyc.k + s.safeHold - s.cyc.k = s.safeHold := Nat.add_sub_cancel_left _ _
  unfold State.notStanding
  rw [hk0]
  dsimp only [Option.getD_none]
  rw [hleft]
  rfl

theorem State.mode_holdImage (s : State) (left : Nat) : (s.holdImage left).rd Fld.VT_STATUS_MODE = 2 := by
  unfold State.holdImage State.bump State.bumpBy
  rw [State.rd_wr_reg _ Fld.VT_CYC_HOLD_COUNT Fld.VT_STATUS_MODE _ (by decide),
    State.rd_wr_beside _ Fld.VT_STATUS_HOLD_LEFT Fld.VT_STATUS_MODE _ (by decide) rfl (by decide), State.rd_wr_same _ _ _ (by decide)]
  rfl

theorem State.safeAll_shows (s : State) : s.safeAll.rd Fld.VT_STATUS_MODE = 3 ∧ s.safeAll.rd Fld.VT_STATUS_SAFE_ALL = 1 := by
  unfold State.safeAll State.set1
  refine ⟨?_, State.rd_wr_same _ Fld.VT_STATUS_SAFE_ALL 1 (by decide)⟩
  rw [State.rd_wr_beside _ Fld.VT_STATUS_SAFE_ALL Fld.VT_STATUS_MODE _ (by decide) rfl (by decide),
    State.rd_wr_beside _ Fld.VT_STATUS_HOLD_LEFT Fld.VT_STATUS_MODE _ (by decide) rfl (by decide), State.rd_wr_same _ _ _ (by decide)]
  rfl

theorem State.vote_holdImage (s : State) (left : Nat) : (s.holdImage left).vote = s.vote :=
  ((((RegsOnly.refl s).wr Fld.VT_STATUS_MODE 2).wr Fld.VT_STATUS_HOLD_LEFT left).bump Fld.VT_CYC_HOLD_COUNT).vote

theorem State.vote_safeAll (s : State) : s.safeAll.vote = { s.vote with out := s.cfg.safeImg } :=
  ((((RegsOnly.refl ({ s with vote := { s.vote with out := s.cfg.safeImg } } : State)).wr Fld.VT_STATUS_MODE 3).wr Fld.VT_STATUS_HOLD_LEFT 0).wr
    Fld.VT_STATUS_SAFE_ALL 1).vote

/-- The first cycle without a vote begins the hold, or shows the safe image where there is nothing to hold (R103). -/
theorem State.heldAfter_notStanding (s : State) (hk0 : s.vote.k0 = none) : HeldAfter s s.notStanding := by
  rw [s.notStanding_first hk0]
  refine ⟨?_, ?_, ?_⟩
  · rintro ⟨hvoted, hhold, hsafe⟩
    have hflag : s.flag Fld.VT_STATUS_SAFE_ALL = false := by
      unfold State.flag
      rw [hsafe]
      rfl
    rw [if_pos (by rw [hvoted, hflag, decide_eq_true hhold]; rfl)]
    exact ⟨(congrArg VoteSt.out (s.unvoted.vote_holdImage _) :), s.unvoted.mode_holdImage s.safeHold⟩
  · intro hnone
    have hnot : (s.vote.voted && decide (0 < s.safeHold) && !s.flag Fld.VT_STATUS_SAFE_ALL) = false := by
      rcases hnone with hvoted | hhold
      · rw [hvoted]; rfl
      · simp [hhold]
    rw [hnot, if_neg Bool.false_ne_true]
    exact ⟨congrArg VoteSt.out s.unvoted.vote_safeAll, s.unvoted.safeAll_shows⟩
  · split
    · exact congrArg VoteSt.k0 (s.unvoted.vote_holdImage _)
    · exact congrArg VoteSt.k0 s.unvoted.vote_safeAll

/-- What holds after the exclusions of a cycle holds of the cycle. -/
theorem HeldAfter.of_kept {s u t : State} (h : HeldAfter u t) (hkept : ImagesKept s u) : HeldAfter s t := by
  obtain ⟨_, _, _, hvote⟩ := hkept.vote
  have hhold : u.safeHold = s.safeHold := State.rd_of_reg (f := Fld.VT_CFG_SAFE_HOLD) hkept.config
  unfold HeldAfter at h
  rw [hvote, hhold, hkept.safeAll, hkept.cfg, hkept.cycle] at h
  exact h

/-! ### Three lanes -/

/-- The majority of a word of the three copies (R96). -/
def State.majority (s : State) (w : Nat) : Word := majWord (s.copyOf .A) (s.copyOf .B) (s.copyOf .C) w

/-- The image of the majority. -/
def State.majorityImage (s : State) : Mem := majImage (s.copyOf .A) (s.copyOf .B) (s.copyOf .C) s.outWords

/-- Whether a lane's copy differs from the majority in a safety word (R97). -/
def State.differsSafely (s : State) (l : Lane) : Bool :=
  (disWords (s.copyOf l) s.majorityImage s.outWords).filter (fun w => s.cfg.safety.contains w) != []

theorem State.differsSafely_iff (s : State) (l : Lane) : s.differsSafely l = true ↔
    ∃ w < s.outWords, w ∈ s.cfg.safety ∧ (s.copyOf l).word (4 * w) ≠ s.majority w := by
  have hword : ∀ w < s.outWords, Mem.word s.majorityImage (4 * w) = s.majority w := fun w hw => word_majImage _ _ _ hw
  unfold State.differsSafely
  rw [bne_iff_ne]
  constructor
  · intro hsome
    obtain ⟨w, hw⟩ := List.exists_mem_of_ne_nil _ hsome
    obtain ⟨hdis, hsafety⟩ := List.mem_filter.mp hw
    obtain ⟨hlt, hne⟩ := mem_disWords.mp hdis
    exact ⟨w, hlt, List.contains_iff_mem.mp hsafety, hword w hlt ▸ hne⟩
  · rintro ⟨w, hlt, hsafety, hne⟩
    exact List.ne_nil_of_mem (List.mem_filter.mpr ⟨mem_disWords.mpr ⟨hlt, (hword w hlt).symm ▸ hne⟩, List.contains_iff_mem.mpr hsafety⟩)

/-- Fewer than two lanes have a property when any two that have it are one. -/
theorem filter_lanes_lt_two (p : Lane → Bool) : (lanes.filter p).length < 2 ↔ ∀ l m, p l = true → p m = true → l = m := by
  have hmem : ∀ l, l ∈ lanes.filter p ↔ p l = true := fun l =>
    List.mem_filter.trans (and_iff_right (by cases l <;> decide))
  have hnodup : (lanes.filter p).Nodup := List.Nodup.filter p (by decide)
  generalize lanes.filter p = xs at hmem hnodup
  simp only [← hmem]
  rcases xs with _ | ⟨x, _ | ⟨y, ys⟩⟩
  · simp
  · simp
  · have hne : x ≠ y := fun h => (List.nodup_cons.mp hnodup).1 (h ▸ .head _)
    exact iff_of_false (by simp) (fun h => hne (h x y (.head _) (.tail _ (.head _))))

/-- The vote of three lanes after its exclusions (R96 to R98). -/
theorem State.voteThree_eq (s : State) : ∃ u any, ImagesKept s u ∧ s.voteThree =
    if (lanes.filter s.differsSafely).length < 2 then u.standing s.majorityImage [] any 0 else u.notStanding := by
  refine ⟨_, _, ?_, rfl⟩
  refine ImagesKept.foldl lanes (ImagesKept.foldl lanes (.refl s) ?_) ?_
  · intro u l _
    split
    · exact ((ImagesKept.refl u).exclude l 8 _).ite (.refl u)
    · exact ((ImagesKept.refl u).exclude l 2 _).ite (.refl u)
    · exact (ImagesKept.refl u).serviceRun l _
  · exact fun u l _ => ((ImagesKept.refl u).wr_svcRun l 0).ite (.refl u)

theorem State.voteCycle_three (s : State) (hk0 : s.vote.k0 = none) (hn : s.numPresent = 3) : s.voteCycle = s.voteThree := by
  unfold State.voteCycle
  rw [hk0, hn]
  rfl

/-- With at most one lane that differs in a safety word the majority stands (R96, R97). -/
theorem State.three_agree (s : State) (hk0 : s.vote.k0 = none) (hone : ∀ l m, s.differsSafely l = true → s.differsSafely m = true → l = m) :
    let t := s.voteThree
    (∀ w < s.outWords, w ∉ t.vote.latched → t.vote.out.word (4 * w) = s.majority w) ∧ t.rd Fld.VT_STATUS_MODE = 0 ∧
    t.rd Fld.VT_STATUS_SAFE_ALL = 0 ∧ t.vote.k0 = none ∧ t.vote.voted = true := by
  obtain ⟨u, any, hkept, heq⟩ := s.voteThree_eq
  obtain ⟨hk, hvoted, hout, hmode, hsafe⟩ := u.standing_shows s.majorityImage [] any (mode := 0) (by decide)
  rw [heq, if_pos ((filter_lanes_lt_two _).mpr hone)]
  refine ⟨fun w hw hlatched => ?_, hmode, hsafe, hk.trans (hkept.k0.trans hk0), hvoted⟩
  rw [hout, u.word_shownImage_agreed _ List.not_mem_nil hlatched]
  exact word_majImage _ _ _ hw

/-- With two lanes or more that differ in safety words the cycle counts as one without a vote (R97). -/
theorem State.three_differ (s : State) (hk0 : s.vote.k0 = none) {l m : Lane} (hl : s.differsSafely l = true) (hm : s.differsSafely m = true)
    (hne : l ≠ m) : HeldAfter s s.voteThree := by
  obtain ⟨u, any, hkept, heq⟩ := s.voteThree_eq
  rw [heq, if_neg (fun hlt => hne ((filter_lanes_lt_two _).mp hlt l m hl hm))]
  exact (u.heldAfter_notStanding (hkept.k0.trans hk0)).of_kept hkept

/-! ### Two lanes, and fewer -/

/-- With lanes x and y alone present the agreed words stand (R102, R104). -/
theorem State.voteCycle_two (s : State) {x y : Lane} (hk0 : s.vote.k0 = none) (hxy : lanes.filter (fun l => s.vote.present.get l) = [x, y]) :
    s.voteCycle = s.standing (s.copyOf x) (disWords (s.copyOf x) (s.copyOf y) s.outWords) (disWords (s.copyOf x) (s.copyOf y) s.outWords) 1 := by
  have hn : s.numPresent = 2 := congrArg List.length hxy
  have htwo : s.voteCycle = s.voteTwo := by
    unfold State.voteCycle
    rw [hk0, hn]
    rfl
  rw [htwo]
  unfold State.voteTwo
  rw [hxy]

theorem State.voteCycle_fewer (s : State) (hk0 : s.vote.k0 = none) (hn : s.numPresent < 2) : s.voteCycle = s.notStanding := by
  unfold State.voteCycle
  rw [hk0, if_neg (by decide), if_neg (by omega), if_neg (by omega)]

/-- Settles O15: three lanes give the majority or count as none, two the agreed words, fewer the hold. -/
theorem voteOfTheCycle : Obligations.VoteOfTheCycle := by
  unfold Obligations.VoteOfTheCycle
  intro s hk0
  refine ⟨fun hn => ?_, fun x y hxy => ?_, fun hn => ?_⟩
  · rw [s.voteCycle_three hk0 hn]
    refine ⟨fun hone => s.three_agree hk0 (fun l m hl hm => hone l m ((s.differsSafely_iff l).mp hl) ((s.differsSafely_iff m).mp hm)), ?_⟩
    rintro ⟨l, m, hl, hm, hne⟩
    exact s.three_differ hk0 ((s.differsSafely_iff l).mpr hl) ((s.differsSafely_iff m).mpr hm) hne
  · rw [s.voteCycle_two hk0 hxy]
    obtain ⟨hk, -, hout, hmode, -⟩ := s.standing_shows (s.copyOf x) (disWords (s.copyOf x) (s.copyOf y) s.outWords)
      (disWords (s.copyOf x) (s.copyOf y) s.outWords) (mode := 1) (by decide)
    refine ⟨fun w _ hlatched hagree => ?_, fun w hw hdiffer hlatched => ⟨fun hvoted hno => ?_, fun hvoted => ?_⟩, hmode, hk.trans hk0⟩
    · rw [hout]
      exact s.word_shownImage_agreed _ (fun h => (mem_disWords.mp h).2 hagree) hlatched
    · rw [hout]
      exact s.word_shownImage_repeated _ (mem_disWords.mpr ⟨hw, hdiffer⟩) hlatched hvoted hno
    · rw [hout]
      exact s.word_shownImage_safe _ (mem_disWords.mpr ⟨hw, hdiffer⟩) hvoted
  · rw [s.voteCycle_fewer hk0 hn]
    exact s.heldAfter_notStanding hk0

end Sys2Proof.Machine
end

section
/-! PROOF. The readmission's parts (R99, R111 to R114, R117; O18): what a refusal rests on, how a readmission begins and fails, and what
transfers into a lane's memory leave. -/

namespace Sys2Proof.Machine

/-! ### The command register -/

/-- A field of a written word beside the bits that the command sets. -/
theorem wbits_or_apart (w v : Word) (f : Field) (h : bitsOf v.toNat f.hi f.lo = 0) : wbits (w ||| v) f = wbits w f := by
  refine Nat.eq_of_testBit_eq (fun i => ?_)
  have hv : (decide (i < f.hi + 1 - f.lo) && v.toNat.testBit (i + f.lo)) = false := by
    rw [← testBit_bitsOf, h, Nat.zero_testBit]
  unfold wbits
  rw [testBit_bitsOf, testBit_bitsOf, BitVec.toNat_or, Nat.testBit_or, Bool.and_or_distrib_left, hv, Bool.or_false]

/-- Nothing differs but a command's register, the trouble log's and its queue. -/
structure CommandOnly (k : Nat) (s u : State) : Prop where
  log : LogOnly s u
  kept : RegsKept [k, Reg.TL_STATUS] s u

theorem State.merge_commandOnly (s : State) (k : Nat) (w : Word) : CommandOnly k s (s.merge k w) := ⟨s.merge_logOnly k w, s.merge_kept k w⟩

/-! ### What a start rests on -/

/-- The votes rest on VT.LANE_STATE. -/
theorem State.votes_of_reg {s u : State} (h : u.reg Reg.VT_LANE_STATE = s.reg Reg.VT_LANE_STATE) (l : Lane) : u.member l = s.member l ∧
    u.votes l = s.votes l := by
  have hmember : u.member l = s.member l := State.rd_of_reg (by rw [memberFld_addr]; exact h)
  exact ⟨hmember, by unfold State.votes; rw [hmember]⟩

theorem State.numVoting_of_reg {s u : State} (h : u.reg Reg.VT_LANE_STATE = s.reg Reg.VT_LANE_STATE) : u.numVoting = s.numVoting := by
  have hvotes : u.votes = s.votes := funext fun l => (State.votes_of_reg h l).2
  unfold State.numVoting
  rw [hvotes]

/-- A write of VT.READMIT leaves what a start of readmission rests on. -/
theorem CommandOnly.readmitRefusal {s u : State} (h : CommandOnly Reg.VT_READMIT s u) (l : Lane) :
    u.readmitRefusal (some l) = s.readmitRefusal (some l) := by
  have hseat := h.kept Reg.VT_LANE_STATE (by decide)
  have hlimit : u.pageLimit = s.pageLimit := by
    have hunits : u.rd (Fld.SX_CFG_T_UNITS .X) = s.rd (Fld.SX_CFG_T_UNITS .X) := h.kept.rd (by decide)
    have hcom : u.rd Fld.SX_T_COM_JC = s.rd Fld.SX_T_COM_JC := h.kept.rd (by decide)
    have hcfg : u.cfg = s.cfg := by obtain ⟨_, _, heq⟩ := h.log; rw [heq]
    unfold State.pageLimit State.tCycle State.tCom
    rw [hunits, hcom, hcfg]
  have hex : u.ex l = s.ex l := h.kept.rd (f := Fld.LC_LANE_STATUS_EXEC l) (by cases l <;> decide)
  have hvote : u.vote = s.vote ∧ u.st = s.st := by obtain ⟨_, _, heq⟩ := h.log; rw [heq]; exact ⟨rfl, rfl⟩
  unfold State.readmitRefusal
  dsimp only
  rw [State.numVoting_of_reg hseat, (State.votes_of_reg hseat l).1, hlimit, hex, hvote.1, hvote.2]

theorem State.readmitRefusal_quorum (s : State) (l : Lane) (h : s.numVoting < 2) : s.readmitRefusal (some l) = some 2 := if_pos h

theorem State.readmitRefusal_locked (s : State) (l : Lane) (hnum : 2 ≤ s.numVoting) (hlocked : s.member l = Mbr.locked) :
    s.readmitRefusal (some l) = some 7 := (if_neg (Nat.not_lt.mpr hnum)).trans (if_pos hlocked)

theorem State.readmitRefusal_running (s : State) (l : Lane) (hnum : 2 ≤ s.numVoting) (hlocked : s.member l ≠ Mbr.locked)
    (hrun : s.vote.readmit ≠ none) : s.readmitRefusal (some l) = some 8 :=
  (if_neg (Nat.not_lt.mpr hnum)).trans ((if_neg hlocked).trans (if_pos (.inr (.inl (Option.isSome_iff_ne_none.mpr hrun)))))

theorem State.readmitRefusal_none (s : State) (l : Lane) (hnum : 2 ≤ s.numVoting) (hmember : s.member l = Mbr.excluded) (hact : s.st.act = none)
    (hrun : s.vote.readmit = none) (hlimit : 1 ≤ s.pageLimit) : s.readmitRefusal (some l) = none := by
  have hlocked : s.member l ≠ Mbr.locked := by rw [hmember]; decide
  have hfree : ¬(s.st.act.isSome ∨ s.vote.readmit.isSome ∨ ¬(s.member l = Mbr.excluded ∨ s.member l = Mbr.halted ∧ s.ex l = Exec.splitRun)) := by
    rw [hact, hrun]
    rintro (h | h | h)
    · exact Bool.false_ne_true h
    · exact Bool.false_ne_true h
    · exact h (.inl hmember)
  exact (if_neg (Nat.not_lt.mpr hnum)).trans ((if_neg hlocked).trans ((if_neg hfree).trans (if_neg (Nat.not_lt.mpr hlimit))))

/-- Where two lanes vote, one of them votes that is not the service master: the donor (R113). -/
theorem State.votes_pickDonor (s : State) (h : 2 ≤ s.numVoting) : s.votes s.pickDonor = true := by
  unfold State.pickDonor
  cases hd : lanes.find? (fun l => s.votes l && decide (s.svcMaster ≠ some l)) with
  | some d =>
    have hfound := List.find?_some hd
    exact (Bool.and_eq_true_iff.mp hfound).1
  | none =>
    have hmaster : ∀ l, s.votes l = true → s.svcMaster = some l := fun l hl => by
      have hnot := List.find?_eq_none.mp hd l (by cases l <;> decide)
      rw [hl, Bool.true_and, decide_eq_true_eq, not_not] at hnot
      exact hnot
    have hfew : s.numVoting < 2 := (filter_lanes_lt_two s.votes).mpr (fun l m hl hm => Option.some.inj ((hmaster l hl).symm.trans (hmaster m hm)))
    exact absurd h (Nat.not_le.mpr hfew)

/-! ### Memory of a lane -/

/-- Nothing differs but lanes, the controllers of their memories, the free values taken, and registers, of which those outside `ks` read as
before. -/
structure MemoryOnly (ks : List Nat) (s t : State) : Prop where
  frame : ∃ r n c f, t = { s with regs := r, lane := n, memc := c, free := f }
  kept : RegsKept ks s t

namespace MemoryOnly

variable {ks : List Nat} {s t u : State}

theorem refl (ks : List Nat) (s : State) : MemoryOnly ks s s := ⟨⟨s.regs, s.lane, s.memc, s.free, rfl⟩, .refl ks s⟩

theorem trans (h1 : MemoryOnly ks s t) (h2 : MemoryOnly ks t u) : MemoryOnly ks s u := by
  obtain ⟨⟨_, _, _, _, rfl⟩, hkept⟩ := h1
  obtain ⟨⟨r, n, c, f, rfl⟩, hkept'⟩ := h2
  exact ⟨⟨r, n, c, f, rfl⟩, hkept.trans hkept'⟩

theorem ite {c : Prop} [Decidable c] (ht : MemoryOnly ks s t) (hu : MemoryOnly ks s u) : MemoryOnly ks s (if c then t else u) := by
  split
  · exact ht
  · exact hu

theorem foldl {α : Type} {g : State → α → State} (xs : List α) (h : MemoryOnly ks s t) (hg : ∀ u, ∀ x ∈ xs, MemoryOnly ks u (g u x)) :
    MemoryOnly ks s (xs.foldl g t) := by
  induction xs generalizing t with
  | nil => exact h
  | cons x xs ih => exact ih (h.trans (hg t x (.head _))) (fun u y hy => hg u y (.tail _ hy))

theorem wr (h : MemoryOnly ks s t) {f : Field} (v : Nat) (hf : f.addr ∈ ks) : MemoryOnly ks s (t.wr f v) :=
  h.trans ⟨⟨_, _, _, _, rfl⟩, (RegsKept.refl ks t).wr v hf⟩

theorem modLn (h : MemoryOnly ks s t) (l : Lane) (g : LaneSt → LaneSt) : MemoryOnly ks s (t.modLn l g) :=
  h.trans ⟨⟨_, _, _, _, rfl⟩, .of_regs rfl⟩

theorem setMctl (h : MemoryOnly ks s t) (l : Lane) (x : MemCtl) : MemoryOnly ks s (t.setMctl (.lane l) x) :=
  h.trans ⟨⟨_, _, _, _, rfl⟩, .of_regs rfl⟩

theorem setDdr (h : MemoryOnly ks s t) (l : Lane) (x : Mem) : MemoryOnly ks s (t.setDdr (.lane l) x) :=
  h.modLn l (fun n => { n with ddr := x })

theorem takeFree (h : MemoryOnly ks s t) : MemoryOnly ks s t.takeFree.2 := h.trans ⟨⟨_, _, _, _, rfl⟩, .of_regs rfl⟩

theorem vote (h : MemoryOnly ks s t) : t.vote = s.vote := by obtain ⟨⟨_, _, _, _, rfl⟩, -⟩ := h; rfl

end MemoryOnly

/-- The registers of a lane's controller that fills and writes of its memory touch (R160, R163). -/
def memoryKeys (l : Lane) : List Nat := [Reg.MEM_SCRUB_VALID (.lane l), Reg.MEM_STATUS (.lane l), Reg.MEM_FILL_TIME (.lane l)]

section
variable (s : State) (l : Lane) (a : Nat)

theorem State.ddrWb_memoryOnly (v : Byte) : MemoryOnly (memoryKeys l) s (s.ddrWb (.lane l) a v) := by
  have hvalid : MemoryOnly (memoryKeys l) s (s.markValid (.lane l) a) :=
    (MemoryOnly.refl _ s).ite (((MemoryOnly.refl _ s).setMctl l _).wr (f := Fld.MEM_SCRUB_VALID_BLOCKS (.lane l)) _ (.head _))
  unfold State.ddrWb
  exact (hvalid.setMctl l _).setDdr l _

theorem State.ddrPut_memoryOnly (bs : List Byte) : MemoryOnly (memoryKeys l) s (s.ddrPut (.lane l) a bs) := by
  induction bs generalizing s a with
  | nil => exact .refl _ s
  | cons b bs ih => exact (s.ddrWb_memoryOnly l a b).trans (ih _ _)

theorem State.settleLine_memoryOnly : MemoryOnly (memoryKeys l) s (s.settleLine l a) := by
  have hgone : MemoryOnly (memoryKeys l) s (s.takeFree.2.dropLine l a) := (MemoryOnly.refl _ s).takeFree.modLn l _
  exact (MemoryOnly.refl _ s).ite ((hgone.trans (State.ddrPut_memoryOnly _ l _ _)).ite hgone)

theorem State.laneCopy_memoryOnly (bs : List Byte) : MemoryOnly (memoryKeys l) s (s.laneCopy l a bs) := by
  have hsettled : MemoryOnly (memoryKeys l) s (s.settleLines l a bs.length) :=
    (MemoryOnly.refl _ s).ite ((MemoryOnly.refl _ s).foldl _ (fun u _ _ => u.settleLine_memoryOnly l _))
  exact ((MemoryOnly.refl _ s).modLn l _).ite ((hsettled.trans (State.ddrPut_memoryOnly _ l a bs)).ite (.refl _ s))

end

theorem State.copyPages_memoryOnly (s : State) (src dst : Lane) (ps : List Nat) : MemoryOnly (memoryKeys dst) s (s.copyPages src dst ps) :=
  (MemoryOnly.refl _ s).foldl ps (fun u _ _ => u.laneCopy_memoryOnly dst _ _)

theorem State.copyImage_memoryOnly (s : State) (src dst : Lane) : MemoryOnly (memoryKeys dst) s (s.copyImage src dst) := by
  unfold State.copyImage
  split
  · exact (s.laneCopy_memoryOnly dst _ _).modLn dst _
  · exact .refl _ s

theorem State.endFill_memoryOnly (s : State) (l : Lane) : MemoryOnly (memoryKeys l) s (s.endFill (.lane l)) := by
  have hfilled : MemoryOnly (memoryKeys l) s (s.fillMem (.lane l)) := by
    unfold State.fillMem
    exact (((((MemoryOnly.refl _ s).setMctl l _).setDdr l _).setMctl l _).wr (f := Fld.MEM_SCRUB_VALID_BLOCKS (.lane l)) 0 (.head _)).modLn l _
  unfold State.endFill
  split
  · exact ((hfilled.setMctl l _).wr (f := Fld.MEM_STATUS_FILLING (.lane l)) 0 (.tail _ (.head _))).wr (f := Fld.MEM_FILL_TIME_US (.lane l)) _
      (.tail _ (.tail _ (.head _)))
  · exact .refl _ s

/-- A fill that begins notes the uptime (R163). -/
theorem State.beginFill_shows (s : State) (l : Lane) : MemoryOnly (memoryKeys l) s (s.beginFill (.lane l)) ∧
    ((s.beginFill (.lane l)).memc.get l).fillStart = some s.clk.uptime := by
  refine ⟨((MemoryOnly.refl _ s).setMctl l _).wr (f := Fld.MEM_STATUS_FILLING (.lane l)) 1 (.tail _ (.head _)), ?_⟩
  exact congrArg MemCtl.fillStart (s.mctl_setMctl (.lane l) { s.mctl (.lane l) with fillStart := some s.clk.uptime })

end Sys2Proof.Machine
end

section
/-! PROOF. How a readmission begins and how it fails (R79, R95, R99, R111 to R114, R117, R506; O18). -/

namespace Sys2Proof.Machine

/-! ### The beginning -/

/-- The readmission of lane `l` has begun between `s` and `t`: TRANSFER, RECEIVING, phase FILL with its fill started, and a voting donor
(R112 to R114). -/
def ReadmitBegun (s : State) (l : Lane) (t : State) : Prop :=
  t.member l = Mbr.transfer ∧ t.ex l = Exec.receiving ∧ t.rd Fld.VT_READMIT_STATUS_PHASE = 1 ∧
  t.rd Fld.VT_STATUS_READMIT_BUSY = 1 ∧ t.reg (Reg.LC_FAULT_CAUSE l) = 0 ∧ (t.memc.get l).fillStart = some s.clk.uptime ∧
  ∃ r, t.vote.readmit = some r ∧ r.receiver = l ∧ s.votes r.donor = true ∧ r.start = s.clk.uptime

/-- The answer to the write that starts it leaves what it shows. -/
theorem ReadmitBegun.respond {s t : State} {l : Lane} (h : ReadmitBegun s l t) (i : Initiator) (x : BusResp) : ReadmitBegun s l (t.respond i x) := h

/-- The receiver's seat and execution state (R112). -/
def State.toReceiving (s : State) (l : Lane) (r : Readmit) : State :=
  ((({ s with vote := { s.vote with readmit := some r, autoAt := s.vote.autoAt.put l none } } : State).setMember l Mbr.transfer).stopLane l).wr
    (Fld.LC_LANE_STATUS_EXEC l) Exec.receiving

/-- The receiver's fault record and DEBUG_SPLIT cleared (R112). -/
def State.faultCleared (s : State) (l : Lane) : State :=
  ((((s.setReg (Reg.LC_FAULT_CAUSE l) 0).setReg (Reg.LC_FAULT_TIME_HI l) 0).setReg (Reg.LC_FAULT_TIME_LO l) 0).wr
    (Fld.LC_LANE_STATUS_DEBUG_SPLIT l) 0).showFaultDev

/-- The transfer shown in VT.READMIT_STATUS and VT.STATUS (R119). -/
def State.showTransfer (s : State) (l d : Lane) : State :=
  ((((((s.wr Fld.VT_READMIT_STATUS_RESULT 0).wr Fld.VT_READMIT_STATUS_PHASE 1).wr Fld.VT_READMIT_STATUS_PASS 0).wr
    Fld.VT_READMIT_STATUS_RECEIVER l.num).wr Fld.VT_READMIT_STATUS_DIRTY 0).wr Fld.VT_STATUS_DONOR d.num).set1 Fld.VT_STATUS_READMIT_BUSY

/-- A fresh readmission (R113). -/
def Readmit.fresh (l d : Lane) (start : Nat) : Readmit := { receiver := l, donor := d, start := start, dirty := [], passPages := [], quiet := none }

theorem State.toReceiving_shows (s : State) (l : Lane) (r : Readmit) : (s.toReceiving l r).member l = Mbr.transfer ∧
    (s.toReceiving l r).ex l = Exec.receiving ∧ (s.toReceiving l r).vote.readmit = some r ∧ (s.toReceiving l r).clk = s.clk := by
  have hmember := ({ s with vote := { s.vote with readmit := some r, autoAt := s.vote.autoAt.put l none } } : State).member_setMember_same l
    (m := Mbr.transfer) (by decide)
  have honly := ({ s with vote := { s.vote with readmit := some r, autoAt := s.vote.autoAt.put l none } } : State).setMember_regsOnly l Mbr.transfer
  unfold State.toReceiving
  generalize ({ s with vote := _ } : State).setMember l Mbr.transfer = u at hmember honly
  obtain ⟨_, _, _, hstop⟩ := u.stopLane_frame l
  have hseat : SeatKept l u ((u.stopLane l).wr (Fld.LC_LANE_STATUS_EXEC l) Exec.receiving) :=
    ((SeatKept.refl l u).stopLane l).kept ((RegsKept.refl [Reg.LC_LANE_STATUS l] _).wr (f := Fld.LC_LANE_STATUS_EXEC l) _ (.head _)) (by cases l <;> decide)
  refine ⟨hseat.member.trans hmember, State.rd_wr_same _ (Fld.LC_LANE_STATUS_EXEC l) Exec.receiving (show 11 < 32 ∧ 8 ≤ 11 by decide), ?_, ?_⟩
  · rw [State.wr_vote, hstop]
    exact congrArg VoteSt.readmit honly.vote
  · rw [State.wr_clk, hstop]
    exact honly.clk

theorem State.faultCleared_shows (s : State) (l : Lane) : RegsOnly s (s.faultCleared l) ∧
    RegsKept (Reg.LC_LANE_STATUS l :: causeKeys l) s (s.faultCleared l) ∧ (s.faultCleared l).reg (Reg.LC_FAULT_CAUSE l) = 0 ∧
    (s.faultCleared l).ex l = s.ex l := by
  have honly := (((RegsOnly.refl s).setReg (Reg.LC_FAULT_CAUSE l) 0).setReg (Reg.LC_FAULT_TIME_HI l) 0).setReg (Reg.LC_FAULT_TIME_LO l) 0
  have hkept : RegsKept (causeKeys l) s (((s.setReg (Reg.LC_FAULT_CAUSE l) 0).setReg (Reg.LC_FAULT_TIME_HI l) 0).setReg (Reg.LC_FAULT_TIME_LO l) 0) :=
    (((RegsKept.refl _ s).setReg (k := Reg.LC_FAULT_CAUSE l) 0 (.head _)).setReg (k := Reg.LC_FAULT_TIME_HI l) 0 (.tail _ (.head _))).setReg
      (k := Reg.LC_FAULT_TIME_LO l) 0 (.tail _ (.tail _ (.head _)))
  have hzero : (((s.setReg (Reg.LC_FAULT_CAUSE l) 0).setReg (Reg.LC_FAULT_TIME_HI l) 0).setReg (Reg.LC_FAULT_TIME_LO l) 0).reg (Reg.LC_FAULT_CAUSE l) = 0 := by
    rw [State.reg_setReg_ne _ _ _ _ (by cases l <;> decide), State.reg_setReg_ne _ _ _ _ (by cases l <;> decide), State.reg_setReg_same]
  unfold State.faultCleared
  generalize ((s.setReg (Reg.LC_FAULT_CAUSE l) 0).setReg (Reg.LC_FAULT_TIME_HI l) 0).setReg (Reg.LC_FAULT_TIME_LO l) 0 = u at honly hkept hzero
  have hshown := (u.wr (Fld.LC_LANE_STATUS_DEBUG_SPLIT l) 0).showFaultDev_kept
  refine ⟨(honly.wr _ _).trans (State.showFaultDev_regsOnly _), ?_, ?_, ?_⟩
  · exact (((hkept.mono (fun k hk => .tail _ hk)).wr (f := Fld.LC_LANE_STATUS_DEBUG_SPLIT l) 0 (.head _))).trans
      (hshown.mono (fun k hk => .tail _ (.tail _ (.tail _ (.tail _ hk)))))
  · rw [hshown _ (by cases l <;> decide), State.reg_wr_ne _ _ _ _ (by cases l <;> decide), hzero]
  · have hbeside : (u.wr (Fld.LC_LANE_STATUS_DEBUG_SPLIT l) 0).ex l = u.ex l :=
      u.rd_wr_beside _ (Fld.LC_LANE_STATUS_EXEC l) 0 (by cases l <;> decide) rfl (by cases l <;> decide)
    exact (hshown.rd (f := Fld.LC_LANE_STATUS_EXEC l) (by cases l <;> decide)).trans (hbeside.trans
      (hkept.rd (f := Fld.LC_LANE_STATUS_EXEC l) (by cases l <;> decide)))

theorem State.showTransfer_shows (s : State) (l d : Lane) : RegsOnly s (s.showTransfer l d) ∧ RegsKept readmitKeys s (s.showTransfer l d) ∧
    (s.showTransfer l d).rd Fld.VT_READMIT_STATUS_PHASE = 1 ∧ (s.showTransfer l d).rd Fld.VT_STATUS_READMIT_BUSY = 1 := by
  have hbeside : ∀ (u : State) (f : Field) (v : Nat), f.addr = Reg.VT_READMIT_STATUS → f.hi < 24 ∧ f.lo ≤ f.hi →
      (u.wr f v).rd Fld.VT_READMIT_STATUS_PHASE = u.rd Fld.VT_READMIT_STATUS_PHASE := fun u f v ha hf =>
    u.rd_wr_beside f _ v ⟨by omega, hf.2⟩ ha.symm (.inr hf.1)
  have hstatus : ∀ (u : State) (f : Field) (v : Nat), f.addr = Reg.VT_STATUS →
      (u.wr f v).rd Fld.VT_READMIT_STATUS_PHASE = u.rd Fld.VT_READMIT_STATUS_PHASE := fun u f v ha =>
    u.rd_wr_reg f _ v (by rw [ha]; decide)
  refine ⟨((((((((RegsOnly.refl s).wr _ _).wr _ _).wr _ _).wr _ _).wr _ _).wr _ _).wr _ _), ?_, ?_,
    State.rd_wr_same _ Fld.VT_STATUS_READMIT_BUSY 1 (by decide)⟩
  · exact (((((((RegsKept.refl _ s).wr (f := Fld.VT_READMIT_STATUS_RESULT) _ (.head _)).wr (f := Fld.VT_READMIT_STATUS_PHASE) _ (.head _)).wr
      (f := Fld.VT_READMIT_STATUS_PASS) _ (.head _)).wr (f := Fld.VT_READMIT_STATUS_RECEIVER) _ (.head _)).wr (f := Fld.VT_READMIT_STATUS_DIRTY) _
      (.head _)).wr (f := Fld.VT_STATUS_DONOR) _ (.tail _ (.head _))).wr (f := Fld.VT_STATUS_READMIT_BUSY) 1 (.tail _ (.head _))
  · unfold State.showTransfer State.set1
    rw [hstatus _ _ _ rfl, hstatus _ _ _ rfl, hbeside _ Fld.VT_READMIT_STATUS_DIRTY _ rfl (by decide),
      hbeside _ Fld.VT_READMIT_STATUS_RECEIVER _ rfl (by decide), hbeside _ Fld.VT_READMIT_STATUS_PASS _ rfl (by decide),
      State.rd_wr_same _ _ _ (by decide)]
    rfl

/-- A slot that is no longer staged shows in UPD alone (R474). -/
theorem State.unstage_shows (s : State) (l : Lane) : (∃ r x, s.unstage l = { s with regs := r, st := x }) ∧
    RegsKept [Reg.UPD_FLASH_STATUS, Reg.UPD_IMG_ID] s (s.unstage l) := by
  have hdropped : RegsKept [Reg.UPD_FLASH_STATUS, Reg.UPD_IMG_ID] s { s with st := { s.st with stagedImg := s.st.stagedImg.put l none } } := .of_regs rfl
  exact ⟨⟨_, _, rfl⟩, (hdropped.wr (f := ⟨Reg.UPD_FLASH_STATUS, 28 + l.num, 28 + l.num⟩) _ (.head _)).wr (f := Fld.UPD_IMG_ID_STAGED_VERSION) _
    (.tail _ (.head _))⟩

theorem State.beginReadmit_eq (s : State) (l : Lane) (hlock : (s.unstage l).pllLocked l = true) : s.beginReadmit l =
    ((((s.unstage l).toReceiving l (.fresh l (s.unstage l).pickDonor (s.unstage l).clk.uptime)).faultCleared l).showTransfer l
      (s.unstage l).pickDonor).beginFill (.lane l) := if_pos hlock

/-- An accepted start begins the readmission of a lane with a locked PLL (R112 to R114, R506). -/
theorem State.beginReadmit_begun (s : State) (l : Lane) (hnum : 2 ≤ s.numVoting) (hlock : s.pllLocked l = true) :
    ReadmitBegun s l (s.beginReadmit l) := by
  obtain ⟨⟨_, _, hframe⟩, hkept⟩ := s.unstage_shows l
  have hseat := hkept Reg.VT_LANE_STATE (by decide)
  have hlocked : (s.unstage l).pllLocked l = true := by
    unfold State.pllLocked State.flag
    rw [hkept.rd (f := lockFld l) (show ∀ j ∈ _, homeKey Reg.JC_CLK_STATUS ≠ homeKey j by decide)]
    exact hlock
  have hclk : (s.unstage l).clk = s.clk := by rw [hframe]
  have hdonor : s.votes (s.unstage l).pickDonor = true :=
    ((State.votes_of_reg hseat _).2).symm.trans ((s.unstage l).votes_pickDonor (hnum.trans (State.numVoting_of_reg hseat).ge))
  rw [s.beginReadmit_eq l hlocked]
  generalize (s.unstage l).pickDonor = d at hdonor
  obtain ⟨hmember, hex, hreadmit, hclk1⟩ := (s.unstage l).toReceiving_shows l (.fresh l d (s.unstage l).clk.uptime)
  generalize (s.unstage l).toReceiving l (.fresh l d (s.unstage l).clk.uptime) = t1 at hmember hex hreadmit hclk1
  obtain ⟨honly2, hkept2, hcause, hex2⟩ := t1.faultCleared_shows l
  generalize t1.faultCleared l = t2 at honly2 hkept2 hcause hex2
  obtain ⟨honly3, hkept3, hphase, hbusy⟩ := t2.showTransfer_shows l d
  generalize t2.showTransfer l d = t3 at honly3 hkept3 hphase hbusy
  obtain ⟨hmem, hfill⟩ := t3.beginFill_shows l
  have hlast : ∀ f : Field, (∀ j ∈ memoryKeys l, homeKey f.addr ≠ homeKey j) → (t3.beginFill (.lane l)).rd f = t3.rd f := fun f hf => hmem.kept.rd hf
  have hseat3 : SeatKept l t1 (t3.beginFill (.lane l)) :=
    (((SeatKept.refl l t1).kept hkept2 (by cases l <;> decide)).kept hkept3 (by decide)).kept hmem.kept (by cases l <;> decide)
  refine ⟨hseat3.member.trans hmember, ?_, (hlast _ (by cases l <;> decide)).trans hphase, (hlast _ (by cases l <;> decide)).trans hbusy, ?_, ?_,
    .fresh l d (s.unstage l).clk.uptime, ?_, rfl, hdonor, congrArg Clock.uptime hclk⟩
  · exact (hlast (Fld.LC_LANE_STATUS_EXEC l) (by cases l <;> decide)).trans
      ((hkept3.rd (f := Fld.LC_LANE_STATUS_EXEC l) (by cases l <;> decide)).trans (hex2.trans hex))
  · rw [hmem.kept _ (by cases l <;> decide), hkept3 _ (by cases l <;> decide), hcause]
  · rw [hfill, honly3.clk, honly2.clk, hclk1, hclk]
  · rw [hmem.vote, honly3.vote, honly2.vote, hreadmit]

end Sys2Proof.Machine
end

section
/-! PROOF. The failure of a readmission, its transfer and rejoin, and the commands of the family (R79, R95, R99, R110 to R117, R506; O18). -/

namespace Sys2Proof.Machine

/-! ### The failure -/

/-- The registers that an exclusion touches (R79, R99 to R101, R121). -/
def excludeKeys (l : Lane) : List Nat :=
  [Reg.VT_LANE_STATE, Reg.JC_MOD_STATUS, infoKey l, Reg.JC_HOST_ALERT] ++ logKeys ++ stopKeys l

theorem State.setMember_kept (s : State) (l : Lane) (m : Nat) : RegsKept [Reg.VT_LANE_STATE, Reg.LC_LANE_STATUS l, Reg.JC_MOD_STATUS] s (s.setMember l m) :=
  (((RegsKept.refl _ s).wr (f := memberFld l) m (by rw [memberFld_addr]; exact .head _)).wr (f := Fld.LC_LANE_STATUS_VOTING l) _
    (.tail _ (.head _))).wr (f := ⟨Reg.JC_MOD_STATUS, 8 + l.num, 8 + l.num⟩) _ (.tail _ (.tail _ (.head _)))

theorem State.noteExcluded_kept (s : State) (l : Lane) (cause word k : Nat) :
    RegsKept (Reg.JC_HOST_ALERT :: logKeys) s (s.noteExcluded l cause word k) := by
  have hnoted := (((Noted.refl s).weltEvent 4 0x10 (l.num + cause * 2 ^ 8 + word * 2 ^ 16 + k % 2 ^ 32 * 2 ^ 32)).troubleAt (causeFld l)
    [l.num, cause, word, k % 2 ^ 32]).kept
  unfold State.noteExcluded
  generalize (s.weltEvent _ _ _).troubleAt _ _ = u at hnoted
  exact ((hnoted.mono (fun k hk => .tail _ hk)).wr (f := Fld.JC_HOST_ALERT_EXCL) 1 (.head _)).trans (.of_regs rfl)

theorem State.excludeLane_kept (s : State) (l : Lane) (cause word : Nat) : RegsKept (excludeKeys l) s (s.excludeLane l cause word) := by
  have hinfo : infoKey l ∈ excludeKeys l := .tail _ (.tail _ (.head _))
  have hseat : RegsKept (excludeKeys l) s (s.setMember l Mbr.excluded) := (s.setMember_kept l Mbr.excluded).mono (by cases l <;> decide)
  have hcounted := (hseat.wr (f := causeFld l) cause (by rw [causeFld_addr]; exact .head _)).wr (f := exclFld l)
    (satAdd (2 ^ ((exclFld l).hi + 1 - (exclFld l).lo) - 1) (((s.setMember l Mbr.excluded).wr (causeFld l) cause).rd (exclFld l)) 1) hinfo
  have hmarked : RegsKept (excludeKeys l) s (s.markExcluded l cause word) := (hcounted.wr (f := disWordFld l) word hinfo).ite hcounted
  have hnoted : RegsKept (excludeKeys l) (s.markExcluded l cause word) ((s.markExcluded l cause word).noteExcluded l cause word s.cyc.k) :=
    (State.noteExcluded_kept _ l cause word s.cyc.k).mono (fun k hk => List.mem_append_left _ (List.mem_cons.mp hk |>.elim
      (fun h => h ▸ .tail _ (.tail _ (.tail _ (.head _)))) (fun h => List.mem_append_right _ h)))
  rw [s.excludeLane_eq l cause word]
  exact ((hmarked.trans hnoted).ite ((hmarked.trans hnoted).trans ((State.stopLane_kept _ l).mono (fun k hk => List.mem_append_right _ hk))))

/-- A lane that is excluded shows it with the cause; the readmission under way stays (R99, R121). -/
theorem State.excludeLane_shows (s : State) (l : Lane) {cause : Nat} (word : Nat) (hc : cause < 16) :
    (s.excludeLane l cause word).member l = Mbr.excluded ∧ (s.excludeLane l cause word).rd (causeFld l) = cause ∧
    (s.excludeLane l cause word).vote.readmit = s.vote.readmit := by
  obtain ⟨hmember, hcause⟩ := s.markExcluded_shows l word hc
  obtain ⟨hseat, -, hreadmit⟩ := (s.markExcluded l cause word).noteExcluded_frame l cause word s.cyc.k
  have hreadmit1 := hreadmit.trans (congrArg VoteSt.readmit (s.markExcluded_regsOnly l cause word).vote)
  have hseat1 := hseat l
  rw [s.excludeLane_eq l cause word]
  generalize (s.markExcluded l cause word).noteExcluded l cause word s.cyc.k = u at hseat1 hreadmit1
  obtain ⟨_, _, _, hstop⟩ := u.stopLane_frame l
  have hseat2 : SeatKept l u (if cause = 1 ∨ cause = 6 then u else u.stopLane l) := (SeatKept.refl l u).ite ((SeatKept.refl l u).stopLane l)
  refine ⟨hseat2.member.trans (hseat1.member.trans hmember), hseat2.cause.trans (hseat1.cause.trans hcause), ?_⟩
  split
  · exact hreadmit1
  · rw [hstop]
    exact hreadmit1

/-- A relapse keeps the cause; the lane stays as it is or is LOCKED, where VT.CFG has a limit (R111). -/
theorem State.relapse_shows (s : State) (l : Lane) : (s.relapse l).rd (causeFld l) = s.rd (causeFld l) ∧
    ((s.relapse l).member l = s.member l ∨ (s.relapse l).member l = Mbr.locked ∧ s.rd Fld.VT_CFG_RELAPSE_MAX ≠ 0) := by
  have hseat : SeatKept l s (s.bump (relapseFld l)) := (SeatKept.refl l s).bump_info (m := l) (f := relapseFld l) rfl
  unfold State.relapse
  dsimp only
  generalize s.bump (relapseFld l) = u at hseat
  split
  next hlock =>
    have hcause : (u.setMember l Mbr.locked).rd (causeFld l) = u.rd (causeFld l) := (u.rd_setMember_seat l Mbr.locked (causeFld_addr l)).trans
      (u.rd_wr_beside (memberFld l) (causeFld l) Mbr.locked (by cases l <;> decide) (by cases l <;> rfl) (by cases l <;> decide))
    exact ⟨hcause.trans hseat.cause, .inr ⟨u.member_setMember_same l (by decide), hlock.1⟩⟩
  · exact ⟨hseat.cause, .inl hseat.member⟩

theorem State.relapse_kept (s : State) (l : Lane) : RegsKept [infoKey l, Reg.VT_LANE_STATE, Reg.LC_LANE_STATUS l, Reg.JC_MOD_STATUS] s (s.relapse l) := by
  have hbumped : RegsKept [infoKey l, Reg.VT_LANE_STATE, Reg.LC_LANE_STATUS l, Reg.JC_MOD_STATUS] s (s.bump (relapseFld l)) :=
    (RegsKept.refl _ s).wr (f := relapseFld l) _ (.head _)
  exact (hbumped.trans ((State.setMember_kept _ l Mbr.locked).mono (fun k hk => .tail _ hk))).ite hbumped

theorem State.endReadmit_shows (s : State) {res : Nat} (hres : res < 16) : (s.endReadmit res).vote.readmit = none ∧
    (s.endReadmit res).rd Fld.VT_READMIT_STATUS_RESULT = res := by
  refine ⟨rfl, ?_⟩
  have hbeside : ∀ (u : State) (f : Field) (v : Nat), f.addr = Reg.VT_READMIT_STATUS → f.hi < 28 ∧ f.lo ≤ f.hi →
      (u.wr f v).rd Fld.VT_READMIT_STATUS_RESULT = u.rd Fld.VT_READMIT_STATUS_RESULT := fun u f v ha hf =>
    u.rd_wr_beside f _ v ⟨by omega, hf.2⟩ ha.symm (.inr hf.1)
  unfold State.endReadmit
  rw [State.rd_wr_reg _ Fld.VT_STATUS_READMIT_BUSY Fld.VT_READMIT_STATUS_RESULT _ (by decide),
    State.rd_wr_reg _ Fld.VT_STATUS_DONOR Fld.VT_READMIT_STATUS_RESULT _ (by decide),
    hbeside _ Fld.VT_READMIT_STATUS_RECEIVER _ rfl (by decide), hbeside _ Fld.VT_READMIT_STATUS_PHASE _ rfl (by decide),
    State.rd_wr_same _ _ _ (by decide)]
  exact Nat.mod_eq_of_lt hres

/-- A readmission fails: its RESULT is reported and the receiver is EXCLUDED with cause 7, or LOCKED by a failure at the relapse limit; an
abort counts no relapse (R111, R117). -/
theorem State.failReadmit_shows (s : State) {r : Readmit} {res : Nat} (hr : s.vote.readmit = some r) (hres : res < 16) :
    let t := s.failReadmit res
    t.vote.readmit = none ∧ t.rd (causeFld r.receiver) = 7 ∧ t.rd Fld.VT_READMIT_STATUS_RESULT = res ∧
    (t.member r.receiver = Mbr.excluded ∨ res ≠ 5 ∧ t.member r.receiver = Mbr.locked ∧ s.rd Fld.VT_CFG_RELAPSE_MAX ≠ 0) := by
  have heq : s.failReadmit res = if res = 5 then (s.endReadmit res).excludeLane r.receiver 7 0
      else ((s.endReadmit res).excludeLane r.receiver 7 0).relapse r.receiver := by
    unfold State.failReadmit
    rw [hr]
  obtain ⟨hnone, hresult⟩ := s.endReadmit_shows hres
  obtain ⟨hmember, hcause, hreadmit⟩ := (s.endReadmit res).excludeLane_shows r.receiver (cause := 7) 0 (by decide)
  have hresult1 := ((s.endReadmit res).excludeLane_kept r.receiver 7 0).rd (f := Fld.VT_READMIT_STATUS_RESULT) (by cases r.receiver <;> decide)
  have hmax : ((s.endReadmit res).excludeLane r.receiver 7 0).rd Fld.VT_CFG_RELAPSE_MAX = s.rd Fld.VT_CFG_RELAPSE_MAX :=
    State.rd_of_reg (((ImagesKept.refl s).endReadmit res).excludeLane r.receiver 7 0).config
  dsimp only
  rw [heq]
  generalize (s.endReadmit res).excludeLane r.receiver 7 0 = u at hmember hcause hreadmit hresult1 hmax
  split
  · exact ⟨hreadmit.trans hnone, hcause, hresult1.trans hresult, .inl hmember⟩
  next hnot =>
    obtain ⟨hcause2, hmember2⟩ := u.relapse_shows r.receiver
    have hresult2 := (u.relapse_kept r.receiver).rd (f := Fld.VT_READMIT_STATUS_RESULT) (by cases r.receiver <;> decide)
    refine ⟨?_, hcause2.trans hcause, hresult2.trans (hresult1.trans hresult), ?_⟩
    · rw [(u.relapse_regsOnly r.receiver).vote]
      exact hreadmit.trans hnone
    · exact hmember2.imp (fun h => h.trans hmember) (fun h => ⟨hnot, h.1, hmax ▸ h.2⟩)

/-! ### The commands that start a readmission -/

/-- A start of a lane's readmission at VT.READMIT, after the write's plain effect (R112). -/
theorem State.exec_readmitStart (s : State) {i : Initiator} {w : Word} {l : Lane} (hmay : s.mayWrite i Reg.VT_READMIT = true)
    (hlane : wbits w Fld.VT_READMIT_LANE = l.num) (habort : wbits w Fld.VT_READMIT_ABORT = 0) :
    exec (.readmitStart i w) s = .next (((s.merge Reg.VT_READMIT w).startReadmit (some l)).respond i .done) := by
  have hctl : ∀ u : State, u.readmitCtl (w ||| 1) = u.startReadmit (some l) := fun u => by
    unfold State.readmitCtl
    rw [wbits_or_apart w 1 Fld.VT_READMIT_ABORT (by decide), habort, wbits_or_bit w 1 Fld.VT_READMIT_START rfl (by decide),
      wbits_or_apart w 1 Fld.VT_READMIT_LANE (by decide), hlane]
    cases l <;> rfl
  rw [← hctl]
  exact congrArg Host.Outcome.next (s.regCmd_of_may w _ hmay)

/-- A start that is refused reports its RESULT alone (R112). -/
theorem State.gives_readmitStart_refused (s : State) {i : Initiator} {w : Word} {l : Lane} (hmay : s.mayWrite i Reg.VT_READMIT = true)
    (hlane : wbits w Fld.VT_READMIT_LANE = l.num) (habort : wbits w Fld.VT_READMIT_ABORT = 0) {c : Nat} (hc : c < 16)
    (hrefused : s.readmitRefusal (some l) = some c) :
    Gives (.readmitStart i w) s (fun t => t.rd Fld.VT_READMIT_STATUS_RESULT = c ∧ t.lane = s.lane ∧ t.vote = s.vote) := by
  have hmerged := s.merge_commandOnly Reg.VT_READMIT w
  refine gives_of_exec (s.exec_readmitStart hmay hlane habort) ?_
  have hrefused1 := (hmerged.readmitRefusal l).trans hrefused
  obtain ⟨_, _, hlog⟩ := hmerged.log
  have hkept : (s.merge Reg.VT_READMIT w).lane = s.lane ∧ (s.merge Reg.VT_READMIT w).vote = s.vote := by rw [hlog]; exact ⟨rfl, rfl⟩
  have hshown : (s.merge Reg.VT_READMIT w).startReadmit (some l) = (s.merge Reg.VT_READMIT w).wr Fld.VT_READMIT_STATUS_RESULT c := by
    unfold State.startReadmit
    rw [hrefused1]
  rw [hshown, State.rd_respond, State.respond_lane, State.respond_vote, State.wr_lane, State.wr_vote]
  exact ⟨(State.rd_wr_same _ Fld.VT_READMIT_STATUS_RESULT c (by decide)).trans (Nat.mod_eq_of_lt hc), hkept⟩

theorem State.startReadmit_accepted (s : State) {l : Lane} (h : s.readmitRefusal (some l) = none) : s.startReadmit (some l) = s.beginReadmit l := by
  unfold State.startReadmit
  rw [h]

/-- A start that is accepted begins the readmission (R112 to R114). -/
theorem State.gives_readmitStart (s : State) {i : Initiator} {w : Word} {l : Lane} (hmay : s.mayWrite i Reg.VT_READMIT = true)
    (hlane : wbits w Fld.VT_READMIT_LANE = l.num) (habort : wbits w Fld.VT_READMIT_ABORT = 0) (hnum : 2 ≤ s.numVoting)
    (hlock : s.pllLocked l = true) (hok : s.readmitRefusal (some l) = none) : Gives (.readmitStart i w) s (ReadmitBegun s l) := by
  have hmerged := s.merge_commandOnly Reg.VT_READMIT w
  refine gives_of_exec (s.exec_readmitStart hmay hlane habort) ?_
  rw [State.startReadmit_accepted _ ((hmerged.readmitRefusal l).trans hok)]
  generalize s.merge Reg.VT_READMIT w = u at hmerged
  have hseat := hmerged.kept Reg.VT_LANE_STATE (by decide)
  have hlock1 : u.pllLocked l = true := by
    unfold State.pllLocked State.flag
    rw [hmerged.kept.rd (f := lockFld l) (show ∀ j ∈ _, homeKey Reg.JC_CLK_STATUS ≠ homeKey j by decide)]
    exact hlock
  have hclk : u.clk = s.clk := by obtain ⟨_, _, hlog⟩ := hmerged.log; rw [hlog]
  obtain ⟨hmember, hex, hphase, hbusy, hcause, hfill, r, hr, hrec, hdonor, hstart⟩ :=
    u.beginReadmit_begun l (hnum.trans (State.numVoting_of_reg hseat).ge) hlock1
  exact ReadmitBegun.respond ⟨hmember, hex, hphase, hbusy, hcause, hfill.trans (congrArg (fun c : Clock => some c.uptime) hclk), r, hr, hrec,
    (State.votes_of_reg hseat r.donor).2.symm.trans hdonor, hstart.trans (congrArg Clock.uptime hclk)⟩ i .done

/-- The state in which a lane's automatic readmission is used up (R112). -/
def State.autoSpent (s : State) (l : Lane) : State := { s with vote := { s.vote with autoAt := s.vote.autoAt.put l none } }

/-- AUTO_READMIT begins it in the same way (R112). -/
theorem State.gives_autoReadmit (s : State) {l : Lane} {k : Nat} (hauto : s.vote.autoAt.get l = some k) (hk : k < s.cyc.k)
    (hcfg : s.rd Fld.VT_CFG_AUTO_READMIT = 1) (hact : s.st.act = none) (hnum : 2 ≤ s.numVoting) (hlock : s.pllLocked l = true)
    (hok : s.readmitRefusal (some l) = none) : Gives (.autoReadmit l) s (ReadmitBegun s l) := by
  have hflag : s.flag Fld.VT_CFG_AUTO_READMIT = true := by
    unfold State.flag
    rw [hcfg]
    rfl
  have hexec : exec (.autoReadmit l) s =
      .next ((s.autoSpent l).startReadmit (some l)) := by
    show execAutoReadmit l s = _
    unfold execAutoReadmit
    rw [hauto]
    exact congrArg Host.Outcome.next (if_pos ⟨hflag, hk, hact⟩)
  refine gives_of_exec hexec ?_
  rw [(s.autoSpent l).startReadmit_accepted hok]
  exact (s.autoSpent l).beginReadmit_begun l hnum hlock

end Sys2Proof.Machine
end

section
/-! PROOF. A readmission's transfer, its rejoin and its ends, and O18 (R95, R110, R111, R113 to R117). -/

namespace Sys2Proof.Machine

/-! ### Abort and timeout -/

/-- READMIT_ABORT fails the readmission with RESULT 5 (R117). -/
theorem State.gives_readmitAbort (s : State) {i : Initiator} {w : Word} {r : Readmit} (hr : s.vote.readmit = some r)
    (hmay : s.mayWrite i Reg.VT_READMIT = true) (hstart : wbits w Fld.VT_READMIT_START = 0) :
    Gives (.readmitAbort i w) s (fun t => t.vote.readmit = none ∧ t.member r.receiver = Mbr.excluded ∧ t.rd (causeFld r.receiver) = 7 ∧
      t.rd Fld.VT_READMIT_STATUS_RESULT = 5) := by
  have hctl : ∀ u : State, u.readmitCtl (w ||| 8) = u.failReadmit 5 := fun u => by
    unfold State.readmitCtl
    rw [wbits_or_bit w 8 Fld.VT_READMIT_ABORT rfl (by decide), wbits_or_apart w 8 Fld.VT_READMIT_START (by decide), hstart]
    rfl
  have hr1 : (s.merge Reg.VT_READMIT w).vote.readmit = some r := by
    obtain ⟨_, _, hlog⟩ := s.merge_logOnly Reg.VT_READMIT w
    rw [hlog]
    exact hr
  obtain ⟨hnone, hcause, hresult, hmember⟩ := (s.merge Reg.VT_READMIT w).failReadmit_shows hr1 (res := 5) (by decide)
  refine gives_of_exec (congrArg Host.Outcome.next ((s.regCmd_of_may w _ hmay).trans (congrArg (fun t : State => t.respond i .done) (hctl _)))) ?_
  exact ⟨hnone, hmember.resolve_right (fun h => h.1 rfl), hcause, hresult⟩

/-- READMIT_TIMEOUT, 2 s after START, fails it with RESULT 6 (R117). -/
theorem State.gives_readmitTimeout (s : State) {r : Readmit} (hr : s.vote.readmit = some r) (hlate : r.start + 2000000000 ≤ s.clk.uptime)
    (hphase : s.readmitPhase ≠ 4) : Gives .readmitTimeout s (fun t => t.vote.readmit = none ∧
      (t.member r.receiver = Mbr.excluded ∨ t.member r.receiver = Mbr.locked ∧ s.rd Fld.VT_CFG_RELAPSE_MAX ≠ 0) ∧
      t.rd (causeFld r.receiver) = 7 ∧ t.rd Fld.VT_READMIT_STATUS_RESULT = 6) := by
  have hexec : exec .readmitTimeout s = .next (s.failReadmit 6) := by
    show execReadmitTimeout s = _
    unfold execReadmitTimeout
    rw [hr]
    exact congrArg Host.Outcome.next (if_pos ⟨hlate, hphase⟩)
  obtain ⟨hnone, hcause, hresult, hmember⟩ := s.failReadmit_shows hr (res := 6) (by decide)
  exact gives_of_exec hexec ⟨hnone, hmember.imp_right And.right, hcause, hresult⟩

/-! ### The transfer -/

/-- READMIT_FILL_DONE begins pass 1 of BULK (R114). -/
theorem State.gives_readmitFillDone (s : State) {r : Readmit} (hr : s.vote.readmit = some r) (hphase : s.readmitPhase = 1) :
    Gives .readmitFillDone s (fun t => t.readmitPhase = 2 ∧ t.rd Fld.VT_READMIT_STATUS_PASS = 1 ∧ t.vote = s.vote) := by
  have hexec : exec .readmitFillDone s =
      .next (((s.endFill (.lane r.receiver)).wr Fld.VT_READMIT_STATUS_PHASE 2).wr Fld.VT_READMIT_STATUS_PASS 1) := by
    show execReadmitFillDone s = _
    unfold execReadmitFillDone
    rw [hr]
    exact congrArg Host.Outcome.next (if_pos hphase)
  refine gives_of_exec hexec ⟨?_, State.rd_wr_same _ Fld.VT_READMIT_STATUS_PASS 1 (by decide), ?_⟩
  · unfold State.readmitPhase
    rw [State.rd_wr_beside _ Fld.VT_READMIT_STATUS_PASS Fld.VT_READMIT_STATUS_PHASE _ (by decide) rfl (by decide), State.rd_wr_same _ _ _ (by decide)]
    rfl
  · rw [State.wr_vote, State.wr_vote]
    exact (s.endFill_memoryOnly r.receiver).vote

/-- A read of a lane's memory without placed check bits meets no error and changes nothing (R152, R154). -/
theorem State.checkRange_clean (s : State) {l : Lane} (source a n : Nat) (h : (s.memc.get l).chk = []) :
    s.checkRange (.lane l) source a n = (s, true) := by
  have hnone : s.suspects (.lane l) a n = [] := by
    unfold State.suspects State.mctl
    rw [h]
    rfl
  unfold State.checkRange
  rw [hnone]
  rfl

theorem State.checkPages_clean (s : State) {l : Lane} (ps : List Nat) (h : (s.memc.get l).chk = []) : s.checkPages l ps = (s, true) := by
  unfold State.checkPages
  induction ps with
  | nil => rfl
  | cons p ps ih =>
    rw [List.foldl_cons, s.checkRange_clean 4 (4096 * p) 4096 h]
    exact ih

/-- The pages of a pass copied, in the first one the image as well (R113, R114). -/
def State.passCopied (s : State) (r : Readmit) : State :=
  if s.rd Fld.VT_READMIT_STATUS_PASS = 1 then (s.copyImage r.donor r.receiver).copyPages r.donor r.receiver s.votedPages
  else s.copyPages r.donor r.receiver r.passPages

theorem State.passCopied_memoryOnly (s : State) (r : Readmit) : MemoryOnly (memoryKeys r.receiver) s (s.passCopied r) :=
  ((s.copyImage_memoryOnly r.donor r.receiver).trans (State.copyPages_memoryOnly _ _ _ _)).ite (s.copyPages_memoryOnly _ _ _)

/-- The next pass takes the pages that this one left dirty (R115). -/
def State.nextPass (s : State) (r : Readmit) : State :=
  ({ s with vote := { s.vote with readmit := some { r with passPages := r.dirty, dirty := [] } } } : State).bump Fld.VT_READMIT_STATUS_PASS

/-- BULK_PASS_END of a pass without an error (R114, R115). -/
theorem State.exec_bulkPassEnd (s : State) {r : Readmit} (hr : s.vote.readmit = some r) (hphase : s.readmitPhase = 2)
    (hchk : (s.memc.get r.donor).chk = []) : exec .bulkPassEnd s = .next
      (if r.dirty.length ≤ s.pageLimit then ((s.passCopied r).wr Fld.VT_READMIT_STATUS_DIRTY (min 0xFFFF r.dirty.length)).wr Fld.VT_READMIT_STATUS_PHASE 3
       else ((s.passCopied r).wr Fld.VT_READMIT_STATUS_DIRTY (min 0xFFFF r.dirty.length)).nextPass r) := by
  show execBulkPassEnd s = _
  unfold execBulkPassEnd
  rw [hr]
  refine congrArg Host.Outcome.next ((if_pos hphase).trans ?_)
  cases (s.ln r.donor).img with
  | none =>
    dsimp only
    rw [s.checkPages_clean _ hchk]
    rfl
  | some g =>
    dsimp only
    rw [s.checkRange_clean 4 _ _ hchk, ite_self, s.checkPages_clean _ hchk]
    rfl

theorem State.rd_setVote (s : State) (v : VoteSt) (f : Field) : ({ s with vote := v } : State).rd f = s.rd f :=
  State.rd_of_reg (State.reg_of_regs rfl _)

/-- A pass that is copied leaves the vote and what VT.READMIT_STATUS shows above its DIRTY field (R114). -/
theorem State.passCopied_shows (s : State) (r : Readmit) (n : Nat) :
    ((s.passCopied r).wr Fld.VT_READMIT_STATUS_DIRTY n).vote = s.vote ∧ ∀ f : Field, f.addr = Reg.VT_READMIT_STATUS → 15 < f.lo →
      ((s.passCopied r).wr Fld.VT_READMIT_STATUS_DIRTY n).rd f = s.rd f := by
  have hcopied := s.passCopied_memoryOnly r
  generalize s.passCopied r = u at hcopied
  exact ⟨(u.wr_vote _ _).trans hcopied.vote, fun f ha hf => (u.rd_wr_beside Fld.VT_READMIT_STATUS_DIRTY f _ (by decide) ha (.inr hf)).trans
    (hcopied.kept.rd (by rw [ha]; cases r.receiver <;> decide))⟩

/-- A pass that ends without an error goes on to FINAL or to the next pass (R114, R115). -/
theorem State.gives_bulkPassEnd (s : State) {r : Readmit} (hr : s.vote.readmit = some r) (hphase : s.readmitPhase = 2)
    (hchk : (s.memc.get r.donor).chk = []) :
    (r.dirty.length ≤ s.pageLimit → Gives .bulkPassEnd s (fun t => t.readmitPhase = 3 ∧ t.vote = s.vote)) ∧
    (s.pageLimit < r.dirty.length → Gives .bulkPassEnd s (fun t => t.readmitPhase = 2 ∧
      t.vote = { s.vote with readmit := some { r with passPages := r.dirty, dirty := [] } } ∧
      t.rd Fld.VT_READMIT_STATUS_PASS = min 15 (s.rd Fld.VT_READMIT_STATUS_PASS + 1))) := by
  obtain ⟨hvote, hstatus⟩ := s.passCopied_shows r (min 0xFFFF r.dirty.length)
  have hexec := s.exec_bulkPassEnd hr hphase hchk
  generalize (s.passCopied r).wr Fld.VT_READMIT_STATUS_DIRTY (min 0xFFFF r.dirty.length) = u at hstatus hvote hexec
  constructor
  · intro hfew
    rw [if_pos hfew] at hexec
    exact gives_of_exec hexec ⟨State.rd_wr_same u Fld.VT_READMIT_STATUS_PHASE 3 (by decide), (u.wr_vote _ _).trans hvote⟩
  · intro hmany
    rw [if_neg (Nat.not_le.mpr hmany)] at hexec
    refine gives_of_exec hexec ⟨?_, ?_, ?_⟩
    · refine (State.rd_wr_beside _ Fld.VT_READMIT_STATUS_PASS Fld.VT_READMIT_STATUS_PHASE _ (by decide) rfl (by decide)).trans ?_
      rw [State.rd_setVote, hstatus _ rfl (by decide)]
      exact hphase
    · rw [← hvote]
      exact State.wr_vote _ _ _
    · refine (State.rd_bump_same _ Fld.VT_READMIT_STATUS_PASS (by decide)).trans ?_
      rw [State.rd_setVote, hstatus _ rfl (by decide)]
      rfl

/-! ### The rejoin -/

/-- HART_1's entry point in the image of a lane (R110). -/
def State.serviceEntry (s : State) (l : Lane) : Nat :=
  match (s.ln l).img with
  | some g => s.slotBase g.slot + g.entry1
  | none => 0

/-- A lane's harts released and HART_1 at its entry point (R110, R116). -/
def State.restarted (s : State) (l : Lane) : State :=
  ((s.releaseHarts l).wr (Fld.LC_LANE_STATUS_EXEC l) Exec.running).startHart l .h1 (s.serviceEntry l)

/-- The receiver restarted, and the readmission no longer waiting for a quiet point (R110, R116). -/
def State.rejoined (s : State) (r : Readmit) : State :=
  { s.restarted r.receiver with
    vote := { (s.restarted r.receiver).vote with agree := (s.restarted r.receiver).vote.agree.put r.receiver 0, readmit := some { r with quiet := none } } }

theorem State.exec_readmitRejoin (s : State) {r : Readmit} {j : Nat} (hr : s.vote.readmit = some r) (hquiet : r.quiet = some j)
    (hphase : s.readmitPhase = 3) (hk : s.cyc.k = j + 1) : exec .readmitRejoin s = .next
      (if s.rd Fld.VT_CFG_PROBATION = 0 then ((s.rejoined r).enterVoting r.receiver true).endReadmit 1
       else ((s.rejoined r).setMember r.receiver Mbr.probation).wr Fld.VT_READMIT_STATUS_PHASE 4) := by
  show execReadmitRejoin s = _
  unfold execReadmitRejoin
  rw [hr]
  dsimp only
  rw [hquiet]
  dsimp only
  rw [if_pos ⟨hphase, hk⟩]
  rfl

/-- The lane runs with its egress gate open (R80, R110). -/
theorem State.restarted_shows (s : State) (l : Lane) (hhalt : (s.ln l).h1.resetHalt = false) :
    (s.restarted l).ex l = Exec.running ∧ ((s.restarted l).ln l).egressOpen = true := by
  obtain ⟨hopen, hhalt1⟩ : (((s.releaseHarts l).wr (Fld.LC_LANE_STATUS_EXEC l) Exec.running).ln l).egressOpen = true ∧
      (((s.releaseHarts l).wr (Fld.LC_LANE_STATUS_EXEC l) Exec.running).ln l).h1.resetHalt = false := by
    have honly := ((((RegsOnly.refl s).wr (Fld.CMP_STATUS_H0_COMPARED l) 1).wr (Fld.CMP_STATUS_H1_COMPARED l) 1).setReg (Reg.CMP_TEST_COUNT l) 0).wr
      (Fld.LC_LANE_STATUS_IN_STEP l) 1
    rw [State.ln_wr]
    unfold State.releaseHarts State.set1
    rw [State.ln_modLn_same]
    exact ⟨rfl, (congrArg (fun n : Tri LaneSt => (n.get l).h1.resetHalt) honly.lane).trans hhalt⟩
  have hex : ((s.releaseHarts l).wr (Fld.LC_LANE_STATUS_EXEC l) Exec.running).ex l = Exec.running :=
    State.rd_wr_same _ (Fld.LC_LANE_STATUS_EXEC l) Exec.running (show 11 < 32 ∧ 8 ≤ 11 by decide)
  unfold State.restarted
  generalize (s.releaseHarts l).wr (Fld.LC_LANE_STATUS_EXEC l) Exec.running = u at hopen hhalt1 hex
  have hstarted : u.startHart l .h1 (s.serviceEntry l) = u.setHart l .h1 ((u.hart l .h1).restart (BitVec.ofNat 64 (s.serviceEntry l))) :=
    if_neg (Bool.eq_false_iff.mp hhalt1)
  rw [hstarted]
  refine ⟨(State.rd_of_reg (State.reg_of_regs (u.regs_setHart l .h1 _) _)).trans hex, ?_⟩
  unfold State.setHart
  rw [State.ln_modLn_same]
  exact hopen

/-- A membership state leaves the lane's execution state. -/
theorem State.ex_setMember (s : State) (l : Lane) (m : Nat) : (s.setMember l m).ex l = s.ex l := by
  unfold State.ex State.setMember State.wrBit State.wrB
  rw [State.rd_wr_reg _ _ (Fld.LC_LANE_STATUS_EXEC l) _ (by cases l <;> decide),
    State.rd_wr_beside _ (Fld.LC_LANE_STATUS_VOTING l) (Fld.LC_LANE_STATUS_EXEC l) _ (by cases l <;> decide) rfl (by cases l <;> decide),
    State.rd_wr_reg _ (memberFld l) (Fld.LC_LANE_STATUS_EXEC l) _ (by cases l <;> decide)]

/-- A lane that enters VOTING shows it; its execution state stays, and no lane's hidden state changes (R110). -/
theorem State.enterVoting_shows (s : State) (l : Lane) (fresh : Bool) : (s.enterVoting l fresh).member l = Mbr.voting ∧
    (s.enterVoting l fresh).ex l = s.ex l ∧ (s.enterVoting l fresh).lane = s.lane := by
  have hmember := s.member_setMember_same l (m := Mbr.voting) (by decide)
  have hex := s.ex_setMember l Mbr.voting
  have hlane := (s.setMember_regsOnly l Mbr.voting).lane
  unfold State.enterVoting
  generalize s.setMember l Mbr.voting = u at hmember hex hlane
  obtain ⟨hregs1, hlane1⟩ : u.seekMaster.regs = u.regs ∧ u.seekMaster.lane = u.lane := by
    unfold State.seekMaster
    split
    · exact ⟨rfl, rfl⟩
    · exact ⟨rfl, rfl⟩
  dsimp only
  generalize u.seekMaster = u1 at hregs1 hlane1
  obtain ⟨hkept, hlane2⟩ := ({ u1 with vote := { u1.vote with
    since := u1.vote.since.put l (if fresh then some s.clk.uptime else none), agree := u1.vote.agree.put l 0 } } : State).settleGrant_frame l
  have hall : ∀ f : Field, homeKey f.addr ≠ homeKey (Reg.LC_DBG_STATUS l) → _ = u.rd f := fun f hf =>
    (hkept.rd (f := f) (by simpa using hf)).trans (State.rd_of_reg (State.reg_of_regs hregs1 _))
  refine ⟨(hall (memberFld l) (by cases l <;> decide)).trans hmember, (hall (Fld.LC_LANE_STATUS_EXEC l) (by cases l <;> decide)).trans hex,
    hlane2.trans (hlane1.trans hlane)⟩

/-- READMIT_REJOIN of a receiver without a reset-halt request: it runs, and votes at once or is in PROBATION (R110, R114, R116). -/
theorem State.gives_readmitRejoin (s : State) {r : Readmit} {j : Nat} (hr : s.vote.readmit = some r) (hquiet : r.quiet = some j)
    (hphase : s.readmitPhase = 3) (hk : s.cyc.k = j + 1) (hhalt : (s.ln r.receiver).h1.resetHalt = false) :
    Gives .readmitRejoin s (fun t => t.ex r.receiver = Exec.running ∧ (t.ln r.receiver).egressOpen = true ∧
      (s.rd Fld.VT_CFG_PROBATION = 0 → t.member r.receiver = Mbr.voting ∧ t.vote.readmit = none) ∧
      (s.rd Fld.VT_CFG_PROBATION ≠ 0 → t.member r.receiver = Mbr.probation ∧ t.readmitPhase = 4)) := by
  obtain ⟨hex, hopen⟩ : (s.rejoined r).ex r.receiver = Exec.running ∧ ((s.rejoined r).ln r.receiver).egressOpen = true :=
    s.restarted_shows r.receiver hhalt
  have hexec := s.exec_readmitRejoin hr hquiet hphase hk
  generalize s.rejoined r = u at hex hopen hexec
  generalize r.receiver = l at hex hopen hexec
  by_cases hnow : s.rd Fld.VT_CFG_PROBATION = 0
  · rw [if_pos hnow] at hexec
    obtain ⟨hmember, hex1, hlane⟩ := u.enterVoting_shows l true
    have hended := (u.enterVoting l true).endReadmit_kept 1
    have hopen1 : (((u.enterVoting l true).endReadmit 1).ln l).egressOpen = true := by
      unfold State.endReadmit
      rw [State.ln_wr, State.ln_wr, State.ln_wr, State.ln_wr, State.ln_wr]
      exact (congrArg (fun n : Tri LaneSt => (n.get l).egressOpen) hlane).trans hopen
    refine gives_of_exec hexec ⟨?_, hopen1, fun _ => ⟨?_, (State.endReadmit_shows _ (by decide)).1⟩, fun hnot => absurd hnow hnot⟩
    · exact (hended.rd (f := Fld.LC_LANE_STATUS_EXEC l) (by cases l <;> decide)).trans (hex1.trans hex)
    · exact (hended.rd (f := memberFld l) (by cases l <;> decide)).trans hmember
  · rw [if_neg hnow] at hexec
    refine gives_of_exec hexec ⟨?_, ?_, fun h => absurd h hnow, fun _ => ⟨?_, State.rd_wr_same _ Fld.VT_READMIT_STATUS_PHASE 4 (by decide)⟩⟩
    · exact (State.rd_wr_reg _ Fld.VT_READMIT_STATUS_PHASE (Fld.LC_LANE_STATUS_EXEC l) _ (by cases l <;> decide)).trans ((u.ex_setMember l _).trans hex)
    · rw [State.ln_wr]
      exact (congrArg (fun n : Tri LaneSt => (n.get l).egressOpen) (u.setMember_regsOnly l Mbr.probation).lane).trans hopen
    · exact (State.rd_wr_reg _ Fld.VT_READMIT_STATUS_PHASE (memberFld l) _ (by cases l <;> decide)).trans (u.member_setMember_same l (by decide))

/-! ### The obligation -/

/-- Settles O18: a start is refused or begins the readmission as the checks of R112 say, and each later instant shows the phase, the copies
and the end that its own lemma states. -/
theorem readmission : Obligations.Readmission := by
  unfold Obligations.Readmission
  intro s i w l
  refine ⟨fun hmay hlane habort => ?_, fun hnum hmember hact hrun hlimit hlock => ?_, fun r hr => ?_⟩
  · have hrefused := fun c hc h => s.gives_readmitStart_refused hmay hlane habort (c := c) hc h
    exact ⟨fun hfew => hrefused 2 (by decide) (s.readmitRefusal_quorum l hfew),
      fun hnum hlocked => hrefused 7 (by decide) (s.readmitRefusal_locked l hnum hlocked),
      fun hnum hlocked hrun => hrefused 8 (by decide) (s.readmitRefusal_running l hnum hlocked hrun)⟩
  · have hok := s.readmitRefusal_none l hnum hmember hact hrun hlimit
    exact ⟨fun hmay hlane habort => s.gives_readmitStart hmay hlane habort hnum hlock hok,
      fun k hauto hk hcfg => s.gives_autoReadmit hauto hk hcfg hact hnum hlock hok⟩
  · exact ⟨s.gives_readmitFillDone hr, s.gives_bulkPassEnd hr, fun j => s.gives_readmitRejoin hr, s.gives_readmitAbort hr,
      s.gives_readmitTimeout hr⟩

end Sys2Proof.Machine
end

section
/-! PROOF. Registers that hold nothing a write could change (R10, R131): commands whose fields are write-only, and the writes of TRD.DISPATCH
and TRD.DONE that name another task (O58). -/

namespace Sys2Proof.Machine

/-! ### Write-only registers -/

/-- A field put back as it reads changes no bit. -/
theorem putBits_bitsOf (n : Nat) {hi lo : Nat} (hl : lo ≤ hi) : putBits n hi lo (bitsOf n hi lo) = n := by
  refine Nat.eq_of_testBit_eq (fun i => ?_)
  rw [testBit_putBits _ _ _ _ _ hl]
  split
  next h =>
    rw [testBit_bitsOf, Nat.sub_add_cancel h.1, decide_eq_true (by omega), Bool.true_and]
  next => rfl

/-- A register of the map whose fields no write changes: each is write-only or read-only. -/
def commandReg (k : Nat) : Bool :=
  match regAt k with
  | some d => !isSyMirror k && !clearsOnOnes k && k != Reg.SX_SCHED_CTRL &&
      d.fields.all (fun f => decide (f.lo ≤ f.hi) && (f.acc == .wo || f.acc == .ro))
  | none => false

/-- Fields that are write-only or read-only keep the word. -/
theorem mergeFields_of_no_write (s : State) (k w : Nat) : ∀ (fs : List RField) (n : Nat),
    (∀ f ∈ fs, f.lo ≤ f.hi ∧ (f.acc = .wo ∨ f.acc = .ro)) → mergeFields s k w fs n = n
  | [], _, _ => rfl
  | f :: fs, n, h => by
    obtain ⟨hlo, hacc⟩ := h f (.head _)
    have hsame : fieldAfter s k w f (bitsOf n f.hi f.lo) = bitsOf n f.hi f.lo := by
      unfold fieldAfter
      rcases hacc with hacc | hacc <;> rw [hacc]
    rw [mergeFields_cons, hsame, putBits_bitsOf n hlo]
    exact mergeFields_of_no_write s k w fs n (fun g hg => h g (.tail _ hg))

/-- Every register reads as before, and nothing else differs. -/
structure SameRegs (s t : State) : Prop where
  only : RegsOnly s t
  kept : RegsKept [] s t

namespace SameRegs

variable {s t : State}

theorem reg (h : SameRegs s t) (k : Nat) : t.reg k = s.reg k := h.kept k (fun _ hj => absurd hj List.not_mem_nil)

theorem rd (h : SameRegs s t) (f : Field) : t.rd f = s.rd f := State.rd_of_reg (h.reg f.addr)

end SameRegs

/-- The plain effect of a write of a command's register: none. -/
theorem State.merge_commandReg (s : State) {k : Nat} (w : Word) (hk : commandReg k = true) : SameRegs s (s.merge k w) := by
  unfold commandReg at hk
  split at hk
  next d hd =>
    simp only [Bool.and_eq_true, Bool.not_eq_true', bne_iff_ne, List.all_eq_true, decide_eq_true_eq, Bool.or_eq_true, beq_iff_eq] at hk
    obtain ⟨⟨⟨hmirror, hclears⟩, hlead⟩, hfields⟩ := hk
    have hsealed : ∀ f ∈ d.fields, f.acc ≠ .rws := fun f hf => by
      rcases (hfields f hf).2 with h | h <;> rw [h] <;> decide
    rw [s.merge_eq w hd hmirror hclears hlead, s.noteSealed_eq_self w hd (.inl hsealed), mergeFields_of_no_write s k _ _ _ hfields,
      BitVec.ofNat_toNat, BitVec.setWidth_eq]
    refine ⟨(RegsOnly.refl s).setReg _ _, fun j _ => ?_⟩
    rw [State.reg_setReg]
    split
    next h => unfold State.reg; rw [h]
    next => rfl
  next => exact absurd hk Bool.false_ne_true

/-! ### The Treadle's commands -/

theorem commandReg_dispatch (l : Lane) : commandReg (Reg.TRD_DISPATCH l) = true := by cases l <;> decide

theorem commandReg_done (l : Lane) : commandReg (Reg.TRD_DONE l) = true := by cases l <;> decide

theorem exec_dispatch (s : State) {l : Lane} {h : Hart} (w : Word) (hmay : s.mayWrite (.hart l h) (Reg.TRD_DISPATCH l) = true) :
    exec (.dispatch (.hart l h) w) s =
      .next (((s.merge (Reg.TRD_DISPATCH l) w).dispatchTask l (wbits w (Fld.TRD_DISPATCH_TASK l))).respond (.hart l h) .done) :=
  congrArg Host.Outcome.next (s.regCmd_of_may w _ hmay)

theorem exec_done (s : State) {l : Lane} {h : Hart} (w : Word) (hmay : s.mayWrite (.hart l h) (Reg.TRD_DONE l) = true) :
    exec (.done (.hart l h) w) s =
      .next (((s.merge (Reg.TRD_DONE l) w).doneCmd l (wbits w (Fld.TRD_DONE_TASK l))).respond (.hart l h) .done) :=
  congrArg Host.Outcome.next (s.regCmd_of_may w _ hmay)

/-- A dispatch that does not name the task of TRD.NEXT is ignored (R131). -/
theorem State.dispatchTask_other (s : State) {l : Lane} {k : Nat} (h : s.rd (Fld.TRD_NEXT_VALID l) = 0 ∨ s.rd (Fld.TRD_NEXT_TASK l) ≠ k) :
    s.dispatchTask l k = s := by
  refine if_neg (fun hnext => ?_)
  obtain ⟨hvalid, htask⟩ := Bool.and_eq_true_iff.mp hnext
  rcases h with h | h
  · unfold State.flag at hvalid
    rw [h] at hvalid
    exact absurd hvalid (by decide)
  · exact h (beq_iff_eq.mp htask)

/-- A completion that does not name the running task is ignored (R131). -/
theorem State.doneCmd_other (s : State) {l : Lane} {k : Nat} (h : (s.ln l).curTask ≠ some k) : s.doneCmd l k = s := if_neg h

/-- A command that leaves the state as its write left it: the answer, and no register. -/
theorem SameRegs.answered {s t : State} (h : SameRegs s t) (i : Initiator) (r : BusResp) :
    (t.respond i r).response i = r ∧ OnlyRegs s (t.respond i r) ∧ RegsKept [] s (t.respond i r) := by
  obtain ⟨⟨_, rfl⟩, hkept⟩ := h
  exact ⟨State.response_respond_same _ i r, rfl, hkept⟩

/-- DISPATCH of another task than the one to dispatch next (R131). -/
theorem State.gives_dispatch_other (s : State) {l : Lane} {h : Hart} {w : Word} (hmay : s.mayWrite (.hart l h) (Reg.TRD_DISPATCH l) = true)
    (hother : s.rd (Fld.TRD_NEXT_VALID l) = 0 ∨ s.rd (Fld.TRD_NEXT_TASK l) ≠ wbits w (Fld.TRD_DISPATCH_TASK l)) :
    Gives (.dispatch (.hart l h) w) s (fun t => t.response (.hart l h) = .done ∧ OnlyRegs s t ∧ RegsKept [] s t) := by
  have hsame := s.merge_commandReg w (commandReg_dispatch l)
  refine gives_of_exec (exec_dispatch s w hmay) ?_
  rw [State.dispatchTask_other _ (by rw [hsame.rd, hsame.rd]; exact hother)]
  exact hsame.answered _ _

/-- DONE of another task than the running one (R131). -/
theorem State.gives_done_other (s : State) {l : Lane} {h : Hart} {w : Word} (hmay : s.mayWrite (.hart l h) (Reg.TRD_DONE l) = true)
    (hother : (s.ln l).curTask ≠ some (wbits w (Fld.TRD_DONE_TASK l))) :
    Gives (.done (.hart l h) w) s (fun t => t.response (.hart l h) = .done ∧ OnlyRegs s t ∧ RegsKept [] s t) := by
  have hsame := s.merge_commandReg w (commandReg_done l)
  refine gives_of_exec (exec_done s w hmay) ?_
  rw [State.doneCmd_other _ (by rw [hsame.only.ln]; exact hother)]
  exact hsame.answered _ _

/-- Settles O58: the write itself changes no register, as the fields of both commands are write-only, and the Treadle ignores the number. -/
theorem otherTaskIgnored : Obligations.OtherTaskIgnored := by
  unfold Obligations.OtherTaskIgnored
  exact fun s l w => ⟨s.gives_dispatch_other, s.gives_done_other⟩

end Sys2Proof.Machine
end

section
/-! PROOF. The Treadle's tasks (R128, R131, R134, R149, R151): the state of a task beside the others, what TRD.NEXT's update leaves, dispatch and
completion, and the clear commands of the counters. -/

namespace Sys2Proof.Machine

/-! ### The registers of the tasks -/

/-- A register of a lane's own area is its own home. -/
theorem homeKey_laneKey (l : Lane) (o : Nat) : homeKey (laneKey l + o) = laneKey l + o := by
  refine homeKey_of_ne _ ?_
  have h : 0x10000000 ≤ laneKey l := by cases l <;> decide
  omega

theorem taskStat_eq (l : Lane) (t : Nat) : taskStat l t = laneKey l + (if t < 8 then 0x20104 + 16 * t else 0x20204 + 16 * (t - 8)) := by
  unfold taskStat
  split
  · exact Nat.add_assoc _ _ _
  · exact Nat.add_assoc _ _ _

/-- Two tasks have two STAT registers. -/
theorem homeKey_taskStat_ne (l : Lane) {t u : Nat} (h : u ≠ t) : homeKey (taskStat l u) ≠ homeKey (taskStat l t) := by
  rw [taskStat_eq, taskStat_eq, homeKey_laneKey, homeKey_laneKey]
  split <;> split <;> omega

/-- The registers that show the task to dispatch (R131). -/
def nextKeys (l : Lane) : List Nat := [Reg.TRD_STATUS l, Reg.TRD_NEXT l]

/-- The registers of the tasks' counts (R151). -/
def cntKeys (l : Lane) : List Nat := (List.range 24).map (taskCnt l)

theorem nextKeys_beside_stat (l : Lane) : ∀ t < 24, ∀ j ∈ nextKeys l, homeKey (taskStat l t) ≠ homeKey j := by cases l <;> decide

theorem taskStat_beside_resp (l : Lane) : ∀ t < 24, ∀ k < 24, homeKey (taskStat l t) ≠ homeKey (taskResp l k) := by cases l <;> decide

theorem respKeys_beside_cnt (l : Lane) : ∀ k < 24, ∀ j ∈ cntKeys l, homeKey (taskResp l k) ≠ homeKey j := by cases l <;> decide

/-! ### The state of a task -/

/-- A task put into a state is in it, and the lane's other tasks stay (R128). -/
theorem State.taskState_setTask (s : State) (l : Lane) (t u : Nat) {st : Nat} (hst : st < 8) :
    (s.setTask l t st).taskState l u = if u = t then st else s.taskState l u := by
  split
  next h =>
    subst h
    exact (s.rd_wr_same ⟨taskStat l u, 31, 29⟩ st (show 31 < 32 ∧ 29 ≤ 31 by decide)).trans (Nat.mod_eq_of_lt hst)
  next h => exact s.rd_wr_reg ⟨taskStat l t, 31, 29⟩ ⟨taskStat l u, 31, 29⟩ st (homeKey_taskStat_ne l h)

theorem State.setTask_regsOnly (s : State) (l : Lane) (t st : Nat) : RegsOnly s (s.setTask l t st) := (RegsOnly.refl s).wr _ _

theorem State.taskState_modLn (s : State) (l m : Lane) (g : LaneSt → LaneSt) (t : Nat) : (s.modLn l g).taskState m t = s.taskState m t := rfl

/-- A task's state beside registers that change. -/
theorem RegsKept.taskState {ks : List Nat} {s u : State} (h : RegsKept ks s u) (l : Lane) {t : Nat}
    (hks : ∀ j ∈ ks, homeKey (taskStat l t) ≠ homeKey j) : u.taskState l t = s.taskState l t := h.rd hks

/-! ### The task to dispatch -/

theorem State.modLn_same_h0 (s : State) (l : Lane) : s.modLn l (fun n => { n with h0 := (s.ln l).h0 }) = s := by cases l <;> rfl

theorem State.raise_h0 (s : State) (l : Lane) (line : Nat) : ∃ x, s.raise l .h0 line = s.modLn l (fun n => { n with h0 := x }) := by
  unfold State.raise
  dsimp only
  split
  · exact ⟨_, (s.modLn_same_h0 l).symm⟩
  · exact ⟨_, rfl⟩

theorem State.drop_h0 (s : State) (l : Lane) (line : Nat) : ∃ x, s.drop l .h0 line = s.modLn l (fun n => { n with h0 := x }) := by
  unfold State.drop
  dsimp only
  split
  · exact ⟨_, rfl⟩
  · exact ⟨_, (s.modLn_same_h0 l).symm⟩

/-- TRD.STATUS as the tasks give it. -/
def State.showQuiet (s : State) (l : Lane) : State :=
  (s.wrB (Fld.TRD_STATUS_QUIET l) (s.quiet l)).wr (Fld.TRD_STATUS_CUR_TASK l) ((s.ln l).curTask.getD 0x1F)

theorem State.showQuiet_shows (s : State) (l : Lane) : RegsOnly s (s.showQuiet l) ∧ RegsKept (nextKeys l) s (s.showQuiet l) :=
  ⟨((RegsOnly.refl s).wr _ _).wr _ _,
    ((RegsKept.refl _ s).wr (f := Fld.TRD_STATUS_QUIET l) _ (.head _)).wr (f := Fld.TRD_STATUS_CUR_TASK l) _ (.head _)⟩

/-- TRD.NEXT naming a task. -/
def State.showNext (s : State) (l : Lane) (t : Nat) : State :=
  ((((s.setReg (Reg.TRD_NEXT l) 0).set1 (Fld.TRD_NEXT_VALID l)).wrB (Fld.TRD_NEXT_RESUME l) (s.taskState l t == Task.preempted)).wr
    (Fld.TRD_NEXT_PRIO l) (s.taskPrio l t)).wr (Fld.TRD_NEXT_TASK l) t

theorem State.showNext_shows (s : State) (l : Lane) (t : Nat) : RegsOnly s (s.showNext l t) ∧ RegsKept (nextKeys l) s (s.showNext l t) := by
  have hnext : Reg.TRD_NEXT l ∈ nextKeys l := .tail _ (.head _)
  exact ⟨(((((RegsOnly.refl s).setReg _ _).wr _ _).wr _ _).wr _ _).wr _ _,
    (((((RegsKept.refl _ s).setReg _ hnext).wr (f := Fld.TRD_NEXT_VALID l) _ hnext).wr (f := Fld.TRD_NEXT_RESUME l) _ hnext).wr
      (f := Fld.TRD_NEXT_PRIO l) _ hnext).wr (f := Fld.TRD_NEXT_TASK l) _ hnext⟩

/-- TRD.NEXT's update as a function. The kernel compares two functions by their text; for one of their values it would evaluate the search for
the next task. -/
theorem State.reschedule_eq : State.reschedule = fun s l =>
    let s1 := (s.wrB (Fld.TRD_STATUS_QUIET l) (s.quiet l)).wr (Fld.TRD_STATUS_CUR_TASK l) ((s.ln l).curTask.getD 0x1F)
    match s1.nextTask l with
    | some t =>
      ((((s1.setReg (Reg.TRD_NEXT l) 0).set1 (Fld.TRD_NEXT_VALID l)).wrB (Fld.TRD_NEXT_RESUME l)
        (s1.taskState l t == Task.preempted)).wr (Fld.TRD_NEXT_PRIO l) (s1.taskPrio l t)).wr (Fld.TRD_NEXT_TASK l) t |>.raise l .h0 11
    | none => (s1.setReg (Reg.TRD_NEXT l) 0x1F).drop l .h0 11 := rfl

/-- TRD.NEXT's update names a task and raises HART_0's interrupt, or names none and drops it (R131). -/
theorem State.reschedule_cases (s : State) (l : Lane) : (∃ t, s.reschedule l = ((s.showQuiet l).showNext l t).raise l .h0 11) ∨
    s.reschedule l = ((s.showQuiet l).setReg (Reg.TRD_NEXT l) 0x1F).drop l .h0 11 := by
  rw [State.reschedule_eq]
  dsimp only
  generalize State.nextTask _ l = o
  cases o with
  | none => exact .inr rfl
  | some t => exact .inl ⟨t, rfl⟩

/-- Registers, then HART_0. -/
theorem RegsOnly.thenH0 {s u t : State} {l : Lane} (h : RegsOnly s u) (ht : ∃ x, t = u.modLn l (fun n => { n with h0 := x })) :
    ∃ r x, t = ({ s with regs := r } : State).modLn l (fun n => { n with h0 := x }) := by
  obtain ⟨r, rfl⟩ := h
  obtain ⟨x, rfl⟩ := ht
  exact ⟨r, x, rfl⟩

/-- TRD.NEXT's update touches TRD.STATUS, TRD.NEXT and HART_0's interrupt line alone (R131). -/
theorem State.reschedule_shows (s : State) (l : Lane) : RegsKept (nextKeys l) s (s.reschedule l) ∧
    ∃ r x, s.reschedule l = ({ s with regs := r } : State).modLn l (fun n => { n with h0 := x }) := by
  obtain ⟨honly, hkept⟩ := s.showQuiet_shows l
  rcases s.reschedule_cases l with ⟨t, h⟩ | h
  · obtain ⟨hnextOnly, hnextKept⟩ := (s.showQuiet l).showNext_shows l t
    rw [h]
    exact ⟨(hkept.trans hnextKept).trans (.of_regs (State.regs_raise _ l .h0 11)), (honly.trans hnextOnly).thenH0 (State.raise_h0 _ l 11)⟩
  · rw [h]
    exact ⟨(hkept.setReg _ (.tail _ (.head _))).trans (.of_regs (State.regs_drop _ l .h0 11)),
      (honly.setReg (Reg.TRD_NEXT l) 0x1F).thenH0 (State.drop_h0 _ l 11)⟩

/-- The lanes after TRD.NEXT's update: HART_0 of the lane alone. -/
theorem State.reschedule_lanes (s : State) (l : Lane) : (∃ x, (s.reschedule l).ln l = { s.ln l with h0 := x }) ∧
    ∀ m, m ≠ l → (s.reschedule l).ln m = s.ln m := by
  obtain ⟨-, r, x, h⟩ := s.reschedule_shows l
  rw [h]
  exact ⟨⟨x, State.ln_modLn_same _ l _⟩, fun m hm => State.ln_modLn_ne _ _ hm⟩

theorem State.taskState_reschedule (s : State) (l : Lane) {t : Nat} (ht : t < 24) : (s.reschedule l).taskState l t = s.taskState l t :=
  (s.reschedule_shows l).1.taskState l (nextKeys_beside_stat l t ht)

/-! ### Dispatch -/

/-- The task that runs is interrupted (R131). -/
def State.preemptRunning (s : State) (l : Lane) : State :=
  match (s.ln l).curTask with
  | some c => s.setTask l c Task.preempted
  | none => s

theorem State.preemptRunning_shows (s : State) (l : Lane) : RegsOnly s (s.preemptRunning l) ∧
    ∀ u, (s.preemptRunning l).taskState l u = if (s.ln l).curTask = some u then Task.preempted else s.taskState l u := by
  unfold State.preemptRunning
  split
  next c hc =>
    refine ⟨s.setTask_regsOnly l c _, fun u => ?_⟩
    rw [s.taskState_setTask l c u (by decide), hc]
    simp only [Option.some.injEq, eq_comm]
  next hc => exact ⟨.refl s, fun u => by rw [hc, if_neg (Option.some_ne_none u).symm]⟩

/-- A task starts to run, and interrupts the one that does (R131). -/
def State.startTask (s : State) (l : Lane) (k : Nat) : State :=
  ((s.preemptRunning l).setTask l k Task.running).modLn l (fun n => { n with curTask := some k })

theorem State.startTask_shows (s : State) (l : Lane) (k : Nat) :
    (∀ j, (s.startTask l k).taskState l j =
      if j = k then Task.running else if (s.ln l).curTask = some j then Task.preempted else s.taskState l j) ∧
    ((s.startTask l k).ln l).curTask = some k ∧ ∀ m, m ≠ l → (s.startTask l k).ln m = s.ln m := by
  obtain ⟨honly, hpreempted⟩ := s.preemptRunning_shows l
  unfold State.startTask
  generalize s.preemptRunning l = p at honly hpreempted ⊢
  refine ⟨fun j => ?_, ?_, fun m hm => ?_⟩
  · rw [State.taskState_modLn, p.taskState_setTask l k j (by decide), hpreempted]
  · rw [State.ln_modLn_same]
  · rw [State.ln_modLn_ne _ _ hm, (p.setTask_regsOnly l k _).ln, honly.ln]

theorem State.dispatchTask_next (s : State) {l : Lane} {k : Nat} (hvalid : s.rd (Fld.TRD_NEXT_VALID l) = 1) (htask : s.rd (Fld.TRD_NEXT_TASK l) = k) :
    s.dispatchTask l k = (s.startTask l k).reschedule l := by
  refine if_pos (Bool.and_eq_true_iff.mpr ⟨?_, beq_iff_eq.mpr htask⟩)
  unfold State.flag
  rw [hvalid]
  rfl

/-- After a dispatch (R131): the task runs, the one it interrupts is PREEMPTED, and the lane's other tasks and the other lanes are as before. -/
def Dispatched (s : State) (l : Lane) (k : Nat) (t : State) : Prop :=
  t.taskState l k = Task.running ∧ (t.ln l).curTask = some k ∧
    (∀ c, (s.ln l).curTask = some c → c < 24 → c ≠ k → t.taskState l c = Task.preempted) ∧
    (∀ u < 24, u ≠ k → (s.ln l).curTask ≠ some u → t.taskState l u = s.taskState l u) ∧ ∀ m, m ≠ l → t.ln m = s.ln m

theorem State.dispatchTask_dispatched (s : State) {l : Lane} {k : Nat} (hk : k < 24) (hvalid : s.rd (Fld.TRD_NEXT_VALID l) = 1)
    (htask : s.rd (Fld.TRD_NEXT_TASK l) = k) : Dispatched s l k (s.dispatchTask l k) := by
  obtain ⟨hstate, hcur, hlanes⟩ := s.startTask_shows l k
  obtain ⟨⟨x, hown⟩, hothers⟩ := (s.startTask l k).reschedule_lanes l
  have hshown : ∀ u < 24, ((s.startTask l k).reschedule l).taskState l u = (s.startTask l k).taskState l u := fun u hu =>
    State.taskState_reschedule _ l hu
  rw [s.dispatchTask_next hvalid htask]
  generalize (s.startTask l k).reschedule l = t at hown hothers hshown ⊢
  refine ⟨?_, ?_, fun c hc hlt hne => ?_, fun u hlt hne hother => ?_, fun m hm => (hothers m hm).trans (hlanes m hm)⟩
  · rw [hshown k hk, hstate, if_pos rfl]
  · rw [hown, hcur]
  · rw [hshown c hlt, hstate, if_neg hne, if_pos hc]
  · rw [hshown u hlt, hstate, if_neg hne, if_neg hother]

/-- What a dispatch shows rests on the tasks and lanes before it. -/
theorem Dispatched.of_sameRegs {s u t : State} {l : Lane} {k : Nat} (h : Dispatched u l k t) (hsame : SameRegs s u) : Dispatched s l k t := by
  obtain ⟨hrun, hcur, hpreempted, hrest, hlanes⟩ := h
  have hstate : ∀ j, u.taskState l j = s.taskState l j := fun j => hsame.rd _
  refine ⟨hrun, hcur, fun c hc => hpreempted c (by rw [hsame.only.ln]; exact hc), fun j hlt hne hother => ?_, fun m hm => ?_⟩
  · exact (hrest j hlt hne (by rw [hsame.only.ln]; exact hother)).trans (hstate j)
  · exact (hlanes m hm).trans (hsame.only.ln m)

theorem Dispatched.respond {s t : State} {l : Lane} {k : Nat} (h : Dispatched s l k t) (i : Initiator) (r : BusResp) :
    Dispatched s l k (t.respond i r) := h

/-- DISPATCH of the task that TRD.NEXT names (R131). -/
theorem State.gives_dispatch (s : State) {l : Lane} {w : Word} (hmay : s.mayWrite (.hart l .h0) (Reg.TRD_DISPATCH l) = true)
    (hvalid : s.rd (Fld.TRD_NEXT_VALID l) = 1) (htask : s.rd (Fld.TRD_NEXT_TASK l) = wbits w (Fld.TRD_DISPATCH_TASK l))
    (hk : wbits w (Fld.TRD_DISPATCH_TASK l) < 24) :
    Gives (.dispatch (.hart l .h0) w) s (Dispatched s l (wbits w (Fld.TRD_DISPATCH_TASK l))) := by
  have hsame := s.merge_commandReg w (commandReg_dispatch l)
  exact gives_of_exec (exec_dispatch s w hmay)
    (((State.dispatchTask_dispatched _ hk ((hsame.rd _).trans hvalid) ((hsame.rd _).trans htask)).of_sameRegs hsame).respond _ _)

/-! ### A retained capture without errors -/

/-- A capture of a region without placed check bits reads it and changes nothing else (R148). -/
theorem State.captureRet_clean (s : State) {l : Lane} (incomplete : Bool) (h : (s.memc.get l).chk = []) :
    s.captureRet l incomplete = { s with chg := { s.chg with
      capture := s.chg.capture.put l (some (s.retained l)), capIncomplete := s.chg.capIncomplete || incomplete,
      capCycle := s.rd (Fld.TRD_CYCLE_CYCLE l) } } := by
  unfold State.captureRet
  rw [s.checkRange_clean 5 _ _ h]
  rfl

theorem State.captureIfQuiet_clean (s : State) {l : Lane} (h : (s.memc.get l).chk = []) :
    ∃ c p, s.captureIfQuiet l = ({ s with chg := c } : State).modLn l (fun n => { n with pfCaptured := p }) := by
  unfold State.captureIfQuiet
  split
  · rw [s.captureRet_clean false h]
    exact ⟨_, true, rfl⟩
  · exact ⟨s.chg, (s.ln l).pfCaptured, by cases l <;> rfl⟩

/-! ### Completion -/

/-- The figures of RESP that a completion leaves (R151). -/
def State.showResponse (s : State) (l : Lane) (k resp slack : Nat) : State :=
  (s.wr ⟨taskResp l k, 31, 16⟩ (max resp (s.rd ⟨taskResp l k, 31, 16⟩))).wr ⟨taskResp l k, 15, 0⟩ (min slack (s.rd ⟨taskResp l k, 15, 0⟩))

theorem State.showResponse_shows (s : State) (l : Lane) (k resp slack : Nat) : RegsOnly s (s.showResponse l k resp slack) ∧
    RegsKept [taskResp l k] s (s.showResponse l k resp slack) :=
  ⟨((RegsOnly.refl s).wr _ _).wr _ _, ((RegsKept.refl _ s).wr (f := ⟨taskResp l k, 31, 16⟩) _ (.head _)).wr (f := ⟨taskResp l k, 15, 0⟩) _ (.head _)⟩

/-- The state in which a task completes: IDLE where its release was suppressed (R134). -/
def TaskSt.endState (x : TaskSt) : Nat := if x.stale then Task.idle else Task.done

theorem TaskSt.endState_lt (x : TaskSt) : x.endState < 8 := by
  unfold TaskSt.endState
  split <;> decide

/-- A task ends with these figures, and none runs (R131). -/
def State.endTask (s : State) (l : Lane) (k resp slack : Nat) : State :=
  (((s.showResponse l k resp slack).setTask l k (s.task l k).endState).modLn l (fun n => { n with curTask := none })).putTask l k
    { s.task l k with doneAt := s.clk.uptime }

theorem State.endTask_shows (s : State) (l : Lane) {k : Nat} (resp slack : Nat) (hk : k < 24) :
    (∀ u < 24, (s.endTask l k resp slack).taskState l u = if u = k then (s.task l k).endState else s.taskState l u) ∧
    ((s.endTask l k resp slack).ln l).curTask = none ∧ (∀ m, m ≠ l → (s.endTask l k resp slack).ln m = s.ln m) ∧
    (s.endTask l k resp slack).memc = s.memc := by
  obtain ⟨honly, hkept⟩ := s.showResponse_shows l k resp slack
  unfold State.endTask State.putTask
  generalize s.showResponse l k resp slack = p at honly hkept ⊢
  have hset := p.setTask_regsOnly l k (s.task l k).endState
  refine ⟨fun u hu => ?_, ?_, fun m hm => ?_, ?_⟩
  · rw [State.taskState_modLn, State.taskState_modLn, p.taskState_setTask l k u (TaskSt.endState_lt _),
      hkept.taskState l (fun j hj => List.mem_singleton.mp hj ▸ taskStat_beside_resp l u hu k hk)]
  · rw [State.ln_modLn_same, State.ln_modLn_same]
  · rw [State.ln_modLn_ne _ _ hm, State.ln_modLn_ne _ _ hm, hset.ln, honly.ln]
  · exact (hset.keeps State.memc fun _ => rfl).trans (honly.keeps State.memc fun _ => rfl)

/-- The running task ends with the figures of its time (R151). -/
theorem State.taskDone_running (s : State) {l : Lane} {k : Nat} (h : (s.ln l).curTask = some k) :
    ∃ resp slack, s.taskDone l k = (s.endTask l k resp slack).reschedule l := by
  unfold State.taskDone
  rw [if_pos h]
  exact ⟨_, _, rfl⟩

/-- After a completion (R131, R134): no task runs, the one that ran is in DONE or IDLE, the lane's other tasks and the other lanes are as before. -/
def Ended (s : State) (l : Lane) (k : Nat) (t : State) : Prop :=
  (t.ln l).curTask = none ∧ t.taskState l k = (if (s.task l k).stale then Task.idle else Task.done) ∧
    (∀ u < 24, u ≠ k → t.taskState l u = s.taskState l u) ∧ ∀ m, m ≠ l → t.ln m = s.ln m

theorem Ended.respond {s t : State} {l : Lane} {k : Nat} (h : Ended s l k t) (i : Initiator) (r : BusResp) : Ended s l k (t.respond i r) := h

theorem Ended.of_sameRegs {s u t : State} {l : Lane} {k : Nat} (h : Ended u l k t) (hsame : SameRegs s u) : Ended s l k t := by
  obtain ⟨hcur, hended, hrest, hlanes⟩ := h
  have htask : u.task l k = s.task l k := by
    unfold State.task
    rw [hsame.only.ln]
  exact ⟨hcur, by rw [hended, htask], fun j hlt hne => (hrest j hlt hne).trans (hsame.rd _), fun m hm => (hlanes m hm).trans (hsame.only.ln m)⟩

theorem State.memc_reschedule (s : State) (l : Lane) : (s.reschedule l).memc = s.memc := by
  obtain ⟨-, r, x, h⟩ := s.reschedule_shows l
  rw [h]
  rfl

/-- The capture at a completion changes neither the tasks nor another lane (R149). -/
theorem State.captureIfQuiet_shows (s : State) {l : Lane} (h : (s.memc.get l).chk = []) :
    (∀ u, (s.captureIfQuiet l).taskState l u = s.taskState l u) ∧ ((s.captureIfQuiet l).ln l).curTask = (s.ln l).curTask ∧
    ∀ m, m ≠ l → (s.captureIfQuiet l).ln m = s.ln m := by
  obtain ⟨c, p, hcapture⟩ := s.captureIfQuiet_clean h
  rw [hcapture]
  refine ⟨fun u => ?_, ?_, fun m hm => State.ln_modLn_ne _ _ hm⟩
  · rw [State.taskState_modLn]
    rfl
  · rw [State.ln_modLn_same]
    rfl

/-- The running task ends; the capture that follows changes none of it (R131, R149). -/
theorem State.doneCmd_ended (s : State) {l : Lane} {k : Nat} (hk : k < 24) (hcur : (s.ln l).curTask = some k) (hchk : (s.memc.get l).chk = []) :
    Ended s l k (s.doneCmd l k) := by
  obtain ⟨resp, slack, htask⟩ := s.taskDone_running hcur
  have hdone : s.doneCmd l k = (s.taskDone l k).captureIfQuiet l := if_pos hcur
  rw [hdone, htask]
  obtain ⟨hstate, hnone, hlanes, hmemc⟩ := s.endTask_shows l resp slack hk
  generalize s.endTask l k resp slack = e at hstate hnone hlanes hmemc ⊢
  obtain ⟨⟨x, hown⟩, hothers⟩ := e.reschedule_lanes l
  obtain ⟨hsame, hcurSame, hrest⟩ := (e.reschedule l).captureIfQuiet_shows (l := l) (by rw [e.memc_reschedule l, hmemc]; exact hchk)
  refine ⟨?_, ?_, fun u hlt hne => ?_, fun m hm => ?_⟩
  · rw [hcurSame, hown, hnone]
  · rw [hsame, e.taskState_reschedule l hk, hstate k hk, if_pos rfl]
    rfl
  · rw [hsame, e.taskState_reschedule l hlt, hstate u hlt, if_neg hne]
  · rw [hrest m hm, hothers m hm, hlanes m hm]

/-- DONE of the running task, in a lane whose DDR4 holds no placed check bits (R131, R149). -/
theorem State.gives_done (s : State) {l : Lane} {w : Word} (hmay : s.mayWrite (.hart l .h0) (Reg.TRD_DONE l) = true)
    (hcur : (s.ln l).curTask = some (wbits w (Fld.TRD_DONE_TASK l))) (hk : wbits w (Fld.TRD_DONE_TASK l) < 24) (hchk : (s.memc.get l).chk = []) :
    Gives (.done (.hart l .h0) w) s (Ended s l (wbits w (Fld.TRD_DONE_TASK l))) := by
  have hsame := s.merge_commandReg w (commandReg_done l)
  exact gives_of_exec (exec_done s w hmay) (((State.doneCmd_ended _ hk (by rw [hsame.only.ln]; exact hcur)
    (by rw [hsame.only.keeps State.memc fun _ => rfl]; exact hchk)).of_sameRegs hsame).respond _ _)

/-! ### The counters -/

theorem commandReg_cntClear (l : Lane) : commandReg (Reg.TRD_CNT_CLEAR l) = true := by cases l <;> decide

/-- One word written into several registers. -/
def State.setAll (s : State) (key : Nat → Nat) (ns : List Nat) (v : Word) : State := ns.foldl (fun t n => t.setReg (key n) v) s

theorem State.setAll_shows (s : State) (key : Nat → Nat) (ns : List Nat) (v : Word) : RegsOnly s (s.setAll key ns v) ∧
    RegsKept (ns.map key) s (s.setAll key ns v) :=
  ⟨(RegsOnly.refl s).foldl ns (fun u _ _ => (RegsOnly.refl u).setReg _ _),
    (RegsKept.refl _ s).foldl ns (fun u _ hn => (RegsKept.refl _ u).setReg _ (List.mem_map_of_mem hn))⟩

/-- Each of the registers reads that word, as does one that read it before. -/
theorem State.reg_setAll (key : Nat → Nat) (v : Word) (j : Nat) : ∀ (ns : List Nat) (s : State), s.reg j = v ∨ j ∈ ns.map key →
    (s.setAll key ns v).reg j = v
  | [], _, h => h.resolve_right List.not_mem_nil
  | n :: ns, s, h => by
    refine State.reg_setAll key v j ns (s.setReg (key n) v) ?_
    rcases h with h | h
    · refine .inl ?_
      rw [State.reg_setReg]
      split
      · rfl
      · exact h
    · rcases List.mem_cons.mp h with rfl | h
      · exact .inl (State.reg_setReg_same s _ v)
      · exact .inr h

/-- A clear command's registers after it (R151): RESP at its reset value where the word names it, CNT zero where the word names it. -/
theorem State.trdClear_shows (s : State) (l : Lane) (w : Word) : (s.trdClear l w).lane = s.lane ∧
    (wbits w (Fld.TRD_CNT_CLEAR_CLR_RESP l) = 1 → ∀ k < 24, (s.trdClear l w).reg (taskResp l k) = 0xFFFF) ∧
    (wbits w (Fld.TRD_CNT_CLEAR_CLR_CNT l) = 1 → ∀ k < 24, (s.trdClear l w).reg (taskCnt l k) = 0) := by
  obtain ⟨hrespOnly, -⟩ := s.setAll_shows (taskResp l) (List.range 24) 0xFFFF
  have hresp : ∀ k < 24, (s.setAll (taskResp l) (List.range 24) 0xFFFF).reg (taskResp l k) = 0xFFFF := fun k hk =>
    State.reg_setAll _ _ _ _ s (.inr (List.mem_map_of_mem (List.mem_range.mpr hk)))
  have heq : s.trdClear l w =
      let s1 := if wbits w (Fld.TRD_CNT_CLEAR_CLR_RESP l) = 1 then s.setAll (taskResp l) (List.range 24) 0xFFFF else s
      if wbits w (Fld.TRD_CNT_CLEAR_CLR_CNT l) = 1 then s1.setAll (taskCnt l) (List.range 24) 0 else s1 := rfl
  rw [heq]
  generalize hr : (if wbits w (Fld.TRD_CNT_CLEAR_CLR_RESP l) = 1 then s.setAll (taskResp l) (List.range 24) 0xFFFF else s) = r
  have honly : RegsOnly s r := hr ▸ hrespOnly.ite (.refl s)
  obtain ⟨hcntOnly, hcntKept⟩ := r.setAll_shows (taskCnt l) (List.range 24) 0
  dsimp only
  refine ⟨((honly.trans hcntOnly).ite honly).lane, fun h k hk => ?_, fun h k hk => ?_⟩
  · rw [if_pos h] at hr
    have hr' : r.reg (taskResp l k) = 0xFFFF := hr ▸ hresp k hk
    split
    · exact (hcntKept _ (respKeys_beside_cnt l k hk)).trans hr'
    · exact hr'
  · rw [if_pos h]
    exact State.reg_setAll _ _ _ _ r (.inr (List.mem_map_of_mem (List.mem_range.mpr hk)))

theorem exec_clrResp (s : State) {l : Lane} {h : Hart} (w : Word) (hmay : s.mayWrite (.hart l h) (Reg.TRD_CNT_CLEAR l) = true) :
    exec (.clrResp (.hart l h) w) s = .next (((s.merge (Reg.TRD_CNT_CLEAR l) w).trdClear l (w ||| 2)).respond (.hart l h) .done) :=
  congrArg Host.Outcome.next (s.regCmd_of_may w (fun t => t.trdClear l (w ||| 2)) hmay)

theorem exec_trdClrCnt (s : State) {l : Lane} {h : Hart} (w : Word) (hmay : s.mayWrite (.hart l h) (Reg.TRD_CNT_CLEAR l) = true) :
    exec (.trdClrCnt (.hart l h) w) s = .next (((s.merge (Reg.TRD_CNT_CLEAR l) w).trdClear l (w ||| 1)).respond (.hart l h) .done) :=
  congrArg Host.Outcome.next (s.regCmd_of_may w (fun t => t.trdClear l (w ||| 1)) hmay)

/-- CLR_RESP and TRD_CLR_CNT (R151). -/
theorem State.gives_cntClear (s : State) {l : Lane} {h : Hart} (w : Word) (hmay : s.mayWrite (.hart l h) (Reg.TRD_CNT_CLEAR l) = true) :
    Gives (.clrResp (.hart l h) w) s (fun t => (∀ k < 24, t.reg (taskResp l k) = 0xFFFF) ∧ t.lane = s.lane) ∧
    Gives (.trdClrCnt (.hart l h) w) s (fun t => (∀ k < 24, t.reg (taskCnt l k) = 0) ∧ t.lane = s.lane) := by
  have hlane := (s.merge_commandReg w (commandReg_cntClear l)).only.lane
  obtain ⟨hlaneR, hresp, -⟩ := (s.merge (Reg.TRD_CNT_CLEAR l) w).trdClear_shows l (w ||| 2)
  obtain ⟨hlaneC, -, hcnt⟩ := (s.merge (Reg.TRD_CNT_CLEAR l) w).trdClear_shows l (w ||| 1)
  have hbit2 := wbits_or_bit w 2 (Fld.TRD_CNT_CLEAR_CLR_RESP l) rfl (show (2 : Nat).testBit 1 = true by decide)
  have hbit1 := wbits_or_bit w 1 (Fld.TRD_CNT_CLEAR_CLR_CNT l) rfl (show (1 : Nat).testBit 0 = true by decide)
  exact ⟨gives_of_exec (exec_clrResp s w hmay) ⟨fun k hk => (State.reg_respond _ _ _ _).trans (hresp hbit2 k hk), hlaneR.trans hlane⟩,
    gives_of_exec (exec_trdClrCnt s w hmay) ⟨fun k hk => (State.reg_respond _ _ _ _).trans (hcnt hbit1 k hk), hlaneC.trans hlane⟩⟩

end Sys2Proof.Machine
end

section
/-! PROOF. Event notices and the releases of event tasks (R116, R126 to R128, R130, R149, R151), and O19: a notice that is held or dropped, what a
release in one lane leaves in the others, and what it shows in its own. -/

namespace Sys2Proof.Machine

/-! ### Notices -/

/-- The oldest notice on its way leaves the way (R127). -/
def State.noticeArrived (s : State) (l : Lane) (xs : List Notice) : State := s.modLn l (fun n => { n with inbox := xs })

/-- A notice is held until its release: PENDING and its count of missed events (R126). -/
def State.noticeHeld (s : State) (l : Lane) (x : Notice) : State :=
  ((s.modLn l (fun n => { n with notices := n.notices ++ [x] })).bumpBy ⟨taskCnt l x.task, 15, 0⟩ x.missed).set1 ⟨taskStat l x.task, 27, 27⟩

theorem State.ln_noticeHeld (s : State) (l m : Lane) (x : Notice) :
    (s.noticeHeld l x).ln m = (s.modLn l (fun n => { n with notices := n.notices ++ [x] })).ln m :=
  (((RegsOnly.refl (s.modLn l (fun n => { n with notices := n.notices ++ [x] }))).wr ⟨taskCnt l x.task, 15, 0⟩ _).wr ⟨taskStat l x.task, 27, 27⟩ 1).ln m

/-- EVENT_NOTICE as its first notice decides it (R87, R126, R127, R149, R476). -/
theorem exec_eventNotice (s : State) {l : Lane} {x : Notice} {xs : List Notice} (hin : (s.ln l).inbox = x :: xs) :
    exec (.eventNotice l) s = .next (
      if !(s.noticeArrived l xs).treadleOn l || (s.noticeArrived l xs).flag (Fld.TRD_STATUS_HALT_REL l) || !(s.noticeArrived l xs).taskMayRun x.task then
        s.noticeArrived l xs
      else if ((s.noticeArrived l xs).ln l).h0.halted then (s.noticeArrived l xs).bump (Fld.LC_DBG_STATUS_MISSED l)
      else if (s.noticeArrived l xs).paused then (s.noticeArrived l xs).bumpBy ⟨taskCnt l x.task, 15, 0⟩ (x.missed + 1)
      else (s.noticeArrived l xs).noticeHeld l x) := by
  show execEventNotice l s = _
  unfold execEventNotice
  rw [hin]
  rfl

/-- A flag that reads 0 is not set. -/
theorem State.flag_of_rd_zero {s : State} {f : Field} (h : s.rd f = 0) : s.flag f = false := by
  unfold State.flag
  rw [h]
  rfl

theorem State.flag_of_rd_one {s : State} {f : Field} (h : s.rd f = 1) : s.flag f = true := by
  unfold State.flag
  rw [h]
  rfl

/-- A notice to a lane whose Treadle works is held (R126, R127). -/
theorem State.gives_eventNotice_held (s : State) {l : Lane} {x : Notice} {xs : List Notice} (hin : (s.ln l).inbox = x :: xs)
    (hon : s.treadleOn l = true) (hrel : s.rd (Fld.TRD_STATUS_HALT_REL l) = 0) (hmay : s.taskMayRun x.task = true) (hh : (s.ln l).h0.halted = false)
    (hpause : s.paused = false) :
    Gives (.eventNotice l) s (fun t => (t.ln l).inbox = xs ∧ (t.ln l).notices = (s.ln l).notices ++ [x] ∧ t.rd ⟨taskStat l x.task, 27, 27⟩ = 1 ∧
      ∀ m, m ≠ l → t.ln m = s.ln m) := by
  have hopen : (!(s.noticeArrived l xs).treadleOn l || (s.noticeArrived l xs).flag (Fld.TRD_STATUS_HALT_REL l) ||
      !(s.noticeArrived l xs).taskMayRun x.task) = false := by
    show (!s.treadleOn l || s.flag (Fld.TRD_STATUS_HALT_REL l) || !s.taskMayRun x.task) = false
    rw [hon, State.flag_of_rd_zero hrel, hmay]
    rfl
  have hawake : ((s.noticeArrived l xs).ln l).h0.halted = false := by
    unfold State.noticeArrived
    rw [State.ln_modLn_same]
    exact hh
  have hexec := exec_eventNotice s hin
  rw [hopen, if_neg Bool.false_ne_true, hawake, if_neg Bool.false_ne_true, show (s.noticeArrived l xs).paused = false from hpause,
    if_neg Bool.false_ne_true] at hexec
  have hln : ∀ m, ((s.noticeArrived l xs).noticeHeld l x).ln m =
      if m = l then { s.ln l with inbox := xs, notices := (s.ln l).notices ++ [x] } else s.ln m := fun m => by
    rw [State.ln_noticeHeld]
    unfold State.noticeArrived
    rw [State.ln_modLn, State.ln_modLn_same]
    split
    next => rfl
    next hne => exact State.ln_modLn_ne _ _ hne
  refine gives_of_exec hexec ⟨by rw [hln, if_pos rfl], by rw [hln, if_pos rfl], ?_, fun m hm => by rw [hln, if_neg hm]⟩
  exact State.rd_wr_same _ ⟨taskStat l x.task, 27, 27⟩ 1 (show 27 < 32 ∧ 27 ≤ 27 by decide)

/-- A notice to a lane whose Treadle stands, or after a power-fail warning, is dropped (R127, R149). -/
theorem State.gives_eventNotice_dropped (s : State) {l : Lane} {x : Notice} {xs : List Notice} (hin : (s.ln l).inbox = x :: xs)
    (hoff : s.treadleOn l = false ∨ s.rd (Fld.TRD_STATUS_HALT_REL l) = 1) :
    Gives (.eventNotice l) s (fun t => t = s.setLn l { s.ln l with inbox := xs }) := by
  refine gives_of_exec (exec_eventNotice s hin) (if_pos ?_)
  show (!s.treadleOn l || s.flag (Fld.TRD_STATUS_HALT_REL l) || !s.taskMayRun x.task) = true
  rcases hoff with h | h
  · rw [h]
    rfl
  · rw [State.flag_of_rd_one h, Bool.or_true, Bool.true_or]

/-! ### What the release in a lane touches -/

/-- The registers of event task `n`, with the count of releases missed and the readmission's status. -/
def eventKeys (l : Lane) (n : Nat) : List Nat :=
  [taskStat l (8 + n), taskCnt l (8 + n), Reg.TRD_ET_n_EVT_SPAN l n, Reg.TRD_ET_n_EVT_DATA l n, Reg.LC_DBG_STATUS l, Reg.VT_READMIT_STATUS]

/-- The registers that the release of event task `n` in a lane may touch. -/
def releaseKeys (l : Lane) (n : Nat) : List Nat :=
  eventKeys l n ++ (nextKeys l ++ logKeys)

theorem mem_releaseKeys {l : Lane} {n k : Nat} (h : k ∈ eventKeys l n) : k ∈ releaseKeys l n := List.mem_append_left _ h

/-- Nothing differs but these registers, a lane, the records, and the vote unit's readmission. -/
structure TreadleOnly (l : Lane) (ks : List Nat) (s t : State) : Prop where
  frame : ∃ r n v w q, t = { s with regs := r, lane := n, vote := v, welt := w, tWait := q }
  kept : RegsKept ks s t
  others : ∀ m, m ≠ l → t.ln m = s.ln m

namespace TreadleOnly

variable {l : Lane} {ks : List Nat} {s t u : State}

theorem refl (l : Lane) (ks : List Nat) (s : State) : TreadleOnly l ks s s := ⟨⟨_, _, _, _, _, rfl⟩, .refl ks s, fun _ _ => rfl⟩

theorem trans (h1 : TreadleOnly l ks s t) (h2 : TreadleOnly l ks t u) : TreadleOnly l ks s u := by
  refine ⟨?_, h1.kept.trans h2.kept, fun m hm => (h2.others m hm).trans (h1.others m hm)⟩
  obtain ⟨_, _, _, _, _, rfl⟩ := h1.frame
  obtain ⟨r, n, v, w, q, rfl⟩ := h2.frame
  exact ⟨r, n, v, w, q, rfl⟩

theorem ite {c : Prop} [Decidable c] (ht : TreadleOnly l ks s t) (hu : TreadleOnly l ks s u) : TreadleOnly l ks s (if c then t else u) := by
  split
  · exact ht
  · exact hu

theorem regs (h : TreadleOnly l ks s t) (honly : RegsOnly t u) (hkept : RegsKept ks t u) : TreadleOnly l ks s u := by
  refine h.trans ⟨?_, hkept, fun m _ => honly.ln m⟩
  obtain ⟨r, rfl⟩ := honly
  exact ⟨r, _, _, _, _, rfl⟩

theorem setReg (h : TreadleOnly l ks s t) {k : Nat} (w : Word) (hk : k ∈ ks) : TreadleOnly l ks s (t.setReg k w) :=
  h.regs ((RegsOnly.refl t).setReg k w) ((RegsKept.refl ks t).setReg w hk)

theorem wr (h : TreadleOnly l ks s t) {f : Field} (v : Nat) (hf : f.addr ∈ ks) : TreadleOnly l ks s (t.wr f v) := h.setReg _ hf

theorem bump (h : TreadleOnly l ks s t) {f : Field} (hf : f.addr ∈ ks) : TreadleOnly l ks s (t.bump f) := h.wr _ hf

theorem modLn (h : TreadleOnly l ks s t) (g : LaneSt → LaneSt) : TreadleOnly l ks s (t.modLn l g) :=
  h.trans ⟨⟨_, _, _, _, _, rfl⟩, .of_regs rfl, fun _ hm => t.ln_modLn_ne g hm⟩

theorem noted (h : TreadleOnly l ks s t) (hn : Noted t u) (hsub : ∀ k ∈ logKeys, k ∈ ks) : TreadleOnly l ks s u := by
  refine h.trans ⟨?_, hn.kept.mono hsub, fun m _ => congrArg (fun x : Tri LaneSt => x.get m) hn.lane⟩
  obtain ⟨r, w, q, rfl⟩ := hn.frame
  exact ⟨r, _, _, w, q, rfl⟩

theorem reschedule (h : TreadleOnly l ks s t) (hsub : ∀ k ∈ nextKeys l, k ∈ ks) : TreadleOnly l ks s (t.reschedule l) := by
  obtain ⟨hkept, r, x, hframe⟩ := t.reschedule_shows l
  refine h.trans ⟨?_, hkept.mono hsub, (t.reschedule_lanes l).2⟩
  rw [hframe]
  exact ⟨r, _, _, _, _, rfl⟩

end TreadleOnly

theorem RegsKept.bump {ks : List Nat} {s t : State} (h : RegsKept ks s t) {f : Field} (hf : f.addr ∈ ks) : RegsKept ks s (t.bump f) := h.wr _ hf

/-- The donor's release abandons a final pass in the vote unit alone (R116). -/
theorem State.abandonFinal_shows (s : State) (l : Lane) : RegsKept [Reg.VT_READMIT_STATUS] s (s.abandonFinal l) ∧
    ∃ r v, s.abandonFinal l = { s with regs := r, vote := v } := by
  unfold State.abandonFinal
  split
  next r _ =>
    split
    · have hvote : ∀ v, RegsKept [Reg.VT_READMIT_STATUS] s { s with vote := v } := fun v => .of_regs rfl
      have hkept := fun v a b => (((hvote v).wr (f := Fld.VT_READMIT_STATUS_PHASE) a (.head _)).wr (f := Fld.VT_READMIT_STATUS_DIRTY) b (.head _)).bump
        (f := Fld.VT_READMIT_STATUS_PASS) (.head _)
      have honly := fun v a b => (((RegsOnly.refl { s with vote := v }).wr Fld.VT_READMIT_STATUS_PHASE a).wr Fld.VT_READMIT_STATUS_DIRTY b).bump
        Fld.VT_READMIT_STATUS_PASS
      refine ⟨hkept _ _ _, ?_⟩
      obtain ⟨r, hr⟩ := honly _ _ _
      exact ⟨r, _, hr⟩
    · exact ⟨.refl _ s, s.regs, s.vote, rfl⟩
  next => exact ⟨.refl _ s, s.regs, s.vote, rfl⟩

theorem State.ln_abandonFinal (s : State) (l m : Lane) : (s.abandonFinal l).ln m = s.ln m := by
  obtain ⟨-, r, v, h⟩ := s.abandonFinal_shows l
  rw [h]
  rfl

/-- A release in a lane (R87, R116, R128 to R130). -/
theorem TreadleOnly.release {l : Lane} {n : Nat} {s t : State} (h : TreadleOnly l (releaseKeys l n) s t) (pubAt : Nat) :
    TreadleOnly l (releaseKeys l n) s (t.release l (8 + n) pubAt) := by
  have hlog : ∀ k ∈ logKeys, k ∈ releaseKeys l n := fun k hk => List.mem_append_right _ (List.mem_append_right _ hk)
  have hstat : taskStat l (8 + n) ∈ releaseKeys l n := mem_releaseKeys (.head _)
  have hcnt : taskCnt l (8 + n) ∈ releaseKeys l n := mem_releaseKeys (.tail _ (.head _))
  have hdbg : Reg.LC_DBG_STATUS l ∈ releaseKeys l n := mem_releaseKeys (.tail _ (.tail _ (.tail _ (.tail _ (.head _)))))
  have habandon : TreadleOnly l (releaseKeys l n) s (t.abandonFinal l) := by
    obtain ⟨hkept, r, v, hframe⟩ := t.abandonFinal_shows l
    have hmem : Reg.VT_READMIT_STATUS ∈ releaseKeys l n := mem_releaseKeys (.tail _ (.tail _ (.tail _ (.tail _ (.tail _ (.head _))))))
    exact h.trans ⟨⟨r, _, v, _, _, hframe⟩, hkept.mono (fun k hk => List.mem_singleton.mp hk ▸ hmem), fun m _ => t.ln_abandonFinal l m⟩
  unfold State.release
  dsimp only
  generalize t.abandonFinal l = a at habandon ⊢
  have hskipped := habandon.bump (f := ⟨taskCnt l (8 + n), 15, 0⟩) hcnt
  have hready := fun k y => ((habandon.wr (f := ⟨taskStat l (8 + n), 31, 29⟩) Task.ready hstat).wr (f := ⟨taskStat l (8 + n), 15, 0⟩) k hstat).modLn y
  split
  · exact h
  · split
    · exact h.bump (f := Fld.LC_DBG_STATUS_MISSED l) hdbg
    · split
      · exact hskipped.noted ((Noted.refl _).weltEvent _ _ _) hlog
      · exact hready _ _

/-- The notice whose instant has come leaves those that are held (R126). -/
def State.noticeTaken (s : State) (l : Lane) (x : Notice) : State :=
  (s.modLn l (fun y => { y with notices := y.notices.filter (fun z => z != x) })).wr ⟨taskStat l x.task, 27, 27⟩ 0

/-- The event's span and data beside its task (R151). -/
def State.eventShown (s : State) (l : Lane) (n : Nat) (x : Notice) : State :=
  (s.setReg (Reg.TRD_ET_n_EVT_SPAN l n) (BitVec.ofNat 32 x.span)).setReg (Reg.TRD_ET_n_EVT_DATA l n) x.data

theorem task_of_due {xs : List Notice} {n net : Nat} {x : Notice} (h : xs.find? (fun y => y.task == 8 + n && decide (y.r ≤ net)) = some x) :
    x.task = 8 + n := by
  have hdue := List.find?_some h
  exact beq_iff_eq.mp (Bool.and_eq_true_iff.mp hdue).1

/-- The release of an event task in a lane, whatever becomes of it, is the lane's own (R126). -/
theorem State.releaseEvent_only (s : State) (l : Lane) (n : Nat) : TreadleOnly l (releaseKeys l n) s (s.releaseEvent l n) := by
  have hnext : ∀ k ∈ nextKeys l, k ∈ releaseKeys l n := fun k hk => List.mem_append_right _ (List.mem_append_left _ hk)
  unfold State.releaseEvent
  split
  next => exact .refl _ _ s
  next x hx =>
    have htask := task_of_due hx
    have htaken : TreadleOnly l (releaseKeys l n) s (s.noticeTaken l x) := by
      unfold State.noticeTaken
      rw [htask]
      exact ((TreadleOnly.refl l _ s).modLn _).wr (f := ⟨taskStat l (8 + n), 27, 27⟩) 0 (mem_releaseKeys (.head _))
    have hcounted : TreadleOnly l (releaseKeys l n) s ((s.noticeTaken l x).bump ⟨taskCnt l x.task, 15, 0⟩) := by
      rw [htask]
      exact htaken.bump (f := ⟨taskCnt l (8 + n), 15, 0⟩) (mem_releaseKeys (.tail _ (.head _)))
    have hshown : TreadleOnly l (releaseKeys l n) s ((s.noticeTaken l x).eventShown l n x) :=
      (htaken.setReg _ (mem_releaseKeys (.tail _ (.tail _ (.head _))))).setReg _ (mem_releaseKeys (.tail _ (.tail _ (.tail _ (.head _)))))
    exact htaken.ite (hcounted.ite (((htaken.ite hshown).release _).reschedule hnext))

/-! ### A release that is accepted -/

/-- What a release of event task `n` in a lane rests on: its Treadle works, the notice's instant has come, and the task is free (R126, R128). -/
structure ReleaseDue (s : State) (l : Lane) (n : Nat) (x : Notice) : Prop where
  on : s.treadleOn l = true
  found : (s.ln l).notices.find? (fun y => y.task == 8 + n && decide (y.r ≤ s.clk.net)) = some x
  mayRun : s.taskMayRun (8 + n) = true
  unpaused : s.paused = false
  open_ : s.rd (Fld.TRD_STATUS_HALT_REL l) = 0
  awake : (s.ln l).h0.halted = false
  free : s.taskState l (8 + n) = Task.idle ∨ s.taskState l (8 + n) = Task.done

/-- After the release: the task is READY with the event's span and data, and the notice is gone (R126, R128). -/
def EventReleased (l : Lane) (n : Nat) (x : Notice) (t : State) : Prop :=
  t.taskState l (8 + n) = Task.ready ∧ x ∉ (t.ln l).notices ∧ t.reg (Reg.TRD_ET_n_EVT_DATA l n) = x.data ∧
    t.reg (Reg.TRD_ET_n_EVT_SPAN l n) = BitVec.ofNat 32 x.span

/-- A task in IDLE or DONE is not busy. -/
theorem State.taskBusy_of_free {s : State} {l : Lane} {t : Nat} (h : s.taskState l t = Task.idle ∨ s.taskState l t = Task.done) :
    s.taskBusy l t = false := by
  unfold State.taskBusy
  rcases h with h | h <;> rw [h] <;> rfl

theorem taskStat_beside_readmit (l : Lane) (t : Nat) : ∀ j ∈ [Reg.VT_READMIT_STATUS], homeKey (taskStat l t) ≠ homeKey j := fun j hj => by
  have hlane : 0x10000000 ≤ laneKey l := by cases l <;> decide
  rw [List.mem_singleton.mp hj, taskStat_eq, homeKey_laneKey, show homeKey Reg.VT_READMIT_STATUS = Reg.VT_READMIT_STATUS by decide]
  exact Nat.ne_of_gt (Nat.lt_of_lt_of_le (show Reg.VT_READMIT_STATUS < 0x10000000 by decide) (Nat.le_trans hlane (Nat.le_add_right _ _)))

/-- A free task becomes READY (R128). -/
theorem State.release_ready (s : State) {l : Lane} {t : Nat} (pubAt : Nat) (hrel : s.rd (Fld.TRD_STATUS_HALT_REL l) = 0)
    (hh : (s.ln l).h0.halted = false) (hfree : s.taskState l t = Task.idle ∨ s.taskState l t = Task.done) :
    RegsKept [taskStat l t, Reg.VT_READMIT_STATUS] s (s.release l t pubAt) ∧ (s.release l t pubAt).taskState l t = Task.ready ∧
    ((s.release l t pubAt).ln l).notices = (s.ln l).notices := by
  obtain ⟨hkept, -⟩ := s.abandonFinal_shows l
  have hln := s.ln_abandonFinal l l
  have hbusy : (s.abandonFinal l).taskBusy l t = false :=
    State.taskBusy_of_free (by rw [hkept.taskState l (taskStat_beside_readmit l t)]; exact hfree)
  have hready : ∃ k y, s.release l t pubAt = (((s.abandonFinal l).setTask l t Task.ready).wr ⟨taskStat l t, 15, 0⟩ k).putTask l t y := by
    unfold State.release
    rw [State.flag_of_rd_zero hrel, hh, if_neg Bool.false_ne_true, if_neg Bool.false_ne_true]
    dsimp only
    rw [hbusy, if_neg Bool.false_ne_true]
    exact ⟨_, _, rfl⟩
  obtain ⟨k, y, heq⟩ := hready
  rw [heq]
  generalize s.abandonFinal l = a at hkept hln ⊢
  refine ⟨?_, ?_, ?_⟩
  · exact (((hkept.mono (fun k hk => .tail _ hk)).wr (f := ⟨taskStat l t, 31, 29⟩) Task.ready (.head _)).wr (f := ⟨taskStat l t, 15, 0⟩) k
      (.head _)).modLn l _
  · unfold State.putTask
    rw [State.taskState_modLn]
    refine (State.rd_wr_beside _ ⟨taskStat l t, 15, 0⟩ ⟨taskStat l t, 31, 29⟩ k (show 15 < 32 ∧ 0 ≤ 15 by decide) rfl
      (.inr (show 15 < 29 by decide))).trans ?_
    exact (a.taskState_setTask l t t (by decide)).trans (if_pos rfl)
  · unfold State.putTask
    rw [State.ln_modLn_same, State.ln_wr, (a.setTask_regsOnly l t _).ln, hln]

theorem evtKeys_beside (l : Lane) : ∀ n < 16, ∀ k ∈ [Reg.TRD_ET_n_EVT_DATA l n, Reg.TRD_ET_n_EVT_SPAN l n],
    ∀ j ∈ taskStat l (8 + n) :: Reg.VT_READMIT_STATUS :: nextKeys l, homeKey k ≠ homeKey j := by cases l <;> decide

theorem evt_beside_stat (l : Lane) : ∀ n < 16, ∀ j ∈ [Reg.TRD_ET_n_EVT_SPAN l n, Reg.TRD_ET_n_EVT_DATA l n],
    homeKey (taskStat l (8 + n)) ≠ homeKey j := by cases l <;> decide

theorem evt_beside_trdStatus (l : Lane) : ∀ n < 16, ∀ j ∈ [Reg.TRD_ET_n_EVT_SPAN l n, Reg.TRD_ET_n_EVT_DATA l n],
    homeKey (Fld.TRD_STATUS_HALT_REL l).addr ≠ homeKey j := by cases l <;> decide

theorem stat_beside_trdStatus (l : Lane) : ∀ n < 16, ∀ j ∈ [taskStat l (8 + n)], homeKey (Fld.TRD_STATUS_HALT_REL l).addr ≠ homeKey j := by
  cases l <;> decide

theorem evtData_ne_span (l : Lane) : ∀ n < 16, homeKey (Reg.TRD_ET_n_EVT_SPAN l n) ≠ homeKey (Reg.TRD_ET_n_EVT_DATA l n) := by cases l <;> decide

/-- A notice taken leaves the task free and HART_0 as it was. -/
theorem State.noticeTaken_shows (s : State) (l : Lane) (x : Notice) : RegsKept [taskStat l x.task] s (s.noticeTaken l x) ∧
    (s.noticeTaken l x).taskState l x.task = s.taskState l x.task ∧
    (s.noticeTaken l x).ln l = { s.ln l with notices := (s.ln l).notices.filter (fun z => z != x) } := by
  unfold State.noticeTaken
  refine ⟨((RegsKept.refl _ s).modLn l _).wr (f := ⟨taskStat l x.task, 27, 27⟩) 0 (.head _), ?_, ?_⟩
  · exact State.rd_wr_beside _ ⟨taskStat l x.task, 27, 27⟩ ⟨taskStat l x.task, 31, 29⟩ 0 (show 27 < 32 ∧ 27 ≤ 27 by decide) rfl
      (.inr (show 27 < 29 by decide))
  · rw [State.ln_wr, State.ln_modLn_same]

/-- A due release is the notice taken, the event shown and the task released (R126, R151). -/
theorem ReleaseDue.releaseEvent {s : State} {l : Lane} {n : Nat} {x : Notice} (h : ReleaseDue s l n x) : ∃ pubAt,
    s.releaseEvent l n = (((s.noticeTaken l x).eventShown l n x).release l (8 + n) pubAt).reschedule l := by
  have htask := task_of_due h.found
  have hmay : s.taskMayRun x.task = true := htask ▸ h.mayRun
  obtain ⟨-, hstate, hln⟩ := s.noticeTaken_shows l x
  have hfree : ((s.noticeTaken l x).taskBusy l (8 + n) || ((s.noticeTaken l x).ln l).h0.halted) = false := by
    rw [State.taskBusy_of_free (by rw [← htask, hstate, htask]; exact h.free), hln]
    exact h.awake
  unfold State.noticeTaken at hfree
  unfold State.releaseEvent
  rw [h.found]
  dsimp only
  rw [hmay, h.unpaused, hfree, if_neg (by decide), if_neg Bool.false_ne_true, if_neg Bool.false_ne_true]
  exact ⟨_, rfl⟩

/-- The event's span and data, beside the tasks' states. -/
theorem State.eventShown_shows (s : State) (l : Lane) {n : Nat} (hn : n < 16) (x : Notice) : RegsOnly s (s.eventShown l n x) ∧
    RegsKept [Reg.TRD_ET_n_EVT_SPAN l n, Reg.TRD_ET_n_EVT_DATA l n] s (s.eventShown l n x) ∧
    (s.eventShown l n x).reg (Reg.TRD_ET_n_EVT_DATA l n) = x.data ∧
    (s.eventShown l n x).reg (Reg.TRD_ET_n_EVT_SPAN l n) = BitVec.ofNat 32 x.span := by
  refine ⟨((RegsOnly.refl s).setReg _ _).setReg _ _, ((RegsKept.refl _ s).setReg _ (.head _)).setReg _ (.tail _ (.head _)),
    State.reg_setReg_same _ _ _, ?_⟩
  unfold State.eventShown
  rw [State.reg_setReg, if_neg (evtData_ne_span l n hn), State.reg_setReg_same]

/-- The release shows in its own lane (R126, R128, R151). -/
theorem ReleaseDue.released {s : State} {l : Lane} {n : Nat} {x : Notice} (hn : n < 16) (h : ReleaseDue s l n x) :
    EventReleased l n x (s.releaseEvent l n) := by
  have htask := task_of_due h.found
  obtain ⟨htaken, hstate, hln⟩ := s.noticeTaken_shows l x
  obtain ⟨pubAt, heq⟩ := h.releaseEvent
  rw [heq]
  rw [htask] at htaken hstate
  generalize s.noticeTaken l x = u at htaken hstate hln ⊢
  obtain ⟨honly, hkept, hdata, hspan⟩ := u.eventShown_shows l hn x
  have hfree : (u.eventShown l n x).taskState l (8 + n) = s.taskState l (8 + n) :=
    (hkept.taskState l (evt_beside_stat l n hn)).trans hstate
  have hrel : (u.eventShown l n x).rd (Fld.TRD_STATUS_HALT_REL l) = 0 :=
    (hkept.rd (evt_beside_trdStatus l n hn)).trans ((htaken.rd (stat_beside_trdStatus l n hn)).trans h.open_)
  have hnow : (u.eventShown l n x).ln l = { s.ln l with notices := (s.ln l).notices.filter (fun z => z != x) } := (honly.ln l).trans hln
  generalize u.eventShown l n x = e at hdata hspan hfree hrel hnow ⊢
  obtain ⟨hrelease, hready, hnotices⟩ := e.release_ready pubAt hrel (by rw [hnow]; exact h.awake) (by rw [hfree]; exact h.free)
  generalize e.release l (8 + n) pubAt = r at hrelease hready hnotices ⊢
  obtain ⟨⟨y, hown⟩, -⟩ := r.reschedule_lanes l
  have hshown := (hrelease.mono (fun k hk => List.mem_append_left (nextKeys l) hk)).trans
    ((r.reschedule_shows l).1.mono (fun k hk => List.mem_append_right _ hk))
  refine ⟨(r.taskState_reschedule l (by omega)).trans hready, ?_, ?_, ?_⟩
  · rw [hown]
    show x ∉ (r.ln l).notices
    rw [hnotices, hnow]
    simp
  · exact (hshown _ (evtKeys_beside l n hn _ (.head _))).trans hdata
  · exact (hshown _ (evtKeys_beside l n hn _ (.tail _ (.head _)))).trans hspan

/-! ### The lanes one after the other -/

/-- Of steps for the elements of a list, one's own step makes `Q` of `P`, and the others keep either. -/
theorem foldl_reaches {σ α : Type} {g : σ → α → σ} {a : α} {P Q : σ → Prop} (hP : ∀ u x, x ≠ a → P u → P (g u x)) (ha : ∀ u, P u → Q (g u a))
    (hQ : ∀ u x, x ≠ a → Q u → Q (g u x)) : ∀ (xs : List α) (u : σ), xs.Nodup → a ∈ xs → P u → Q (xs.foldl g u)
  | [], _, _, hmem, _ => absurd hmem List.not_mem_nil
  | x :: xs, u, hnodup, hmem, hu => by
    obtain ⟨hx, hxs⟩ := List.nodup_cons.mp hnodup
    rcases List.mem_cons.mp hmem with rfl | hmem
    · exact List.foldlRecOn xs g (ha u hu) (fun v hv y hy => hQ v y (fun h => hx (h ▸ hy)) hv)
    · exact foldl_reaches hP ha hQ xs (g u x) hxs hmem (hP u x (fun h => hx (h ▸ hmem)) hu)

/-- What a lane's release rests on and shows. -/
def waitKeys (l : Lane) (n : Nat) : List Nat :=
  [Reg.LC_LANE_STATUS l, Reg.TRD_STATUS l, Reg.DX_STATUS, taskStat l (8 + n), Reg.TRD_ET_n_EVT_DATA l n, Reg.TRD_ET_n_EVT_SPAN l n]

/-- No lane's release touches them in another. -/
theorem waitKeys_beside {l m : Lane} (h : m ≠ l) : ∀ n < 16, ∀ k ∈ waitKeys l n, ∀ j ∈ releaseKeys m n, homeKey k ≠ homeKey j := by
  revert h
  cases l <;> cases m <;> decide

section
variable {s t : State} {l m : Lane} {n : Nat} {x : Notice}

/-- What a lane's release rests on reads as before after another lane's. -/
theorem TreadleOnly.reg (h : TreadleOnly m (releaseKeys m n) s t) (hm : m ≠ l) (hn : n < 16) {k : Nat} (hk : k ∈ waitKeys l n) :
    t.reg k = s.reg k := h.kept k (waitKeys_beside hm n hn k hk)

/-- A release stays due while another lane's runs. -/
theorem ReleaseDue.keep (hdue : ReleaseDue s l n x) (h : TreadleOnly m (releaseKeys m n) s t) (hm : m ≠ l) (hn : n < 16) :
    ReleaseDue t l n x := by
  obtain ⟨hon, hfound, hmay, hunpaused, hopen, hawake, hfree⟩ := hdue
  have hln := h.others l hm.symm
  have hex : t.ex l = s.ex l := State.rd_of_reg (h.reg hm hn (.head _))
  have hrel : t.rd (Fld.TRD_STATUS_HALT_REL l) = s.rd (Fld.TRD_STATUS_HALT_REL l) := State.rd_of_reg (h.reg hm hn (.tail _ (.head _)))
  have hdx : t.rd Fld.DX_STATUS_STATE = s.rd Fld.DX_STATUS_STATE := State.rd_of_reg (h.reg hm hn (.tail _ (.tail _ (.head _))))
  have hstate : t.taskState l (8 + n) = s.taskState l (8 + n) := State.rd_of_reg (h.reg hm hn (.tail _ (.tail _ (.tail _ (.head _)))))
  have hclk : t.clk = s.clk ∧ t.dx = s.dx ∧ t.cfg = s.cfg ∧ t.st = s.st := by
    obtain ⟨_, _, _, _, _, hframe⟩ := h.frame
    rw [hframe]
    exact ⟨rfl, rfl, rfl, rfl⟩
  obtain ⟨hclk, hduplex, hcfg, hst⟩ := hclk
  refine ⟨?_, ?_, ?_, ?_, hrel.trans hopen, ?_, by rw [hstate]; exact hfree⟩
  · unfold State.treadleOn at hon ⊢
    rw [hex]
    exact hon
  · rw [hln, hclk]
    exact hfound
  · unfold State.taskMayRun at hmay ⊢
    rw [hdx, hduplex, hcfg]
    exact hmay
  · unfold State.paused at hunpaused ⊢
    rw [hst]
    exact hunpaused
  · rw [hln]
    exact hawake

/-- What a release shows stays while another lane's runs. -/
theorem EventReleased.keep (hreleased : EventReleased l n x s) (h : TreadleOnly m (releaseKeys m n) s t) (hm : m ≠ l) (hn : n < 16) :
    EventReleased l n x t := by
  obtain ⟨hready, hgone, hdata, hspan⟩ := hreleased
  refine ⟨?_, ?_, ?_, ?_⟩
  · exact (State.rd_of_reg (h.reg hm hn (.tail _ (.tail _ (.tail _ (.head _)))))).trans hready
  · rw [h.others l hm.symm]
    exact hgone
  · exact (h.reg hm hn (.tail _ (.tail _ (.tail _ (.tail _ (.head _)))))).trans hdata
  · exact (h.reg hm hn (.tail _ (.tail _ (.tail _ (.tail _ (.tail _ (.head _))))))).trans hspan

end

/-- The release of event task `n` in the lane, where its Treadle works (R126). -/
def State.releaseWhereOn (n : Nat) (s : State) (l : Lane) : State := if s.treadleOn l then s.releaseEvent l n else s

theorem State.releaseWhereOn_only (s : State) (l : Lane) (n : Nat) : TreadleOnly l (releaseKeys l n) s (s.releaseWhereOn n l) :=
  (s.releaseEvent_only l n).ite (.refl l _ s)

theorem exec_eventTaskRelease (s : State) (n : Fin 16) : exec (.eventTaskRelease n) s = .next (lanes.foldl (State.releaseWhereOn n) s) := rfl

/-- EVENT_TASK_RELEASE of a free task at its instant (R126, R128, R151). -/
theorem ReleaseDue.gives {s : State} {l : Lane} {n : Fin 16} {x : Notice} (h : ReleaseDue s l n x) :
    Gives (.eventTaskRelease n) s (EventReleased l n x) := by
  refine gives_of_exec (exec_eventTaskRelease s n) ?_
  refine foldl_reaches (P := fun u => ReleaseDue u l n x) (fun u m hm hu => hu.keep (u.releaseWhereOn_only m n) hm n.isLt) (fun u hu => ?_)
    (fun u m hm hu => hu.keep (u.releaseWhereOn_only m n) hm n.isLt) lanes s (by decide) (by cases l <;> decide) h
  unfold State.releaseWhereOn
  rw [hu.on, if_pos rfl]
  exact hu.released n.isLt

/-! ### O19 -/

/-- An ignored command, said of any registers. -/
theorem Gives.ignored {c : Instr} {s : State} {i : Initiator} {ks : List Nat}
    (h : Gives c s (fun t => t.response i = .done ∧ OnlyRegs s t ∧ RegsKept [] s t)) : Gives c s (fun t => OnlyRegs s t ∧ RegsKept ks s t) := by
  obtain ⟨t, hexec, -, honly, hkept⟩ := h
  exact ⟨t, hexec, honly, hkept.mono (fun _ hk => absurd hk List.not_mem_nil)⟩

/-- Settles O19: notices and releases as above, dispatch, completion and the clear commands as for the Treadle's tasks. -/
theorem treadleTasks : Obligations.TreadleTasks := by
  unfold Obligations.TreadleTasks
  intro s l w
  refine ⟨fun x xs hin => ⟨s.gives_eventNotice_held hin, s.gives_eventNotice_dropped hin⟩, ?_, fun hmay => ⟨?_, ?_⟩, s.gives_done, s.gives_cntClear w⟩
  · exact fun n x hon hfound hmay hunpaused hopen hawake hfree => ReleaseDue.gives ⟨hon, hfound, hmay, hunpaused, hopen, hawake, hfree⟩
  · exact s.gives_dispatch hmay
  · exact fun hother => (s.gives_dispatch_other hmay hother).ignored

end Sys2Proof.Machine
end

section
/-! PROOF. Change blocks and retained copies (R140 to R142, R148, R149), and O20. -/

namespace Sys2Proof.Machine

/-! ### What the checks of a change block read -/

namespace SameRegs

variable {s t : State}

theorem flag (h : SameRegs s t) (f : Field) : t.flag f = s.flag f := by
  unfold State.flag
  rw [h.rd]

theorem cfg (h : SameRegs s t) : t.cfg = s.cfg := h.only.keeps State.cfg fun _ => rfl

theorem chg (h : SameRegs s t) : t.chg = s.chg := h.only.keeps State.chg fun _ => rfl

theorem cyc (h : SameRegs s t) : t.cyc = s.cyc := h.only.keeps State.cyc fun _ => rfl

theorem firstVoting (h : SameRegs s t) : t.firstVoting = s.firstVoting := by
  have hvotes : t.votes = s.votes := funext fun l => by
    unfold State.votes State.member
    rw [h.rd]
  unfold State.firstVoting
  rw [hvotes]

theorem chgBlock (h : SameRegs s t) : t.chgBlock = s.chgBlock := by
  have hrec : t.chgRec = s.chgRec := funext fun n => by
    unfold State.chgRec
    simp only [h.reg]
  unfold State.chgBlock
  rw [h.reg, hrec]

theorem forcedWords (h : SameRegs s t) : t.forcedWords = s.forcedWords := by
  unfold State.forcedWords
  simp only [h.firstVoting, h.flag, h.rd, h.reg]

theorem chgCheck (h : SameRegs s t) (r : ChgRec) (forces : List Forced) : t.chgCheck r forces = s.chgCheck r forces := by
  unfold State.chgCheck State.forcesDirect State.owner
  simp only [h.cfg, h.flag, h.rd]

theorem chgCheckAll (h : SameRegs s t) : ∀ (rs : List ChgRec) (forces : List Forced), t.chgCheckAll rs forces = s.chgCheckAll rs forces
  | [], _ => rfl
  | r :: rs, forces => by
    unfold State.chgCheckAll
    rw [h.chgCheck, h.chgCheckAll rs]

end SameRegs

/-! ### Submission -/

theorem commandReg_chgCtrl : commandReg Reg.UPD_CHG_CTRL = true := by decide

theorem exec_chgSubmit (s : State) {i : Initiator} (w : Word) (hmay : s.mayWrite i Reg.UPD_CHG_CTRL = true) :
    exec (.chgSubmit i w) s = .next ((s.merge Reg.UPD_CHG_CTRL w).submitChange.respond i .done) :=
  congrArg Host.Outcome.next (s.regCmd_of_may w State.submitChange hmay)

/-- A result in UPD.CHG_STATUS, with the block's SEQ (R141). -/
def State.showChange (s : State) (c seq : Nat) : State := (s.wr Fld.UPD_CHG_STATUS_RESULT c).wr Fld.UPD_CHG_STATUS_SEQ seq

theorem State.showChange_shows (s : State) {c seq : Nat} (hc : c < 16) (hseq : seq < 2 ^ 16) : (s.showChange c seq).rd Fld.UPD_CHG_STATUS_RESULT = c ∧
    (s.showChange c seq).rd Fld.UPD_CHG_STATUS_SEQ = seq ∧ (s.showChange c seq).rd Fld.UPD_CHG_STATUS_BUSY = s.rd Fld.UPD_CHG_STATUS_BUSY ∧
    RegsOnly s (s.showChange c seq) := by
  refine ⟨?_, ?_, ?_, ((RegsOnly.refl s).wr _ _).wr _ _⟩
  · refine (State.rd_wr_beside _ Fld.UPD_CHG_STATUS_SEQ Fld.UPD_CHG_STATUS_RESULT seq (by decide) rfl (.inr (by decide))).trans ?_
    exact (State.rd_wr_same _ Fld.UPD_CHG_STATUS_RESULT c (by decide)).trans (Nat.mod_eq_of_lt hc)
  · exact (State.rd_wr_same _ Fld.UPD_CHG_STATUS_SEQ seq (by decide)).trans (Nat.mod_eq_of_lt hseq)
  · refine (State.rd_wr_beside _ Fld.UPD_CHG_STATUS_SEQ Fld.UPD_CHG_STATUS_BUSY seq (by decide) rfl (.inr (by decide))).trans ?_
    exact State.rd_wr_beside _ Fld.UPD_CHG_STATUS_RESULT Fld.UPD_CHG_STATUS_BUSY c (by decide) rfl (.inr (by decide))

theorem State.chgBlock_seq_lt (s : State) : s.chgBlock.seq < 2 ^ 16 := bitsOf_lt _ _ _

/-- A block submitted while one is pending (R141). -/
theorem State.submitChange_pending (s : State) {b : ChgBlock} (h : s.chg.block = some b) :
    s.submitChange = s.wr Fld.UPD_CHG_STATUS_RESULT 9 := if_pos (by rw [h]; rfl)

/-- The block is sent to every lane. -/
def State.sendChange (s : State) : State :=
  { s with chg := { s.chg with block := some s.chgBlock, announced := false, acks := Tri.all false, since := s.cyc.k } }

/-- A submitted block after its checks (R141): the code of the first that fails is shown, or the block is sent. -/
def State.changeChecked (s : State) (seq : Nat) : Option Nat → State
  | some c => s.showChange c seq
  | none => (s.sendChange.set1 Fld.UPD_CHG_STATUS_BUSY).showChange 0 seq

/-- A block of 1 to 16 records goes by its checks (R141). -/
theorem State.submitChange_checked (s : State) (h : s.chg.block = none) (hlow : 1 ≤ s.chgBlock.recs.length) (hhigh : s.chgBlock.recs.length ≤ 16) :
    s.submitChange = s.changeChecked s.chgBlock.seq (s.chgCheckAll s.chgBlock.recs s.forcedWords) := by
  unfold State.submitChange
  dsimp only
  rw [h, if_neg (by decide), if_neg (by omega)]
  cases s.chgCheckAll s.chgBlock.recs s.forcedWords with
  | some c => rfl
  | none => rfl

/-- An answer after registers that change leaves the change unit and the lanes. -/
theorem RegsOnly.answered {s t : State} (h : RegsOnly s t) (i : Initiator) (r : BusResp) :
    (t.respond i r).chg = s.chg ∧ (t.respond i r).lane = s.lane := ⟨h.keeps State.chg fun _ => rfl, h.lane⟩

/-- What CHG_SUBMIT shows is what the submission of the written state shows. -/
theorem State.gives_chgSubmit (s : State) {i : Initiator} {w : Word} {P : State → Prop} (hmay : s.mayWrite i Reg.UPD_CHG_CTRL = true)
    (h : ∀ u, SameRegs s u → ∃ t, u.submitChange = t ∧ P (t.respond i .done)) : Gives (.chgSubmit i w) s P := by
  obtain ⟨t, ht, hshown⟩ := h _ (s.merge_commandReg w commandReg_chgCtrl)
  have hexec := exec_chgSubmit s w hmay
  rw [ht] at hexec
  exact gives_of_exec hexec hshown

theorem State.gives_chgSubmit_pending (s : State) {i : Initiator} {w : Word} {b : ChgBlock} (hmay : s.mayWrite i Reg.UPD_CHG_CTRL = true)
    (h : s.chg.block = some b) :
    Gives (.chgSubmit i w) s (fun t => t.rd Fld.UPD_CHG_STATUS_RESULT = 9 ∧ t.chg = s.chg ∧ t.lane = s.lane) := by
  refine s.gives_chgSubmit hmay (fun u hsame => ⟨_, u.submitChange_pending (by rw [hsame.chg]; exact h), ?_⟩)
  have hresult := State.rd_wr_same u Fld.UPD_CHG_STATUS_RESULT 9 (by decide)
  have honly := hsame.only.wr Fld.UPD_CHG_STATUS_RESULT 9
  exact ⟨(State.rd_respond _ _ _ _).trans hresult, (honly.answered i .done).1, (honly.answered i .done).2⟩

section
variable (s : State) {i : Initiator} {w : Word} (hmay : s.mayWrite i Reg.UPD_CHG_CTRL = true) (h : s.chg.block = none)
  (hlow : 1 ≤ s.chgBlock.recs.length) (hhigh : s.chgBlock.recs.length ≤ 16)
include h hlow hhigh

/-- The submission of a block of 1 to 16 records, by the checks as they stood before the write. -/
theorem SameRegs.submitChange_checked {u : State} (hsame : SameRegs s u) :
    u.submitChange = u.changeChecked s.chgBlock.seq (s.chgCheckAll s.chgBlock.recs s.forcedWords) := by
  rw [u.submitChange_checked (by rw [hsame.chg]; exact h) (by rw [hsame.chgBlock]; exact hlow) (by rw [hsame.chgBlock]; exact hhigh),
    hsame.chgBlock, hsame.forcedWords, hsame.chgCheckAll]

include hmay

/-- A failing record's code is reported, and nothing is applied (R141). -/
theorem State.gives_chgSubmit_rejected {c : Nat} (hc : c < 16) (hcheck : s.chgCheckAll s.chgBlock.recs s.forcedWords = some c) :
    Gives (.chgSubmit i w) s (fun t => t.rd Fld.UPD_CHG_STATUS_RESULT = c ∧ t.chg = s.chg ∧ t.lane = s.lane) := by
  refine s.gives_chgSubmit hmay (fun u hsame => ⟨u.showChange c s.chgBlock.seq, ?_, ?_⟩)
  · rw [SameRegs.submitChange_checked s h hlow hhigh hsame, hcheck]
    rfl
  · obtain ⟨hresult, -, -, honly⟩ := u.showChange_shows hc s.chgBlock_seq_lt
    exact ⟨(State.rd_respond _ _ _ _).trans hresult, (honly.answered i .done).1.trans hsame.chg,
      (honly.answered i .done).2.trans hsame.only.lane⟩

/-- A block whose records all pass is pending (R141). -/
theorem State.gives_chgSubmit_accepted (hcheck : s.chgCheckAll s.chgBlock.recs s.forcedWords = none) :
    Gives (.chgSubmit i w) s (fun t => t.rd Fld.UPD_CHG_STATUS_RESULT = 0 ∧ t.rd Fld.UPD_CHG_STATUS_BUSY = 1 ∧
      t.rd Fld.UPD_CHG_STATUS_SEQ = s.chgBlock.seq ∧
      t.chg = { s.chg with block := some s.chgBlock, announced := false, acks := Tri.all false, since := s.cyc.k } ∧ t.lane = s.lane) := by
  refine s.gives_chgSubmit hmay (fun u hsame => ⟨(u.sendChange.set1 Fld.UPD_CHG_STATUS_BUSY).showChange 0 s.chgBlock.seq, ?_, ?_⟩)
  · rw [SameRegs.submitChange_checked s h hlow hhigh hsame, hcheck]
    rfl
  · have hbusy : (u.sendChange.set1 Fld.UPD_CHG_STATUS_BUSY).rd Fld.UPD_CHG_STATUS_BUSY = 1 :=
      State.rd_wr_same _ Fld.UPD_CHG_STATUS_BUSY 1 (by decide)
    have hset : RegsOnly u.sendChange (u.sendChange.set1 Fld.UPD_CHG_STATUS_BUSY) := (RegsOnly.refl u.sendChange).wr _ _
    obtain ⟨hresult, hseq, hkept, honly⟩ := (u.sendChange.set1 Fld.UPD_CHG_STATUS_BUSY).showChange_shows (show 0 < 16 by decide) s.chgBlock_seq_lt
    have hsent := hset.trans honly
    have hchg : u.sendChange.chg = { s.chg with block := some s.chgBlock, announced := false, acks := Tri.all false, since := s.cyc.k } := by
      unfold State.sendChange
      dsimp only
      rw [hsame.chg, hsame.chgBlock, hsame.cyc]
    exact ⟨(State.rd_respond _ _ _ _).trans hresult, (State.rd_respond _ _ _ _).trans (hkept.trans hbusy), (State.rd_respond _ _ _ _).trans hseq,
      (hsent.answered i .done).1.trans hchg, (hsent.answered i .done).2.trans hsame.only.lane⟩

end

/-! ### Staging -/

theorem exec_changeBlockStaged (s : State) (l : Lane) {b : ChgBlock} (h : s.chg.block = some b) :
    exec (.changeBlockStaged l) s = .next (if s.treadleOn l then
      ({ s with chg := { s.chg with acks := s.chg.acks.put l true } } : State).modLn l (fun n => { n with staged := some b }) else s) := by
  show execChangeBlockStaged l s = _
  unfold execChangeBlockStaged
  rw [h]

/-- The Treadle of a working lane stages the pending block (R142). -/
theorem State.gives_changeBlockStaged (s : State) (l : Lane) {b : ChgBlock} (h : s.chg.block = some b) (hon : s.treadleOn l = true) :
    Gives (.changeBlockStaged l) s (fun t => (t.ln l).staged = some b ∧ t.chg = { s.chg with acks := s.chg.acks.put l true } ∧
      t.regs = s.regs ∧ ∀ m, m ≠ l → t.ln m = s.ln m) := by
  have hexec := exec_changeBlockStaged s l h
  rw [if_pos hon] at hexec
  refine gives_of_exec hexec ⟨?_, rfl, rfl, fun m hm => State.ln_modLn_ne _ _ hm⟩
  rw [State.ln_modLn_same]

/-- A pending block is dropped with a result (R141). -/
def State.dropChange (s : State) (c : Nat) : State :=
  (({ s with chg := { s.chg with block := none } } : State).wr Fld.UPD_CHG_STATUS_BUSY 0).wr Fld.UPD_CHG_STATUS_RESULT c

theorem State.dropChange_shows (s : State) {c : Nat} (hc : c < 16) : (s.dropChange c).chg = { s.chg with block := none } ∧
    (s.dropChange c).rd Fld.UPD_CHG_STATUS_RESULT = c ∧ (s.dropChange c).rd Fld.UPD_CHG_STATUS_BUSY = 0 ∧ (s.dropChange c).lane = s.lane := by
  have honly := ((RegsOnly.refl ({ s with chg := { s.chg with block := none } } : State)).wr Fld.UPD_CHG_STATUS_BUSY 0).wr Fld.UPD_CHG_STATUS_RESULT c
  refine ⟨honly.keeps State.chg fun _ => rfl, ?_, ?_, honly.lane⟩
  · exact (State.rd_wr_same _ Fld.UPD_CHG_STATUS_RESULT c (by decide)).trans (Nat.mod_eq_of_lt hc)
  · exact (State.rd_wr_beside _ Fld.UPD_CHG_STATUS_RESULT Fld.UPD_CHG_STATUS_BUSY c (by decide) rfl (.inr (by decide))).trans
      (State.rd_wr_same _ Fld.UPD_CHG_STATUS_BUSY 0 (by decide))

/-- Every lane drops its staged block. -/
def State.dropStaged (s : State) : State := lanes.foldl (fun t l => t.modLn l (fun n => { n with staged := none })) s

theorem State.dropStaged_shows (s : State) : (s.dropStaged.chg = s.chg ∧ s.dropStaged.regs = s.regs) ∧
    ∀ m, s.dropStaged.ln m = { s.ln m with staged := none } := ⟨⟨rfl, rfl⟩, fun m => by cases m <;> rfl⟩

theorem exec_changeStageTimeout (s : State) {b : ChgBlock} (h : s.chg.block = some b) :
    exec .changeStageTimeout s = .next (if s.chg.since + 8 ≤ s.cyc.k ∧ s.chg.announced = false ∧ ¬ s.stagers.all (fun l => s.chg.acks.get l) then
      (s.dropChange 0xA).dropStaged else s) := by
  show execChangeStageTimeout s = _
  unfold execChangeStageTimeout
  rw [h]
  rfl

/-- Eight cycles after submission a block that some lane has not staged is dropped (R141). -/
theorem State.gives_changeStageTimeout (s : State) {b : ChgBlock} (h : s.chg.block = some b) (hlate : s.chg.since + 8 ≤ s.cyc.k)
    (hquiet : s.chg.announced = false) (hmissing : ∃ m ∈ s.stagers, s.chg.acks.get m = false) :
    Gives .changeStageTimeout s (fun t => t.chg = { s.chg with block := none } ∧ t.rd Fld.UPD_CHG_STATUS_RESULT = 0xA ∧
      t.rd Fld.UPD_CHG_STATUS_BUSY = 0 ∧ ∀ m, t.ln m = { s.ln m with staged := none }) := by
  have hall : ¬ s.stagers.all (fun l => s.chg.acks.get l) := fun hall => by
    obtain ⟨m, hm, hack⟩ := hmissing
    exact Bool.false_ne_true (hack.symm.trans (List.all_eq_true.mp hall m hm))
  have hexec := exec_changeStageTimeout s h
  rw [if_pos ⟨hlate, hquiet, hall⟩] at hexec
  obtain ⟨hchg, hresult, hbusy, hlane⟩ := s.dropChange_shows (show 0xA < 16 by decide)
  obtain ⟨⟨hchgKept, hregs⟩, hln⟩ := (s.dropChange 0xA).dropStaged_shows
  refine gives_of_exec hexec ⟨hchgKept.trans hchg, ?_, ?_, fun m => ?_⟩
  · exact (State.rd_of_reg (State.reg_of_regs hregs _)).trans hresult
  · exact (State.rd_of_reg (State.reg_of_regs hregs _)).trans hbusy
  · rw [hln]
    unfold State.ln
    rw [hlane]

/-! ### Retained copies -/

/-- A periodic save falls due (R148). -/
theorem State.gives_retainedSaveDue (s : State) (hperiod : s.cfg.retPeriod ≠ 0) (hrun : s.phase = Phase.run) (hdue : s.cyc.k % s.cfg.retPeriod = 0) :
    Gives .retainedSaveDue s (fun t => t = { s with chg := { s.chg with saveDue := true } }) :=
  gives_of_exec rfl (if_pos ⟨hperiod, hrun, hdue⟩)

theorem exec_pfCaptureTimeout (s : State) (l : Lane) {x : Nat} (h : s.pfWarnAt = some x) :
    exec (.pfCaptureTimeout l) s = .next (if x + 5000000 ≤ s.clk.uptime && !(s.ln l).pfCaptured && s.votes l then
      (s.captureRet l true).modLn l (fun n => { n with pfCaptured := true }) else s) := by
  show execPfCaptureTimeout l s = _
  unfold execPfCaptureTimeout
  rw [h]
  rfl

/-- A voting lane that has not captured 5 ms after the warning does so with INCOMPLETE (R149). -/
theorem State.gives_pfCaptureTimeout (s : State) (l : Lane) {x : Nat} (h : s.pfWarnAt = some x) (hlate : x + 5000000 ≤ s.clk.uptime)
    (hnot : (s.ln l).pfCaptured = false) (hvotes : s.votes l = true) (hchk : (s.memc.get l).chk = []) :
    Gives (.pfCaptureTimeout l) s (fun t => t.chg.capture.get l = some (s.retained l) ∧ t.chg.capIncomplete = true ∧ (t.ln l).pfCaptured = true ∧
      t.regs = s.regs ∧ ∀ m, m ≠ l → t.ln m = s.ln m ∧ t.chg.capture.get m = s.chg.capture.get m) := by
  have hexec := exec_pfCaptureTimeout s l h
  rw [hnot, hvotes, decide_eq_true hlate, if_pos (by decide), s.captureRet_clean true hchk, Bool.or_true] at hexec
  refine gives_of_exec hexec ⟨(Tri.get_put _ l l _).trans (if_pos rfl), rfl, ?_, rfl,
    fun m hm => ⟨State.ln_modLn_ne _ _ hm, (Tri.get_put _ l m _).trans (if_neg hm)⟩⟩
  rw [State.ln_modLn_same]

/-- The copy that a save writes (R148). -/
def State.savedCopy (s : State) : MramCopy :=
  let r := voteCopies s.chg.capture s.svcMaster
  let c : MramCopy := { valid := true, seq := s.chg.saveSeq + 1, cycle := s.chg.capCycle, version := leNat (r.1.take 4), size := r.1.length
                        incomplete := s.chg.capIncomplete, diffs := r.2, crc := 0, data := r.1 }
  { c with crc := c.check }

/-- Three captured copies give their majority (R148). -/
theorem State.savedCopy_of_three (s : State) {a b c : List Byte} (h : s.chg.capture = ⟨some a, some b, some c⟩) :
    s.savedCopy.data = majBytes a b c ∧ s.savedCopy.valid = true ∧ s.savedCopy.seq = s.chg.saveSeq + 1 ∧
    s.savedCopy.incomplete = s.chg.capIncomplete ∧ s.savedCopy.diffs = 0 ∧ s.savedCopy.size = (majBytes a b c).length ∧
    s.savedCopy.crc = s.savedCopy.check := by
  have hvote : voteCopies s.chg.capture s.svcMaster = (majBytes a b c, 0) := by
    rw [h]
    rfl
  unfold State.savedCopy
  rw [hvote]
  exact ⟨rfl, rfl, rfl, rfl, rfl, rfl, rfl⟩

/-- The change unit after a save. -/
def State.chgSaved (s : State) : ChgSt :=
  { s.chg with capture := Tri.all none, capIncomplete := false, saveSeq := s.chg.saveSeq + 1, retSaved := s.chg.capCycle }

/-- A save writes the copy that its sequence number names (R148). -/
theorem State.saveCopies_eq (s : State) (h : lanes.all (fun l => (s.chg.capture.get l).isNone) = false) :
    s.saveCopies = if (s.chg.saveSeq + 1) % 2 = 0 then { s with chg := s.chgSaved, mramA := s.savedCopy }
      else { s with chg := s.chgSaved, mramB := s.savedCopy } := by
  refine if_neg ?_
  rw [h]
  exact Bool.false_ne_true

/-- The majority of three copies goes into the alternate MRAM copy (R148). -/
theorem State.gives_retainedCaptureDone (s : State) {a b c : List Byte} (h : s.chg.capture = ⟨some a, some b, some c⟩) :
    Gives .retainedCaptureDone s (fun t =>
      let cp := if (s.chg.saveSeq + 1) % 2 = 0 then t.mramA else t.mramB
      let other := if (s.chg.saveSeq + 1) % 2 = 0 then t.mramB = s.mramB else t.mramA = s.mramA
      cp.data = majBytes a b c ∧ cp.valid = true ∧ cp.seq = s.chg.saveSeq + 1 ∧ cp.incomplete = s.chg.capIncomplete ∧ cp.diffs = 0 ∧
      cp.size = (majBytes a b c).length ∧ cp.crc = cp.check ∧ other ∧
      t.chg.saveSeq = s.chg.saveSeq + 1 ∧ t.chg.capture = Tri.all none ∧ t.regs = s.regs ∧ t.lane = s.lane) := by
  obtain ⟨hdata, hvalid, hseq, hincomplete, hdiffs, hsize, hcrc⟩ := s.savedCopy_of_three h
  refine gives_of_exec (congrArg Host.Outcome.next (s.saveCopies_eq (by rw [h]; rfl))) ?_
  dsimp only
  split
  · exact ⟨hdata, hvalid, hseq, hincomplete, hdiffs, hsize, hcrc, rfl, rfl, rfl, rfl, rfl⟩
  · exact ⟨hdata, hvalid, hseq, hincomplete, hdiffs, hsize, hcrc, rfl, rfl, rfl, rfl, rfl⟩

/-- Settles O20: submission by the checks of the block, staging and its timeout, and the retained copies. -/
theorem changesAndRetainedCopies : Obligations.ChangesAndRetainedCopies := by
  unfold Obligations.ChangesAndRetainedCopies
  intro s i w l
  refine ⟨fun hmay => ⟨fun b => s.gives_chgSubmit_pending hmay, fun hnone hlow hhigh => ⟨fun c => ?_, ?_⟩⟩, fun b hb => ⟨?_, ?_⟩,
    s.gives_retainedSaveDue, fun x => s.gives_pfCaptureTimeout l, fun a b c => s.gives_retainedCaptureDone⟩
  · exact s.gives_chgSubmit_rejected hmay hnone hlow hhigh
  · exact s.gives_chgSubmit_accepted hmay hnone hlow hhigh
  · exact s.gives_changeBlockStaged l hb
  · exact s.gives_changeStageTimeout hb

end Sys2Proof.Machine
end

section
/-! PROOF. Restarts and the reset contact (R147, R148, R162, R457, R464, R481, R496), and O26: what a module reset keeps and drops, and what the
save of the retained copies before a warm restart leaves in place. -/

namespace Sys2Proof.Machine

/-! ### What a reset rests on -/

/-- What a module reset takes over or rests on is as before: time, queue, the start unit, each lane's flash and SRAM, the count of starts. -/
structure RestKept (s t : State) : Prop where
  clk : t.clk = s.clk
  pending : t.pending = s.pending
  st : t.st = s.st
  stores : ∀ m, (t.ln m).flash = (s.ln m).flash ∧ (t.ln m).scratch = (s.ln m).scratch
  starts : t.reg Reg.UPD_START_STATUS = s.reg Reg.UPD_START_STATUS

/-- Registers beside the start status. -/
abbrev BesideStart (ks : List Nat) : Prop := ∀ j ∈ ks, homeKey Reg.UPD_START_STATUS ≠ homeKey j

namespace RestKept

variable {s t u : State}

theorem refl (s : State) : RestKept s s := ⟨rfl, rfl, rfl, fun _ => ⟨rfl, rfl⟩, rfl⟩

theorem trans (h1 : RestKept s t) (h2 : RestKept t u) : RestKept s u :=
  ⟨h2.clk.trans h1.clk, h2.pending.trans h1.pending, h2.st.trans h1.st,
    fun m => ⟨(h2.stores m).1.trans (h1.stores m).1, (h2.stores m).2.trans (h1.stores m).2⟩, h2.starts.trans h1.starts⟩

theorem ite {c : Prop} [Decidable c] (ht : RestKept s t) (hu : RestKept s u) : RestKept s (if c then t else u) := by
  split
  · exact ht
  · exact hu

theorem foldl {α : Type} {g : State → α → State} (xs : List α) (h : RestKept s t) (hg : ∀ u x, RestKept u (g u x)) : RestKept s (xs.foldl g t) :=
  List.foldlRecOn xs g h (fun u hu x _ => hu.trans (hg u x))

/-- Registers beside the start status, and nothing else. -/
theorem regs (h : RestKept s t) {ks : List Nat} (honly : RegsOnly t u) (hkept : RegsKept ks t u) (hks : BesideStart ks) : RestKept s u :=
  h.trans ⟨honly.clk, honly.keeps State.pending fun _ => rfl, honly.keeps State.st fun _ => rfl, fun m => by rw [honly.ln m]; exact ⟨rfl, rfl⟩,
    hkept _ hks⟩

/-- Registers beside the start status, and the memory controllers. -/
theorem memory (h : RestKept s t) {ks : List Nat} (honly : MemOnly t u) (hkept : RegsKept ks t u) (hks : BesideStart ks) : RestKept s u := by
  refine h.trans ⟨?_, ?_, ?_, fun m => ?_, hkept _ hks⟩
  all_goals
    obtain ⟨_, _, _, rfl⟩ := honly
  · rfl
  · rfl
  · rfl
  · exact ⟨rfl, rfl⟩

theorem modLn (h : RestKept s t) (l : Lane) {g : LaneSt → LaneSt} (hg : ∀ n, (g n).flash = n.flash ∧ (g n).scratch = n.scratch) :
    RestKept s (t.modLn l g) := by
  refine h.trans ⟨rfl, rfl, rfl, fun m => ?_, rfl⟩
  rw [State.ln_modLn]
  split
  next heq => exact heq ▸ hg _
  next => exact ⟨rfl, rfl⟩

theorem setMctl (h : RestKept s t) (m : MemSel) (x : MemCtl) : RestKept s (t.setMctl m x) :=
  h.memory (ks := []) (MemOnly.setMctl t m x) (.of_regs (State.regs_setMctl t m x)) (fun _ hj => absurd hj List.not_mem_nil)

theorem setDdr (h : RestKept s t) (m : MemSel) (x : Mem) : RestKept s (t.setDdr m x) := by
  cases m with
  | lane l => exact h.modLn l (g := fun n => { n with ddr := x }) (fun _ => ⟨rfl, rfl⟩)
  | junction => exact h.trans ⟨rfl, rfl, rfl, fun _ => ⟨rfl, rfl⟩, rfl⟩

theorem chg (h : RestKept s t) (c : ChgSt) : RestKept s { t with chg := c } := h.trans ⟨rfl, rfl, rfl, fun _ => ⟨rfl, rfl⟩, rfl⟩

theorem flashKept (h : RestKept s t) (m : Lane) : t.flashKept m = s.flashKept m := by
  unfold State.flashKept
  rw [h.st, (h.stores m).1]

end RestKept

/-! ### A lane that stops while it is read -/

theorem besideStart_lane (l : Lane) : BesideStart (causeKeys l) ∧ BesideStart (stopKeys l) := by cases l <;> decide

theorem State.stopLane_restKept (s : State) (l : Lane) : RestKept s (s.stopLane l) := by
  obtain ⟨_, _, _, hframe⟩ := s.stopLane_frame l
  obtain ⟨x, hsame⟩ := s.ln_stopLane_same l
  refine ⟨by rw [hframe], by rw [hframe], by rw [hframe], fun m => ?_, s.stopLane_kept l _ (besideStart_lane l).2⟩
  by_cases hm : m = l
  · rw [hm, hsame]
    exact ⟨rfl, rfl⟩
  · rw [s.ln_stopLane_ne hm]
    exact ⟨rfl, rfl⟩

theorem State.sameLc_restKept (s : State) (l : Lane) (cause group : Nat) : RestKept s (s.sameLc l cause group) := by
  have hkept := s.sameLc_kept l cause group _ (besideStart_lane l).1
  unfold State.sameLc at hkept ⊢
  split
  next c g t _ =>
    have hnotice := (RestKept.refl s).modLn l
      (g := fun n => { n with withdrawal := some ((secondCause c g cause group).1, (secondCause c g cause group).2, t) }) (fun _ => ⟨rfl, rfl⟩)
    have hrecord := fun v w => hnotice.regs (((RegsOnly.refl _).wr (Fld.LC_FAULT_CAUSE_CAUSE l) v).wr (Fld.LC_FAULT_CAUSE_GROUP l) w)
      (((RegsKept.refl (causeKeys l) _).wr (f := Fld.LC_FAULT_CAUSE_CAUSE l) v (.head _)).wr (f := Fld.LC_FAULT_CAUSE_GROUP l) w (.head _))
      (besideStart_lane l).1
    exact ((hrecord _ _).ite hnotice).ite (.refl s)
  next => exact .refl s

/-- A lane fault leaves what a reset rests on (R78, R79). -/
theorem State.laneFault_restKept (s : State) (l : Lane) (cause group : Nat) : RestKept s (s.laneFault l cause group) := by
  have hrecord : RestKept s (s.recordCause l cause group) :=
    (RestKept.refl s).regs (s.recordCause_regsOnly l cause group) (s.recordCause_kept l cause group) (besideStart_lane l).1
  exact (s.sameLc_restKept l cause group).ite ((hrecord.trans (State.stopLane_restKept _ l)).modLn l
    (g := fun n => { n with withdrawal := some (cause, group, s.clk.uptime) }) (fun _ => ⟨rfl, rfl⟩))

/-! ### The save of the retained copies -/

theorem besideStart_storeErrorKeys (m : MemSel) : BesideStart (storeErrorKeys m) := by
  cases m with
  | lane l => cases l <;> decide
  | junction => decide

/-- An error's counter (R167, R176). -/
theorem State.countError_shows (s : State) (m : MemSel) (type : Nat) (uncorr : Bool) :
    RegsOnly s (s.countError m type uncorr) ∧ RegsKept (storeErrorKeys m) s (s.countError m type uncorr) := by
  have hcount : ∀ f : Field, f.addr ∈ storeErrorKeys m → RegsOnly s (s.bump f) ∧ RegsKept (storeErrorKeys m) s (s.bump f) := fun f hf =>
    ⟨(RegsOnly.refl s).bump f, (RegsKept.refl _ s).wr _ hf⟩
  have hsram : Reg.MEM_SRAM_CORR m ∈ storeErrorKeys m := .tail _ (.head _)
  unfold State.countError
  split
  · exact hcount (Fld.MEM_UNCORR_COUNT_COUNT m) (.tail _ (.tail _ (.tail _ (.tail _ (.head _)))))
  · split
    · exact hcount (Fld.MEM_CORR_COUNT_COUNT m) (.head _)
    · exact hcount (Fld.MEM_SRAM_CORR_L2 m) hsram
    · exact hcount (Fld.MEM_SRAM_CORR_L2 m) hsram
    · exact hcount (Fld.MEM_SRAM_CORR_SCRATCH m) hsram
    · exact hcount (Fld.MEM_SRAM_CORR_IMAGE m) hsram
    · exact hcount (Fld.MEM_SRAM_CORR_BITMAP m) hsram
    · exact ⟨.refl s, .refl _ s⟩

theorem State.memError_restKept (s : State) (m : MemSel) (type source syndrome addr : Nat) (uncorr : Bool) :
    RestKept s (s.memError m type source syndrome addr uncorr) := by
  have hkeys := besideStart_storeErrorKeys m
  have hlog : RestKept s (s.logError m type source syndrome addr) := (RestKept.refl s).memory (ks := storeErrorKeys m)
    (s.logError_memOnly m type source syndrome addr) ((s.logError_kept m type source syndrome addr).mono (fun k hk => by
      rcases List.mem_cons.mp hk with rfl | hk
      · exact .tail _ (.tail _ (.head _))
      · exact List.mem_singleton.mp hk ▸ .tail _ (.tail _ (.tail _ (.head _))))) hkeys
  obtain ⟨hcountOnly, hcountKept⟩ := (s.logError m type source syndrome addr).countError_shows m type uncorr
  exact (hlog.regs hcountOnly hcountKept hkeys).regs (State.showElog_regsOnly _ m)
    ((State.showElog_kept _ m).mono (fun k hk => .tail _ (.tail _ (.tail _ (.tail _ (.tail _ hk)))))) hkeys

theorem State.fixBurst_restKept (s : State) (m : MemSel) (a : Nat) : RestKept s (s.fixBurst m a) :=
  (RestKept.refl s).foldl _ (fun u _ => (((RestKept.refl u).setMctl m _).setDdr m _).ite (.refl u))

theorem State.checkBurst_restKept (s : State) (l : Lane) (source a : Nat) : RestKept s (s.checkBurst (.lane l) source a).1 := by
  have hfixed := (s.fixBurst_restKept (.lane l) a).trans
    (State.memError_restKept _ (.lane l) 1 source (s.burstClass (.lane l) a).2.toNat (a / 64) false)
  have hlogged := s.memError_restKept (.lane l) 2 source (s.burstClass (.lane l) a).2.toNat (a / 64) true
  unfold State.checkBurst
  dsimp only
  rw [if_neg Bool.false_ne_true]
  split
  · exact .refl s
  · exact hfixed
  · exact hlogged.trans (State.laneFault_restKept _ l 0x0A 0)

/-- One burst after the other of a range that is read. -/
def checkStep (m : MemSel) (source : Nat) (r : State × Bool) (b : Nat) : State × Bool :=
  ((r.1.checkBurst m source b).1, r.2 && (r.1.checkBurst m source b).2)

theorem State.checkRange_eq (s : State) (m : MemSel) (source a n : Nat) :
    s.checkRange m source a n = (s.suspects m a n).foldl (checkStep m source) (s, true) := rfl

theorem State.checkRange_restKept (s : State) (l : Lane) (source a n : Nat) : RestKept s (s.checkRange (.lane l) source a n).1 := by
  rw [State.checkRange_eq]
  exact List.foldlRecOn _ _ (motive := fun r : State × Bool => RestKept s r.1) (.refl s) (fun r hr b _ => hr.trans (r.1.checkBurst_restKept l source b))

theorem State.captureRet_restKept (s : State) (l : Lane) (incomplete : Bool) : RestKept s (s.captureRet l incomplete) := by
  have hread := s.checkRange_restKept l 5 s.cfg.retBase s.cfg.retSize
  unfold State.captureRet
  dsimp only
  split
  · exact hread
  · exact hread.chg _

theorem State.saveCopies_frame (s : State) : ∃ c a b, s.saveCopies = { s with chg := c, mramA := a, mramB := b } := by
  cases h : lanes.all (fun l => (s.chg.capture.get l).isNone) with
  | true => exact ⟨_, _, _, if_pos h⟩
  | false =>
    rw [s.saveCopies_eq h]
    split
    · exact ⟨_, _, _, rfl⟩
    · exact ⟨_, _, _, rfl⟩

theorem State.saveCopies_restKept (s : State) : RestKept s s.saveCopies := by
  obtain ⟨_, _, _, h⟩ := s.saveCopies_frame
  rw [h]
  exact ⟨rfl, rfl, rfl, fun _ => ⟨rfl, rfl⟩, rfl⟩

/-- The save before a warm restart leaves what the reset rests on (R148, R481). -/
theorem State.saveRetained_restKept (s : State) : RestKept s s.saveRetained :=
  (((RestKept.refl s).chg _).foldl _ (fun u l => u.captureRet_restKept l false)).trans (State.saveCopies_restKept _)

/-! ### A module reset -/

/-- After the end of a freeze none is left (R457). -/
theorem State.endFreeze_thawed (s : State) (byLimit : Bool) : (s.endFreeze byLimit).frozen = false := by
  unfold State.endFreeze
  cases h : s.frozen with
  | false =>
    rw [if_neg Bool.false_ne_true]
    exact h
  | true =>
    rw [if_pos rfl]
    refine State.flag_of_rd_zero ?_
    refine (State.rd_wr_beside _ Fld.WL_STATUS_QUEUED Fld.WL_STATUS_FROZEN _ (by decide) rfl (by decide)).trans ?_
    refine (State.rd_wr_reg _ Fld.WL_FROZEN_EVENTS_COUNT Fld.WL_STATUS_FROZEN _ (by decide)).trans ?_
    exact State.rd_wr_same _ Fld.WL_STATUS_FROZEN 0 (by decide)

/-- The registers that a reset writes, after those of the state that it keeps (R464). -/
def State.resetWrites (r : State) (wall net : Bool) (n : Nat) : State := ((r.resetClock wall net).startStatus n).showMem.showStrap

theorem State.startStatus_kept (s : State) (n : Nat) : RegsOnly s (s.startStatus n) ∧ RegsKept resetKeys s (s.startStatus n) :=
  ⟨((RegsOnly.refl s).setReg _ _).wr _ _, ((RegsKept.refl _ s).setReg _ (by decide)).wr (f := Fld.UPD_START_STATUS_STARTS) _ (by decide)⟩

theorem State.resetWrites_shows (r : State) (wall net : Bool) (n : Nat) :
    RegsOnly r (r.resetWrites wall net n) ∧ RegsKept (resetKeys ++ shownKeys) r (r.resetWrites wall net n) := by
  obtain ⟨hclockOnly, hclockKept⟩ := r.resetClock_kept wall net
  obtain ⟨hstartOnly, hstartKept⟩ := (r.resetClock wall net).startStatus_kept n
  obtain ⟨hmemOnly, hmemKept⟩ := ((r.resetClock wall net).startStatus n).showMem_shows
  obtain ⟨hstrapOnly, hstrapKept⟩ := ((r.resetClock wall net).startStatus n).showMem.showStrap_kept
  exact ⟨((hclockOnly.trans hstartOnly).trans hmemOnly).trans hstrapOnly,
    ((hclockKept.trans hstartKept).mono (fun _ hk => List.mem_append_left _ hk)).trans
      ((hmemKept.trans hstrapKept).mono (fun _ hk => List.mem_append_right _ hk))⟩

/-- What a module reset starts from: the queue, MRAM and the lanes' SRAM of the state before, and the kind of the start that is to come. -/
structure HeldFrom (s : State) (kind : Option Bool) (recover : Bool) (r : State) : Prop where
  regs : r.regs = s.regs.filter (fun e => keptKey e.1)
  pending : r.pending = s.pending
  mramA : r.mramA = s.mramA
  mramB : r.mramB = s.mramB
  kind : r.st.kind = kind
  recover : r.st.recover = recover
  scratch : ∀ m, (r.ln m).scratch = (s.ln m).scratch

theorem State.moduleReset_writes (s0 : State) (kind : Option Bool) (recover : Bool) : ∃ (r : State) (wall net : Bool) (n : Nat),
    s0.moduleReset kind recover = r.resetWrites wall net n ∧ HeldFrom (s0.endFreeze false) kind recover r := by
  unfold State.moduleReset
  dsimp only
  rw [State.resetClock_startStatus]
  generalize s0.endFreeze false = s
  exact ⟨_, _, _, _, rfl, rfl, rfl, rfl, rfl, rfl, rfl, fun m => by cases m <;> rfl⟩

/-- A register that a reset keeps reads as before it. -/
theorem State.reg_of_kept {r s : State} (h : r.regs = s.regs.filter (fun e => keptKey e.1)) {k : Nat} (hk : keptKey (homeKey k) = true) :
    r.reg k = s.reg k := by
  unfold State.reg
  rw [h, Store.get_filter, if_pos hk]

/-- A module that a reset holds in RESET (R464): in RESET, thawed, its lanes HELD with their SRAM, its time, queue and MRAM as they were, with the
kind of the start that is to come. -/
structure ResetFrom (s : State) (kind : Option Bool) (recover : Bool) (t : State) : Prop where
  inReset : InReset s t
  thawed : t.frozen = false
  uptime : t.clk.uptime = s.clk.uptime
  pending : t.pending = s.pending
  held : ∀ m, t.ex m = Exec.held
  scratch : ∀ m, (t.ln m).scratch = (s.ln m).scratch
  kind : t.st.kind = kind
  recover : t.st.recover = recover
  mramA : t.mramA = s.mramA
  mramB : t.mramB = s.mramB

theorem State.moduleReset_resetFrom (s : State) (kind : Option Bool) (recover : Bool) : ResetFrom s kind recover (s.moduleReset kind recover) := by
  obtain ⟨hreset, htime, -⟩ := s.moduleReset_inReset kind recover
  obtain ⟨⟨_, _, _, hframe⟩, -⟩ := s.endFreeze_noted false
  have hsame : (s.endFreeze false).pending = s.pending ∧ (s.endFreeze false).mramA = s.mramA ∧ (s.endFreeze false).mramB = s.mramB ∧
      (s.endFreeze false).lane = s.lane := by
    rw [hframe]
    exact ⟨rfl, rfl, rfl, rfl⟩
  obtain ⟨hpending, hmramA, hmramB, hlane⟩ := hsame
  have hthawed := s.endFreeze_thawed false
  obtain ⟨r, wall, net, n, heq, hr⟩ := s.moduleReset_writes kind recover
  obtain ⟨honly, hkept⟩ := r.resetWrites_shows wall net n
  rw [heq] at hreset htime ⊢
  generalize s.endFreeze false = e at hpending hmramA hmramB hlane hthawed hr
  generalize r.resetWrites wall net n = t at hreset htime honly hkept ⊢
  have hwelt : t.reg Reg.WL_STATUS = e.reg Reg.WL_STATUS := (hkept _ (by decide)).trans (State.reg_of_kept hr.regs (by decide))
  have hfrozen : t.rd Fld.WL_STATUS_FROZEN = e.rd Fld.WL_STATUS_FROZEN := State.rd_of_reg hwelt
  have hstatus : ∀ m, t.reg (Reg.LC_LANE_STATUS m) = State.reset.reg (Reg.LC_LANE_STATUS m) := fun m =>
    (hkept _ (by cases m <;> decide)).trans (State.reg_of_dropped hr.regs (by cases m <;> decide))
  have hst := honly.keeps State.st fun _ => rfl
  refine ⟨hreset, ?_, htime, ?_, fun m => ?_, fun m => ?_, ?_, ?_, ?_, ?_⟩
  · unfold State.frozen State.flag at hthawed ⊢
    rw [hfrozen]
    exact hthawed
  · exact (honly.keeps State.pending fun _ => rfl).trans (hr.pending.trans hpending)
  · exact (State.rd_of_reg (f := Fld.LC_LANE_STATUS_EXEC m) (hstatus m)).trans (by cases m <;> decide)
  · rw [honly.ln m, hr.scratch m]
    unfold State.ln
    rw [hlane]
  · rw [hst, hr.kind]
  · rw [hst, hr.recover]
  · exact (honly.keeps State.mramA fun _ => rfl).trans (hr.mramA.trans hmramA)
  · exact (honly.keeps State.mramB fun _ => rfl).trans (hr.mramB.trans hmramB)

namespace ResetFrom

variable {s t u : State} {kind : Option Bool} {recover : Bool}

/-- The count of a start changes none of it. -/
theorem countStart (h : ResetFrom s kind recover t) : ResetFrom s kind recover t.countStart := by
  have honly := t.countStart_only
  have hkept : RegsKept [Reg.UPD_START_STATUS] t t.countStart := (RegsKept.refl _ t).wr (f := Fld.UPD_START_STATUS_STARTS) _ (.head _)
  have hcounted := h.inReset.countStart
  generalize t.countStart = u at honly hkept hcounted ⊢
  have hfrozen : u.rd Fld.WL_STATUS_FROZEN = t.rd Fld.WL_STATUS_FROZEN := hkept.rd (by decide)
  have hst := honly.keeps State.st fun _ => rfl
  refine ⟨hcounted, ?_, ?_, (honly.keeps State.pending fun _ => rfl).trans h.pending, fun m => ?_, fun m => ?_, ?_, ?_,
    (honly.keeps State.mramA fun _ => rfl).trans h.mramA, (honly.keeps State.mramB fun _ => rfl).trans h.mramB⟩
  · have hthawed := h.thawed
    unfold State.frozen State.flag at hthawed ⊢
    rw [hfrozen]
    exact hthawed
  · rw [honly.clk]
    exact h.uptime
  · exact (hkept.rd (f := Fld.LC_LANE_STATUS_EXEC m) (by cases m <;> decide)).trans (h.held m)
  · rw [honly.ln m]
    exact h.scratch m
  · rw [hst]
    exact h.kind
  · rw [hst]
    exact h.recover

end ResetFrom

/-- What a reset shows of the state before it. -/
def ResetShown (s t : State) : Prop :=
  t.phase = Phase.reset ∧ t.isSealed = false ∧ t.frozen = false ∧ t.clk.uptime = s.clk.uptime ∧ t.pending = s.pending ∧
    ∀ l, t.member l = Mbr.init ∧ t.ex l = Exec.held ∧ (t.ln l).flash = s.flashKept l ∧ (t.ln l).scratch = (s.ln l).scratch

theorem ResetFrom.shown {s t : State} {kind : Option Bool} {recover : Bool} (h : ResetFrom s kind recover t) : ResetShown s t :=
  ⟨h.inReset.phase, h.inReset.notSealed, h.thawed, h.uptime, h.pending,
    fun l => ⟨h.inReset.members l, h.held l, h.inReset.flash l, h.scratch l⟩⟩

theorem ResetShown.respond {s t : State} (h : ResetShown s t) (i : Initiator) (r : BusResp) : ResetShown s (t.respond i r) := h

theorem ResetShown.modSt {s t : State} (h : ResetShown s t) (g : StartSt → StartSt) : ResetShown s (t.modSt g) := h

/-- A reset after what left all that it rests on. -/
theorem ResetShown.of_restKept {s u t : State} (h : ResetShown u t) (hrest : RestKept s u) : ResetShown s t := by
  obtain ⟨hphase, hsealed, hthawed, htime, hpending, hlanes⟩ := h
  refine ⟨hphase, hsealed, hthawed, htime.trans (congrArg Clock.uptime hrest.clk), hpending.trans hrest.pending, fun l => ?_⟩
  obtain ⟨hmember, hheld, hflash, hscratch⟩ := hlanes l
  exact ⟨hmember, hheld, hflash.trans (hrest.flashKept l), hscratch.trans (hrest.stores l).2⟩

/-- One more start is counted than before. -/
def StartCounted (s t : State) : Prop := t.rd Fld.UPD_START_STATUS_STARTS = (s.bump Fld.UPD_START_STATUS_STARTS).rd Fld.UPD_START_STATUS_STARTS

/-! ### Restarts -/

/-- A restart commanded by an initiator: the reset shown and counted, the start of its kind, the write answered, MRAM as `u` has it. -/
def Restarted (s u : State) (i : Initiator) (kind recover : Bool) (t : State) : Prop :=
  ResetShown s t ∧ StartCounted s t ∧ t.st.kind = some kind ∧ t.st.recover = recover ∧ t.response i = .done ∧ t.mramA = u.mramA ∧ t.mramB = u.mramB

/-- A counted reset of a state that differs from the one before in nothing that a reset rests on, and its answer. -/
theorem ResetFrom.restarted {s u t : State} {kind recover : Bool} (h : ResetFrom u (some kind) recover t) (hrest : RestKept s u)
    (hcounted : StartCounted s t) (i : Initiator) : Restarted s u i kind recover (t.respond i .done) :=
  ⟨(h.shown.of_restKept hrest).respond i .done, hcounted, h.kind, h.recover, State.response_respond_same t i .done, h.mramA, h.mramB⟩

theorem RestKept.restarted {s u : State} (h : RestKept s u) (i : Initiator) (kind recover : Bool) :
    Restarted s u i kind recover ((u.moduleReset (some kind) recover).countStart.respond i .done) := by
  obtain ⟨-, -, hstarts⟩ := u.moduleReset_inReset (some kind) recover
  exact (u.moduleReset_resetFrom (some kind) recover).countStart.restarted h
    (State.countStart_counted (hstarts.trans (State.rd_of_reg h.starts))) i

/-- Bits that a mask drops read 0. -/
theorem bitsOf_and_mask (w v : Word) {hi lo : Nat} (h : bitsOf v.toNat hi lo = 0) : bitsOf (w &&& v).toNat hi lo = 0 := by
  refine Nat.eq_of_testBit_eq (fun i => ?_)
  have hv : (decide (i < hi + 1 - lo) && v.toNat.testBit (i + lo)) = false := by rw [← testBit_bitsOf, h, Nat.zero_testBit]
  rw [testBit_bitsOf, BitVec.toNat_and, Nat.testBit_and, Bool.and_left_comm, hv, Bool.and_false, Nat.zero_testBit]

/-- The fields that a restart's word fixes read as it fixes them, whatever was written beside them. -/
theorem wbits_restart (w v : Word) {f : Field} (h : bitsOf (0xFFFC : Word).toNat f.hi f.lo = 0) : wbits (w &&& 0xFFFC ||| v) f = wbits v f := by
  rw [BitVec.or_comm]
  exact wbits_or_apart v _ f (bitsOf_and_mask w 0xFFFC h)

/-- The restart that a kind names (R481). -/
def State.restartKind (s : State) (k : Nat) : State :=
  match k with
  | 1 => (s.moduleReset (some false) false).countStart
  | 2 => (s.saveRetained.moduleReset (some true) false).countStart
  | 3 => (s.moduleReset (some false) true).countStart
  | _ => s

/-- A word with the key acts by its kind (R481). -/
theorem State.restartCtl_of_key (s : State) (w v : Word) {k : Nat} (htest : s.testMode = false) (hkey : wbits v Fld.UPD_RESTART_KEY = 0xA55A)
    (hkind : wbits v Fld.UPD_RESTART_KIND = k) : s.restartCtl (w &&& 0xFFFC ||| v) = s.restartKind k := by
  unfold State.restartCtl
  rw [wbits_restart w v (by decide), wbits_restart w v (by decide), if_pos ⟨hkey, htest⟩, hkind]
  rfl

theorem State.regCmdRaw_of_may (s : State) {i : Initiator} {k : Nat} (eff : State → State) (h : s.mayWrite i k = true) :
    s.regCmdRaw i k eff = (eff s).respond i .done := if_pos h

/-- The three restarts by an initiator that may write UPD.RESTART (R481). -/
theorem State.gives_restarts (s : State) {i : Initiator} (w : Word) (hmay : s.mayWrite i Reg.UPD_RESTART = true) (htest : s.testMode = false) :
    Gives (.restartCold i w) s (Restarted s s i false false) ∧ Gives (.restartWarm i w) s (Restarted s s.saveRetained i true false) ∧
    Gives (.restartRecovery i w) s (Restarted s s i false true) := by
  have hexec : ∀ (v : Word) (k : Nat), wbits v Fld.UPD_RESTART_KEY = 0xA55A → wbits v Fld.UPD_RESTART_KIND = k →
      s.regCmdRaw i Reg.UPD_RESTART (fun t => t.restartCtl (w &&& 0xFFFC ||| v)) = (s.restartKind k).respond i .done := fun v k hkey hkind =>
    (s.regCmdRaw_of_may _ hmay).trans (congrArg (fun t : State => t.respond i .done) (s.restartCtl_of_key w v htest hkey hkind))
  exact ⟨gives_of_exec (congrArg Host.Outcome.next (hexec 0xA55A0001 1 (by decide) (by decide))) ((RestKept.refl s).restarted i false false),
    gives_of_exec (congrArg Host.Outcome.next (hexec 0xA55A0002 2 (by decide) (by decide))) (s.saveRetained_restKept.restarted i true false),
    gives_of_exec (congrArg Host.Outcome.next (hexec 0xA55A0003 3 (by decide) (by decide))) ((RestKept.refl s).restarted i false true)⟩

/-- Without the right to write UPD.RESTART a restart only answers (R12). -/
theorem State.gives_restart_refused (s : State) {i : Initiator} (w : Word) (hmay : s.mayWrite i Reg.UPD_RESTART = false) :
    ∀ c ∈ [Instr.restartCold i w, Instr.restartWarm i w, Instr.restartRecovery i w], Gives c s (fun t => t = s.respond i .fault) := by
  have hdenied : ∀ eff : State → State, s.regCmdRaw i Reg.UPD_RESTART eff = s.respond i .fault := fun eff =>
    (s.regCmdRaw_of_may_not eff hmay).trans (s.deny_eq_respond i _ (.inl (by decide)))
  simp only [List.forall_mem_cons, List.not_mem_nil, false_implies, implies_true, and_true]
  exact ⟨gives_of_exec (congrArg Host.Outcome.next (hdenied _)) rfl, gives_of_exec (congrArg Host.Outcome.next (hdenied _)) rfl,
    gives_of_exec (congrArg Host.Outcome.next (hdenied _)) rfl⟩

/-! ### The reset contact -/

/-- The contact holds the module in RESET without counting a start (R496). -/
theorem State.gives_resetContactClose (s : State) : Gives .resetContactClose s (fun t => ResetShown s t ∧ t.st.contact = true ∧
    t.rd Fld.UPD_START_STATUS_STARTS = s.rd Fld.UPD_START_STATUS_STARTS) := by
  obtain ⟨-, -, hstarts⟩ := s.moduleReset_inReset none false
  have hreset := (s.moduleReset_resetFrom none false).shown
  exact gives_of_exec rfl ⟨hreset.modSt _, rfl, (State.rd_modSt _ _ _).trans hstarts⟩

/-- A start that is counted after a change of the start unit. -/
theorem State.modSt_countStart (s : State) (g : StartSt → StartSt) : (s.modSt g).countStart.st = g s.st ∧ StartCounted s (s.modSt g).countStart ∧
    RegsKept [Reg.UPD_START_STATUS] s (s.modSt g).countStart ∧
    (s.modSt g).countStart = { s with regs := (s.modSt g).countStart.regs, st := (s.modSt g).countStart.st } := by
  have hkept : RegsKept [Reg.UPD_START_STATUS] s (s.modSt g).countStart :=
    (RegsKept.of_regs (s := s) (t := s.modSt g) rfl).wr (f := Fld.UPD_START_STATUS_STARTS) _ (.head _)
  have hcounted : StartCounted s (s.modSt g).countStart := State.countStart_counted (State.rd_modSt s g _)
  obtain ⟨r, hr⟩ := (s.modSt g).countStart_only
  rw [hr] at hkept hcounted ⊢
  exact ⟨rfl, hcounted, hkept, rfl⟩

theorem exec_resetRelease (s : State) (h : s.st.contact = true) :
    exec .resetRelease s = .next (s.modSt (fun x => { x with contact := false, startAt := s.clk.uptime })).countStart :=
  congrArg Host.Outcome.next (if_pos h)

/-- Settles O26: the restarts with and without the right to write, and the reset contact. -/
theorem restartsAndResets : Obligations.RestartsAndResets := by
  unfold Obligations.RestartsAndResets
  intro s i w
  exact ⟨s.gives_restarts w, s.gives_restart_refused w, s.gives_resetContactClose,
    fun hcontact => gives_of_exec (exec_resetRelease s hcontact) (s.modSt_countStart _)⟩

end Sys2Proof.Machine
end
